-- ==== Sys2Proof/Word.lean ====
section
/-! DEFINITION. The words of the JS-48: bytes of a record (R178), a store cell's eight bytes (R23), and the widths at which counts
hold or wrap. -/

namespace Sys2Proof

/-- One byte of a record in host memory or of a store cell. -/
abbrev Byte := BitVec 8

/-- The eight bytes of one store cell; byte `k` is bits `8k+7 … 8k` (R23: byte k holds the value of channel k). -/
abbrev CellValue := BitVec 64

end Sys2Proof
end

