-- ==== Sys2Proof/Syntax.lean ====
section
/-! DEFINITION. The commands of the JS-48: one constructor of `Instr` for each row of spec/opcode_table.json, with what the
environment supplies with it (a value written, what a read of host memory returned, an increment, a frame). A card's own fields are
no operand: they are in the current card that the Card Engine holds (R163). -/

namespace Sys2Proof

/-- The two unwind stands: paper (PU) and fabric (FU). -/
inductive Unwind where
  | pu | fu
  deriving DecidableEq, Repr

/-- The eight line inputs, in the order of their numbers 0 to 7 (chapter 11, LINE INPUTS). -/
inductive LineInput where
  | paperBreak | fabricBreak | estop | guard | paperRollEnd | fabricRollEnd | paperSpliceAck | fabricSpliceAck
  deriving DecidableEq, Repr

/-- One zone's place in a zone temperature frame: the converter's valid mark and the temperature in 0.1 °C (R98). -/
structure ZoneReading where
  valid : Bool
  temp  : Int
  deriving DecidableEq, Repr

/-- One stand's place in a tension frame: the converter's valid mark and the tension in N/m (R131). -/
structure TensionReading where
  valid   : Bool
  tension : Int
  deriving DecidableEq, Repr

/-- Bits of a store cell and of its parity that have changed in the SRAM since they were written, seen at a read of it
(chapter 3, PARITY ERRORS; log entry 8). No damage is all zeros. -/
structure CellDamage where
  bytes  : CellValue
  parity : BitVec 8
  deriving DecidableEq, Repr

/-- A command: a row of spec/opcode_table.json. -/
inductive Instr where
  /-- MAIN_POWER_ON_RESET with the strap pins as sampled: 8 zones or 4, 65536 cells or 32768 (R157). -/
  | mainPowerOnReset (zones8 store64k : Bool)
  /-- SOFT_RESET: a CONTROL write with the SOFT_RESET mark set (R157). -/
  | softReset
  /-- LINK_RESET (R170). -/
  | linkReset
  /-- KEEP_ALIVE_POWER_ON_RESET (R154). -/
  | keepAlivePowerOnReset
  /-- RUN_SET: a CONTROL write with RUN set, carrying the watch interval (R159). -/
  | runSet (interval : BitVec 8)
  /-- RUN_CLEAR: a CONTROL write with RUN clear, carrying the watch interval (R159). -/
  | runClear (interval : BitVec 8)
  /-- WATCH_INTERVAL: a CONTROL write of the watch interval with RUN as it stands (R162). -/
  | watchInterval (interval : BitVec 8)
  /-- BOOK_BASE: a write of the value to BOOK_BASE (R157). -/
  | bookBase (value : BitVec 64)
  /-- WAKE: a write of any value to WAKE (R162). -/
  | wake (value : BitVec 32)
  /-- EVENT_ACK: a write of marks to EVENT_ACK (R172). -/
  | eventAck (marks : BitVec 32)
  /-- IRQ_ENABLE: a write of marks to IRQ_ENABLE (R173). -/
  | irqEnable (marks : BitVec 32)
  /-- REGISTER_WRITE: a write to a register with no behaviour of its own, such as IDENT (R157). -/
  | registerWrite (offset : Nat) (value : BitVec 32)
  /-- WATCH_TIMER_EXPIRY (R162). -/
  | watchTimerExpiry
  /-- CHAIN_READ_COMPLETE: the link word that was read, and bytes 0 to 127 of the card it names (R160). -/
  | chainReadComplete (link : BitVec 64) (card : List Byte)
  /-- CARD_READ_ERROR: the link word if its read succeeded and the card's read failed; none if the link's read failed (R160). -/
  | cardReadError (link : Option (BitVec 64))
  /-- CHAIN_READ_TIMEOUT, with the same operand as CARD_READ_ERROR (R160). -/
  | chainReadTimeout (link : Option (BitVec 64))
  /-- SETUP (R169). -/
  | setup
  /-- HEAT (R109). -/
  | heat
  /-- START (R115). -/
  | start
  /-- SPEED (R116). -/
  | speed
  /-- STOP (R117). -/
  | stop
  /-- HALT (R124). -/
  | halt
  /-- CLEAR (R125). -/
  | clear
  /-- FABRIC (R137). -/
  | fabric
  /-- DROP (R34). -/
  | drop
  /-- LOAD (R29). -/
  | load
  /-- PATCH (R42). -/
  | patch
  /-- PRINT (R60). -/
  | print
  /-- SPLICE (R146). -/
  | splice
  /-- FENCE (R168). -/
  | fence
  /-- CARD_REOFFER (R164). -/
  | cardReoffer
  /-- POSITION_UPDATE: a forward increment of the paper encoder, in µm (R1). -/
  | positionUpdate (increment : Nat)
  /-- BACK_TRAVEL: a reverse increment of the paper encoder, in µm (R1). -/
  | backTravel (increment : Nat)
  /-- LINE_DUE (R76). -/
  | lineDue
  /-- LEAD_AT_NIP (R7). -/
  | leadAtNip
  /-- TRAIL_AT_NIP (R8). -/
  | trailAtNip
  /-- LEAD_EXIT (R8). -/
  | leadExit
  /-- TRAIL_EXIT (R9). -/
  | trailExit
  /-- JOINT_LEAVES_WRAP (R12). -/
  | jointLeavesWrap
  /-- FABRIC_JOINT_DUE (R14). -/
  | fabricJointDue
  /-- ROLL_COUNT_REQUEST (R147). -/
  | rollCountRequest (axis : Unwind)
  /-- DRUM_TRAVEL_INCREMENT: drum surface travel in µm; reverse increments are dropped (R153). -/
  | drumTravelIncrement (increment : Int)
  /-- DRUM_ENCODER_REPORT: measured drum speed in mm/s (R121). -/
  | drumEncoderReport (speed : BitVec 16)
  /-- PRINT_START (R65). -/
  | printStart
  /-- RASTER_READ_COMPLETE: the bytes of the source line (R70). -/
  | rasterReadComplete (data : List Byte)
  /-- RASTER_READ_ERROR (R71). -/
  | rasterReadError
  /-- RASTER_READ_TIMEOUT (R71). -/
  | rasterReadTimeout
  /-- LINE_COMPUTATION_BEGIN (R72). -/
  | lineComputationBegin
  /-- LOOKUP (R50). -/
  | lookup
  /-- LOOKUP_FILL_COMPLETE, with what has changed in the cell read (R52). -/
  | lookupFillComplete (damage : CellDamage)
  /-- LINE_BOUNDARY (R72). -/
  | lineBoundary
  /-- LOAD_READ_COMPLETE: the bytes of the block of source records (R29). -/
  | loadReadComplete (data : List Byte)
  /-- LOAD_READ_ERROR (R31). -/
  | loadReadError
  /-- LOAD_READ_TIMEOUT (R31). -/
  | loadReadTimeout
  /-- LOADER_WRITE_COMPLETE (R29). -/
  | loaderWriteComplete
  /-- EDIT_LIST_READ_COMPLETE: the bytes of the edit list (R42). -/
  | editListReadComplete (data : List Byte)
  /-- PATCH_READ_ERROR (R42). -/
  | patchReadError
  /-- EDIT_LIST_READ_TIMEOUT (R42). -/
  | editListReadTimeout
  /-- EDIT_APPLY (R43). -/
  | editApply
  /-- CREATION_READ_COMPLETE, with what has changed in the cell read (R44). -/
  | creationReadComplete (damage : CellDamage)
  /-- DRAIN_WRITE_COMPLETE (R49). -/
  | drainWriteComplete
  /-- FREEING of the named profile record, which waited for a granted write (R32). -/
  | freeing (id : Nat)
  /-- BAR_REPORT: bar number, READY, free room in lines, sequence number of the last line received (R75). -/
  | barReport (bar : Nat) (ready : Bool) (room : Nat) (seq : BitVec 16)
  /-- BAR_SILENT: no report of the bar for 20 ms (R75). -/
  | barSilent (bar : Nat)
  /-- ZONE_FRAME: whether the check value passes, and the readings of the eight zone sensors (R98). -/
  | zoneFrame (checkPasses : Bool) (readings : List ZoneReading)
  /-- HEAT_PERIOD (R110). -/
  | heatPeriod
  /-- HEATER_WINDOW (R105). -/
  | heaterWindow
  /-- HEATER_ON_TIME_END of a zone (R105). -/
  | heaterOnTimeEnd (zone : Nat)
  /-- TENSION_FRAME: whether the check value passes, and the readings of PU, FU, PR and FR (R131). -/
  | tensionFrame (checkPasses : Bool) (readings : List TensionReading)
  /-- TENSION_PERIOD (R133). -/
  | tensionPeriod
  /-- RAMP_PERIOD (R118). -/
  | rampPeriod
  /-- RAW_LEVEL_CHANGE: the raw level at an input's pin, high or low (R176). -/
  | rawLevelChange (input : LineInput) (high : Bool)
  /-- INPUT_FILTER_EXPIRY: the raw level of the input has held for 2 ms (R176). -/
  | inputFilterExpiry (input : LineInput)
  /-- SPLICE_TIMEOUT of an unwind (R148). -/
  | spliceTimeout (axis : Unwind)
  /-- HANDOVER_LIMIT of an unwind (R149). -/
  | handoverLimit (axis : Unwind)
  /-- STATUS_PAGE_WRITE (R175). -/
  | statusPageWrite
  /-- MAIN_SUPPLY_LOSS (R153). -/
  | mainSupplyLoss
  deriving DecidableEq, Repr

end Sys2Proof
end

