-- ==== Sys2Proof/Config.lean ====
section
/-! DEFINITION. What an implementation of the JS-48 fixes and the spec does not: each is an opaque constant, so that no proof can
rest on its value (log entries 11, 12, 14, 16). -/

namespace Sys2Proof.Config

/-- Revision of the part in IDENT bits 8 to 15; chapter 12 gives the field and no value (log entry 12). -/
opaque revision : BitVec 8

/-- The tables of names whose numeric codes chapter 12 does not give (log entry 11). -/
inductive CodeTable where
  | engineState      -- STOPPED, READING, WATCHING, DISPATCHING, STALLED
  | waitingBlock     -- the block a stalled card waits on, by card kind
  | printState       -- IDLE, PRINTING, ENDING
  | shadowState      -- PENDING, VISIBLE
  | patchState       -- IDLE, READING, APPLYING, WAITING
  | badKind          -- MISSING, INVALID, RANGE
  | axisState        -- OFF, ACTIVE, HANDED_OVER
  | axisSource       -- SETUP
  | rewindAxis       -- PR, FR
  | spliceState      -- IDLE, SPLICE_WAIT, HANDED_OVER
  | spliceCause      -- CARD, ROLL_END, COUNT
  | splicePending    -- Clear, ROLL_END, COUNT
  | paritySource     -- FILL, MERGE
  | readFailure      -- error, timeout
  | barState         -- NOT_READY, READY
  deriving DecidableEq, Repr

/-- The code of the name at a place of a table that chapter 12 leaves without numbers (log entry 11). -/
opaque unstatedCode : CodeTable → Nat → Byte

/-- Of two JOINT entries at coordinates `j₁ < j₂`, whether the status page's "nearest JOINT entry" (R18) is the first of them,
seen from `pos` (log entry 14). -/
opaque nearestJointIsFirst : (pos j₁ j₂ : Nat) → Bool

/-- Whether a zone that leaves FAULT at a heat period has its duty computed in that same period (R110) or from the next one
(R100); the two rules differ (log entry 16). -/
opaque dutyAtRecovery : Bool

end Sys2Proof.Config
end

