-- ==== Sys2Proof/Machine/State.lean ====
section
/-! DEFINITION. Everything the spec gives the JS-48 as plain data, block by block, and the machine right after reset. -/

namespace Sys2Proof.Machine

/-! ## Cards (chapters 10 and 12) -/

/-- Card kinds (chapter 12). -/
inductive CardKind where
  | setup | heat | drive | fabric | load | patch | drop | print | splice | fence
  deriving DecidableEq, Repr

/-- Card states (chapter 12). -/
inductive CardState where
  | blank | posted | taken | printed | done | failed | transferred | spoiled
  deriving DecidableEq, Repr

/-- Result codes (R165). -/
inductive ResultCode where
  | ok | badKind | badField | wrongState | notReady | inUse | noRoom | unknownProfile | queueFull | busy | timeout | aborted
  | halted | readError
  deriving DecidableEq, Repr

/-- One take of a card: its address, tag and kind byte, and the serial of the take, which keeps two takes of one card apart
(R167; the serial is the model's own). -/
structure CardRef where
  take : Nat
  addr : Nat
  tag  : BitVec 32
  kind : Byte
  deriving DecidableEq, Repr

/-- The current card: its take, its NO_WAIT flag and bytes 0 to 127 as read at the take (R163). -/
structure CurrentCard where
  ref    : CardRef
  noWait : Bool
  image  : List Byte
  deriving DecidableEq, Repr

/-- States of the Card Engine (chapter 10, CHAIN FOLLOWING). -/
inductive EngineState where
  | stopped | reading | watching | dispatching | stalled
  deriving DecidableEq, Repr

/-- The Card Engine (chapter 10). -/
structure CardEngine where
  state       : EngineState
  heldTail    : Option Nat
  current     : Option CurrentCard
  outstanding : List CardRef
  recheck     : Bool
  readFault   : Bool
  lastBadLink : Option Nat
  watchOn     : Bool
  fenceCount  : Nat
  offerDue    : Bool
  stale       : Nat
  takeSeq     : Nat
  deriving DecidableEq, Repr

/-! ## What leaves the part -/

/-- What leaves the part at its ports. -/
inductive PortOut where
  /-- One posted write into host memory: addresses with their bytes. -/
  | hostWrite (cells : List Host.Cell)
  /-- A read of host memory is issued: address and length. -/
  | hostRead (addr len : Nat)
  /-- The endpoint signals the interrupt (R173). -/
  | interrupt
  /-- A drive link frame: drum speed reference and the torques of PU, FU, PR, FR (R121). -/
  | driveFrame (reference : Nat) (torques : List Nat)
  /-- A line sent over the head link: sequence number, and for each bar in use its channel's columns (R75). -/
  | headLine (seq : BitVec 16) (channels : List (List Byte))
  deriving DecidableEq, Repr

/-! ## Supplies and registers -/

/-- The main supply and the straps sampled at main power-on reset (R157, R153). -/
structure Power where
  mainOn   : Bool
  zones8   : Bool
  store64k : Bool
  deriving DecidableEq, Repr

/-- The registers that hold state (R157). -/
structure Registers where
  run       : Bool
  interval  : BitVec 8
  bookBase  : BitVec 64
  irqEnable : BitVec 32
  deriving DecidableEq, Repr

/-- The fields of the last SETUP completed DONE (chapter 12; R2, R97, R114, R135, R153, R169). -/
structure Settings where
  lUp : Nat
  lPn : Nat
  lW  : Nat
  lFn : Nat
  pitch : Nat
  jointGap : Nat
  width : Nat
  zones : Nat
  bars : Nat
  vMax : Nat
  rampRate : Nat
  paperTsp : Nat
  paperKp : Nat
  paperKi : Nat
  lateLimit : Nat
  spliceTimeout : Nat
  handoverLimit : Nat
  puRoll : Nat
  fuRoll : Nat
  tTrip : Nat
  idleCap : Nat
  polarities : Byte
  haltOnTrip : Bool
  haltOnParity : Bool
  haltOnGuard : Bool
  deriving DecidableEq, Repr

/-! ## Web position and Transit Map (chapter 1) -/

/-- The web position and the back-travel amount, in µm (R1). -/
structure Web where
  pos  : Nat
  back : Nat
  deriving DecidableEq, Repr

/-- Why a strip is spoiled (R15). -/
inductive SpoilReason where
  | halt | joint | fabricJoint | raster | late
  deriving DecidableEq, Repr

/-- Flags of a SEGMENT entry (R15). -/
structure SegFlags where
  parity : Bool
  patched : Bool
  late : Bool
  offDose : Bool
  tensionDev : Bool
  zoneFault : Bool
  orphan : Bool
  deriving DecidableEq, Repr

/-- A SEGMENT entry (chapter 1, SEGMENT ENTRY). The mark PRINT_END is that the end coordinate is present (R5). Per-zone lists have
one member for each zone `z < Z`. -/
structure Segment where
  card : Option CardRef
  tag : BitVec 32
  start : Nat
  endAt : Option Nat
  planned : Nat
  profileId : Nat
  fabricId : Option Nat
  vPlan : Nat
  lo : Nat
  hi : Nat
  tOnset : Nat
  tol : Nat
  tPlan : Option Nat
  eps : Nat
  gains : List Nat
  dPlan : List Nat
  off : List Bool
  dLead : List Nat
  dTrail : List Nat
  emitted : Nat
  late : Nat
  firstVersion : Option (BitVec 16)
  lastVersion : Option (BitVec 16)
  tensionMax : Nat
  runCount : Nat
  flags : SegFlags
  spoil : Option SpoilReason
  leadNip : Bool
  trailNip : Bool
  leadExit : Bool
  deriving DecidableEq, Repr

/-- A JOINT entry: its coordinate, and whether a position update has carried pos to the exit offset past it (R12). -/
structure Joint where
  at_ : Nat
  due : Bool
  deriving DecidableEq, Repr

/-- The Transit Map: SEGMENT entries and JOINT entries, each in ascending order of start coordinate (R3; log entry 13). -/
structure TransitMap where
  segs   : List Segment
  joints : List Joint
  deriving DecidableEq, Repr

/-! ## Profile Store (chapter 2) -/

/-- States of a profile record (R20). -/
inductive ProfileState where
  | empty | loading | ready | retiring
  deriving DecidableEq, Repr

/-- Header fields of a profile record (R21). -/
structure ProfileHeader where
  grid : Nat
  channels : Nat
  base : Nat
  nodes : Nat
  tOnset : Nat
  dRef : Nat
  gMin : Nat
  gMax : Nat
  tol : Nat
  deriving DecidableEq, Repr

/-- A profile record (chapter 2, THE PROFILE TABLE); `freeing` is set while its freeing waits for a granted write (R32). -/
structure ProfileRecord where
  state : ProfileState
  header : Option ProfileHeader
  refs : Nat
  version : BitVec 16
  damage : Nat
  freeing : Bool
  deriving DecidableEq, Repr

/-- A run of consecutive cells (R25). -/
structure Extent where
  base : Nat
  len : Nat
  deriving DecidableEq, Repr

/-- A cell of the store: eight bytes, and the parity bit of byte k at bit k (R24). -/
structure StoreCell where
  bytes : CellValue
  parity : BitVec 8
  deriving DecidableEq, Repr

/-- What a cell reads as that nothing has written since main power-on reset (R24 leaves it undefined; log entry 7). Its parity bits
are bad. -/
def unwrittenCell : StoreCell := ⟨0, 0⟩

/-- The external store as a list of (cell address, cell) in one canonical form: addresses strictly rising and no cell equal to
`unwrittenCell`. -/
abbrev StoreMemory := List (Nat × StoreCell)

/-- The load in progress (R29): card, profile id, source address, node cursor, the records of the current block not yet written,
and whether a read of a block is in flight. -/
structure LoadJob where
  card : CardRef
  id : Nat
  source : Nat
  cursor : Nat
  buffer : List CellValue
  reading : Bool
  deriving DecidableEq, Repr

/-- A lookup fill's request: profile id, node, cell and channel count (R52). -/
structure FillRequest where
  id : Nat
  node : Nat
  cell : Nat
  channels : Nat
  deriving DecidableEq, Repr

/-- The shadow requester's request (R49): an entry-creation read, or the drain write of an entry. -/
inductive ShadowRequest where
  | creation (id node cell channels : Nat)
  | drain (id cell : Nat) (value : CellValue)
  deriving DecidableEq, Repr

/-- The loader's request: the write of the record at its node cursor (R29). -/
structure LoadRequest where
  id : Nat
  cell : Nat
  value : CellValue
  deriving DecidableEq, Repr

/-- The access that holds the store port (R39). `live` is clear once its requester no longer wants its result: a read is then
discarded at its completion, and a write still writes its cell. -/
inductive PortAccess where
  | fill (r : FillRequest) (live : Bool)
  | shadow (r : ShadowRequest) (live : Bool)
  | loader (r : LoadRequest) (live : Bool)
  deriving DecidableEq, Repr

/-- The store port arbiter (R39). -/
structure Arbiter where
  busy : Option PortAccess
  fillReq : Option FillRequest
  shadowReq : Option ShadowRequest
  loaderReq : Option LoadRequest
  shadowCredit : Bool
  loaderCredit : Bool
  deriving DecidableEq, Repr

/-- The Profile Store: records of ids 1 to 16 in order, free extents, store, loader (with the count of its reads whose data will be
discarded) and arbiter. -/
structure ProfileStore where
  records : List ProfileRecord
  free : List Extent
  mem : StoreMemory
  loader : Option LoadJob
  stale : Nat
  arb : Arbiter
  deriving DecidableEq, Repr

/-! ## Shadow Patch Buffer and Node Cache (chapter 3) -/

/-- A shadow entry (R44). -/
structure ShadowEntry where
  id : Nat
  node : Nat
  cell : Nat
  value : CellValue
  visible : Bool
  deriving DecidableEq, Repr

/-- An edit of a PATCH card's list (chapter 12): node index, channel mask, and the values of channels 0 to 5 in bytes 0 to 5. -/
structure Edit where
  node : Nat
  mask : BitVec 8
  values : CellValue
  deriving DecidableEq, Repr

/-- Patch states other than IDLE (chapter 3, THE PATCH CARD). -/
inductive PatchPhase where
  | reading | applying | waiting
  deriving DecidableEq, Repr

/-- The PATCH card in hand; `creating` is that its edit waits for its creation read (R44, R49). -/
structure PatchJob where
  card : CardRef
  noWait : Bool
  id : Nat
  count : Nat
  listAddr : Nat
  phase : PatchPhase
  edits : List Edit
  cursor : Nat
  creating : Bool
  deriving DecidableEq, Repr

/-- The Shadow Patch Buffer: entries in order of arrival, the PATCH card in hand (none in IDLE), and the count of list reads whose
data will be discarded. -/
structure ShadowBuffer where
  entries : List ShadowEntry
  patch : Option PatchJob
  stale : Nat
  deriving DecidableEq, Repr

/-- A valid line of the node cache (R51). -/
structure CacheLine where
  tag : Nat
  value : CellValue
  deriving DecidableEq, Repr

/-- The Node Cache: 256 lines (none is invalid) and the three lookup counters (R51, R54). -/
structure NodeCache where
  lines : List (Option CacheLine)
  shadowHits : BitVec 32
  cacheHits : BitVec 32
  fills : BitVec 32
  deriving DecidableEq, Repr

/-! ## Print Engine (chapter 4) -/

/-- A PRINT card in the queue with its body as read at the take (R60, R61). -/
structure QueuedPrint where
  card : CardRef
  noWait : Bool
  raster : Nat
  stride : Nat
  width : Nat
  lines : Nat
  profileId : Nat
  fabricId : Nat
  tPlan : Nat
  deriving DecidableEq, Repr

/-- The set of unmet start conditions (R63, R64), or the map's refusal (R4). -/
structure HoldReason where
  drive : Bool
  profile : Bool
  zones : Bool
  bars : Bool
  room : Bool
  clearance : Bool
  deriving DecidableEq, Repr

/-- A computed output line in a slot (chapter 4, LINE COMPUTATION): its number, its version and, for each column, the laydown of
every channel. -/
structure LineSlot where
  line : Nat
  version : BitVec 16
  columns : List (List Byte)
  deriving DecidableEq, Repr

/-- A line computation in progress (R72, R73): the source line's bytes, the column and corner whose lookup is next, whether that
lookup waits for its fill, the weighted sums of the column so far, and the finished columns in reverse. -/
structure Computation where
  line : Nat
  version : BitVec 16
  pixels : List Byte
  column : Nat
  corner : Nat
  filling : Bool
  sums : List Nat
  cols : List (List Byte)
  deriving DecidableEq, Repr

/-- The printing job (R65): its card, its SEGMENT entry's start coordinate, the figures of R67, the line cursor and accumulator, the
slots, the raster fetch window, and the computation running. `reached` counts the lines whose due position a position update has
carried pos to or past (R76). -/
structure PrintJob where
  card : QueuedPrint
  start : Nat
  step : Nat
  nOut : Nat
  cursor : Nat
  acc : Nat
  slots : List LineSlot
  window : List (Nat × List Byte)
  comp : Option Computation
  fallen : Nat
  reached : Nat
  deriving DecidableEq, Repr

/-- States of the Print Engine (chapter 4, PRINT START). -/
inductive PrintState where
  | idle | printing | ending
  deriving DecidableEq, Repr

/-- The raster read in flight: its source line, and whether the job that asked for it still stands (R70). -/
structure RasterRead where
  line : Nat
  live : Bool
  deriving DecidableEq, Repr

/-- A bar's record (R75). -/
structure Bar where
  ready : Bool
  room : Nat
  silent : Bool
  deriving DecidableEq, Repr

/-- The Print Engine (chapter 4). `sent` counts the lines sent since the sequence count was last set to 0 (R75), and `firstTest` is the
take of a NO_WAIT card with what the first start test made for it at the head found unmet (R66). -/
structure PrintEngine where
  queue : List QueuedPrint
  state : PrintState
  job : Option PrintJob
  read : Option RasterRead
  hold : Option HoldReason
  bars : List Bar
  seq : BitVec 16
  sent : Nat
  firstTest : Option (Nat × HoldReason)
  deriving DecidableEq, Repr

/-! ## Heat Controller (chapter 6) -/

/-- States of a zone (chapter 6, ZONES). -/
inductive ZoneState where
  | off | fault | tripped | below | settling | inBand | above
  deriving DecidableEq, Repr

/-- Kinds of a bad reading (R98, R131). -/
inductive BadKind where
  | missing | invalid | range
  deriving DecidableEq, Repr

/-- A zone's record (chapter 6, ZONES), with its heater output. -/
structure Zone where
  state : ZoneState
  sp : Nat
  band : Nat
  kp : Nat
  ki : Nat
  tMeas : Int
  bad : Nat
  lastBad : Option BadKind
  good : Nat
  settle : Nat
  out : Nat
  integ : Nat
  duty : Nat
  onTime : Nat
  latch : Bool
  heater : Bool
  deriving DecidableEq, Repr

/-- The Heat Controller: zone records 0 to 7, the latest frame, and the clock at the start of the current heater window. -/
structure Heat where
  zones : List Zone
  frame : Option (List ZoneReading)
  windowStart : Nat
  deriving DecidableEq, Repr

/-! ## Web Drive (chapter 7) -/

/-- Drive states (chapter 7). -/
inductive DriveState where
  | idle | starting | running | draining | rampdown | halted
  deriving DecidableEq, Repr

/-- Halt causes (R122). -/
inductive HaltCause where
  | host | paperBreak | fabricBreak | estop | guard | trip | parity | handover | tensionLoss | reset
  deriving DecidableEq, Repr

/-- The Web Drive (R113, R119, R121). -/
structure Drive where
  state : DriveState
  requested : Nat
  target : Nat
  running : Nat
  measured : BitVec 16
  held : Bool
  deriving DecidableEq, Repr

/-! ## Tension Controller (chapter 8) -/

/-- The four axes, in the order PU, FU, PR, FR. -/
inductive Axis where
  | pu | fu | pr | fr
  deriving DecidableEq, Repr

/-- States of an axis (chapter 8, AXES). -/
inductive AxisState where
  | off | active | handedOver
  deriving DecidableEq, Repr

/-- Where an axis's figures came from (chapter 8, AXES). -/
inductive AxisSource where
  | setup
  | fabric (id : Nat) (tag : BitVec 32)
  deriving DecidableEq, Repr

/-- An axis's record (chapter 8, AXES). -/
structure AxisRecord where
  state : AxisState
  tSp : Nat
  kp : Nat
  ki : Nat
  source : AxisSource
  tMeas : Nat
  invalid : Nat
  lastInvalid : Option BadKind
  integ : Nat
  torque : Nat
  deriving DecidableEq, Repr

/-- The figures of a DEFINED fabric record (chapter 8, THE FABRIC TABLE). -/
structure FabricFigures where
  cs : Nat
  tMin : Nat
  tMax : Nat
  devLimit : Nat
  kp : Nat
  ki : Nat
  deriving DecidableEq, Repr

/-- A fabric record: its figures if DEFINED, and its reference count (R136, R138). -/
structure FabricRecord where
  figures : Option FabricFigures
  refs : Nat
  deriving DecidableEq, Repr

/-- The Tension Controller: axis records PU, FU, PR, FR, fabric records of ids 1 to 8, and the latest tension frame. -/
structure Tension where
  axes : List AxisRecord
  fabrics : List FabricRecord
  frame : Option (List TensionReading)
  deriving DecidableEq, Repr

/-! ## Roll changes and keep-alive counters (chapter 9) -/

/-- Splice states (chapter 9). -/
inductive SpliceState where
  | idle | wait | handedOver
  deriving DecidableEq, Repr

/-- Causes of a splice (chapter 9). -/
inductive SpliceCause where
  | card | rollEnd | count
  deriving DecidableEq, Repr

/-- A splice record (chapter 9, SPLICE STATES). `phaseStart` is the clock at the beginning of the current phase, `limit` the time
allowed for it in ms, `waited` the splice time once the handover has begun, `countDue` that the counter's request has arisen, and
`handover` the handover limit in ms that stood when the splice began (R149). -/
structure SpliceRecord where
  state : SpliceState
  cause : Option SpliceCause
  card : Option CardRef
  pending : Option SpliceCause
  fired : Bool
  countDue : Bool
  request : Bool
  phaseStart : Nat
  limit : Nat
  waited : Nat
  handover : Nat
  deriving DecidableEq, Repr

/-- A fabric joint: its due position, and whether a position update has carried pos to it (R150). -/
structure FabricJoint where
  due : Nat
  reached : Bool
  deriving DecidableEq, Repr

/-- The Roll Change Unit (chapter 9). -/
structure Rolls where
  pu : SpliceRecord
  fu : SpliceRecord
  joints : List FabricJoint
  deriving DecidableEq, Repr

/-- A keep-alive counter: metres and residue in µm (R153). -/
structure Counter where
  metres : Nat
  residue : Nat
  deriving DecidableEq, Repr

/-- The keep-alive domain (R153, R154). -/
structure KeepAlive where
  pu : Counter
  puValid : Bool
  fu : Counter
  fuValid : Bool
  lifetime : Counter
  restarted : Bool
  lost : Bool
  deriving DecidableEq, Repr

/-! ## Status Unit (chapter 11) -/

/-- Where a parity error was found (R55, R56). -/
inductive ParitySource where
  | fill | merge
  deriving DecidableEq, Repr

/-- How a raster read failed (R71). -/
inductive ReadFailure where
  | error | timeout
  deriving DecidableEq, Repr

/-- A fault of the fault table with the fields its code carries (chapter 11, THE FAULT QUEUE). -/
inductive FaultInfo where
  | loadReadError (id cursor : Nat)
  | patchReadError (id : Nat)
  | parity (id node cell : Nat) (source : ParitySource) (marks : Byte)
  | rasterReadError (tag : BitVec 32) (line : Nat) (kind : ReadFailure)
  | barSilent (bar : Nat)
  | zoneSensor (zone : Nat) (kind : BadKind)
  | zoneTrip (zone : Nat) (reading : Int) (tTrip : Nat)
  | tensionSensor (axis : Axis) (kind : BadKind)
  | laterHalt (cause : HaltCause)
  | spliceTimeout (axis : Unwind) (cause : SpliceCause)
  | handoverLimit (axis : Unwind)
  | spliceAckUnexpected (axis : Unwind) (found : SpliceState)
  | badLink (found read : Nat)
  | cardReadError (addr : Nat)
  | linkReset
  | overflow (lost : Nat)
  deriving DecidableEq, Repr

/-- An entry of the fault queue (R174). -/
structure FaultEntry where
  info : FaultInfo
  seq : BitVec 16
  pos : Nat
  deriving DecidableEq, Repr

/-- A line input's record (R176): raw level, filter running, filtered level or unknown, polarity. Levels are high (true) or low. -/
structure InputRecord where
  raw : Bool
  filtering : Bool
  level : Option Bool
  activeHigh : Bool
  deriving DecidableEq, Repr

/-- The Status Unit (chapter 11). The fault slot is the oldest entry of the queue (R174). -/
structure Status where
  events : BitVec 32
  faults : List FaultEntry
  faultSeq : BitVec 16
  refresh : BitVec 32
  pageDue : Bool
  haltCause : Option HaltCause
  inputs : List InputRecord
  deriving DecidableEq, Repr

/-! ## The machine -/

/-- The JS-48. `pending` is the queue of waiting commands, first in first out; `clock` counts milliseconds of idle steps; `ports` is
what has left the part, newest first. `lastVMax` is v_max of the last SETUP that a reset made invalid (R95). -/
structure State where
  pending : List Instr
  clock : Nat
  ports : List PortOut
  power : Power
  ka : KeepAlive
  regs : Registers
  setup : Option Settings
  lastVMax : Option Nat
  ce : CardEngine
  web : Web
  tmap : TransitMap
  ps : ProfileStore
  spb : ShadowBuffer
  nc : NodeCache
  pe : PrintEngine
  hc : Heat
  wd : Drive
  tc : Tension
  rc : Rolls
  su : Status
  deriving DecidableEq, Repr

/-- Faults that stop the machine: there is none. Every command of the JS-48 answers a next state (safe: nothing is cut short); the
part's own faults are records of the fault queue (R174). -/
inductive Fault where
  deriving DecidableEq, Repr

/-- Refusals. -/
inductive Refusal where
  /-- A command that has no meaning yet, raised by `exec`'s arm of it alone; no arm raises it now. Safe: nothing is claimed of it. -/
  | notModelled (mnemonic : String)
  deriving DecidableEq, Repr

/-- What a step answers. -/
abbrev Result := Host.Outcome State Fault Refusal

/-! ## Reset values -/

/-- A profile record that is EMPTY (R40). -/
def emptyRecord : ProfileRecord := ⟨.empty, none, 0, 0, 0, false⟩

/-- A zone's record at reset (R111). -/
def resetZone : Zone := ⟨.off, 0, 0, 0, 0, 0, 0, none, 0, 0, 0, 0, 0, 0, false, false⟩

/-- An axis's record at reset (R143). -/
def resetAxis : AxisRecord := ⟨.off, 0, 0, 0, .setup, 0, 0, none, 0, 0⟩

/-- A bar's record at reset, and while the bar is not in use (R75). -/
def resetBar : Bar := ⟨false, 0, true⟩

/-- A splice record at reset (R155). -/
def resetSplice : SpliceRecord := ⟨.idle, none, none, none, false, false, false, 0, 0, 0, 0⟩

/-- A line input's record at reset, at a raw level: polarity active-low, filtered level unknown, its filter running (R176). -/
def resetInput (raw : Bool) : InputRecord := ⟨raw, true, none, false⟩

/-- Cells of the store by the STORE strap (R25). -/
def storeCells (store64k : Bool) : Nat := if store64k then 65536 else 32768

/-- The machine right after main power-on reset. The straps (4 zones, 32768 cells), the raw levels of the inputs (low) and the
keep-alive domain (both supplies have just come up, so KA_LOST is raised: bit 12) are named in log entries 9 and 10. -/
def State.reset : State where
  pending := []
  clock := 0
  ports := []
  power := ⟨true, false, false⟩
  ka := ⟨⟨0, 0⟩, false, ⟨0, 0⟩, false, ⟨0, 0⟩, true, false⟩
  regs := ⟨false, 0, 0, 0⟩
  setup := none
  lastVMax := none
  ce := ⟨.stopped, none, none, [], false, false, none, false, 0, false, 0, 0⟩
  web := ⟨0, 0⟩
  tmap := ⟨[], []⟩
  ps := ⟨List.replicate 16 emptyRecord, [⟨0, storeCells false⟩], [], none, 0, ⟨none, none, none, none, false, false⟩⟩
  spb := ⟨[], none, 0⟩
  nc := ⟨List.replicate 256 none, 0, 0, 0⟩
  pe := ⟨[], .idle, none, none, none, List.replicate 6 resetBar, 0, 0, none⟩
  hc := ⟨List.replicate 8 resetZone, none, 0⟩
  wd := ⟨.halted, 0, 0, 0, 0, false⟩
  tc := ⟨List.replicate 4 resetAxis, List.replicate 8 ⟨none, 0⟩, none⟩
  rc := ⟨resetSplice, resetSplice, []⟩
  su := ⟨4096, [], 0, 0, false, some .reset, List.replicate 8 (resetInput false)⟩

end Sys2Proof.Machine
end

