-- ==== Sys2Proof/Machine/Operands.lean ====
section
/-! DEFINITION. Reading the fields of cards, edits and source records, and writing fields into results: the byte order, sizes, codes
and absent values of chapter 12 (R178), and the ranges each card's fields are checked against. -/

namespace Sys2Proof.Machine

/-! ## Bytes -/

/-- The byte at an offset; a byte beyond what was read is 0. -/
def byteAt (l : List Byte) (off : Nat) : Byte := (l[off]?).getD 0

/-- The unsigned field of `n` bytes at an offset, least significant byte first (R178). -/
def leRead (l : List Byte) (off : Nat) : Nat → Nat
  | 0 => 0
  | n + 1 => (byteAt l off).toNat + 256 * leRead l (off + 1) n

/-- An unsigned field of `n` bytes, least significant byte first (R178). -/
def le : Nat → Nat → List Byte
  | 0, _ => []
  | n + 1, v => BitVec.ofNat 8 (v % 256) :: le n (v / 256)

/-- A signed field of `n` bytes in two's complement (R178). -/
def leInt (n : Nat) (v : Int) : List Byte := le n (v % (256 ^ n : Nat)).toNat

/-- The absent value of an unsigned field of `n` bytes: all bytes 255 (R178). -/
def absent (n : Nat) : List Byte := List.replicate n 0xFF

/-- An unsigned field of `n` bytes, or its absent value. -/
def leOpt (n : Nat) : Option Nat → List Byte
  | none => absent n
  | some v => le n v

/-- A mark in one byte (R178). -/
def mark (b : Bool) : List Byte := [if b then 1 else 0]

/-- A mark set: bit `k` for the mark at place `k`. -/
def markSet : List Bool → Nat
  | [] => 0
  | b :: bs => (if b then 1 else 0) + 2 * markSet bs

/-- `base` with `bs` written at an offset; the length of `base` is kept. -/
def overlay (base : List Byte) (off : Nat) (bs : List Byte) : List Byte :=
  (base.take off ++ bs ++ base.drop (off + bs.length)).take base.length

/-- An area of `n` bytes, 0 where no field stands (R178). -/
def area (n : Nat) (fields : List (Nat × List Byte)) : List Byte :=
  fields.foldl (fun acc f => overlay acc f.1 f.2) (List.replicate n 0)

/-- Bytes placed from an address of host memory on. -/
def cellsAt : Nat → List Byte → List Host.Cell
  | _, [] => []
  | a, b :: bs => (a, b) :: cellsAt (a + 1) bs

/-! ## Codes (chapter 12) -/

/-- The kind of a kind byte; an unlisted value is no kind (R178). -/
def CardKind.ofByte (b : Byte) : Option CardKind :=
  match b.toNat with
  | 1 => some .setup
  | 2 => some .heat
  | 3 => some .drive
  | 4 => some .fabric
  | 5 => some .load
  | 6 => some .patch
  | 7 => some .drop
  | 8 => some .print
  | 9 => some .splice
  | 10 => some .fence
  | _ => none

/-- Code of a card state. -/
def CardState.code : CardState → Byte
  | .blank => 0 | .posted => 1 | .taken => 2 | .printed => 3 | .done => 4 | .failed => 5 | .transferred => 6 | .spoiled => 7

/-- Code of a result code. -/
def ResultCode.code : ResultCode → Byte
  | .ok => 0 | .badKind => 1 | .badField => 2 | .wrongState => 3 | .notReady => 4 | .inUse => 5 | .noRoom => 6
  | .unknownProfile => 7 | .queueFull => 8 | .busy => 9 | .timeout => 10 | .aborted => 11 | .halted => 12 | .readError => 13

/-- Code of a zone state. -/
def ZoneState.code : ZoneState → Byte
  | .off => 0 | .fault => 1 | .tripped => 2 | .below => 3 | .settling => 4 | .inBand => 5 | .above => 6

/-- Code of a drive state. -/
def DriveState.code : DriveState → Byte
  | .idle => 0 | .starting => 1 | .running => 2 | .draining => 3 | .rampdown => 4 | .halted => 5

/-- Code of a profile state. -/
def ProfileState.code : ProfileState → Byte
  | .empty => 0 | .loading => 1 | .ready => 2 | .retiring => 3

/-- Code of a halt cause, 1 to 10; absent is 0. -/
def HaltCause.code : HaltCause → Byte
  | .host => 1 | .paperBreak => 2 | .fabricBreak => 3 | .estop => 4 | .guard => 5 | .trip => 6 | .parity => 7 | .handover => 8
  | .tensionLoss => 9 | .reset => 10

/-- Code of a spoil reason; absent is 0. -/
def SpoilReason.code : SpoilReason → Byte
  | .halt => 1 | .joint => 2 | .fabricJoint => 3 | .raster => 4 | .late => 5

/-- Code of an unwind axis, as the SPLICE body numbers them. -/
def unwindCode : Unwind → Byte
  | .pu => 1 | .fu => 2

/-- Code of an axis; those of the rewinds are not given (log entry 11). -/
def Axis.code : Axis → Byte
  | .pu => 1 | .fu => 2 | .pr => Config.unstatedCode .rewindAxis 0 | .fr => Config.unstatedCode .rewindAxis 1

/-- Code of a kind of bad reading (log entry 11). -/
def BadKind.code : BadKind → Byte
  | .missing => Config.unstatedCode .badKind 0
  | .invalid => Config.unstatedCode .badKind 1
  | .range => Config.unstatedCode .badKind 2

/-- Code of a splice state (log entry 11). -/
def SpliceState.code : SpliceState → Byte
  | .idle => Config.unstatedCode .spliceState 0
  | .wait => Config.unstatedCode .spliceState 1
  | .handedOver => Config.unstatedCode .spliceState 2

/-- Code of a splice cause (log entry 11). -/
def SpliceCause.code : SpliceCause → Byte
  | .card => Config.unstatedCode .spliceCause 0
  | .rollEnd => Config.unstatedCode .spliceCause 1
  | .count => Config.unstatedCode .spliceCause 2

/-! ## Checks -/

/-- The body offset of the first field that fails its check, the checks standing in body offset order (R165; log entry 23). -/
def firstError (checks : List (Nat × Bool)) : Option Nat := (checks.find? (fun c => !c.2)).map (·.1)

/-- `lo ≤ v ≤ hi`. -/
def within (lo v hi : Nat) : Bool := lo ≤ v && v ≤ hi

/-- `v` clamped to `lo … hi`, both integers; the limits are named in that order (00, ARITHMETIC). -/
def clampInt (v lo hi : Int) : Int := min hi (max lo v)

/-- The n-th member of a list with one member for each zone, axis or bar. -/
def nth {α : Type} (l : List α) (n : Nat) (d : α) : α := (l[n]?).getD d

/-- The list with its n-th member replaced by its image. -/
def modifyNth {α : Type} (l : List α) (n : Nat) (f : α → α) : List α :=
  match l, n with
  | [], _ => []
  | x :: xs, 0 => f x :: xs
  | x :: xs, n + 1 => x :: modifyNth xs n f

/-! ## SETUP (R169) -/

/-- The SETUP body (chapter 12). A T_trip of 0 selects 2400 (R97). Bits 3 to 7 of the halt flags are ignored (log entry 58). -/
def parseSettings (b : List Byte) : Settings where
  lUp := leRead b 16 2
  lPn := leRead b 18 2
  lW := leRead b 20 2
  lFn := leRead b 22 2
  pitch := leRead b 24 2
  jointGap := leRead b 26 2
  width := leRead b 28 2
  zones := leRead b 30 1
  bars := leRead b 31 1
  vMax := leRead b 32 2
  rampRate := leRead b 34 2
  paperTsp := leRead b 36 2
  paperKp := leRead b 38 1
  paperKi := leRead b 39 1
  lateLimit := leRead b 40 1
  spliceTimeout := leRead b 41 1
  handoverLimit := leRead b 42 1
  puRoll := leRead b 44 4
  fuRoll := leRead b 48 4
  tTrip := if leRead b 52 2 = 0 then 2400 else leRead b 52 2
  idleCap := leRead b 54 2
  polarities := byteAt b 56
  haltOnTrip := (byteAt b 57).getLsbD 0
  haltOnParity := (byteAt b 57).getLsbD 1
  haltOnGuard := (byteAt b 57).getLsbD 2

/-- Zones of the drum by the ZONES strap (R97). -/
def strapZones (p : Power) : Nat := if p.zones8 then 8 else 4

/-- The first field of a SETUP in error (R2, R97, R114, R135, R153, R169); `zones` are the zone records, whose setpoints below the
card's Z must lie below the card's T_trip. -/
def setupError (p : Power) (zones : List Zone) (c : Settings) : Option Nat :=
  firstError [
    (16, within 500 c.lUp 30000), (18, within 500 c.lPn 30000), (20, within 500 c.lW 6000), (22, within 500 c.lFn 30000),
    (24, within 20 c.pitch 500), (26, c.jointGap ≤ 2000), (28, within 16 c.width 8192), (30, within 1 c.zones (strapZones p)),
    (31, within 4 c.bars 6), (32, within 10 c.vMax 500), (34, within 10 c.rampRate 1000 && c.rampRate % 10 == 0),
    (36, within 20 c.paperTsp 1000), (41, within 1 c.spliceTimeout 60), (42, within 1 c.handoverLimit 30),
    (44, c.puRoll ≤ 100000), (48, c.fuRoll ≤ 100000),
    (52, within 1200 c.tTrip 2450 && (zones.take c.zones).all (fun z => z.sp == 0 || z.sp < c.tTrip)),
    (54, c.idleCap ≤ 1000)]

/-! ## HEAT (R108) -/

/-- One zone's setting in a HEAT body (chapter 12). -/
structure HeatSetting where
  sp : Nat
  band : Nat
  kp : Nat
  ki : Nat
  deriving DecidableEq, Repr

/-- The setting of zone `z` in a HEAT body. -/
def heatSetting (b : List Byte) (z : Nat) : HeatSetting :=
  ⟨leRead b (16 + 6 * z) 2, leRead b (18 + 6 * z) 2, leRead b (20 + 6 * z) 1, leRead b (21 + 6 * z) 1⟩

/-- The first field of a HEAT body in error (R108). -/
def heatError (zonesInUse tTrip : Nat) (b : List Byte) : Option Nat :=
  firstError ((List.range 8).flatMap fun z =>
    let h := heatSetting b z
    if z < zonesInUse then
      [(16 + 6 * z, h.sp == 0 || (within 1000 h.sp 2300 && h.sp < tTrip)), (18 + 6 * z, within 10 h.band 200)]
    else [(16 + 6 * z, h.sp == 0)])

/-! ## LOAD, PATCH, FABRIC, PRINT -/

/-- The header a LOAD body asks for, with the base cell that allocation gives (R21, R29). -/
def loadHeader (b : List Byte) (base : Nat) : ProfileHeader where
  grid := leRead b 17 1
  channels := leRead b 18 1
  base := base
  nodes := leRead b 17 1 ^ 3
  tOnset := leRead b 20 2
  dRef := leRead b 26 4
  gMin := leRead b 22 2
  gMax := leRead b 24 2
  tol := leRead b 19 1

/-- The first field of a LOAD body in error (R21). -/
def loadError (b : List Byte) : Option Nat :=
  let h := loadHeader b 0
  let src := leRead b 32 8
  firstError [
    (16, within 1 (leRead b 16 1) 16), (17, h.grid == 9 || h.grid == 17 || h.grid == 33), (18, within 4 h.channels 6),
    (19, within 1 h.tol 30), (20, within 1000 h.tOnset 2000), (22, within 2048 h.gMin 4096), (24, within 4096 h.gMax 8192),
    (26, within 1000 h.dRef 9000000), (32, src != 0 && src % 8 == 0)]

/-- The first field of a PATCH body in error (R42, check 1). -/
def patchError (b : List Byte) : Option Nat :=
  let addr := leRead b 24 8
  firstError [(16, within 1 (leRead b 16 1) 16), (18, within 1 (leRead b 18 2) 128), (24, addr != 0 && addr % 8 == 0)]

/-- The edit at a position of a list (chapter 12: node index, channel mask, values of channels 0 to 5). -/
def parseEdit (data : List Byte) (i : Nat) : Edit :=
  ⟨leRead data (16 * i) 4, byteAt data (16 * i + 4), BitVec.ofNat 64 (leRead data (16 * i + 8) 6)⟩

/-- The edits of a list of `n` edits. -/
def parseEdits (data : List Byte) (n : Nat) : List Edit := (List.range n).map (parseEdit data)

/-- Whether an edit can be made in a profile of that header (R42, check 4). -/
def editOk (h : ProfileHeader) (e : Edit) : Bool :=
  e.node < h.nodes && e.mask != 0 && e.mask.toNat < 2 ^ h.channels

/-- The definition in a FABRIC body (chapter 12). -/
def fabricFigures (b : List Byte) : FabricFigures :=
  ⟨leRead b 18 2, leRead b 20 2, leRead b 22 2, leRead b 24 2, leRead b 26 1, leRead b 27 1⟩

/-- The first field of a FABRIC definition in error (R137, check 3). -/
def fabricError (f : FabricFigures) : Option Nat :=
  firstError [(18, f.cs ≤ 200), (20, within 20 f.tMin 1000 && (f.tMin ≤ f.tMax || !within 20 f.tMax 1000)),
    (22, within 20 f.tMax 1000), (24, within 1 f.devLimit 500)]

/-- The PRINT body of a card (chapter 12). -/
def parsePrint (c : CurrentCard) : QueuedPrint where
  card := c.ref
  noWait := c.noWait
  raster := leRead c.image 16 8
  stride := leRead c.image 24 4
  width := leRead c.image 28 2
  lines := leRead c.image 30 2
  profileId := leRead c.image 32 1
  fabricId := leRead c.image 33 1
  tPlan := leRead c.image 34 2

/-- The first field of a PRINT body in error (R60, check 2); `w` is the SETUP width. -/
def printError (w : Nat) (q : QueuedPrint) : Option Nat :=
  firstError [
    (16, q.raster != 0), (24, 3 * q.width ≤ q.stride && q.stride ≤ 1048576), (28, within 1 q.width w), (30, 1 ≤ q.lines),
    (33, q.fabricId ≤ 8), (34, q.fabricId == 0 || within 20 q.tPlan 1000)]

/-- One source record of a LOAD as a cell of `k` channels: bytes `k` to 7 are 0 (R29). -/
def sourceRecord (data : List Byte) (i k : Nat) : CellValue := BitVec.ofNat 64 (leRead data (8 * i) k)

end Sys2Proof.Machine
end

