-- ==== Sys2Proof/Machine/Flags.lean ====
section
/-! DEFINITION. Events and the interrupt summary (R172, R173), the condition word, and the derived conditions that other blocks
read: the zones condition (R102), an input's active state (R176), the line window (R88). -/

namespace Sys2Proof.Machine

/-- The events, in the bit order of the event bit table (chapter 12). -/
inductive Event where
  | cardFinal | segmentDone | faultPending | chainWaiting | speedHeld | zoneAlarm | lineHalted | lineRunning | zonesInBand
  | printing | spliceActive | profileFreed | kaLost
  deriving DecidableEq, Repr

/-- Bit number of an event (chapter 12). -/
def Event.bit : Event → Nat
  | .cardFinal => 0 | .segmentDone => 1 | .faultPending => 2 | .chainWaiting => 3 | .speedHeld => 4 | .zoneAlarm => 5
  | .lineHalted => 6 | .lineRunning => 7 | .zonesInBand => 8 | .printing => 9 | .spliceActive => 10 | .profileFreed => 11
  | .kaLost => 12

/-- The mark of an event in the event word. -/
def Event.mask (e : Event) : BitVec 32 := 1#32 <<< e.bit

/-- The marks that exist: bits 0 to 12 (log entry 37). -/
def eventMarks : BitVec 32 := 0x1FFF

/-- The interrupt summary: some event mark set is also enabled (R173). -/
def irqSummary (s : State) : Bool := (s.su.events &&& s.regs.irqEnable) != 0

/-- Whether the mark of an event is set. -/
def hasEvent (s : State) (e : Event) : Bool := (s.su.events &&& e.mask) != 0

/-- Number of a line input (chapter 11). -/
def inputIndex : LineInput → Nat
  | .paperBreak => 0 | .fabricBreak => 1 | .estop => 2 | .guard => 3 | .paperRollEnd => 4 | .fabricRollEnd => 5
  | .paperSpliceAck => 6 | .fabricSpliceAck => 7

/-- The record of a line input. -/
def inputOf (s : State) (i : LineInput) : InputRecord := nth s.su.inputs (inputIndex i) (resetInput false)

/-- An input is active when its filtered level equals the active level its polarity names (R176). -/
def InputRecord.active (r : InputRecord) : Bool := r.level == some r.activeHigh

/-- An input as CLEAR and START test it: one with an unknown level counts as active (R176). -/
def InputRecord.countsActive (r : InputRecord) : Bool := r.level.isNone || r.active

/-- The inputs then active, as the mark set of a refused CLEAR (R125; log entry 25). -/
def activeInputs (s : State) : Nat := markSet (s.su.inputs.map InputRecord.countsActive)

/-- LINE_STOP is asserted for the whole time the drive is HALTED (R126, R177). -/
def lineStop (s : State) : Bool := s.wd.state == .halted

/-- Zones in use: Z of the last SETUP completed DONE, none while SETUP-valid is clear (R97). -/
def zonesInUse (s : State) : Nat := (s.setup.map (·.zones)).getD 0

/-- The zones condition: SETUP-valid set and every zone in use that is not OFF is IN_BAND (R102). -/
def zonesCondition (s : State) : Bool :=
  s.setup.isSome && (s.hc.zones.take (zonesInUse s)).all (fun z => z.state == .off || z.state == .inBand)

/-- SPEED_HELD as the last ramp period left it (R119; log entry 18). -/
def speedHeld (s : State) : Bool := s.wd.held

/-- The condition word (chapter 12). -/
def conditionWord (s : State) : Nat :=
  markSet [s.ce.state == .stalled, speedHeld s, zonesCondition s, !s.su.faults.isEmpty, lineStop s]
    + 256 * s.wd.state.code.toNat + 65536 * markSet (s.su.inputs.map InputRecord.active)

/-- The least running speed of the line, v_min (R113). -/
def vMin : Nat := 10

/-- v_max as the line window takes it: of the last SETUP, also once a reset has made it invalid (R88, R95; log entry 33). -/
def windowTop (s : State) : Option Nat := (s.setup.map (·.vMax)).or s.lastVMax

/-- The line window: the windows of every SEGMENT entry intersected with [v_min, v_max] (R88). -/
def lineWindow (s : State) : Nat × Nat :=
  s.tmap.segs.foldl (fun w g => (max w.1 g.lo, min w.2 g.hi)) (vMin, (windowTop s).getD 0)

/-- Flags of a SEGMENT entry as its results carry them (chapter 12). -/
def SegFlags.byte (f : SegFlags) : Nat :=
  markSet [f.parity, f.patched, f.late, f.offDose, f.tensionDev, f.zoneFault]

/-- The hold reason as a mark set (R179). -/
def HoldReason.marks (h : HoldReason) : Nat := markSet [h.drive, h.profile, h.zones, h.bars, h.room, h.clearance]

/-- No condition is unmet. -/
def HoldReason.none : HoldReason := ⟨false, false, false, false, false, false⟩

end Sys2Proof.Machine
end

