-- ==== Sys2Proof/Machine/Ops.lean ====
section
/-! DEFINITION. The shared operations of the Status Unit and the Card Engine: what leaves the part, events, faults, card writes, and
how a dispatch begins, ends, stalls and is offered again. -/

namespace Sys2Proof.Machine

/-! ## Ports -/

/-- Something leaves the part at a port. -/
def emit (o : PortOut) (s : State) : State := { s with ports := o :: s.ports }

/-- One posted write into host memory (R165; log entry 5). -/
def postWrite (cells : List Host.Cell) (s : State) : State := emit (.hostWrite cells) s

/-- The last byte the part wrote at an address of host memory in a trace (newest first), if it wrote one (log entry 4). -/
def writtenByte : List PortOut → Nat → Option Byte
  | [], _ => none
  | .hostWrite cells :: rest, a =>
    match cells.reverse.find? (fun c => c.1 == a) with
    | some c => some c.2
    | none => writtenByte rest a
  | _ :: rest, a => writtenByte rest a

/-- The last byte the part wrote at an address of host memory, if it wrote one. -/
def hostByte (s : State) (a : Nat) : Option Byte := writtenByte s.ports a

/-! ## Events and the interrupt (R172, R173) -/

/-- The endpoint signals the interrupt if the summary has risen from what it was. -/
def signalRise (before : Bool) (s : State) : State := if irqSummary s && !before then emit .interrupt s else s

/-- A block raises an event (R172): its mark is set, and the interrupt is signalled if the summary rises (R173). -/
def raiseEvent (e : Event) (s : State) : State :=
  signalRise (irqSummary s) { s with su := { s.su with events := s.su.events ||| e.mask } }

/-! ## The fault queue (R174) -/

/-- The queue after a fault is offered to it, by the table of R174. -/
def queueAfter (q : List FaultEntry) (e : FaultEntry) : List FaultEntry :=
  if q.length < 32 then q ++ [e]
  else match q.getLast? with
    | none => q
    | some last =>
      match last.info with
      | .overflow lost => q.dropLast ++ [{ last with info := .overflow (min 65535 (lost + 1)) }]
      | _ => q.dropLast ++ [{ last with info := .overflow 2 }]

/-- A fault is offered to the queue (R174): it takes the sequence number and web position of the moment; the first entry goes into
the slot, which raises FAULT_PENDING and makes a status page write due (R175). -/
def offerFault (f : FaultInfo) (s : State) : State :=
  let e : FaultEntry := ⟨f, s.su.faultSeq, s.web.pos⟩
  let s' := { s with su := { s.su with faultSeq := s.su.faultSeq + 1, faults := queueAfter s.su.faults e } }
  if s.su.faults.isEmpty then raiseEvent .faultPending { s' with su := { s'.su with pageDue := true } } else s'

/-! ## Card writes (R165, R166) -/

/-- The header write of a card: the state and the result code together (R165). -/
def writeHeader (addr : Nat) (st : CardState) (rc : ResultCode) (s : State) : State :=
  postWrite [(addr + 8, st.code), (addr + 11, rc.code)] s

/-- The current card is of a kind. -/
def currentIs (s : State) (k : CardKind) : Bool :=
  match s.ce.current with
  | some c => CardKind.ofByte c.ref.kind == some k
  | none => false

/-- The event that offers a stalled card of a kind again to its block has come (R164). -/
def offerTo (k : CardKind) (s : State) : State :=
  if s.ce.state == .stalled && currentIs s k then { s with ce := { s.ce with offerDue := true } } else s

/-- A card has become final: a stalled FENCE counts it and is offered again (R164, R168). -/
def noteFinal (s : State) : State :=
  if s.ce.state == .stalled && currentIs s .fence then
    { s with ce := { s.ce with offerDue := true, fenceCount := s.ce.fenceCount + 1 } }
  else s

/-- The header write that makes a card final: it leaves the outstanding set, and CARD_FINAL is raised (R166). -/
def finishCard (c : CardRef) (st : CardState) (rc : ResultCode) (s : State) : State :=
  let s := writeHeader c.addr st rc s
  let s := { s with ce := { s.ce with outstanding := s.ce.outstanding.filter (fun r => r.take != c.take) } }
  raiseEvent .cardFinal (noteFinal s)

/-- The final write of a card: the results area (offsets in the card), then the header (R166). -/
def finalWrite (c : CardRef) (fields : List (Nat × List Byte)) (st : CardState) (rc : ResultCode) (s : State) : State :=
  let results := area 128 (fields.map fun f => (f.1 - 128, f.2))
  finishCard c st rc (postWrite (cellsAt (c.addr + 128) results) s)

/-! ## The Card Engine (R159 to R164) -/

/-- The address a chain read reads first: the anchor, or the held tail's link (R160). -/
def linkAddress (s : State) : Nat :=
  match s.ce.heldTail with
  | none => s.regs.bookBase.toNat
  | some t => t

/-- The engine begins a chain read (R160): READING, and the watch timer stops. -/
def beginChainRead (s : State) : State :=
  emit (.hostRead (linkAddress s) 8) { s with ce := { s.ce with state := .reading, watchOn := false } }

/-- The dispatch of the current card ends: a chain read begins at once, or the engine enters STOPPED if RUN has been cleared
(R163, R159). -/
def endDispatch (s : State) : State :=
  let s := { s with ce := { s.ce with current := none, offerDue := false, fenceCount := 0 } }
  if s.regs.run then beginChainRead s else { s with ce := { s.ce with state := .stopped } }

/-- The current card is written final and its dispatch ends (R163, R166). -/
def finishCurrent (fields : List (Nat × List Byte)) (st : CardState) (rc : ResultCode) (s : State) : State :=
  match s.ce.current with
  | none => s
  | some c => endDispatch (finalWrite c.ref fields st rc s)

/-- The current card is DONE. -/
def doneCurrent (fields : List (Nat × List Byte)) (s : State) : State := finishCurrent fields .done .ok s

/-- The current card is FAILED with a code. -/
def failCurrent (rc : ResultCode) (fields : List (Nat × List Byte)) (s : State) : State := finishCurrent fields .failed rc s

/-- The current card is FAILED with BAD_FIELD at a body offset (chapter 12). -/
def failField (off : Nat) (s : State) : State := failCurrent .badField [(128, le 2 off)] s

/-- The engine enters STALLED with its current card, raising CHAIN_WAITING; a card left stalled stays as it is (R164). -/
def stallCurrent (s : State) : State :=
  if s.ce.state == .stalled then s
  else raiseEvent .chainWaiting { s with ce := { s.ce with state := .stalled, offerDue := false, fenceCount := 0 } }

/-- A card that its block cannot accept waits or, with NO_WAIT, fails with the code of the wait (R164). -/
def waitOrFail (rc : ResultCode) (fields : List (Nat × List Byte)) (s : State) : State :=
  match s.ce.current with
  | none => s
  | some c => if c.noWait then failCurrent rc fields s else stallCurrent s

/-! ## Meanings -/

/-- While the main supply is absent the part does nothing (R153); otherwise a command answers the state after it. -/
def whenOn (s : State) (f : State → State) : Result := .next (if s.power.mainOn then f s else s)

/-- The dispatch of a card by its kind: it acts only while the engine is DISPATCHING a current card of that kind (R163; log
entry 2). -/
def onDispatch (k : CardKind) (s : State) (f : CurrentCard → State → State) : Result :=
  whenOn s fun s =>
    match s.ce.current with
    | some c => if s.ce.state == .dispatching && CardKind.ofByte c.ref.kind == some k then f c s else s
    | none => s

end Sys2Proof.Machine
end

