-- ==== Sys2Proof/Machine/Store.lean ====
section
/-! DEFINITION. The store: its memory and parity (R23, R24), free extents (R25 to R27), the node cache's lines (R51 to R53), the
store port arbiter (R39), shadow entries becoming visible (R48), and the freeing of a profile record (R32). -/

namespace Sys2Proof.Machine

/-! ## Store memory -/

/-- The cell at an address. -/
def storeRead : StoreMemory → Nat → StoreCell
  | [], _ => unwrittenCell
  | (k, c) :: rest, a => if k = a then c else storeRead rest a

/-- The store with a cell written; the canonical form is kept. -/
def storeWrite : StoreMemory → Nat → StoreCell → StoreMemory
  | [], a, c => if c = unwrittenCell then [] else [(a, c)]
  | (k, d) :: rest, a, c =>
    if a < k then (if c = unwrittenCell then (k, d) :: rest else (a, c) :: (k, d) :: rest)
    else if a = k then (if c = unwrittenCell then rest else (a, c) :: rest)
    else (k, d) :: storeWrite rest a c

/-- The canonical form: addresses strictly rising and no cell equal to the unwritten cell. -/
def storeWf : StoreMemory → Bool
  | [] => true
  | [(_, c)] => c != unwrittenCell
  | (k, c) :: (k', c') :: rest => c != unwrittenCell && k < k' && storeWf ((k', c') :: rest)

/-! ## Channels and parity (R24) -/

/-- The value of channel `k` in a cell (R23). -/
def channel (v : CellValue) (k : Nat) : Byte := (v >>> (8 * k)).setWidth 8

/-- Whether a byte holds an odd number of ones. -/
def oddOnes (b : Byte) : Bool := (List.range 8).foldl (fun p i => p ^^ b.getLsbD i) false

/-- The parity bits of a cell's bytes, chosen so that each byte and its bit hold an odd number of ones (R24). -/
def parityOf (v : CellValue) : BitVec 8 :=
  BitVec.ofNat 8 (markSet ((List.range 8).map fun k => !oddOnes (channel v k)))

/-- A cell as the store port writes it (R24). -/
def freshCell (v : CellValue) : StoreCell := ⟨v, parityOf v⟩

/-- The cell after the damage that its SRAM bits have taken (log entry 8). -/
def damaged (c : StoreCell) (d : CellDamage) : StoreCell := ⟨c.bytes ^^^ d.bytes, c.parity ^^^ d.parity⟩

/-- The channels below `k` whose byte fails its parity check, as a mark set (R55, R56). -/
def badChannels (c : StoreCell) (k : Nat) : Byte :=
  BitVec.ofNat 8 (markSet ((List.range k).map fun i => !(oddOnes (channel c.bytes i) ^^ c.parity.getLsbD i)))

/-- The bytes of channels 0 to `k − 1`; bytes `k` to 7 are 0 (R44). -/
def keepChannels (v : CellValue) (k : Nat) : CellValue := v &&& BitVec.ofNat 64 (2 ^ (8 * k) - 1)

/-- An edit merged into a value: each channel marked takes the edit's value, each other keeps its own (R43). -/
def mergeEdit (v : CellValue) (e : Edit) : CellValue :=
  (List.range 8).foldl (fun acc k =>
    acc ||| ((if e.mask.getLsbD k then channel e.values k else channel v k).setWidth 64 <<< (8 * k))) 0

/-! ## Free extents (R25 to R27) -/

/-- First fit: the base cell, and the list with that extent shortened from its low end (R26). -/
def allocate (n : Nat) : List Extent → Option (Nat × List Extent)
  | [] => none
  | e :: rest =>
    if n ≤ e.len then some (e.base, if e.len = n then rest else ⟨e.base + n, e.len - n⟩ :: rest)
    else (allocate n rest).map fun r => (r.1, e :: r.2)

/-- An extent returned to the list, joined with the free extents it touches (R27). -/
def release (b n : Nat) : List Extent → List Extent
  | [] => [⟨b, n⟩]
  | e :: rest =>
    if b + n < e.base then ⟨b, n⟩ :: e :: rest
    else if b + n = e.base then ⟨b, n + e.len⟩ :: rest
    else if e.base + e.len = b then release e.base (e.len + n) rest
    else e :: release b n rest

/-! ## Profile and fabric records -/

/-- The record of a profile id from 1 to 16. -/
def profileOf (s : State) (id : Nat) : ProfileRecord := nth s.ps.records (id - 1) emptyRecord

/-- The record of a profile id changed. -/
def setProfile (id : Nat) (f : ProfileRecord → ProfileRecord) (s : State) : State :=
  { s with ps := { s.ps with records := modifyNth s.ps.records (id - 1) f } }

/-- The record of a fabric id from 1 to 8. -/
def fabricOf (s : State) (id : Nat) : FabricRecord := nth s.tc.fabrics (id - 1) ⟨none, 0⟩

/-- The record of a fabric id changed. -/
def setFabric (id : Nat) (f : FabricRecord → FabricRecord) (s : State) : State :=
  { s with tc := { s.tc with fabrics := modifyNth s.tc.fabrics (id - 1) f } }

/-- A fabric reference is taken (R138); id 0 names no fabric. -/
def takeFabric (id : Nat) (s : State) : State :=
  if id = 0 then s else setFabric id (fun r => { r with refs := r.refs + 1 }) s

/-- A fabric reference is released (R138). -/
def releaseFabric (id : Nat) (s : State) : State :=
  if id = 0 then s else setFabric id (fun r => { r with refs := r.refs - 1 }) s

/-! ## Node cache (R51 to R53) -/

/-- The line that holds a cell, if one does (R51). -/
def cacheHolds (s : State) (cell : Nat) : Option CellValue :=
  match nth s.nc.lines (cell % 256) none with
  | some l => if l.tag = cell / 256 then some l.value else none
  | none => none

/-- A fill writes the line for a cell (R52). -/
def cacheFill (cell : Nat) (v : CellValue) (s : State) : State :=
  { s with nc := { s.nc with lines := modifyNth s.nc.lines (cell % 256) (fun _ => some ⟨cell / 256, v⟩) } }

/-- A write to the store invalidates the line that holds the written cell; a line that holds another cell is left (R53). -/
def cacheInvalidate (cell : Nat) (s : State) : State :=
  if (cacheHolds s cell).isSome then
    { s with nc := { s.nc with lines := modifyNth s.nc.lines (cell % 256) (fun _ => none) } }
  else s

/-- A cell is written into the store with fresh parity, and the cache line that holds it is invalidated (R24, R53). -/
def writeCell (cell : Nat) (v : CellValue) (s : State) : State :=
  cacheInvalidate cell { s with ps := { s.ps with mem := storeWrite s.ps.mem cell (freshCell v) } }

/-- A cell is read: its damage stays in the SRAM (log entry 8). -/
def readCell (cell : Nat) (d : CellDamage) (s : State) : StoreCell × State :=
  let c := damaged (storeRead s.ps.mem cell) d
  (c, { s with ps := { s.ps with mem := storeWrite s.ps.mem cell c } })

/-! ## The store port arbiter (R39) -/

/-- The Print Engine is computing a line (R48). -/
def computing (s : State) : Bool :=
  match s.pe.job with
  | some j => j.comp.isSome
  | none => false

/-- Replace the arbiter. -/
def setArb (a : Arbiter) (s : State) : State := { s with ps := { s.ps with arb := a } }

/-- The shadow requester's own access holds the port. -/
def shadowAtPort (a : Arbiter) : Bool :=
  match a.busy with
  | some (.shadow _ live) => live
  | _ => false

/-- The loader's own access holds the port. -/
def loaderAtPort (a : Arbiter) : Bool :=
  match a.busy with
  | some (.loader _ live) => live
  | _ => false

/-- What the shadow requester asks for when it holds no request: the drain of the oldest VISIBLE entry, else the creation read an
edit waits for (R49). -/
def nextShadowRequest (s : State) : Option ShadowRequest :=
  match s.spb.entries.find? (·.visible) with
  | some e => some (.drain e.id e.cell e.value)
  | none =>
    match s.spb.patch with
    | some p =>
      match p.creating, p.edits[p.cursor]?, (profileOf s p.id).header with
      | true, some e, some h => some (.creation p.id e.node (h.base + e.node) h.channels)
      | _, _, _ => none
    | none => none

/-- The shadow requester makes its request, if it holds none (R49). -/
def requestShadow (s : State) : State :=
  if s.ps.arb.shadowReq.isSome || shadowAtPort s.ps.arb then s
  else setArb { s.ps.arb with shadowReq := nextShadowRequest s } s

/-- The loader asks for the write of its next record, if it holds no request (R29). -/
def requestLoad (s : State) : State :=
  if s.ps.arb.loaderReq.isSome || loaderAtPort s.ps.arb then s
  else
    match s.ps.loader with
    | none => s
    | some j =>
      match j.buffer, (profileOf s j.id).header with
      | v :: _, some h => setArb { s.ps.arb with loaderReq := some ⟨j.id, h.base + j.cursor, v⟩ } s
      | _, _ => s

/-- The arbiter grants the free port by the order of R39. -/
def grant (a : Arbiter) : Arbiter :=
  match a.busy with
  | some _ => a
  | none =>
    match a.shadowReq, a.loaderReq, a.fillReq, a.shadowCredit, a.loaderCredit with
    | some r, _, _, true, _ => { a with busy := some (.shadow r true), shadowReq := none, shadowCredit := false }
    | _, some r, _, _, true => { a with busy := some (.loader r true), loaderReq := none, loaderCredit := false }
    | _, _, some r, _, _ => { a with busy := some (.fill r true), fillReq := none }
    | some r, _, none, _, _ => { a with busy := some (.shadow r true), shadowReq := none }
    | none, some r, none, _, _ => { a with busy := some (.loader r true), loaderReq := none }
    | none, none, none, _, _ => a

/-- The requesters make their requests, and the port is granted if it is free (R39, R49). -/
def pumpPort (s : State) : State :=
  let s := requestLoad (requestShadow s)
  setArb (grant s.ps.arb) s

/-- The access at the port completes and the port is free. -/
def portDone (s : State) : State := setArb { s.ps.arb with busy := none } s

/-! ## Visibility (R48) -/

/-- The versions of the profiles named rise by one each. -/
def bumpVersions (ids : List Nat) (s : State) : State :=
  ids.foldl (fun s id => setProfile id (fun r => { r with version := r.version + 1 }) s) s

/-- A visibility step: every PENDING entry becomes VISIBLE, and the version of each profile that has one rises by one (R48). -/
def visibilityStep (s : State) : State :=
  let ids := ((s.spb.entries.filter (fun e => !e.visible)).map (·.id)).eraseDups
  bumpVersions ids { s with spb := { s.spb with entries := s.spb.entries.map (fun e => { e with visible := true }) } }

/-- The damage count rises by one and holds at 255 (R55). A record that has no profile keeps its 0, and one that another profile has been
loaded into since the read was granted counts it (log entry 19). -/
def ProfileRecord.hurt (r : ProfileRecord) : ProfileRecord :=
  { r with damage := if r.header.isSome then min 255 (r.damage + 1) else r.damage }

/-- A parity error in a cell of a profile: its damage count rises, and a PARITY fault is queued (R55, R56). -/
def parityError (id node cell : Nat) (src : ParitySource) (marks : Byte) (s : State) : State :=
  offerFault (.parity id node cell src marks) (setProfile id ProfileRecord.hurt s)

/-! ## Freeing a record (R32, R46) -/

/-- A drain write of one of the profile's entries has been granted and has not completed. -/
def drainGranted (s : State) (id : Nat) : Bool :=
  match s.ps.arb.busy with
  | some (.shadow (.drain i _ _) true) => i == id
  | _ => false

/-- A loader write for the profile has been granted and has not completed. -/
def loadWriteGranted (s : State) (id : Nat) : Bool :=
  match s.ps.arb.busy with
  | some (.loader r _) => r.id == id
  | _ => false

/-- The freeing proper: the extent returns to the free list, the record becomes EMPTY, PROFILE_FREED is raised (R32). -/
def completeFree (id : Nat) (s : State) : State :=
  match (profileOf s id).header with
  | none => s
  | some h =>
    let s := { s with ps := { s.ps with free := release h.base h.nodes s.ps.free } }
    raiseEvent .profileFreed (setProfile id (fun _ => emptyRecord) s)

/-- The shadow requester's request is for the profile. -/
def requestFor (id : Nat) : ShadowRequest → Bool
  | .creation i _ _ _ => i == id
  | .drain i _ _ => i == id

/-- The access at the port, with a creation read of the profile no longer wanted (R46). -/
def dropCreation (id : Nat) : Option PortAccess → Option PortAccess
  | some (.shadow (.creation i node cell k) live) => some (.shadow (.creation i node cell k) (live && i != id))
  | a => a

/-- The Shadow Patch Buffer discards the profile's entries, except one whose drain write has been granted, and withdraws its request
for the profile (R32, R46, R49; log entry 20). -/
def discardEntries (id : Nat) (s : State) : State :=
  let keep := fun (e : ShadowEntry) => e.id != id ||
    (match s.ps.arb.busy with
     | some (.shadow (.drain _ cell _) true) => e.cell == cell
     | _ => false)
  let s' := { s with spb := { s.spb with entries := s.spb.entries.filter keep } }
  let s' := setArb { s.ps.arb with
    shadowReq := s.ps.arb.shadowReq.filter (fun r => !requestFor id r), busy := dropCreation id s.ps.arb.busy } s'
  if s.spb.entries.length = s'.spb.entries.length then s' else offerTo .patch s'

/-- A PATCH card that is applying edits to the profile fails NOT_READY with the edits applied (R46). -/
def failPatchOf (id : Nat) (s : State) : State :=
  match s.spb.patch with
  | none => s
  | some p =>
    if p.id == id && p.phase != .reading then
      failCurrent .notReady [(128, le 2 p.cursor)] { s with spb := { s.spb with patch := none } }
    else s

/-- A record is freed (R32): at once, or marked to wait for a granted write of the profile to complete. A PATCH card that fails by the
freeing is written before the record is EMPTY and PROFILE_FREED raised (R46; log entry 61). -/
def freeRecord (id : Nat) (s : State) : State :=
  let s := failPatchOf id (discardEntries id s)
  let s :=
    if drainGranted s id || loadWriteGranted s id then setProfile id (fun r => { r with freeing := true }) s
    else completeFree id s
  pumpPort s

/-- A profile reference is released; the last one of a RETIRING record frees it (R37). -/
def releaseProfile (id : Nat) (s : State) : State :=
  let s := setProfile id (fun r => { r with refs := r.refs - 1 }) s
  let r := profileOf s id
  if r.state == .retiring && r.refs == 0 then freeRecord id s else s

/-- The record as PRINT, DROP and PATCH cards see it: one whose freeing waits counts as EMPTY (R32). -/
def stateSeen (r : ProfileRecord) : ProfileState := if r.freeing then .empty else r.state

end Sys2Proof.Machine
end

