-- ==== Sys2Proof/Machine/Strip.lean ====
section
/-! DEFINITION. A strip from plan to final report: length compensation (R67), plan dose, gain and speed window (R83 to R87), the
Transit Map's entries (R3 to R17), judgement (R92, R93), and the results of a PRINT card (R79, R179). -/

namespace Sys2Proof.Machine

/-! ## Geometry and entries -/

/-- Nip offset in µm (chapter 1, PAPER COORDINATES). -/
def nipOffset (c : Settings) : Nat := c.lPn * 1000

/-- Exit offset in µm (chapter 1, PAPER COORDINATES). -/
def exitOffset (c : Settings) : Nat := (c.lPn + c.lW) * 1000

/-- Pitch of the last SETUP, 1 while SETUP-valid is clear (no strip exists then). -/
def pitchOf (s : State) : Nat := (s.setup.map (·.pitch)).getD 1

/-- The end of an entry's extent: its end coordinate, or its start plus its planned extent before print end (R3). -/
def extentEnd (g : Segment) : Nat := g.endAt.getD (g.start + g.planned)

/-- The SEGMENT entry with that start coordinate changed. -/
def updateSeg (start : Nat) (f : Segment → Segment) (s : State) : State :=
  { s with tmap := { s.tmap with segs := s.tmap.segs.map (fun g => if g.start = start then f g else g) } }

/-- The SEGMENT entry with a start coordinate. -/
def segAt (s : State) (start : Nat) : Option Segment := s.tmap.segs.find? (fun g => g.start == start)

/-- A spoil reason is recorded unless one stands (R15). -/
def spoilSeg (r : SpoilReason) (g : Segment) : Segment := { g with spoil := g.spoil.or (some r) }

/-! ## Milestones (R6) -/

/-- The milestones of position (R6). -/
inductive Milestone where
  | leadNip | trailNip | leadExit | trailExit
  deriving DecidableEq, Repr

/-- The threshold of a milestone of an entry, once it is defined and while its mark is not set (R6). -/
def threshold (c : Settings) (g : Segment) : Milestone → Option Nat
  | .leadNip => if g.leadNip then none else some (g.start + nipOffset c)
  | .leadExit => if g.leadExit then none else some (g.start + exitOffset c)
  | .trailNip => if g.trailNip then none else g.endAt.map (· + nipOffset c)
  | .trailExit => g.endAt.map (· + exitOffset c)

/-- A milestone of an entry may be taken: pos has reached its threshold, and no milestone of the entry with a lower threshold is
untaken; at equal thresholds lead at nip precedes lead exit, and trail at nip trail exit (R6). -/
def mayTake (c : Settings) (pos : Nat) (g : Segment) (m : Milestone) : Bool :=
  match threshold c g m with
  | none => false
  | some t =>
    t ≤ pos &&
      ([Milestone.leadNip, .trailNip, .leadExit, .trailExit].all fun m' =>
        match threshold c g m' with
        | none => true
        | some t' => t ≤ t') &&
      !(m == .leadExit && !g.leadNip) && !(m == .trailExit && !g.trailNip)

/-- The entry of which a milestone is taken next: the first in list order of which it may be taken (R6: in ascending order of
threshold); a trail exit is the first entry's alone, since trail exits come in list order (R10). -/
def nextFor (s : State) (m : Milestone) : Option Segment :=
  match s.setup with
  | none => none
  | some c => (if m = .trailExit then s.tmap.segs.take 1 else s.tmap.segs).find? (fun g => mayTake c s.web.pos g m)

/-! ## Length compensation (R67) -/

/-- Rounded-up quotient. -/
def ceilDiv (a b : Nat) : Nat := (a + (b - 1)) / b

/-- The step for a stretch (R67). -/
def stepOf (eps : Nat) : Nat := 2 ^ 20 * 1000000 / (1000000 + eps)

/-- The output line count for a source line count and a step (R67). -/
def linesOut (source step : Nat) : Nat := ceilDiv (source * 2 ^ 20) step

/-- The stretch of a card (R67, R139). -/
def stretchOf (s : State) (q : QueuedPrint) : Nat :=
  if q.fabricId = 0 then 0
  else
    match (fabricOf s q.fabricId).figures with
    | some f => min 50000 (f.cs * q.tPlan)
    | none => 0

/-- The output line that is computed from a source line (R68). -/
def sourceLine (acc : Nat) : Nat := acc / 2 ^ 20

/-! ## The plan (R83 to R87) -/

/-- Plan dose of a zone (R84). -/
def planDose (sp tOnset lW v : Nat) : Nat := (sp - tOnset) * lW * 10 / v

/-- Gain of a zone (R85). -/
def gainOf (h : ProfileHeader) (d : Nat) : Nat :=
  if d = 0 then h.gMax else max h.gMin (min h.gMax ((h.dRef * 4096 + d / 2) / d))

/-- Lower end of a speed window (R87). -/
def windowLo (v tol : Nat) : Nat := max vMin (ceilDiv (v * 100) (100 + tol))

/-- Upper end of a speed window (R87). -/
def windowHi (v tol vMax : Nat) : Nat := min vMax (v * 100 / (100 - tol))

/-- The setpoints of the zones in use. -/
def setpoints (s : State) : List Nat := (s.hc.zones.take (zonesInUse s)).map (·.sp)

/-- The plan doses of the zones in use for a profile (R84). -/
def planDoses (s : State) (c : Settings) (h : ProfileHeader) : List Nat :=
  (setpoints s).map fun sp => planDose sp h.tOnset c.lW s.wd.running

/-- The SEGMENT entry that a print start creates (R4, R65, R83). -/
def newSegment (s : State) (c : Settings) (h : ProfileHeader) (q : QueuedPrint) (start : Nat) : Segment where
  card := some q.card
  tag := q.card.tag
  start := start
  endAt := none
  planned := linesOut q.lines (stepOf (stretchOf s q)) * c.pitch
  profileId := q.profileId
  fabricId := if q.fabricId = 0 then none else some q.fabricId
  vPlan := s.wd.running
  lo := windowLo s.wd.running h.tol
  hi := windowHi s.wd.running h.tol c.vMax
  tOnset := h.tOnset
  tol := h.tol
  tPlan := if q.fabricId = 0 then none else some q.tPlan
  eps := stretchOf s q
  gains := (planDoses s c h).map (gainOf h)
  dPlan := planDoses s c h
  off := (planDoses s c h).map (· == 0)
  dLead := (planDoses s c h).map fun _ => 0
  dTrail := (planDoses s c h).map fun _ => 0
  emitted := 0
  late := 0
  firstVersion := none
  lastVersion := none
  tensionMax := 0
  runCount := 0
  flags := ⟨false, false, false, false, false, false, false⟩
  spoil := none
  leadNip := false
  trailNip := false
  leadExit := false

/-! ## Judgement (R92, R93) -/

/-- A deviation in units of 0.1 %, clamped (R92). -/
def deviation (delivered planned : Nat) : Int :=
  clampInt ((((delivered : Int) - planned) * 1000).tdiv planned) (-32767) 32767

/-- The deviations of the judged zones, each with its zone: zones not in the OFF-zone mask (R92). -/
def deviations (delivered planned : List Nat) (off : List Bool) : List (Nat × Int) :=
  ((List.range planned.length).filter fun z => !nth off z true).map fun z => (z, deviation (nth delivered z 0) (nth planned z 0))

/-- The worst deviation: the greatest magnitude, the lower zone on a tie (R93). -/
def worst (l : List (Nat × Int)) : Option (Nat × Int) :=
  l.foldl (fun acc d =>
    match acc with
    | none => some d
    | some w => if w.2.natAbs < d.2.natAbs then some d else some w) none

/-- The worst lead and trail deviations of an entry (R93). -/
def judged (g : Segment) : Option (Nat × Int) × Option (Nat × Int) :=
  (worst (deviations g.dLead g.dPlan g.off), worst (deviations g.dTrail g.dPlan g.off))

/-- The entry after the judgement: OFF_DOSE is set if a deviation's magnitude exceeds the tolerance (R93). -/
def judgeSeg (g : Segment) : Segment :=
  let exceeds := (deviations g.dLead g.dPlan g.off ++ deviations g.dTrail g.dPlan g.off).any fun d => g.tol * 10 < d.2.natAbs
  { g with flags := { g.flags with offDose := g.flags.offDose || exceeds } }

/-! ## Results of a PRINT card (chapter 12) -/

/-- Eight fields of `n` bytes, one for each zone, absent where the entry holds no member (R178). -/
def zoneFields (n : Nat) (l : List Nat) : List Byte := (List.range 8).flatMap fun z => leOpt n l[z]?

/-- A version in the results, absent where no line of the strip was ever computed (R178). -/
def versionField (v : Option (BitVec 16)) : List Byte := leOpt 2 (v.map (·.toNat))

/-- The common fields of the results (chapter 12). The OFF-zone mask has no mark for a zone at or beyond Z (log entry 27). -/
def commonFields (pitch : Nat) (g : Segment) : List (Nat × List Byte) := [
  (128, le 6 g.start), (134, leOpt 3 (g.endAt.map fun e => (e - g.start) / pitch)), (188, le 1 (markSet g.off)),
  (189, le 3 g.emitted), (192, le 2 (min 65535 g.late)), (194, versionField g.firstVersion), (196, versionField g.lastVersion),
  (198, le 1 g.flags.byte), (199, [(g.spoil.map (·.code)).getD 0])]

/-- The first-stage fields of the results (R79, chapter 12). -/
def firstFields (pitch : Nat) (g : Segment) : List (Nat × List Byte) := [
  (137, le 3 (g.planned / pitch)), (140, le 2 (2 ^ 20 - stepOf g.eps)), (142, le 2 g.eps), (144, le 2 g.vPlan),
  (146, le 1 (g.vPlan - g.lo)), (147, le 1 (g.hi - g.vPlan)), (148, zoneFields 2 g.gains), (164, zoneFields 3 g.dPlan)]

/-- A worst deviation's field: −32768 where absent (R178). -/
def deviationField (w : Option (Nat × Int)) : List Byte := leInt 2 ((w.map (·.2)).getD (-32768))

/-- The second-stage fields of the results, with the worst deviations if the entry was judged (R9, R16, chapter 12). -/
def secondFields (g : Segment) (w : Option (Nat × Int) × Option (Nat × Int)) : List (Nat × List Byte) := [
  (200, zoneFields 3 (g.dLead.map (min 16777215))), (224, zoneFields 3 (g.dTrail.map (min 16777215))),
  (248, deviationField w.1), (250, deviationField w.2),
  (252, le 1 ((w.1.map (·.1)).getD 15 + 16 * (w.2.map (·.1)).getD 15)), (253, le 2 g.tensionMax)]

/-- Cells of fields of a card at an address. -/
def fieldCells (addr : Nat) (fields : List (Nat × List Byte)) : List Host.Cell :=
  fields.flatMap fun f => cellsAt (addr + f.1) f.2

/-- Bytes 200 to 255, the second-stage fields, as one run (R179). -/
def secondBytes (g : Segment) (w : Option (Nat × Int) × Option (Nat × Int)) : List Byte :=
  area 56 ((secondFields g w).map fun f => (f.1 - 200, f.2))

/-- The PRINTED write: bytes 128 to 199, then the header; a card that can no longer be reached is not written (R79, R179). -/
def writePrinted (g : Segment) (s : State) : State :=
  match g.card with
  | none => s
  | some c =>
    let fields := (commonFields (pitchOf s) g ++ firstFields (pitchOf s) g).map fun f => (f.1 - 128, f.2)
    writeHeader c.addr .printed .ok (postWrite (cellsAt (c.addr + 128) (area 72 fields)) s)

/-- The final results of a strip: the common fields again and bytes 200 to 255; for a card never written PRINTED, bytes 128 to 255
whole (R179). -/
def writeStripResults (c : CardRef) (g : Segment) (w : Option (Nat × Int) × Option (Nat × Int)) (s : State) : State :=
  let p := pitchOf s
  match g.endAt with
  | some _ =>
    postWrite (cellsAt (c.addr + 200) (secondBytes g w)) (postWrite (fieldCells c.addr (commonFields p g)) s)
  | none =>
    let fields := (commonFields p g ++ firstFields p g ++ secondFields g w).map fun f => (f.1 - 128, f.2)
    postWrite (cellsAt (c.addr + 128) (area 128 fields)) s

/-- The final report of an entry: results, then TRANSFERRED or, with a spoil reason, SPOILED; nothing for an ORPHAN (R9, R15,
R16, R17). -/
def reportStrip (g : Segment) (w : Option (Nat × Int) × Option (Nat × Int)) (s : State) : State :=
  match g.card with
  | none => s
  | some c => finishCard c (if g.spoil.isSome then .spoiled else .transferred) .ok (writeStripResults c g w s)

/-- An entry leaves the map: it releases its fabric reference, and SEGMENT_DONE is raised (R10, R16). -/
def removeSeg (g : Segment) (s : State) : State :=
  let s := { s with tmap := { s.tmap with segs := s.tmap.segs.filter (fun h => h.start != g.start) } }
  raiseEvent .segmentDone (releaseFabric (g.fabricId.getD 0) s)

/-! ## Joints (R11, R13) -/

/-- The least coordinate from `c` on that no entry holds. -/
def freeCoordinate (taken : List Nat) : Nat → Nat → Nat
  | 0, c => c
  | n + 1, c => if taken.contains c then freeCoordinate taken n (c + 1) else c

/-- A JOINT entry placed in coordinate order. -/
def insertJoint (j : Joint) : List Joint → List Joint
  | [] => [j]
  | k :: rest => if j.at_ < k.at_ then j :: k :: rest else k :: insertJoint j rest

/-- The coordinate a new joint takes (R11). -/
def jointCoordinate (m : TransitMap) (c : Nat) : Nat :=
  let taken := m.joints.map (·.at_) ++ m.segs.map (·.start)
  if (m.joints.map (·.at_)).contains c then freeCoordinate taken (taken.length + 1) c else c

/-- A printing entry whose planned extent holds the joint is spoiled (R13). -/
def spoilByJoint (j : Nat) (g : Segment) : Segment :=
  if g.endAt.isNone && g.start ≤ j && j < g.start + g.planned then spoilSeg .joint g else g

/-- A JOINT entry is inserted, unless 2 are present (R11, R13). -/
def addJoint (c : Nat) (s : State) : State :=
  if s.tmap.joints.length ≥ 2 then s
  else
    let j := jointCoordinate s.tmap c
    { s with tmap := ⟨s.tmap.segs.map (spoilByJoint j), insertJoint ⟨j, false⟩ s.tmap.joints⟩ }

end Sys2Proof.Machine
end

