-- ==== Sys2Proof/Machine/Job.lean ====
section
/-! DEFINITION. The Print Engine's shared operations: the start test (R63, R64), cards failing in the queue (R62), the raster fetch
window (R70), print end and job end (R78, R79), and the abandonment of a computation (R48). -/

namespace Sys2Proof.Machine

/-! ## The start test -/

/-- Bars 0 to H − 1 satisfy a condition. -/
def barsInUse (s : State) (p : Bar → Bool) : Bool := (s.pe.bars.take ((s.setup.map (·.bars)).getD 0)).all p

/-- The unmet ones of the four conditions of R64 for a card. -/
def unmetConditions (s : State) (q : QueuedPrint) : HoldReason where
  drive := s.wd.state != .running
  profile := !(stateSeen (profileOf s q.profileId) == .ready || stateSeen (profileOf s q.profileId) == .retiring)
  zones := !zonesCondition s
  bars := !barsInUse s (·.ready)
  room := false
  clearance := false

/-- The start coordinate that the map fixes (R4). -/
def startCoordinate (s : State) : Nat :=
  match s.tmap.segs.getLast? with
  | some g => max s.web.pos (extentEnd g)
  | none => s.web.pos

/-- A JOINT stands in the way of a planned extent (R4, CLEARANCE). -/
def clearanceBlocked (s : State) (c : Settings) (start planned : Nat) : Bool :=
  s.tmap.joints.any fun j => start ≤ j.at_ && j.at_ < start + planned + c.jointGap * 1000

/-- What a start test for a card answers: the hold reason found, or none where the print can start (R63, R64, R4). -/
def startTest (s : State) (q : QueuedPrint) : Option HoldReason :=
  let u := unmetConditions s q
  if u != HoldReason.none then some u
  else
    match s.setup with
    | none => some { HoldReason.none with drive := true }
    | some c =>
      if s.tmap.segs.length ≥ 62 then some { HoldReason.none with room := true }
      else if clearanceBlocked s c (startCoordinate s) (linesOut q.lines (stepOf (stretchOf s q)) * c.pitch) then
        some { HoldReason.none with clearance := true }
      else none

/-- Set the hold reason. -/
def setHold (h : Option HoldReason) (s : State) : State := { s with pe := { s.pe with hold := h } }

/-- What the first start test of a NO_WAIT card found unmet, once that test has been made (R66). -/
def firstVerdict (s : State) (q : QueuedPrint) : Option HoldReason :=
  match s.pe.firstTest with
  | some (take, h) => if take = q.card.take then some h else none
  | none => none

/-- The first start test of a NO_WAIT card has found conditions unmet; a later test does not judge it again (R66). -/
def noteFirst (q : QueuedPrint) (h : HoldReason) (s : State) : State :=
  if (firstVerdict s q).isSome then s else { s with pe := { s.pe with firstTest := some (q.card.take, h) } }

/-- What decides a card at the head: for a NO_WAIT card the verdict of its first start test where one was found unmet, and otherwise a
start test made now (R63, R66). -/
def judgement (s : State) (q : QueuedPrint) : Option HoldReason :=
  if q.noWait then (firstVerdict s q).or (startTest s q) else startTest s q

/-- An event that can change a start condition reaches the start test (R63): a card that cannot start has its hold reason recorded or,
with NO_WAIT, the verdict of its first test. The step that starts the print or fails a NO_WAIT card is PRINT_START, and until it comes a
test that finds nothing unmet leaves the earlier hold reason (log entry 26). -/
def touchStart (s : State) : State :=
  match s.pe.state, s.pe.queue with
  | .idle, q :: _ =>
    match startTest s q with
    | some h => if q.noWait then noteFirst q h s else setHold (some h) s
    | none => s
  | _, _ => setHold none s

/-! ## Cards in the queue -/

/-- A card fails in the queue: it leaves, releases its profile and fabric references, and is written FAILED, in that order (R62; log entry
61). -/
def failQueued (rc : ResultCode) (fields : List (Nat × List Byte)) (q : QueuedPrint) (s : State) : State :=
  let s := { s with pe := { s.pe with queue := s.pe.queue.filter (fun r => r.card.take != q.card.take), hold := none } }
  let s := releaseFabric q.fabricId (releaseProfile q.profileId s)
  offerTo .print (finalWrite q.card fields .failed rc s)

/-- Every queued card that names a profile fails UNKNOWN_PROFILE (R35), head first (log entry 61). -/
def failQueuedOf (id : Nat) (s : State) : State :=
  (s.pe.queue.filter (fun q => q.profileId == id)).foldl (fun s q => failQueued .unknownProfile [] q s) s

/-! ## The raster fetch window (R70) -/

/-- The job changed. -/
def setJob (f : PrintJob → PrintJob) (s : State) : State := { s with pe := { s.pe with job := s.pe.job.map f } }

/-- The lowest source line the job needs (R70). -/
def lowestNeeded (j : PrintJob) : Nat := sourceLine j.acc

/-- The source line the engine reads next, if it reads one: the window then holds fewer than 4 lines and the line is below S (R70). -/
def nextRaster (j : PrintJob) : Option Nat :=
  let next :=
    match j.window.getLast? with
    | some l => l.1 + 1
    | none => lowestNeeded j
  if j.window.length < 4 && next < j.card.lines then some next else none

/-- Lines below the lowest needed leave the window (R70). -/
def trimWindow (j : PrintJob) : PrintJob := { j with window := j.window.filter (fun l => lowestNeeded j ≤ l.1) }

/-- The window is trimmed, and the next read is issued if none is in flight and the print has not ended (R70). -/
def fetchRaster (s : State) : State :=
  let s := setJob trimWindow s
  match s.pe.job, s.pe.read, s.pe.state with
  | some j, none, .printing =>
    match nextRaster j with
    | some line =>
      emit (.hostRead (j.card.raster + line * j.card.stride) (3 * j.card.width))
        { s with pe := { s.pe with read := some ⟨line, true⟩ } }
    | none => s
  | _, _, _ => s

/-- The line cursor moves to a line, with the accumulator (R68, R72). -/
def moveCursor (line : Nat) (j : PrintJob) : PrintJob := { j with cursor := line, acc := line * j.step }

/-! ## Ends -/

/-- The running computation is abandoned: its fill is no longer wanted, and every PENDING entry becomes VISIBLE (R48, R80). -/
def abandonLine (s : State) : State :=
  if computing s then
    let a := s.ps.arb
    let busy :=
      match a.busy with
      | some (.fill r _) => some (PortAccess.fill r false)
      | b => b
    let s := setArb { a with fillReq := none, busy := busy } (setJob (fun j => { j with comp := none }) s)
    pumpPort (visibilityStep s)
  else s

/-- The job ends: the buffer and the window are emptied, a read in flight will be discarded, the profile reference is released, and
the engine becomes IDLE (R78, R70). -/
def endJob (s : State) : State :=
  match s.pe.job with
  | none => { s with pe := { s.pe with state := .idle } }
  | some j =>
    let s := { s with pe := { s.pe with
      job := none, state := .idle, read := s.pe.read.map (fun r => { r with live := false }) } }
    releaseProfile j.card.profileId s

/-- Print end: the map sets the end coordinate from the lines that fell due, which is the mark PRINT_END (R5). -/
def setPrintEnd (s : State) : State :=
  match s.pe.job with
  | none => s
  | some j => updateSeg j.start (fun g => { g with endAt := some (g.start + max 1 j.fallen * pitchOf s) }) s

/-- Print end with the card written PRINTED (R78, R79). -/
def endPrint (s : State) : State :=
  let s := setPrintEnd s
  match s.pe.job with
  | none => s
  | some j =>
    match segAt s j.start with
    | some g => writePrinted g s
    | none => s

end Sys2Proof.Machine
end

