-- ==== Sys2Proof/Machine/Line.lean ====
section
/-! DEFINITION. What the line's units share: axes and drive link frames (R130, R134, R121), heater cuts (R104), splices (R145 to
R152), and the halt of the line with everything it is handed to (R122 to R124). -/

namespace Sys2Proof.Machine

/-! ## Axes and the drive link -/

/-- Place of an axis in the order PU, FU, PR, FR. -/
def Axis.place : Axis → Nat
  | .pu => 0 | .fu => 1 | .pr => 2 | .fr => 3

/-- The axis of an unwind. -/
def unwindAxis : Unwind → Axis
  | .pu => .pu | .fu => .fu

/-- The record of an axis. -/
def axisOf (s : State) (a : Axis) : AxisRecord := nth s.tc.axes a.place resetAxis

/-- Every axis record changed. -/
def mapAxes (f : AxisRecord → AxisRecord) (s : State) : State := { s with tc := { s.tc with axes := s.tc.axes.map f } }

/-- One axis record changed. -/
def setAxis (a : Axis) (f : AxisRecord → AxisRecord) (s : State) : State :=
  { s with tc := { s.tc with axes := modifyNth s.tc.axes a.place f } }

/-- A drive link frame carries the running speed and the four torques as they stand (R121, R134). -/
def sendFrame (s : State) : State := emit (.driveFrame s.wd.running (s.tc.axes.map (·.torque))) s

/-- An axis taken OFF by a halt: torque and integral 0 (R130). -/
def axisOff (a : AxisRecord) : AxisRecord := { a with state := .off, torque := 0, integ := 0 }

/-- An axis made ACTIVE by CLEAR, with its integral at 0 (R130). -/
def axisActivate (a : AxisRecord) : AxisRecord := { a with state := .active, integ := 0 }

/-! ## Heater cuts (R104) -/

/-- A zone enters OFF, FAULT or TRIPPED: its duty, integral, on-time and band counts become 0 and its output turns off at once
(R101, R104). -/
def cutZone (st : ZoneState) (z : Zone) : Zone :=
  { z with state := st, integ := 0, duty := 0, onTime := 0, heater := false, settle := 0, out := 0 }

/-- A zone under the idle cap, when the window has run for some ms (R104). -/
def capZone (cap elapsed : Nat) (z : Zone) : Zone :=
  { z with duty := min z.duty cap, onTime := min z.onTime cap, heater := z.heater && elapsed < min z.onTime cap }

/-- Idle cap of the last SETUP. -/
def idleCapOf (s : State) : Nat := (s.setup.map (·.idleCap)).getD 0

/-- The Web Drive reports a running speed of 0 to the Heat Controller (R104). -/
def reportStopped (s : State) : State :=
  { s with hc := { s.hc with zones := s.hc.zones.map (capZone (idleCapOf s) (s.clock - s.hc.windowStart)) } }

/-! ## Splices (chapter 9) -/

/-- The splice record of an unwind. -/
def spliceOf (s : State) : Unwind → SpliceRecord
  | .pu => s.rc.pu
  | .fu => s.rc.fu

/-- The splice record of an unwind changed. -/
def setSplice (a : Unwind) (f : SpliceRecord → SpliceRecord) (s : State) : State :=
  match a with
  | .pu => { s with rc := { s.rc with pu := f s.rc.pu } }
  | .fu => { s with rc := { s.rc with fu := f s.rc.fu } }

/-- Joint room: fewer than 2 JOINT entries for PU, fewer than 2 fabric joints for FU (R145). -/
def jointRoom (s : State) : Unwind → Bool
  | .pu => s.tmap.joints.length < 2
  | .fu => s.rc.joints.length < 2

/-- The axis of an unwind is ACTIVE at the Tension Controller. -/
def unwindActive (s : State) (a : Unwind) : Bool := (axisOf s (unwindAxis a)).state == .active

/-- A splice may begin (R145). -/
def spliceMayBegin (s : State) (a : Unwind) : Bool :=
  unwindActive s a && (spliceOf s a).state == .idle && jointRoom s a

/-- A splice begins (R145, R148): the request output is asserted and the splice timeout set. Its handover limit is the one of the SETUP
that stands now, since a later SETUP changes it for later splices (R149). -/
def beginSplice (a : Unwind) (cause : SpliceCause) (card : Option CardRef) (s : State) : State :=
  raiseEvent .spliceActive (setSplice a (fun r => { r with
    state := .wait, cause := some cause, card := card, pending := none, request := true, phaseStart := s.clock,
    limit := ((s.setup.map (·.spliceTimeout)).getD 0) * 1000, waited := 0,
    handover := ((s.setup.map (·.handoverLimit)).getD 0) * 1000 }) s)

/-- A pending request is tried again (R147). -/
def tryPending (a : Unwind) (s : State) : State :=
  match (spliceOf s a).pending with
  | some cause => if spliceMayBegin s a then beginSplice a cause none s else s
  | none => s

/-- An automatic request (R147): absorbed by a splice in progress, begun, or kept pending. -/
def autoRequest (a : Unwind) (cause : SpliceCause) (s : State) : State :=
  let s := if cause == .count then setSplice a (fun r => { r with fired := true, countDue := false }) s else s
  if (spliceOf s a).state != .idle then s
  else if spliceMayBegin s a then beginSplice a cause none s
  else setSplice a (fun r => { r with pending := some cause }) s

/-- Roll counter of an unwind. -/
def rollCounter (s : State) : Unwind → Counter
  | .pu => s.ka.pu
  | .fu => s.ka.fu

/-- Whether the roll counter of an unwind is valid. -/
def rollValid (s : State) : Unwind → Bool
  | .pu => s.ka.puValid
  | .fu => s.ka.fuValid

/-- Roll length of an unwind by the last SETUP; 0 asks for no splice by count (R153). -/
def rollLength (s : State) : Unwind → Nat
  | .pu => (s.setup.map (·.puRoll)).getD 0
  | .fu => (s.setup.map (·.fuRoll)).getD 0

/-- The roll counter asks for a splice: valid, at or past a roll length above 0, and the fired mark clear (R147). -/
def countAsks (s : State) (a : Unwind) : Bool :=
  rollValid s a && 0 < rollLength s a && rollLength s a ≤ (rollCounter s a).metres && !(spliceOf s a).fired

/-- The roll counter is tested, at an increment or a SETUP completion (R147); its request is the step ROLL_COUNT_REQUEST. -/
def testCount (a : Unwind) (s : State) : State :=
  if countAsks s a then setSplice a (fun r => { r with countDue := true }) s else s

/-- A counter advanced by travel in µm, holding at its top (R153; log entry 36). -/
def advanceCounter (travel : Nat) (c : Counter) : Counter :=
  ⟨min 4294967295 (c.metres + (c.residue + travel) / 1000000), (c.residue + travel) % 1000000⟩

/-- The roll counter of an unwind is cleared and valid (R150). -/
def clearCounter (a : Unwind) (s : State) : State :=
  match a with
  | .pu => { s with ka := { s.ka with pu := ⟨0, 0⟩, puValid := true } }
  | .fu => { s with ka := { s.ka with fu := ⟨0, 0⟩, fuValid := true } }

/-- The splice record returns to IDLE (R145). -/
def spliceIdle (r : SpliceRecord) : SpliceRecord := { r with state := .idle, cause := none, card := none, request := false }

/-- A fabric joint placed in the list by its due position, behind the joints due no later (log entry 50). -/
def insertDue (j : FabricJoint) : List FabricJoint → List FabricJoint
  | [] => [j]
  | k :: rest => if j.due < k.due then j :: k :: rest else k :: insertDue j rest

/-- The joint of a completed splice is made: a JOINT entry for PU, a fabric joint for FU; its coordinate or due position (R150). -/
def makeJoint (a : Unwind) (s : State) : Nat × State :=
  match a with
  | .pu =>
    let c := s.web.pos + ((s.setup.map (·.lUp)).getD 0) * 1000
    (jointCoordinate s.tmap c, addJoint c s)
  | .fu =>
    let d := s.web.pos + ((s.setup.map (·.lFn)).getD 0) * 1000
    (d, { s with rc := { s.rc with joints := insertDue ⟨d, false⟩ s.rc.joints } })

/-- A splice completes (R149, R150): the handover ends, the joint is made, the counter is cleared and valid, and a card splice is
DONE. -/
def completeSplice (a : Unwind) (s : State) : State :=
  let r := spliceOf s a
  let metres := (rollCounter s a).metres
  let valid := rollValid s a
  let s := setAxis (unwindAxis a) (fun x => if x.state == .handedOver then { x with state := .active } else x) s
  let (at_, s) := makeJoint a s
  let s := clearCounter a s
  let s := setSplice a (fun r => { spliceIdle r with pending := none, fired := false, countDue := false }) s
  match r.card with
  | none => s
  | some c =>
    finalWrite c [(128, [unwindCode a]), (130, mark valid), (136, le 6 at_), (144, le 4 metres), (148, le 4 r.waited),
      (152, le 4 (s.clock - r.phaseStart))] .done .ok s

/-- A halt withdraws the splice in progress on an axis, and its card fails HALTED with the state found alone in its results (R152; log entry
56). -/
def withdrawSplice (a : Unwind) (s : State) : State :=
  let r := spliceOf s a
  if r.state == .idle then s
  else
    let s := setSplice a spliceIdle s
    match r.card with
    | none => s
    | some c => finalWrite c [(129, [r.state.code])] .failed .halted s

/-! ## Halt (R122 to R124) -/

/-- The Transit Map's part of a halt: every SEGMENT entry is reported, unjudged, with the reason HALT if none stands, and removed
(R16, R94). The entries are reported in list order, the furthest downstream first (log entry 30). -/
def haltMap (s : State) : State :=
  s.tmap.segs.foldl (fun s g =>
    removeSeg g (reportStrip (if g.flags.orphan then g else spoilSeg .halt g) (none, none) s)) s

/-- The Print Engine's part of a halt: the computation is abandoned and the job ended; the queue is kept (R80). -/
def haltPrint (s : State) : State := endJob (abandonLine s)

/-- The line halts (R123): speeds 0, HALTED, LINE_HALTED, and the halt is handed to the blocks that act on it, in an order of the model's:
the frames, the map, the print, the splices of PU and of FU, and the heat (log entry 53). -/
def takeHalt (cause : HaltCause) (s : State) : State :=
  let s := { s with
    wd := { s.wd with state := .halted, requested := 0, target := 0, running := 0, held := false },
    su := { s.su with haltCause := s.su.haltCause.or (some cause) } }
  let s := raiseEvent .lineHalted s
  let s := sendFrame (sendFrame (mapAxes axisOff s))
  let s := haltPrint (haltMap s)
  let s := withdrawSplice .fu (withdrawSplice .pu s)
  touchStart (reportStopped s)

/-- A halt cause is taken (R122): in HALTED it is a later cause, which queues LATER_HALT (R124); in any other state it halts the
line. -/
def haltLine (cause : HaltCause) (s : State) : State :=
  if s.wd.state == .halted then offerFault (.laterHalt cause) s else takeHalt cause s

end Sys2Proof.Machine
end

