-- ==== Sys2Proof/Machine/HeatUnit.lean ====
section
/-! DEFINITION. The Heat Controller's commands: frames (R98), the heat period with the dose count (R89 to R91, R98 to R104, R106,
R110), heater windows (R105), and the HEAT card (R107 to R109). -/

namespace Sys2Proof.Machine

/-! ## Readings (R98) -/

/-- A zone's reading in a period: good with a temperature, or bad of a kind (R98). -/
inductive ZoneClass where
  | good (temp : Int)
  | bad (kind : BadKind)
  deriving DecidableEq, Repr

/-- The class of a zone's reading in the frame taken (R98). The valid mark is looked at before the range (log entry 52). -/
def classifyZone (frame : Option (List ZoneReading)) (z : Nat) : ZoneClass :=
  match frame with
  | none => .bad .missing
  | some l =>
    let r := nth l z ⟨false, 0⟩
    if !r.valid then .bad .invalid
    else if -200 ≤ r.temp ∧ r.temp ≤ 3000 then .good r.temp
    else .bad .range

/-- ZONE_FRAME: a frame whose check value passes becomes the latest frame (R98). -/
def execZoneFrame (checkPasses : Bool) (readings : List ZoneReading) (s : State) : Result :=
  whenOn s fun s => if checkPasses then { s with hc := { s.hc with frame := some readings } } else s

/-! ## Bands (R101) -/

/-- The reading is within the band (R101). -/
def inBandRange (z : Zone) (t : Int) : Bool := (z.sp : Int) - z.band ≤ t && t ≤ z.sp + z.band

/-- The side of the band that a reading outside it lies on (R101). -/
def sideOf (z : Zone) (t : Int) : ZoneState := if t < (z.sp : Int) - z.band then .below else .above

/-- The band state for a temperature (R109). -/
def bandState (z : Zone) (t : Int) : ZoneState := if inBandRange z t then .settling else sideOf z t

/-- A zone that enters a band state: by its T_meas, with its settle count at 0 (R100, R107, R109). -/
def enterBand (z : Zone) : Zone := { z with state := bandState z z.tMeas, settle := 0, out := 0 }

/-- A state in which the PI runs (chapter 6). -/
def ZoneState.isBand : ZoneState → Bool
  | .below | .settling | .inBand | .above => true
  | .off | .fault | .tripped => false

/-- Phase 4: a zone in a band state is judged against its band (R101). -/
def judgeBand (z : Zone) (t : Int) : Zone :=
  match z.state with
  | .below | .above => if inBandRange z t then { z with state := .settling, settle := 1 } else { z with state := sideOf z t }
  | .settling =>
    if inBandRange z t then
      if z.settle + 1 ≥ 10 then { z with state := .inBand, settle := 10, out := 0 } else { z with settle := z.settle + 1 }
    else { z with state := sideOf z t, settle := 0 }
  | .inBand =>
    if inBandRange z t then { z with out := 0 }
    else if z.out + 1 ≥ 3 then { z with state := sideOf z t, settle := 0, out := 0 }
    else { z with out := z.out + 1 }
  | .off | .fault | .tripped => z

/-! ## Duty (R103, R104) -/

/-- The integral after a period's step (R103). -/
def zoneIntegral (z : Zone) : Nat := (clampInt (z.integ + z.ki * ((z.sp : Int) - z.tMeas)) 0 16000).toNat

/-- The duty computed from an integral (R103). -/
def zoneDuty (z : Zone) (i : Nat) : Nat := (clampInt ((z.kp * ((z.sp : Int) - z.tMeas) + i) / 16) 0 1000).toNat

/-- Phase 5: the duty is computed and limited; while the line stands still, a duty above the idle cap is set to the cap and the
integral step is not taken (R103, R104). -/
def computeDuty (stopped : Bool) (cap : Nat) (z : Zone) : Zone :=
  let i := zoneIntegral z
  let u := zoneDuty z i
  if stopped && cap < u then { z with duty := cap } else { z with duty := u, integ := i }

/-! ## The phases of a period for one zone (R110) -/

/-- Phase 2 for a bad reading: counted, and FAULT entered at the third (R99; log entry 35). -/
def badReading (k : BadKind) (z : Zone) : Zone :=
  let z' := { z with bad := min 3 (z.bad + 1), lastBad := some k }
  if z.state == .fault then { z' with good := 0 }
  else if z'.bad = 3 then { cutZone .fault z' with good := 0 }
  else z'

/-- A zone that leaves FAULT takes the state that the precedence gives (R100). -/
def recoverZone (z : Zone) : Zone :=
  if z.latch then { z with state := .tripped } else if z.sp = 0 then { z with state := .off } else enterBand z

/-- Phase 2 for a good reading: T_meas, the bad count, and the recovery from FAULT (R98 to R100). -/
def goodReading (t : Int) (z : Zone) : Zone :=
  let z := { z with tMeas := t, bad := 0 }
  if z.state == .fault then
    let z := { z with good := min 10 (z.good + 1) }
    if z.good = 10 then recoverZone z else z
  else z

/-- A good reading trips the zone: at or above T_trip with the latch clear (R106). -/
def trips (tTrip : Nat) (t : Int) (z : Zone) : Bool := decide ((tTrip : Int) ≤ t) && !z.latch

/-- Phase 3: the trip latch is set, and the zone is TRIPPED unless it is in FAULT (R106). -/
def tripZone (z : Zone) : Zone :=
  if z.state == .fault then { z with latch := true } else { cutZone .tripped z with latch := true }

/-- The duty is computed in this period: the zone is in a band state, and one that has just left FAULT only where the part computes
it at recovery (R103, R100, R110; log entry 16). -/
def computesDuty (before after : Zone) : Bool := after.state.isBand && (before.state != .fault || Config.dutyAtRecovery)

/-- A zone through the phases of a heat period (R110). -/
def zonePeriod (stopped : Bool) (cap tTrip : Nat) (c : ZoneClass) (z : Zone) : Zone :=
  match c with
  | .bad k => badReading k z
  | .good t =>
    let z2 := goodReading t z
    if trips tTrip t z2 then tripZone z2
    else
      let z4 := judgeBand z2 t
      if computesDuty z z4 then computeDuty stopped cap z4 else z4

/-- The fault a zone's period queues, if any (R99, R106). -/
def zoneFaults (tTrip n : Nat) (c : ZoneClass) (before after : Zone) : List FaultInfo :=
  match c with
  | .bad k => if before.state != .fault && after.state == .fault then [.zoneSensor n k] else []
  | .good t => if !before.latch && after.latch then [.zoneTrip n t tTrip] else []

/-- A zone's period raises ZONE_ALARM (R99, R102, R106; log entry 35). -/
def zoneAlarms (before after : Zone) : Bool :=
  (before.state != .fault && after.state == .fault) || (before.state != .tripped && after.state == .tripped) ||
    (!before.latch && after.latch) ||
    (before.state == .inBand && (after.state == .below || after.state == .above))

/-! ## Delivered dose (R89 to R91) -/

/-- An entry's lead stands in the wrap (R89). -/
def leadInWrap (g : Segment) : Bool := g.leadNip && !g.leadExit

/-- An entry's trail stands in the wrap (R89). -/
def trailInWrap (g : Segment) : Bool := g.trailNip

/-- The amount a zone gives an entry in a period; a zone in FAULT gives none (R89, R90). -/
def doseAmount (tOnset : Nat) (z : Zone) : Nat := if z.state == .fault then 0 else (z.tMeas - tOnset).toNat

/-- Counts gaining the amounts of a period, holding at 2³² − 1 (R91). -/
def addDoses (zones : List Zone) (tOnset : Nat) (l : List Nat) : List Nat :=
  l.mapIdx fun i d => min 4294967295 (d + doseAmount tOnset (nth zones i resetZone))

/-- The dose count of an entry at a heat period (R89, R90). -/
def countDose (zones : List Zone) (g : Segment) : Segment :=
  if leadInWrap g || trailInWrap g then
    { g with
      dLead := if leadInWrap g then addDoses zones g.tOnset g.dLead else g.dLead
      dTrail := if trailInWrap g then addDoses zones g.tOnset g.dTrail else g.dTrail
      flags := { g.flags with zoneFault := g.flags.zoneFault || zones.any (fun z => z.state == .fault) } }
  else g

/-! ## HEAT_PERIOD -/

/-- Every zone in use through its period (R110). -/
def zonesPeriod (s : State) (c : Settings) : List Zone :=
  s.hc.zones.mapIdx fun n z =>
    if n < c.zones then zonePeriod (s.wd.running == 0) c.idleCap c.tTrip (classifyZone s.hc.frame n) z else z

/-- The faults of a period in ascending order of zone number (R110). -/
def periodFaults (s : State) (c : Settings) (after : List Zone) : List FaultInfo :=
  (List.range c.zones).flatMap fun n =>
    zoneFaults c.tTrip n (classifyZone s.hc.frame n) (nth s.hc.zones n resetZone) (nth after n resetZone)

/-- Some zone in use raises ZONE_ALARM in a period. -/
def periodAlarm (s : State) (c : Settings) (after : List Zone) : Bool :=
  (List.range c.zones).any fun n => zoneAlarms (nth s.hc.zones n resetZone) (nth after n resetZone)

/-- Zones whose latch a period sets (R106). -/
def trippedZones (before after : List Zone) : Nat :=
  ((before.zip after).filter fun p => !p.1.latch && p.2.latch).length

/-- The zone records take new values. -/
def setZones (zones : List Zone) (s : State) : State := { s with hc := { s.hc with zones := zones } }

/-- The event ZONES_IN_BAND at a change of the zones condition from unmet to met (R102). -/
def noteZones (met : Bool) (s : State) : State := if !met && zonesCondition s then raiseEvent .zonesInBand s else s

/-- A change of any zone's state reaches the start test (R102). -/
def touchIfMoved (before : List Zone) (s : State) : State :=
  if before.map (·.state) = s.hc.zones.map (·.state) then s else touchStart s

/-- The halt causes of a period: TRIP for each zone that tripped, with the halt-on-trip flag set (R106; log entry 17). -/
def tripHalts (c : Settings) (n : Nat) (s : State) : State :=
  if c.haltOnTrip then (List.range n).foldl (fun s _ => haltLine .trip s) s else s

/-- HEAT_PERIOD (R110). -/
def execHeatPeriod (s : State) : Result :=
  whenOn s fun s =>
    match s.setup with
    | none => { s with hc := { s.hc with frame := none } }
    | some c =>
      let before := s.hc.zones
      let after := zonesPeriod s c
      let faults := periodFaults s c after
      let alarm := periodAlarm s c after
      let met := zonesCondition s
      let s := faults.foldl (fun s f => offerFault f s) (setZones after { s with hc := { s.hc with frame := none } })
      let s := noteZones met (if alarm then raiseEvent .zoneAlarm s else s)
      let s := { s with tmap := { s.tmap with segs := s.tmap.segs.map (countDose (after.take c.zones)) } }
      touchIfMoved before (tripHalts c (trippedZones before after) s)

/-! ## Heater windows (R105) -/

/-- A zone at a window start: its duty as it stands is the on-time (R105). -/
def startWindow (z : Zone) : Zone := { z with onTime := z.duty, heater := decide (0 < z.duty) }

/-- HEATER_WINDOW (R105). -/
def execHeaterWindow (s : State) : Result :=
  whenOn s fun s =>
    { s with hc := { s.hc with
      windowStart := s.clock
      zones := s.hc.zones.mapIdx fun n z => if n < zonesInUse s then startWindow z else z } }

/-- HEATER_ON_TIME_END: the window has run for the zone's on-time; an on-time of 1000 leaves the output on (R105). -/
def execHeaterOnTimeEnd (zone : Nat) (s : State) : Result :=
  whenOn s fun s =>
    if zone < zonesInUse s then
      { s with hc := { s.hc with
        zones := modifyNth s.hc.zones zone fun z => if z.onTime < 1000 then { z with heater := false } else z } }
    else s

/-! ## HEAT (R107 to R109) -/

/-- A zone takes a setting (R109). -/
def withSetting (h : HeatSetting) (z : Zone) : Zone := { z with sp := h.sp, band := h.band, kp := h.kp, ki := h.ki }

/-- A zone with its trip latch set takes a setting (R107). -/
def rearmZone (tTrip : Nat) (h : HeatSetting) (z : Zone) : Zone :=
  if z.state == .tripped && decide (z.tMeas < (tTrip : Int) - 100) then
    let z := { withSetting h z with latch := false, integ := 0 }
    if h.sp = 0 then cutZone .off z else enterBand z
  else withSetting h z

/-- A zone takes a HEAT card's setting (R107, R109). -/
def heatZone (tTrip : Nat) (h : HeatSetting) (z : Zone) : Zone :=
  if z.latch then rearmZone tTrip h z
  else
    match z.state with
    | .off => if h.sp = 0 then withSetting h z else enterBand { withSetting h z with integ := 0 }
    | .fault | .tripped => withSetting h z
    | .below | .settling | .inBand | .above =>
      if h.sp = 0 then cutZone .off (withSetting h z)
      else if h.sp = z.sp && h.band = z.band then withSetting h z
      else enterBand (withSetting h z)

/-- The zones after a HEAT card (R109). -/
def heatZones (c : Settings) (body : List Byte) (zones : List Zone) : List Zone :=
  zones.mapIdx fun n z => if n < c.zones then heatZone c.tTrip (heatSetting body n) z else z

/-- The results of a HEAT card: the zone states, and the zones still tripped (R109, chapter 12). A zone not in use gives its state, which is
OFF (log entry 65). -/
def heatResults (zones : List Zone) : List (Nat × List Byte) :=
  [(128, zones.map (·.state.code)), (136, le 1 (markSet (zones.map (·.latch))))]

/-- A HEAT card (R108, R109). ZONES_IN_BAND is raised before the card is written DONE (R102; log entry 61). -/
def heatCard (k : CurrentCard) (s : State) : State :=
  match s.setup with
  | none => failCurrent .wrongState [] s
  | some c =>
    match heatError c.zones c.tTrip k.image with
    | some off => failField off s
    | none =>
      let after := heatZones c k.image s.hc.zones
      touchIfMoved s.hc.zones (doneCurrent (heatResults after) (noteZones (zonesCondition s) (setZones after s)))

/-- HEAT (R109). -/
def execHeat (s : State) : Result := onDispatch .heat s heatCard

end Sys2Proof.Machine
end

