-- ==== Sys2Proof/Machine/Inputs.lean ====
section
/-! DEFINITION. The line inputs: raw levels and their filter (R176), and what each edge does (R122, R147 to R151). -/

namespace Sys2Proof.Machine

/-- Halt-on-guard of the last SETUP; clear while SETUP-valid is clear (R114). -/
def haltOnGuard (s : State) : Bool := (s.setup.map (·.haltOnGuard)).getD false

/-- A splice acknowledge goes active: in SPLICE_WAIT the handover starts, under the limit that its splice began with (R148, R149), and
otherwise it is unsolicited (R151). -/
def ackActive (a : Unwind) (s : State) : State :=
  let r := spliceOf s a
  if r.state == .wait then
    setAxis (unwindAxis a) (fun x => if x.state == .active then { x with state := .handedOver } else x)
      (setSplice a (fun r => { r with
        state := .handedOver, request := false, waited := s.clock - r.phaseStart, phaseStart := s.clock,
        limit := r.handover }) s)
  else offerFault (.spliceAckUnexpected a r.state) s

/-- A splice acknowledge goes inactive: in HANDED_OVER the splice completes (R149), and otherwise it has no effect (R151). -/
def ackInactive (a : Unwind) (s : State) : State :=
  if (spliceOf s a).state == .handedOver then completeSplice a s else s

/-- An edge of a line input (chapter 11, LINE INPUTS). -/
def inputEdge (i : LineInput) (active : Bool) (s : State) : State :=
  match i, active with
  | .paperBreak, true => haltLine .paperBreak s
  | .fabricBreak, true => haltLine .fabricBreak s
  | .estop, true => haltLine .estop s
  | .guard, true => if s.wd.state != .idle && haltOnGuard s then haltLine .guard s else s
  | .paperRollEnd, true => autoRequest .pu .rollEnd s
  | .fabricRollEnd, true => autoRequest .fu .rollEnd s
  | .paperSpliceAck, true => ackActive .pu s
  | .fabricSpliceAck, true => ackActive .fu s
  | .paperSpliceAck, false => ackInactive .pu s
  | .fabricSpliceAck, false => ackInactive .fu s
  | .paperBreak, false | .fabricBreak, false | .estop, false | .guard, false | .paperRollEnd, false
  | .fabricRollEnd, false => s

/-- The record of a line input changed. -/
def setInput (i : LineInput) (f : InputRecord → InputRecord) (s : State) : State :=
  { s with su := { s.su with inputs := modifyNth s.su.inputs (inputIndex i) f } }

/-- RAW_LEVEL_CHANGE: a change of the raw level starts a new 2 ms (R176). -/
def execRawLevelChange (i : LineInput) (high : Bool) (s : State) : Result :=
  whenOn s fun s =>
    if (inputOf s i).raw = high then s else setInput i (fun r => { r with raw := high, filtering := true }) s

/-- INPUT_FILTER_EXPIRY: the raw level has held 2 ms and becomes the filtered level; a change of the active state is an edge, but
the first level is none (R176). -/
def execInputFilterExpiry (i : LineInput) (s : State) : Result :=
  whenOn s fun s =>
    let r := inputOf s i
    if !r.filtering then s
    else
      let s := setInput i (fun r => { r with filtering := false, level := some r.raw }) s
      if r.level.isNone || r.level == some r.raw then s else inputEdge i (decide (r.raw = r.activeHigh)) s

end Sys2Proof.Machine
end

