-- ==== Sys2Proof/Machine/Patches.lean ====
section
/-! DEFINITION. The Shadow Patch Buffer's commands: PATCH and its edit list (R42), applying edits (R43 to R46, R56), and the drain
(R49). -/

namespace Sys2Proof.Machine

/-- The patch state changed. -/
def setPatch (p : Option PatchJob) (s : State) : State := { s with spb := { s.spb with patch := p } }

/-- The PATCH card in hand fails, and the patch state returns to IDLE (R42, R45). -/
def failPatch (rc : ResultCode) (fields : List (Nat × List Byte)) (s : State) : State := failCurrent rc fields (setPatch none s)

/-- PATCH: the checks of R42 that precede the read, then the read of the edit list. -/
def patchCard (c : CurrentCard) (s : State) : State :=
  match patchError c.image with
  | some off => failField off s
  | none =>
    let id := leRead c.image 16 1
    let st := stateSeen (profileOf s id)
    if st == .empty || st == .loading then failCurrent .notReady [] s
    else
      let n := leRead c.image 18 2
      let a := leRead c.image 24 8
      emit (.hostRead a (16 * n)) (setPatch (some ⟨c.ref, c.noWait, id, n, a, .reading, [], 0, false⟩) s)

/-- PATCH (R42). A card already in hand is not taken again. -/
def execPatch (s : State) : Result := onDispatch .patch s fun c s => if s.spb.patch.isSome then s else patchCard c s

/-- An end of an edit list read: one that will be discarded is dropped, and otherwise it acts on a patch that is READING (R59). -/
def onListRead (s : State) (f : PatchJob → State → State) : State :=
  if 0 < s.spb.stale then { s with spb := { s.spb with stale := s.spb.stale - 1 } }
  else
    match s.spb.patch with
    | some p => if p.phase == .reading then f p s else s
    | none => s

/-- Whether an edit of a list is in error against the record as it stands (R42, check 4). A record that is seen EMPTY has no node count and
no K, so that only an empty mask is in error there (log entry 60). -/
def editInError (r : ProfileRecord) (e : Edit) : Bool :=
  match stateSeen r, r.header with
  | .empty, _ | _, none => e.mask == 0
  | _, some h => !editOk h e

/-- EDIT_LIST_READ_COMPLETE: the first edit in error fails the card BAD_FIELD with its position; then a profile that has been freed fails
it NOT_READY; otherwise the card enters APPLYING (R42, checks 4 and 5). The position is counted from 0 (log entry 48). -/
def execEditListReadComplete (data : List Byte) (s : State) : Result :=
  whenOn s fun s =>
    onListRead s fun p s =>
      let r := profileOf s p.id
      let edits := parseEdits data p.count
      match edits.findIdx? (editInError r) with
      | some i => failPatch .badField [(128, le 2 i)] s
      | none =>
        match stateSeen r, r.header with
        | .ready, some _ | .retiring, some _ => setPatch (some { p with phase := .applying, edits := edits }) s
        | _, _ => failPatch .notReady [] s

/-- The failure of the edit list's read fails the card READ_ERROR and queues PATCH_READ_ERROR (R42, check 3), the fault before the card's
write; so it does for a profile freed in READING (log entry 49). -/
def listReadFails (s : State) : State :=
  onListRead s fun p s => failPatch .readError [] (offerFault (.patchReadError p.id) s)

/-- PATCH_READ_ERROR (R42). -/
def execPatchReadError (s : State) : Result := whenOn s listReadFails

/-- EDIT_LIST_READ_TIMEOUT (R42). -/
def execEditListReadTimeout (s : State) : Result := whenOn s listReadFails

/-! ## Applying edits -/

/-- What the buffer offers an edit for a cell (R43). -/
inductive EditRoute where
  | merge | create | wait
  deriving DecidableEq, Repr

/-- The action for an edit of a cell (R43). -/
def editRoute (entries : List ShadowEntry) (cell : Nat) : EditRoute :=
  match entries.find? (fun e => e.cell == cell) with
  | some e => if e.visible then .wait else .merge
  | none => if entries.length ≥ 2 then .wait else .create

/-- The edit at the cursor has been applied: the cursor moves on, and after the last edit the card is DONE with the count and the
profile's version (R43). -/
def advanceEdit (s : State) : State :=
  match s.spb.patch with
  | none => s
  | some p =>
    if p.cursor + 1 ≥ p.count then
      doneCurrent [(128, le 2 p.count), (130, le 2 (profileOf s p.id).version.toNat)] (setPatch none s)
    else setPatch (some { p with cursor := p.cursor + 1, creating := false }) s

/-- A new entry arrives: PENDING if a line is computing, and otherwise VISIBLE, which is a visibility step of its own (R44, R48). -/
def arriveEntry (id node cell : Nat) (v : CellValue) (s : State) : State :=
  let visible := !computing s
  let s := { s with spb := { s.spb with entries := s.spb.entries ++ [⟨id, node, cell, v, visible⟩] } }
  if visible then bumpVersions [id] s else s

/-- An edit merges into the PENDING entry for its cell (R43). -/
def mergePending (cell : Nat) (e : Edit) (k : Nat) (s : State) : State :=
  { s with spb := { s.spb with entries := s.spb.entries.map fun x =>
      if x.cell = cell && !x.visible then { x with value := keepChannels (mergeEdit x.value e) k } else x } }

/-- The edit at the cursor acts by what the buffer holds for its cell (R43 to R45). The position of an edit that could not be applied is
counted from 0 (log entry 48). -/
def applyEdit (p : PatchJob) (e : Edit) (h : ProfileHeader) (s : State) : State :=
  let cell := h.base + e.node
  match editRoute s.spb.entries cell with
  | .merge => advanceEdit (mergePending cell e h.channels s)
  | .create =>
    match cacheHolds s cell with
    | some v =>
      pumpPort (advanceEdit (arriveEntry p.id e.node cell (keepChannels (mergeEdit v e) h.channels) s))
    | none => pumpPort (setPatch (some { p with creating := true }) s)
  | .wait =>
    if p.noWait then failPatch .busy [(128, le 2 p.cursor), (132, le 2 p.cursor)] s
    else stallCurrent (setPatch (some { p with phase := .waiting }) s)

/-- EDIT_APPLY (R43). It acts in APPLYING, unless the edit already waits for its creation read. -/
def execEditApply (s : State) : Result :=
  whenOn s fun s =>
    match s.spb.patch with
    | none => s
    | some p =>
      match p.phase, p.creating, p.edits[p.cursor]?, (profileOf s p.id).header with
      | .applying, false, some e, some h => applyEdit p e h s
      | _, _, _, _ => s

/-- A PATCH card in WAITING is offered again: it leaves WAITING if its edit can now merge or create (R45). -/
def reofferPatch (s : State) : State :=
  match s.spb.patch with
  | none => s
  | some p =>
    match p.phase, p.edits[p.cursor]?, (profileOf s p.id).header with
    | .waiting, some e, some h =>
      if editRoute s.spb.entries (h.base + e.node) == .wait then s
      else
        { setPatch (some { p with phase := .applying }) s with ce := { s.ce with state := .dispatching } }
    | _, _, _ => s

/-- Halt-on-parity of the last SETUP; clear while SETUP-valid is clear (R57). -/
def haltOnParity (s : State) : Bool := (s.setup.map (·.haltOnParity)).getD false

/-- PARITY is set in the printing job's entry if the job prints through the profile (R55, R56); a job counts as printing until it ends, also
in ENDING (log entry 62). -/
def flagParity (id : Nat) (s : State) : State :=
  match s.pe.job with
  | some j =>
    if j.card.profileId = id then updateSeg j.start (fun g => { g with flags := { g.flags with parity := true } }) s else s
  | none => s

/-- What a parity error does beside the use of the value read: the count, the fault, the flag (R55, R56). -/
def noteParity (id node cell : Nat) (src : ParitySource) (marks : Byte) (s : State) : State :=
  if marks = 0 then s else flagParity id (parityError id node cell src marks s)

/-- The halt that a parity error brings with the flag set (R57). -/
def parityHalt (marks : Byte) (s : State) : State :=
  if marks != 0 && haltOnParity s then haltLine .parity s else s

/-- The edit that waited for its creation read is merged into the value read, and the new entry arrives (R44, R56). Where it was the last
edit, the card is written DONE after the fault PARITY is queued and before the line halts for it (R56, R57; log entry 61). -/
def createEntry (id node cell k : Nat) (c : StoreCell) (s : State) : State :=
  match s.spb.patch with
  | none => s
  | some p =>
    match p.creating, p.edits[p.cursor]? with
    | true, some e =>
      let marks := badChannels c k
      let s := arriveEntry id node cell (keepChannels (mergeEdit c.bytes e) k) s
      parityHalt marks (advanceEdit (noteParity id node cell .merge marks s))
    | _, _ => s

/-- CREATION_READ_COMPLETE (R44, R56). The value of a read no longer wanted is discarded (R46, R59), and its parity is not checked (log
entry 51). -/
def execCreationReadComplete (damage : CellDamage) (s : State) : Result :=
  whenOn s fun s =>
    match s.ps.arb.busy with
    | some (.shadow (.creation id node cell k) live) =>
      let (c, s) := readCell cell damage (portDone s)
      pumpPort (if live then createEntry id node cell k c s else s)
    | _ => s

/-- DRAIN_WRITE_COMPLETE: the entry's value is in the store, the cache line is invalidated, and the entry leaves the buffer (R49). -/
def execDrainWriteComplete (s : State) : Result :=
  whenOn s fun s =>
    match s.ps.arb.busy with
    | some (.shadow (.drain _ cell v) live) =>
      let s := portDone (writeCell cell v s)
      pumpPort (if live then
          offerTo .patch { s with spb := { s.spb with entries := s.spb.entries.filter (fun e => e.cell != cell) } }
        else s)
    | _ => s

end Sys2Proof.Machine
end

