-- ==== Sys2Proof/Machine/Printing.lean ====
section
/-! DEFINITION. The Print Engine's commands: PRINT and the queue (R60, R61), the print start (R65, R66), the raster fetch (R69 to
R71), line computation and lookups (R50, R52, R72 to R74), lines falling due (R76 to R78), and the bars (R75). -/

namespace Sys2Proof.Machine

/-! ## PRINT (R60, R61, R36) -/

/-- The card enters the queue at its tail, taking its references, and is held (R61). -/
def enqueuePrint (q : QueuedPrint) (s : State) : State :=
  let wasEmpty := s.pe.queue.isEmpty
  let s := { s with pe := { s.pe with queue := s.pe.queue ++ [q] } }
  let s := setProfile q.profileId (fun r => { r with refs := r.refs + 1 }) s
  let s := endDispatch (takeFabric q.fabricId s)
  if wasEmpty then touchStart s else s

/-- The checks of R60 in their order; the Profile Store's answer is R36's. -/
def printCard (c : CurrentCard) (s : State) : State :=
  match s.setup with
  | none => failCurrent .wrongState [] s
  | some g =>
    let q := parsePrint c
    match printError g.width q with
    | some off => failField off s
    | none =>
      if !within 1 q.profileId 16 then failField 32 s
      else
        let r := profileOf s q.profileId
        if stateSeen r == .empty || stateSeen r == .retiring then failCurrent .unknownProfile [] s
        else if r.header.map (·.channels) != some g.bars then failField 32 s
        else if q.fabricId != 0 && (fabricOf s q.fabricId).figures.isNone then failField 33 s
        else if s.pe.queue.length ≥ 4 then waitOrFail .queueFull [] s
        else enqueuePrint q s

/-- PRINT (R60). -/
def execPrint (s : State) : Result := onDispatch .print s printCard

/-! ## Print start -/

/-- The print starts (R65). PRINTING is raised before the first raster read is asked for (log entry 61). -/
def startPrint (q : QueuedPrint) (c : Settings) (h : ProfileHeader) (s : State) : State :=
  let start := startCoordinate s
  let step := stepOf (stretchOf s q)
  let s' := { s with tmap := { s.tmap with segs := s.tmap.segs ++ [newSegment s c h q start] } }
  let s' := { s' with pe := { s'.pe with
    queue := s'.pe.queue.drop 1, state := .printing, hold := none,
    job := some ⟨q, start, step, linesOut q.lines step, 0, 0, [], [], none, 0, 0⟩ } }
  offerTo .print (fetchRaster (raiseEvent .printing s'))

/-- PRINT_START: a start test for the head card while the engine is IDLE (R63 to R66). It starts the print, records the hold reason,
or fails a NO_WAIT card NOT_READY with the hold reason that its first test found (log entry 26). -/
def execPrintStart (s : State) : Result :=
  whenOn s fun s =>
    match s.pe.state, s.pe.queue with
    | .idle, q :: _ =>
      match judgement s q, s.setup, (profileOf s q.profileId).header with
      | none, some c, some h => startPrint q c h s
      | some hold, _, _ =>
        if q.noWait then touchStart (failQueued .notReady [(128, le 2 hold.marks)] q s) else setHold (some hold) s
      | _, _, _ => s
    | _, _ => s

/-! ## Raster fetch (R69 to R71) -/

/-- The window still needs a source line (R70). -/
def rasterNeeded (s : State) (r : RasterRead) : Bool :=
  r.live && s.pe.state == .printing &&
    (match s.pe.job with
     | some j => lowestNeeded j ≤ r.line
     | none => false)

/-- The read in flight has ended. -/
def clearRead (s : State) : State := { s with pe := { s.pe with read := none } }

/-- RASTER_READ_COMPLETE: the line enters the window, or its data is discarded, and the next read is issued (R70). -/
def execRasterReadComplete (data : List Byte) (s : State) : Result :=
  whenOn s fun s =>
    match s.pe.read with
    | none => s
    | some r =>
      if rasterNeeded s r then fetchRaster (setJob (fun j => { j with window := j.window ++ [(r.line, data)] }) (clearRead s))
      else fetchRaster (clearRead s)

/-- A raster read error (R71): on a line the window still needs it ends the print; otherwise it is discarded (R70). The card is written
PRINTED before the profile reference is released (log entry 61). -/
def rasterFails (kind : ReadFailure) (s : State) : State :=
  match s.pe.read, s.pe.job with
  | some r, some j =>
    if rasterNeeded s r then
      let s := offerFault (.rasterReadError j.card.card.tag r.line kind) (clearRead s)
      touchStart (endJob (endPrint (abandonLine (updateSeg j.start (spoilSeg .raster) s))))
    else fetchRaster (clearRead s)
  | _, _ => clearRead s

/-- RASTER_READ_ERROR (R71). -/
def execRasterReadError (s : State) : Result := whenOn s (rasterFails .error)

/-- RASTER_READ_TIMEOUT (R69, R71). -/
def execRasterReadTimeout (s : State) : Result := whenOn s (rasterFails .timeout)

/-! ## Line computation (R72 to R74) -/

/-- The conditions of R72 for the line at the line cursor, with its source line's bytes. -/
def lineReady (s : State) : Option (PrintJob × List Byte) :=
  match s.pe.state, s.pe.job with
  | .printing, some j =>
    if j.comp.isNone && j.slots.length < 2 && j.cursor < j.nOut && j.reached ≤ j.cursor then
      match j.window.find? (fun l => l.1 == sourceLine j.acc) with
      | some l => some (j, l.2)
      | none => none
    else none
  | _, _ => none

/-- The entry records the version a computation begins against (R72). -/
def recordVersion (v : BitVec 16) (g : Segment) : Segment :=
  let first := g.firstVersion.getD v
  { g with firstVersion := some first, lastVersion := some v, flags := { g.flags with patched := g.flags.patched || first != v } }

/-- LINE_COMPUTATION_BEGIN (R72). -/
def execLineComputationBegin (s : State) : Result :=
  whenOn s fun s =>
    match lineReady s with
    | none => s
    | some (j, pixels) =>
      let r := profileOf s j.card.profileId
      let k := (r.header.map (·.channels)).getD 0
      updateSeg j.start (recordVersion r.version)
        (setJob (fun j => { j with comp := some ⟨j.cursor, r.version, pixels, 0, 0, false, List.replicate k 0, []⟩ }) s)

/-- Grid position of an input (R73). -/
def gridPosition (n v : Nat) : Nat := (v * ((n - 1) * 16) + 127) / 255

/-- Lower node on an axis (R73). -/
def gridNode (n v : Nat) : Nat := min (gridPosition n v / 16) (n - 2)

/-- Weight of the upper node on an axis (R73). -/
def gridWeight (n v : Nat) : Nat := gridPosition n v - 16 * gridNode n v

/-- Whether the corner numbered 0 to 7 takes the upper node on axis 0, 1 or 2; the third axis runs fastest (R73). -/
def cornerBit (corner axis : Nat) : Nat := corner / 2 ^ (2 - axis) % 2

/-- Weight of a corner of a pixel (R73). -/
def cornerWeight (n corner : Nat) (v : Nat → Nat) : Nat :=
  (List.range 3).foldl (fun w a =>
    w * (if cornerBit corner a = 1 then gridWeight n (v a) else 16 - gridWeight n (v a))) 1

/-- Node index of a corner of a pixel (R23, R73). -/
def cornerNode (n corner : Nat) (v : Nat → Nat) : Nat :=
  (List.range 3).foldl (fun i a => i * n + (gridNode n (v a) + cornerBit corner a)) 0

/-- Input of an axis of the pixel in hand (R69). -/
def pixelInput (c : Computation) (axis : Nat) : Nat := (byteAt c.pixels (3 * c.column + axis)).toNat

/-- Laydown of a channel from its weighted sum and the gain of its column's zone (R73, R74). -/
def laydown (sum gain : Nat) : Nat := min 255 (((sum + 2048) / 4096 * gain + 2048) / 4096)

/-- Zone of a column (R74). -/
def columnZone (c zones width : Nat) : Nat := c * zones / width

/-- The value of the corner in hand is added to the sums; after the eighth corner the column is laid down (R73, R74). -/
def takeCorner (n k gain : Nat) (value : CellValue) (c : Computation) : Computation :=
  let w := cornerWeight n c.corner (pixelInput c)
  let sums := (List.range k).map fun i => nth c.sums i 0 + (channel value i).toNat * w
  if c.corner < 7 then { c with corner := c.corner + 1, filling := false, sums := sums }
  else
    { c with
      column := c.column + 1, corner := 0, filling := false, sums := List.replicate k 0,
      cols := (sums.map fun x => BitVec.ofNat 8 (laydown x gain)) :: c.cols }

/-- The gain of the column in hand (R74). -/
def columnGain (s : State) (j : PrintJob) (c : Computation) : Nat :=
  match s.setup, segAt s j.start with
  | some g, some e => nth e.gains (columnZone c.column g.zones g.width) 0
  | _, _ => 0

/-- A lookup of the running computation returns a value (R50). -/
def serveCorner (h : ProfileHeader) (value : CellValue) (s : State) : State :=
  setJob (fun j => { j with comp := j.comp.map fun c => takeCorner h.grid h.channels (columnGain s j c) value c }) s

/-- The next lookup of the running computation: the profile's header, and the fill that the lookup needs if it misses. There is none while a
lookup is filling, nor past the last column (R50, R73). -/
def nextLookup (s : State) : Option (ProfileHeader × FillRequest) :=
  match s.pe.job with
  | none => none
  | some j =>
    match j.comp, (profileOf s j.card.profileId).header with
    | some c, some h =>
      let node := cornerNode h.grid c.corner (pixelInput c)
      if c.filling || c.column ≥ j.card.width then none else some (h, ⟨j.card.profileId, node, h.base + node, h.channels⟩)
    | _, _ => none

/-- The VISIBLE entry of a cell, from which its lookups are served (R50). -/
def visibleEntry (s : State) (cell : Nat) : Option ShadowEntry := s.spb.entries.find? (fun e => e.cell == cell && e.visible)

/-- A lookup that misses asks for its fill, and holds the lookups behind it until the fill completes (R50, R52). -/
def askFill (r : FillRequest) (s : State) : State :=
  setJob (fun j => { j with comp := j.comp.map fun c => { c with filling := true } }) (setArb { s.ps.arb with fillReq := some r } s)

/-- The lookup path's three steps (R50): a VISIBLE entry, a cache line, or a fill. -/
def lookupCell (h : ProfileHeader) (r : FillRequest) (s : State) : State :=
  match visibleEntry s r.cell, cacheHolds s r.cell with
  | some e, _ => serveCorner h e.value { s with nc := { s.nc with shadowHits := s.nc.shadowHits + 1 } }
  | none, some v => serveCorner h v { s with nc := { s.nc with cacheHits := s.nc.cacheHits + 1 } }
  | none, none => pumpPort (askFill r s)

/-- LOOKUP: the next corner of the running computation (R50, R73). -/
def execLookup (s : State) : Result :=
  whenOn s fun s =>
    match nextLookup s with
    | some (h, r) => lookupCell h r s
    | none => s

/-- The lookup that was held behind a completed fill: if it misses too, its fill waits at the arbiter from that completion on (R39, R50; log
entry 59). One that does not miss is served at its LOOKUP. -/
def heldLookup (s : State) : State :=
  match nextLookup s with
  | some (_, r) => if (visibleEntry s r.cell).isNone && (cacheHolds s r.cell).isNone then askFill r s else s
  | none => s

/-- The lookup that a fill serves gets its value, and the lookup counts as one served by a fill (R54). -/
def fillCorner (r : FillRequest) (c : StoreCell) (s : State) : State :=
  match (profileOf s r.id).header with
  | none => s
  | some h => serveCorner h c.bytes { s with nc := { s.nc with fills := s.nc.fills + 1 } }

/-- What a completed fill does: the lookup that waits for it is served, unless its computation was abandoned or reset; with good parity the
cache line is written, and with bad parity R55 and R57 apply (R52; log entries 19 and, for a software reset, 39). -/
def serveFill (r : FillRequest) (live : Bool) (c : StoreCell) (s : State) : State :=
  let marks := badChannels c r.channels
  let s := if live then fillCorner r c s else s
  let s := if marks = 0 then cacheFill r.cell c.bytes s else s
  parityHalt marks (noteParity r.id r.node r.cell .fill marks s)

/-- LOOKUP_FILL_COMPLETE (R52, R55). The lookup held behind the fill comes before the free port is granted (R50; log entry 59). -/
def execLookupFillComplete (damage : CellDamage) (s : State) : Result :=
  whenOn s fun s =>
    match s.ps.arb.busy with
    | some (.fill r live) =>
      let (c, s) := readCell r.cell damage (portDone s)
      let s := serveFill r live c s
      pumpPort (if live then heldLookup s else s)
    | _ => s

/-- The completed line is placed in a slot, or discarded if it has fallen due, and the line cursor moves on (R72). -/
def placeLine (c : Computation) (j : PrintJob) : PrintJob :=
  let j := { j with comp := none, slots :=
    if c.line < j.reached then j.slots else j.slots ++ [⟨c.line, c.version, c.cols.reverse⟩] }
  moveCursor (max (c.line + 1) j.fallen) j

/-- LINE_BOUNDARY: the running computation has passed its last pixel (R72). The arbiter's credits are set (R39), PENDING entries
become VISIBLE (R48), and in ENDING the job ends (R78). -/
def execLineBoundary (s : State) : Result :=
  whenOn s fun s =>
    match s.pe.job with
    | none => s
    | some j =>
      match j.comp with
      | none => s
      | some c =>
        if c.filling || c.column < j.card.width then s
        else
          let s := setArb { s.ps.arb with shadowCredit := true, loaderCredit := true } s
          let s := pumpPort (visibilityStep (setJob (placeLine c) s))
          if s.pe.state == .ending then touchStart (endJob s) else fetchRaster s

/-! ## Lines falling due (R75 to R78) -/

/-- A bar is ready to receive a line (R75). -/
def Bar.canReceive (b : Bar) : Bool := b.ready && 1 ≤ b.room

/-- The line as the head link carries it: for each bar in use its channel, for columns 0 to W − 1 (R69, R75). -/
def headChannels (c : Settings) (l : LineSlot) : List (List Byte) :=
  (List.range c.bars).map fun k => (List.range c.width).map fun i => nth (nth l.columns i []) k 0

/-- Each bar in use has one place less (R75, R76). -/
def takeRoom (bars : Nat) (l : List Bar) : List Bar :=
  (l.take bars).map (fun b => { b with room := b.room - 1 }) ++ l.drop bars

/-- A line is sent to the bars (R75, R76). -/
def sendLine (c : Settings) (j : PrintJob) (l : LineSlot) (s : State) : State :=
  let s := emit (.headLine s.pe.seq (headChannels c l)) s
  let s := { s with pe := { s.pe with seq := s.pe.seq + 1, sent := s.pe.sent + 1, bars := takeRoom c.bars s.pe.bars } }
  updateSeg j.start (fun g => { g with emitted := g.emitted + 1 }) s

/-- A late line in the entry (R77). -/
def lateSeg (limit : Nat) (g : Segment) : Segment :=
  let g := { g with late := g.late + 1, flags := { g.flags with late := true } }
  if limit < g.late then spoilSeg .late g else g

/-- Line `n` of the job falls due: sent or late (R76). -/
def dueLine (c : Settings) (j : PrintJob) (n : Nat) (s : State) : State :=
  let s :=
    match j.slots.find? (fun l => l.line == n) with
    | some l =>
      if barsInUse s Bar.canReceive then sendLine c j l s else updateSeg j.start (lateSeg c.lateLimit) s
    | none => updateSeg j.start (lateSeg c.lateLimit) s
  setJob (fun j => { j with fallen := n + 1, slots := j.slots.filter (fun l => l.line != n) }) s

/-- The last line has fallen due: print end, and the job's end unless its last computation still runs (R78). The card is written PRINTED
before the profile reference is released (log entry 61). -/
def finishPrint (s : State) : State :=
  let s := endPrint s
  if computing s then
    setJob (fun j => { j with window := [] })
      { s with pe := { s.pe with state := .ending, read := s.pe.read.map (fun r => { r with live := false }) } }
  else touchStart (endJob s)

/-- LINE_DUE: the next line that a position update has reached falls due (R76). -/
def execLineDue (s : State) : Result :=
  whenOn s fun s =>
    match s.pe.state, s.pe.job, s.setup with
    | .printing, some j, some c =>
      if j.fallen < j.reached then
        let n := j.fallen
        let s := dueLine c j n s
        if n + 1 = j.nOut then finishPrint s
        else if j.comp.isNone && j.cursor = n then fetchRaster (setJob (moveCursor (n + 1)) s)
        else s
      else s
    | _, _, _ => s

/-! ## Bars (R75) -/

/-- A bar's record changed. -/
def setBar (bar : Nat) (f : Bar → Bar) (s : State) : State := { s with pe := { s.pe with bars := modifyNth s.pe.bars bar f } }

/-- Bars in use: H of the last SETUP, none while SETUP-valid is clear (R75). -/
def barCount (s : State) : Nat := (s.setup.map (·.bars)).getD 0

/-- Lines sent after a sequence number, of those sent since the count was last set to 0 (R75; log entry 34). -/
def sentAfter (p : PrintEngine) (q : BitVec 16) : Nat := min p.sent (p.seq - 1 - q).toNat

/-- BAR_REPORT: READY, and the reported room less the lines sent after the reported sequence number (R75; log entry 34). -/
def execBarReport (bar : Nat) (ready : Bool) (room : Nat) (seq : BitVec 16) (s : State) : Result :=
  whenOn s fun s =>
    if bar < barCount s then touchStart (setBar bar (fun _ => ⟨ready, room - sentAfter s.pe seq, false⟩) s) else s

/-- BAR_SILENT: a bar in use falls silent (R75). -/
def execBarSilent (bar : Nat) (s : State) : Result :=
  whenOn s fun s =>
    if bar < barCount s && !(nth s.pe.bars bar resetBar).silent then
      touchStart (offerFault (.barSilent bar) (setBar bar (fun b => { b with ready := false, silent := true }) s))
    else s

end Sys2Proof.Machine
end

