-- ==== Sys2Proof/Machine/Profiles.lean ====
section
/-! DEFINITION. The Profile Store's commands: LOAD and the loader (R28 to R31), DROP (R33 to R35), and the freeing that waited
(R32). -/

namespace Sys2Proof.Machine

/-! ## The loader -/

/-- The loader's job changed. -/
def setLoader (j : Option LoadJob) (s : State) : State := { s with ps := { s.ps with loader := j } }

/-- Records of the next block: 64, or those that remain (R29). -/
def blockLength (nodes cursor : Nat) : Nat := min 64 (nodes - cursor)

/-- Node count of the record a load fills. -/
def loadNodes (s : State) (j : LoadJob) : Nat := ((profileOf s j.id).header.map (·.nodes)).getD 0

/-- The loader reads the next block of source records (R29). -/
def readBlock (j : LoadJob) (s : State) : State :=
  emit (.hostRead (j.source + 8 * j.cursor) (8 * blockLength (loadNodes s j) j.cursor))
    (setLoader (some { j with buffer := [], reading := true }) s)

/-- A LOAD card at an IDLE loader: checked, allocated and accepted, or failed (R29). -/
def acceptLoad (c : CurrentCard) (s : State) : State :=
  match loadError c.image with
  | some off => failField off s
  | none =>
    let id := leRead c.image 16 1
    if (profileOf s id).state != .empty then failCurrent .inUse [] s
    else
      match allocate (loadHeader c.image 0).nodes s.ps.free with
      | none => failCurrent .noRoom [] s
      | some (base, free) =>
        let s := { s with ps := { s.ps with free := free } }
        let s := setProfile id (fun _ => ⟨.loading, some (loadHeader c.image base), 0, 0, 0, false⟩) s
        endDispatch (readBlock ⟨c.ref, id, leRead c.image 32 8, 0, [], true⟩ s)

/-- A LOAD card is offered to the loader: a BUSY loader makes it wait, with no field checked (R28). -/
def dispatchLoad (c : CurrentCard) (s : State) : State :=
  if s.ps.loader.isSome then waitOrFail .busy [] s else acceptLoad c s

/-- LOAD (R28, R29). -/
def execLoad (s : State) : Result := onDispatch .load s dispatchLoad

/-- A completion of a source read: one that will be discarded is dropped, and otherwise it acts on a load that is reading (R33). -/
def onLoadRead (s : State) (f : LoadJob → State → State) : State :=
  if 0 < s.ps.stale then { s with ps := { s.ps with stale := s.ps.stale - 1 } }
  else
    match s.ps.loader with
    | some j => if j.reading then f j s else s
    | none => s

/-- LOAD_READ_COMPLETE: the block's records are buffered and their writes requested (R29). -/
def execLoadReadComplete (data : List Byte) (s : State) : Result :=
  whenOn s fun s =>
    onLoadRead s fun j s =>
      let k := ((profileOf s j.id).header.map (·.channels)).getD 0
      let records := (List.range (blockLength (loadNodes s j) j.cursor)).map fun i => sourceRecord data i k
      pumpPort (setLoader (some { j with buffer := records, reading := false }) s)

/-- The loader returns to IDLE: its request is withdrawn, a granted write completes on its own, and a read in flight will be
discarded (R31, R33). -/
def stopLoader (s : State) : State :=
  let a := s.ps.arb
  let busy :=
    match a.busy with
    | some (.loader r _) => some (PortAccess.loader r false)
    | b => b
  let stale := s.ps.stale + (match s.ps.loader with | some j => (if j.reading then 1 else 0) | none => 0)
  { s with ps := { s.ps with loader := none, stale := stale, arb := { a with loaderReq := none, busy := busy } } }

/-- The failure of a source read ends the load (R31): the fault, the PRINT cards of R35, the freeing, and the LOAD card FAILED with
the node cursor. -/
def loadReadFails (s : State) : State :=
  onLoadRead s fun j s =>
    let s := offerFault (.loadReadError j.id j.cursor) s
    let s := stopLoader (setLoader (some { j with reading := false }) s)
    let s := freeRecord j.id (failQueuedOf j.id s)
    touchStart (offerTo .load (finalWrite j.card [(136, le 4 j.cursor)] .failed .readError s))

/-- LOAD_READ_ERROR (R31). -/
def execLoadReadError (s : State) : Result := whenOn s loadReadFails

/-- LOAD_READ_TIMEOUT has the same effect as an error (R31). -/
def execLoadReadTimeout (s : State) : Result := whenOn s loadReadFails

/-- The last cell is written: the record becomes READY with version 0, the loader IDLE, and the LOAD card DONE (R30). -/
def loadDone (j : LoadJob) (h : ProfileHeader) (s : State) : State :=
  let s := setLoader none (setProfile j.id (fun r => { r with state := .ready, version := 0 }) s)
  touchStart (offerTo .load (finalWrite j.card [(128, le 4 h.base), (132, le 4 h.nodes)] .done .ok s))

/-- The node cursor advances past a completed write; after the block's last write the next block is read (R29). -/
def advanceLoad (s : State) : State :=
  match s.ps.loader with
  | none => s
  | some j =>
    match (profileOf s j.id).header with
    | none => s
    | some h =>
      let j := { j with cursor := j.cursor + 1, buffer := j.buffer.drop 1 }
      if j.cursor = h.nodes then loadDone j h s
      else if j.buffer.isEmpty then readBlock j s
      else setLoader (some j) s

/-- LOADER_WRITE_COMPLETE (R29, R53). A write whose load was aborted still writes its cell (R33). -/
def execLoaderWriteComplete (s : State) : Result :=
  whenOn s fun s =>
    match s.ps.arb.busy with
    | some (.loader r live) =>
      let s := portDone (writeCell r.cell r.value s)
      pumpPort (if live then advanceLoad s else s)
    | _ => s

/-! ## DROP and freeing -/

/-- The results of a DROP: the state found and the outcome, 1 FREED or 2 RETIRING (R34, chapter 12). -/
def dropResults (found : ProfileState) (outcome : Byte) : List (Nat × List Byte) := [(128, [found.code]), (129, [outcome])]

/-- The load of a profile is aborted by a DROP: its LOAD card is FAILED with ABORTED (R33). -/
def abortLoad (id : Nat) (s : State) : State :=
  match s.ps.loader with
  | some j => if j.id = id then finalWrite j.card [] .failed .aborted (stopLoader s) else s
  | none => s

/-- DROP acts by the state of the named record (R34). -/
def dropCard (c : CurrentCard) (s : State) : State :=
  let id := leRead c.image 16 1
  let r := profileOf s id
  if !within 1 id 16 then failField 16 s
  else
    match stateSeen r with
    | .empty => failCurrent .unknownProfile [] s
    | .loading => doneCurrent (dropResults .loading 1) (freeRecord id (failQueuedOf id (abortLoad id s)))
    | .ready =>
      if r.refs = 0 then doneCurrent (dropResults .ready 1) (freeRecord id s)
      else doneCurrent (dropResults .ready 2) (setProfile id (fun r => { r with state := .retiring }) s)
    | .retiring => doneCurrent (dropResults .retiring 2) s

/-- DROP (R34). -/
def execDrop (s : State) : Result := onDispatch .drop s fun c s => touchStart (dropCard c s)

/-- FREEING: a record whose freeing waited is freed once no granted write of the profile is outstanding (R32). -/
def execFreeing (id : Nat) (s : State) : Result :=
  whenOn s fun s =>
    if within 1 id 16 && (profileOf s id).freeing && !drainGranted s id && !loadWriteGranted s id then
      touchStart (completeFree id s)
    else s

end Sys2Proof.Machine
end

