-- ==== Sys2Proof/Machine/Cards.lean ====
section
/-! DEFINITION. The Card Engine's commands: chain reads and the take (R160 to R163), the watch timer (R162), FENCE (R168), the offering
of a stalled card (R164), and SETUP (R2, R169). -/

namespace Sys2Proof.Machine

/-! ## Chain reads (R160, R161) -/

/-- The Card Engine changed. -/
def setEngine (f : CardEngine → CardEngine) (s : State) : State := { s with ce := f s.ce }

/-- A link names a card: not 0, and a multiple of 256 (R160). -/
def goodLink (link : Nat) : Bool := link != 0 && link % 256 == 0

/-- A chain read that has read its link goes on to the card that a good link names: bytes 0 to 127 are read (R160). That read is recorded at
the chain read's end (log entry 57). -/
def readNamed (link : Nat) (s : State) : State := if goodLink link then emit (.hostRead link 128) s else s

/-- The end of a chain read that read a link, if that read completed: one that a reset dropped is discarded (R170), and otherwise it acts
on an engine that is READING. With RUN clear the read has run to its completion, the card's read with it; its result is dropped and the
engine enters STOPPED (R159; log entry 21). -/
def onChainRead (link : Option (BitVec 64)) (s : State) (f : State → State) : State :=
  if 0 < s.ce.stale then setEngine (fun e => { e with stale := e.stale - 1 }) s
  else if s.ce.state != .reading then s
  else
    let s := match link with
      | some l => readNamed l.toNat s
      | none => s
    if !s.regs.run then setEngine (fun e => { e with state := .stopped }) s else f s

/-- A chain read ends as not ready (R161): the recheck mark begins another at once, and otherwise the engine is WATCHING. -/
def chainNotReady (s : State) : State :=
  if s.ce.recheck then beginChainRead (setEngine (fun e => { e with recheck := false }) s)
  else setEngine (fun e => { e with state := .watching, watchOn := s.regs.interval != 0 }) s

/-- What a link that was read does to the last bad link, and the fault BAD_LINK (R160). -/
def noteLink (link : Nat) (s : State) : State :=
  if link % 256 = 0 then setEngine (fun e => { e with lastBadLink := none }) s
  else if s.ce.lastBadLink = some link then s
  else offerFault (.badLink link (linkAddress s)) (setEngine (fun e => { e with lastBadLink := some link }) s)

/-- A card is taken (R163): TAKEN is written, and the card becomes the held tail, the current card and the end of the outstanding set.
An unknown kind fails it at once. -/
def takeCard (addr : Nat) (card : List Byte) (s : State) : State :=
  let ref : CardRef := ⟨s.ce.takeSeq, addr, BitVec.ofNat 32 (leRead card 12 4), byteAt card 9⟩
  let s := writeHeader addr .taken .ok s
  let s := setEngine (fun e => { e with
    state := .dispatching, heldTail := some addr, current := some ⟨ref, (byteAt card 10).getLsbD 0, card⟩,
    outstanding := e.outstanding ++ [ref], takeSeq := e.takeSeq + 1 }) s
  match CardKind.ofByte ref.kind with
  | some _ => s
  | none => failCurrent .badKind [(128, [ref.kind])] s

/-- CHAIN_READ_COMPLETE: the link was read and, if it names a card, the card (R160). -/
def execChainReadComplete (link : BitVec 64) (card : List Byte) (s : State) : Result :=
  whenOn s fun s =>
    onChainRead (some link) s fun s =>
      let s := setEngine (fun e => { e with readFault := false }) (noteLink link.toNat s)
      if goodLink link.toNat && byteAt card 8 == CardState.posted.code then takeCard link.toNat card s else chainNotReady s

/-- A read error of a chain read at an address: one fault until a chain read completes without one (R160). -/
def chainReadFault (addr : Nat) (s : State) : State :=
  if s.ce.readFault then s
  else offerFault (.cardReadError addr) (setEngine (fun e => { e with readFault := true }) s)

/-- A failed chain read: of the link, or of the card that the link names (R160). -/
def chainReadFails (link : Option (BitVec 64)) (s : State) : State :=
  onChainRead link s fun s =>
    match link with
    | none => chainNotReady (chainReadFault (linkAddress s) s)
    | some l =>
      let s := noteLink l.toNat s
      if goodLink l.toNat then chainNotReady (chainReadFault l.toNat s)
      else chainNotReady (setEngine (fun e => { e with readFault := false }) s)

/-- CARD_READ_ERROR (R160). -/
def execCardReadError (link : Option (BitVec 64)) (s : State) : Result := whenOn s (chainReadFails link)

/-- CHAIN_READ_TIMEOUT has the same effect as an error (R160). -/
def execChainReadTimeout (link : Option (BitVec 64)) (s : State) : Result := whenOn s (chainReadFails link)

/-- WATCH_TIMER_EXPIRY: the running watch timer begins a chain read (R162). -/
def execWatchTimerExpiry (s : State) : Result :=
  whenOn s fun s => if s.ce.state == .watching && s.ce.watchOn then beginChainRead s else s

/-! ## FENCE (R168) -/

/-- Cards of the outstanding set that were taken before a card. -/
def cardsBefore (s : State) (c : CardRef) : Nat := (s.ce.outstanding.takeWhile (fun r => r.take != c.take)).length

/-- A FENCE card is offered: DONE once it is the oldest card, with the count of cards that became final while it waited (R168). -/
def fenceCard (c : CurrentCard) (s : State) : State :=
  if cardsBefore s c.ref = 0 then doneCurrent [(128, le 4 s.ce.fenceCount)] s
  else waitOrFail .notReady [(128, le 4 (cardsBefore s c.ref))] s

/-- FENCE (R168). -/
def execFence (s : State) : Result := onDispatch .fence s fenceCard

/-! ## CARD_REOFFER (R164) -/

/-- A stalled card is offered to its block again. -/
def reoffer (c : CurrentCard) (s : State) : State :=
  match CardKind.ofByte c.ref.kind with
  | some .print => printCard c s
  | some .load => dispatchLoad c s
  | some .patch => reofferPatch s
  | some .fence => fenceCard c s
  | _ => s

/-- CARD_REOFFER: the event that the block's rule names has come, and the stalled card is offered again (R164). -/
def execCardReoffer (s : State) : Result :=
  whenOn s fun s =>
    match s.ce.state, s.ce.offerDue, s.ce.current with
    | .stalled, true, some c => reoffer c (setEngine (fun e => { e with offerDue := false }) s)
    | _, _, _ => s

/-! ## SETUP (R2, R97, R114, R135, R153, R169, R176) -/

/-- A zone as a SETUP leaves it: one that leaves use is held OFF (R97). -/
def setupZone (zonesUsed n : Nat) (z : Zone) : Zone :=
  if n < zonesUsed then z else { cutZone .off z with sp := 0, latch := false }

/-- An axis takes the paper figures (R135). -/
def setupAxis (c : Settings) (a : AxisRecord) : AxisRecord :=
  { a with tSp := c.paperTsp, kp := c.paperKp, ki := c.paperKi, source := .setup }

/-- The eight inputs in order. -/
def allInputs : List LineInput :=
  [.paperBreak, .fabricBreak, .estop, .guard, .paperRollEnd, .fabricRollEnd, .paperSpliceAck, .fabricSpliceAck]

/-- An input's polarity by the SETUP body (chapter 12). -/
def polarityOf (c : Settings) (i : LineInput) : Bool := c.polarities.getLsbD (inputIndex i)

/-- Every polarity is taken (R176). -/
def setupInputs (c : Settings) (s : State) : State :=
  { s with su := { s.su with inputs := s.su.inputs.mapIdx fun n r => { r with activeHigh := c.polarities.getLsbD n } } }

/-- The edge that a new polarity makes at an input, if its active state has changed (R176). -/
def polarityEdge (before s : State) (i : LineInput) : State :=
  if (inputOf before i).active = (inputOf s i).active then s else inputEdge i (inputOf s i).active s

/-- The edges that new polarities make, in the order of the inputs (R176). -/
def polarityEdges (before s : State) : State := allInputs.foldl (polarityEdge before) s

/-- Every block takes its settings at once (R169). The idle cap comes into force with them, since the line stands still (R104; log
entry 47). -/
def takeSettings (c : Settings) (s : State) : State :=
  let s := { s with setup := some c }
  let s := setZones (s.hc.zones.mapIdx (setupZone c.zones)) s
  let s := reportStopped (mapAxes (setupAxis c) s)
  let s := { s with pe := { s.pe with bars := s.pe.bars.mapIdx fun n b => if n < c.bars then b else resetBar } }
  testCount .fu (testCount .pu (setupInputs c s))

/-- The completion of a SETUP card (R169, R176, R102). ZONES_IN_BAND is raised before the card is written DONE (log entry 61). -/
def applySetup (c : Settings) (s : State) : State :=
  noteZones (zonesCondition s) (polarityEdges s (takeSettings c s))

/-- SETUP is accepted: the drive IDLE or HALTED, the queue empty, and no SEGMENT entry (R169). -/
def setupAccepted (s : State) : Bool :=
  (s.wd.state == .idle || s.wd.state == .halted) && s.pe.queue.isEmpty && s.tmap.segs.isEmpty

/-- A SETUP card (R169). -/
def setupCard (k : CurrentCard) (s : State) : State :=
  if !setupAccepted s then failCurrent .wrongState [] s
  else
    let c := parseSettings k.image
    match setupError s.power s.hc.zones c with
    | some off => failField off s
    | none => touchStart (doneCurrent [] (applySetup c s))

/-- SETUP (R169). -/
def execSetup (s : State) : Result := onDispatch .setup s setupCard

end Sys2Proof.Machine
end

