-- ==== Sys2Proof/Machine/DriveUnit.lean ====
section
/-! DEFINITION. The Web Drive's commands: the DRIVE card's actions (R115 to R117, R124, R125), the ramp period (R118 to R120), and the
drum encoder (R121). -/

namespace Sys2Proof.Machine

/-! ## DRIVE cards -/

/-- The drive's state changed. -/
def setDrive (f : Drive → Drive) (s : State) : State := { s with wd := f s.wd }

/-- Action of a DRIVE card (chapter 12). -/
def driveAction (c : CurrentCard) : Nat := leRead c.image 16 1

/-- Results of a DRIVE card: the action, and the drive after it (chapter 12). -/
def driveResults (action : Nat) (s : State) : List (Nat × List Byte) :=
  [(128, le 1 action), (129, [s.wd.state.code]), (130, le 2 s.wd.requested), (132, le 2 s.wd.running)]

/-- The card is DONE with the drive as the action left it. -/
def driveDone (c : CurrentCard) (more : List (Nat × List Byte)) (s : State) : State :=
  doneCurrent (driveResults (driveAction c) s ++ more) s

/-- The card is FAILED with WRONG_STATE. -/
def driveWrong (c : CurrentCard) (more : List (Nat × List Byte)) (s : State) : State :=
  failCurrent .wrongState (driveResults (driveAction c) s ++ more) s

/-- The dispatch of a DRIVE card by its action: an action outside 1 to 5 is a BAD_FIELD (R178; log entry 24). -/
def onDrive (action : Nat) (s : State) (f : CurrentCard → State → State) : Result :=
  onDispatch .drive s fun c s =>
    if !within 1 (driveAction c) 5 then failField 16 s else if driveAction c = action then f c s else s

/-- v_max of the last SETUP. -/
def vMaxOf (s : State) : Nat := (s.setup.map (·.vMax)).getD 0

/-- The speed a DRIVE card names (chapter 12). -/
def cardSpeed (c : CurrentCard) : Nat := leRead c.image 18 2

/-- GUARD holds back START: active, or of unknown level, while halt-on-guard is set (R115, R176). -/
def guardHolds (s : State) : Bool := (s.setup.map (·.haltOnGuard)).getD false && (inputOf s .guard).countsActive

/-- START in its order of checks (R115). -/
def startCard (c : CurrentCard) (s : State) : State :=
  if s.wd.state != .idle || s.setup.isNone || guardHolds s then driveWrong c [] s
  else if !within vMin (cardSpeed c) (vMaxOf s) then failField 18 s
  else touchStart (driveDone c [] (setDrive (fun d => { d with state := .starting, requested := cardSpeed c }) s))

/-- START (R115). -/
def execStart (s : State) : Result := onDrive 1 s startCard

/-- SPEED (R116). The state is checked before the speed (log entry 24). -/
def speedCard (c : CurrentCard) (s : State) : State :=
  match s.wd.state with
  | .starting | .running | .draining =>
    if !within vMin (cardSpeed c) (vMaxOf s) then failField 18 s
    else driveDone c [] (setDrive (fun d => { d with requested := cardSpeed c }) s)
  | .idle | .rampdown | .halted => driveWrong c [] s

/-- SPEED (R116). -/
def execSpeed (s : State) : Result := onDrive 2 s speedCard

/-- STOP (R117). -/
def stopCard (c : CurrentCard) (s : State) : State :=
  match s.wd.state with
  | .starting | .running => touchStart (driveDone c [] (setDrive (fun d => { d with state := .draining }) s))
  | .idle | .draining | .rampdown => driveDone c [] s
  | .halted => driveWrong c [] s

/-- STOP (R117). -/
def execStop (s : State) : Result := onDrive 3 s stopCard

/-- HALT: the halt with cause HOST, or a later cause, and then the card DONE (R124). LATER_HALT is queued before the card is written (log
entry 61). -/
def execHalt (s : State) : Result := onDrive 4 s fun c s => driveDone c [] (haltLine .host s)

/-- CLEAR is refused: not HALTED, SETUP-valid clear, or a break or ESTOP input active or of unknown level (R125, R176). -/
def clearRefused (s : State) : Bool :=
  s.wd.state != .halted || s.setup.isNone || (inputOf s .paperBreak).countsActive ||
    (inputOf s .fabricBreak).countsActive || (inputOf s .estop).countsActive

/-- Every queued card fails ABORTED, head first (R125, R62). -/
def flushQueue (s : State) : State := s.pe.queue.foldl (fun s q => failQueued .aborted [] q s) s

/-- An accepted CLEAR: the drive IDLE, the cause absent, the axes ACTIVE, and pending splice requests tried (R125, R130, R147), PU's before
FU's and both before the writes of a flush and of the card (log entry 54). -/
def clearHalt (s : State) : State :=
  let s := setDrive (fun d => { d with state := .idle, requested := 0, target := 0, running := 0 }) s
  let s := { s with su := { s.su with haltCause := none } }
  tryPending .fu (tryPending .pu (mapAxes axisActivate s))

/-- CLEAR in its order of checks (R125; log entry 24 for the flush byte). -/
def clearCard (c : CurrentCard) (s : State) : State :=
  if clearRefused s then driveWrong c [(135, le 1 (activeInputs s))] s
  else if 2 ≤ leRead c.image 17 1 then failField 17 s
  else
    let s := clearHalt s
    if leRead c.image 17 1 = 1 then touchStart (driveDone c [(134, le 1 s.pe.queue.length)] (flushQueue s))
    else touchStart (driveDone c [(134, le 1 0)] s)

/-- CLEAR (R125). -/
def execClear (s : State) : Result := onDrive 5 s clearCard

/-! ## The ramp period (R118 to R120) -/

/-- A speed clamped to the line window: raised to lo, then lowered to hi (R119). -/
def clampSpeed (v : Nat) (w : Nat × Nat) : Nat := min w.2 (max w.1 v)

/-- Phase 2: a drain with no SEGMENT entry enters RAMPDOWN (R120). -/
def drainPhase (noSegs : Bool) (d : Drive) : Drive :=
  if d.state == .draining && noSegs then { d with state := .rampdown, requested := 0 } else d

/-- Phase 3: the target (R119). -/
def targetPhase (w : Nat × Nat) (d : Drive) : Drive :=
  match d.state with
  | .starting => { d with target := d.requested }
  | .running | .draining => { d with target := clampSpeed d.requested w }
  | .rampdown | .idle | .halted => { d with target := 0 }

/-- A speed stepped toward a target by the step or the distance, whichever is less (R118). -/
def stepToward (step running target : Nat) : Nat :=
  if running ≤ target then running + min step (target - running) else running - min step (running - target)

/-- Phase 4: the running speed moves (R118). -/
def stepPhase (step : Nat) (d : Drive) : Drive :=
  match d.state with
  | .starting | .running | .draining | .rampdown => { d with running := stepToward step d.running d.target }
  | .idle | .halted => d

/-- Phase 5: the state changes that the new running speed brings (R120). -/
def statePhase (d : Drive) : Drive :=
  match d.state with
  | .starting => if d.running = d.target then { d with state := .running } else d
  | .rampdown => if d.running = 0 then { d with state := .idle } else d
  | .idle | .running | .draining | .halted => d

/-- SPEED_HELD: the target differs from the requested speed in RUNNING or DRAINING (R119; log entry 18). -/
def heldPhase (d : Drive) : Drive :=
  { d with held := (d.state == .running || d.state == .draining) && d.target != d.requested }

/-- The drive after a ramp period (R118). -/
def rampDrive (noSegs : Bool) (w : Nat × Nat) (step : Nat) (d : Drive) : Drive :=
  heldPhase (statePhase (stepPhase step (targetPhase w (drainPhase noSegs d))))

/-- Ramp step of the last SETUP (R114). -/
def rampStep (s : State) : Nat := (s.setup.map (·.rampRate)).getD 0 / 10

/-- RAMP_PERIOD (R118). LINE_RUNNING and then SPEED_HELD are raised before the frame is sent (log entry 61). -/
def execRampPeriod (s : State) : Result :=
  whenOn s fun s =>
    let d := s.wd
    let d' := rampDrive s.tmap.segs.isEmpty (lineWindow s) (rampStep s) d
    let s := setDrive (fun _ => d') s
    let s := if d.state == .starting && d'.state == .running then raiseEvent .lineRunning s else s
    let s := if !d.held && d'.held then raiseEvent .speedHeld s else s
    let s := if d.running != 0 && d'.running == 0 then reportStopped s else s
    let s := sendFrame s
    if d.state != d'.state || d.running != d'.running then touchStart s else s

/-- DRUM_ENCODER_REPORT: each report replaces the last (R121). -/
def execDrumEncoderReport (speed : BitVec 16) (s : State) : Result :=
  whenOn s fun s => setDrive (fun d => { d with measured := speed }) s

end Sys2Proof.Machine
end

