-- ==== Sys2Proof/Machine/Registers.lean ====
section
/-! DEFINITION. The register window (R157, R159, R162, R172, R173): what a write to each register does, and what a read returns. -/

namespace Sys2Proof.Machine

/-- A CONTROL write stores the RUN mark and the watch interval and acts on them (R157, R159, R162). -/
def controlWrite (run : Bool) (interval : BitVec 8) (s : State) : State :=
  let old := s.regs.interval
  let s := { s with regs := { s.regs with run := run, interval := interval } }
  match s.ce.state with
  | .stopped => if run && s.regs.bookBase != 0 then beginChainRead s else s
  | .watching =>
    if !run then { s with ce := { s.ce with state := .stopped, watchOn := false } }
    else if interval != old then { s with ce := { s.ce with watchOn := interval != 0 } }
    else s
  | .reading | .dispatching | .stalled => s

/-- RUN_SET (R159). -/
def execRunSet (interval : BitVec 8) (s : State) : Result := whenOn s (controlWrite true interval)

/-- RUN_CLEAR (R159). -/
def execRunClear (interval : BitVec 8) (s : State) : Result := whenOn s (controlWrite false interval)

/-- WATCH_INTERVAL: a CONTROL write that leaves RUN as it stands (R162). -/
def execWatchInterval (interval : BitVec 8) (s : State) : Result := whenOn s (controlWrite s.regs.run interval)

/-- BOOK_BASE: stored with its low twelve bits 0 while the engine is STOPPED, and ignored in any other state; a non-zero value
starts a chain read while RUN is set (R157, R159). A page write that is due stays due, and none comes due here (R175; log entry 64). -/
def execBookBase (value : BitVec 64) (s : State) : Result :=
  whenOn s fun s =>
    if s.ce.state == .stopped then
      let base := value &&& ~~~(0xFFF#64)
      let s := { s with regs := { s.regs with bookBase := base } }
      if s.regs.run && base != 0 then beginChainRead s else s
    else s

/-- WAKE: begins a chain read in WATCHING, sets the recheck mark in READING, and has no effect otherwise (R162). -/
def execWake (_value : BitVec 32) (s : State) : Result :=
  whenOn s fun s =>
    match s.ce.state with
    | .watching => beginChainRead s
    | .reading => { s with ce := { s.ce with recheck := true } }
    | .stopped | .dispatching | .stalled => s

/-- The oldest fault is discarded; if another remains it is placed in the slot and FAULT_PENDING is raised again (R174). -/
def discardOldest (s : State) : State :=
  match s.su.faults with
  | [] => s
  | _ :: rest =>
    let s := { s with su := { s.su with faults := rest, pageDue := true } }
    if rest.isEmpty then s else raiseEvent .faultPending s

/-- EVENT_ACK clears every mark written as 1; clearing FAULT_PENDING also discards the oldest fault (R172, R174). -/
def execEventAck (marks : BitVec 32) (s : State) : Result :=
  whenOn s fun s =>
    let s := { s with su := { s.su with events := s.su.events &&& ~~~marks } }
    if marks &&& Event.faultPending.mask != 0 then discardOldest s else s

/-- IRQ_ENABLE stores the enable marks, and the interrupt is signalled if the summary rises (R173). -/
def execIrqEnable (marks : BitVec 32) (s : State) : Result :=
  whenOn s fun s =>
    signalRise (irqSummary s) { s with regs := { s.regs with irqEnable := marks &&& eventMarks } }

/-- REGISTER_WRITE: a write to a register with no behaviour of its own has no effect (R157). -/
def execRegisterWrite (_offset : Nat) (_value : BitVec 32) (s : State) : Result := whenOn s id

/-- What IDENT returns (R157, chapter 12; the revision is log entry 12). -/
def identValue (s : State) : BitVec 32 :=
  48#32 ||| (Config.revision.setWidth 32 <<< 8) ||| ((if s.power.zones8 then 1#32 else 0) <<< 16)
    ||| ((if s.power.store64k then 1#32 else 0) <<< 17)

/-- What a read of a register returns; SOFT_RESET reads 0, and WAKE and EVENT_ACK read 0 (R157, chapter 12). -/
def readRegister (s : State) (offset : Nat) : BitVec 64 :=
  match offset with
  | 0 => (identValue s).setWidth 64
  | 4 => (if s.regs.run then 1#64 else 0) ||| (s.regs.interval.setWidth 64 <<< 8)
  | 8 => s.regs.bookBase
  | 24 => s.regs.irqEnable.setWidth 64
  | _ => 0

end Sys2Proof.Machine
end

