-- ==== Sys2Proof/Machine/Resets.lean ====
section
/-! DEFINITION. The four resets and the loss of the main supply (R157, R170, R153, R154, and each block's table of resets: R40, R59,
R81, R111, R128, R143, R155). -/

namespace Sys2Proof.Machine

/-! ## What main power-on reset and software reset share -/

/-- The Card Engine after a reset: STOPPED, its cards forgotten; a chain read in flight is dropped when its data arrives (R170). -/
def resetEngine (e : CardEngine) : CardEngine :=
  ⟨.stopped, none, none, [], false, false, none, false, 0, false, e.stale + (if e.state == .reading then 1 else 0), e.takeSeq⟩

/-- The access at the port with its requester gone (R33, R39; log entry 39, which a fill's completion follows too). -/
def orphanAccess : PortAccess → PortAccess
  | .fill r _ => .fill r false
  | .shadow r _ => .shadow r false
  | .loader r _ => .loader r false

/-- The loader's reads whose data will be discarded after a reset (R33). -/
def staleLoads (p : ProfileStore) : Nat :=
  p.stale + (match p.loader with
    | some j => if j.reading then 1 else 0
    | none => 0)

/-- The edit list reads whose data will be discarded after a reset (R59). -/
def staleLists (b : ShadowBuffer) : Nat :=
  b.stale + (match b.patch with
    | some p => if p.phase == .reading then 1 else 0
    | none => 0)

/-- The Profile Store after a reset, with a memory and what is left at the port (R40). -/
def resetStore (store64k : Bool) (mem : StoreMemory) (busy : Option PortAccess) (p : ProfileStore) : ProfileStore :=
  ⟨List.replicate 16 emptyRecord, [⟨0, storeCells store64k⟩], mem, none, staleLoads p, ⟨busy, none, none, none, false, false⟩⟩

/-- The Print Engine after a reset: a raster read in flight completes and is discarded (R81, R70). -/
def resetPrint (p : PrintEngine) : PrintEngine :=
  ⟨[], .idle, none, p.read.map (fun r => { r with live := false }), none, List.replicate 6 resetBar, 0, 0, none⟩

/-- The Status Unit after a reset: the raw levels at the pins stand (R172, R174 to R177). A slot that held a fault has changed to NONE,
which makes a page write due (R174, R175). -/
def resetStatus (u : Status) : Status :=
  ⟨0, [], 0, 0, u.pageDue || !u.faults.isEmpty, some .reset, u.inputs.map (fun r => resetInput r.raw)⟩

/-- The part after software reset (R157 and the blocks' tables): the straps, BOOK_BASE, IRQ_ENABLE, the web position, the SRAM, the
measured speed, the heater window and the keep-alive domain stand. -/
def softReset (s : State) : State where
  pending := s.pending
  clock := s.clock
  ports := s.ports
  power := s.power
  ka := s.ka
  regs := ⟨false, 0, s.regs.bookBase, s.regs.irqEnable⟩
  setup := none
  lastVMax := windowTop s
  ce := resetEngine s.ce
  web := s.web
  tmap := ⟨[], []⟩
  ps := resetStore s.power.store64k s.ps.mem (s.ps.arb.busy.map orphanAccess) s.ps
  spb := ⟨[], none, staleLists s.spb⟩
  nc := ⟨List.replicate 256 none, 0, 0, 0⟩
  pe := resetPrint s.pe
  hc := ⟨List.replicate 8 resetZone, none, s.hc.windowStart⟩
  wd := ⟨.halted, 0, 0, 0, s.wd.measured, false⟩
  tc := ⟨List.replicate 4 resetAxis, List.replicate 8 ⟨none, 0⟩, none⟩
  rc := ⟨resetSplice, resetSplice, []⟩
  su := resetStatus s.su

/-- The frames of the halt that a reset makes: RESET is a cause of R122, and taken in a state other than HALTED it has the Web Drive and the
Tension Controller each send a frame at once, with reference 0 and every torque 0 (R123, R130, R134). A part whose main supply was
down stands in no drive state (log entry 55). -/
def resetFrames (before after : State) : State :=
  if before.power.mainOn && before.wd.state == .halted then after else sendFrame (sendFrame after)

/-- SOFT_RESET (R157, R122). -/
def execSoftReset (s : State) : Result := whenOn s fun s => resetFrames s (softReset s)

/-- KA_LOST is raised if the lost mark is set, and the mark is cleared (R154). -/
def raiseLost (s : State) : State :=
  if s.ka.lost then raiseEvent .kaLost { s with ka := { s.ka with lost := false } } else s

/-- The part after main power-on reset with the straps sampled (R157 and the blocks' tables); log entries 9 and 10. -/
def powerOn (zones8 store64k : Bool) (s : State) : State where
  pending := s.pending
  clock := s.clock
  ports := s.ports
  power := ⟨true, zones8, store64k⟩
  ka := s.ka
  regs := ⟨false, 0, 0, 0⟩
  setup := none
  lastVMax := windowTop s
  ce := resetEngine s.ce
  web := ⟨0, 0⟩
  tmap := ⟨[], []⟩
  ps := resetStore store64k [] none s.ps
  spb := ⟨[], none, staleLists s.spb⟩
  nc := ⟨List.replicate 256 none, 0, 0, 0⟩
  pe := resetPrint s.pe
  hc := ⟨List.replicate 8 resetZone, none, s.clock⟩
  wd := ⟨.halted, 0, 0, 0, 0, false⟩
  tc := ⟨List.replicate 4 resetAxis, List.replicate 8 ⟨none, 0⟩, none⟩
  rc := ⟨resetSplice, resetSplice, []⟩
  su := { resetStatus s.su with pageDue := false }

/-- MAIN_POWER_ON_RESET (R157, R154, R122). -/
def execMainPowerOnReset (zones8 store64k : Bool) (s : State) : Result :=
  .next (raiseLost (resetFrames s (powerOn zones8 store64k s)))

/-! ## Supplies -/

/-- KEEP_ALIVE_POWER_ON_RESET (R154; log entry 31). -/
def execKeepAlivePowerOnReset (s : State) : Result := .next { s with ka := ⟨⟨0, 0⟩, false, ⟨0, 0⟩, false, ⟨0, 0⟩, true, true⟩ }

/-- MAIN_SUPPLY_LOSS: the counters stay on the keep-alive supply, and the part does nothing until the main supply comes up (R153; log
entry 32). -/
def execMainSupplyLoss (s : State) : Result := .next { s with power := { s.power with mainOn := false } }

/-! ## Link reset -/

/-- The card in hand of the Shadow Patch Buffer is given up, its creation request withdrawn, and a granted creation read discarded
(R59). -/
def stopPatch (s : State) : State :=
  let a := s.ps.arb
  let req :=
    match a.shadowReq with
    | some (.creation ..) => none
    | r => r
  let busy :=
    match a.busy with
    | some (.shadow (.creation id node cell k) _) => some (PortAccess.shadow (.creation id node cell k) false)
    | b => b
  setArb { a with shadowReq := req, busy := busy } { s with spb := { s.spb with patch := none, stale := staleLists s.spb } }

/-- A SEGMENT entry becomes ORPHAN, and its card can no longer be reached (R17). -/
def orphanSeg (g : Segment) : Segment := { g with card := none, flags := { g.flags with orphan := true } }

/-- The printing job ends and every entry becomes ORPHAN (R17, R80). -/
def orphanMap (s : State) : State :=
  let s := setPrintEnd (abandonLine s)
  endJob { s with tmap := { s.tmap with segs := s.tmap.segs.map orphanSeg } }

/-- The print queue is discarded, each card releasing its profile reference; no card is written (R62, R37). -/
def discardQueue (s : State) : State :=
  s.pe.queue.foldl (fun s q => releaseProfile q.profileId s) { s with pe := { s.pe with queue := [], hold := none } }

/-- A LOADING or RETIRING record is freed (R40). -/
def freeIfUnready (id : Nat) (s : State) : State :=
  let r := profileOf s id
  if (r.state == .loading || r.state == .retiring) && !r.freeing then freeRecord id s else s

/-- Every LOADING and RETIRING record is freed (R40). -/
def freeUnready (s : State) : State := (List.range 16).foldl (fun s i => freeIfUnready (i + 1) s) s

/-- Each fabric record's count is set to the number of SEGMENT entries naming it (R138). -/
def recountFabrics (s : State) : State :=
  { s with tc := { s.tc with fabrics := s.tc.fabrics.mapIdx fun i r =>
    { r with refs := (s.tmap.segs.filter (fun g => g.fabricId == some (i + 1))).length } } }

/-- The drive at link reset: RUNNING and STARTING enter DRAINING (R127). -/
def linkDrive (d : Drive) : Drive :=
  match d.state with
  | .starting | .running => { d with state := .draining }
  | .idle | .draining | .rampdown | .halted => d

/-- Splices go on with their cards absent (R152). -/
def forgetSpliceCards (s : State) : State :=
  { s with rc := { s.rc with pu := { s.rc.pu with card := none }, fu := { s.rc.fu with card := none } } }

/-- The part after link reset (R17, R40, R59, R62, R80, R127, R138, R152, R170), before its fault is offered. -/
def linkDown (s : State) : State :=
  let s := { s with regs := ⟨false, 0, 0, 0⟩, ce := resetEngine s.ce }
  let s := discardQueue (orphanMap (stopLoader (stopPatch s)))
  let s := recountFabrics (pumpPort (freeUnready s))
  forgetSpliceCards { s with wd := linkDrive s.wd }

/-- LINK_RESET: the reset, with the PROFILE_FREED of its freeings, and then the fault LINK_RESET (R170, R174; log entry 61). -/
def execLinkReset (s : State) : Result := whenOn s fun s => offerFault .linkReset (linkDown s)

end Sys2Proof.Machine
end

