-- ==== Sys2Proof/Machine/RollUnit.lean ====
section
/-! DEFINITION. The Roll Change Unit's commands: SPLICE (R146), requests by count (R147), drum travel (R153), and the limits of a
splice's phases (R148, R149). -/

namespace Sys2Proof.Machine

/-- The unwind that a SPLICE body names (chapter 12). -/
def unwindOf (code : Nat) : Option Unwind :=
  match code with
  | 1 => some .pu
  | 2 => some .fu
  | _ => none

/-- A SPLICE card in its order of checks (R146). -/
def spliceCard (c : CurrentCard) (s : State) : State :=
  match unwindOf (leRead c.image 16 1) with
  | none => failField 16 s
  | some a =>
    if !unwindActive s a || (spliceOf s a).state != .idle then failCurrent .wrongState [] s
    else if !jointRoom s a then failCurrent .busy [] s
    else endDispatch (beginSplice a .card (some c.ref) s)

/-- SPLICE (R146). -/
def execSplice (s : State) : Result := onDispatch .splice s spliceCard

/-- ROLL_COUNT_REQUEST: the request that the counter's test found (R147), if the conditions still stand at this step (log entry 63). -/
def execRollCountRequest (a : Unwind) (s : State) : Result :=
  whenOn s fun s => if (spliceOf s a).countDue && countAsks s a then autoRequest a .count s else s

/-- DRUM_TRAVEL_INCREMENT: forward travel advances the fabric and lifetime counters; reverse travel is dropped (R153). -/
def execDrumTravelIncrement (increment : Int) (s : State) : Result :=
  whenOn s fun s =>
    if increment ≤ 0 then s
    else
      testCount .fu { s with ka := { s.ka with
        fu := advanceCounter increment.toNat s.ka.fu, lifetime := advanceCounter increment.toNat s.ka.lifetime } }

/-- SPLICE_TIMEOUT: no acknowledge within the limit (R148). The fault is queued before the card is written (log entry 61), and the
card's results carry the axis with the splice time (log entry 56). -/
def execSpliceTimeout (a : Unwind) (s : State) : Result :=
  whenOn s fun s =>
    let r := spliceOf s a
    if r.state != .wait then s
    else
      let s := offerFault (.spliceTimeout a (r.cause.getD .card)) (setSplice a spliceIdle s)
      match r.card with
      | none => s
      | some c => finalWrite c [(128, [unwindCode a]), (148, le 4 r.limit)] .failed .timeout s

/-- HANDOVER_LIMIT: the handover has lasted beyond its limit; the fault is queued and then the halt cause taken (R149). -/
def execHandoverLimit (a : Unwind) (s : State) : Result :=
  whenOn s fun s =>
    if (spliceOf s a).state == .handedOver then haltLine .handover (offerFault (.handoverLimit a) s) else s

end Sys2Proof.Machine
end

