-- ==== Sys2Proof/Machine/StatusPage.lean ====
section
/-! DEFINITION. The status page (R175) by the layout of chapter 12: each section holds the figures of its rule in the rule's order, at
the sizes of R178 (log entry 27). -/

namespace Sys2Proof.Machine

/-! ## Fields -/

/-- A field of one byte, 255 where it is absent. -/
def byteOpt : Option Byte → List Byte
  | none => absent 1
  | some b => [b]

/-- A tag, or its absent value. -/
def tagOpt (t : Option (BitVec 32)) : List Byte := leOpt 4 (t.map (·.toNat))

/-- A signed field of 2 bytes, −32768 where it is absent: R178's value for signed deviations, taken for a temperature too (log entry
27). -/
def intOpt (v : Option Int) : List Byte := leInt 2 (v.getD (-32768))

/-- A section of `n` bytes: its fields, then zeros (R178). -/
def pageSection (n : Nat) (l : List Byte) : List Byte := (l ++ List.replicate (n - l.length) 0).take n

/-- `n` places for a list's members, absent beyond its end. -/
def places {α : Type} (n : Nat) (l : List α) (f : Option α → List Byte) : List Byte :=
  (List.range n).flatMap fun i => f l[i]?

/-- A level as a byte; an unknown level is 255. -/
def levelByte : Option Bool → List Byte
  | none => absent 1
  | some b => mark b

/-- The kind of the last bad reading. -/
def kindByte (k : Option BadKind) : List Byte := byteOpt (k.map (·.code))

/-! ## The fault slot (chapter 12, FAULT ENTRY) -/

/-- Code of a fault, in the order of the fault table. -/
def FaultInfo.code : FaultInfo → Nat
  | .loadReadError .. => 1 | .patchReadError .. => 2 | .parity .. => 3 | .rasterReadError .. => 4 | .barSilent .. => 5
  | .zoneSensor .. => 6 | .zoneTrip .. => 7 | .tensionSensor .. => 8 | .laterHalt .. => 9 | .spliceTimeout .. => 10
  | .handoverLimit .. => 11 | .spliceAckUnexpected .. => 12 | .badLink .. => 13 | .cardReadError .. => 14 | .linkReset => 15
  | .overflow .. => 16

/-- Code of the source of a parity error (log entry 11). -/
def ParitySource.code : ParitySource → Byte
  | .fill => Config.unstatedCode .paritySource 0
  | .merge => Config.unstatedCode .paritySource 1

/-- Code of how a raster read failed (log entry 11). -/
def ReadFailure.code : ReadFailure → Byte
  | .error => Config.unstatedCode .readFailure 0
  | .timeout => Config.unstatedCode .readFailure 1

/-- The fields of a fault's code, in the order of the fault table (chapter 11). -/
def FaultInfo.fields : FaultInfo → List Byte
  | .loadReadError id cursor => le 1 id ++ le 4 cursor
  | .patchReadError id => le 1 id
  | .parity id node cell src marks => le 1 id ++ le 4 node ++ le 4 cell ++ [src.code, marks]
  | .rasterReadError tag line kind => le 4 tag.toNat ++ le 2 line ++ [kind.code]
  | .barSilent bar => le 1 bar
  | .zoneSensor zone kind => le 1 zone ++ [kind.code]
  | .zoneTrip zone reading tTrip => le 1 zone ++ leInt 2 reading ++ le 2 tTrip
  | .tensionSensor axis kind => [axis.code, kind.code]
  | .laterHalt cause => [cause.code]
  | .spliceTimeout axis cause => [unwindCode axis, cause.code]
  | .handoverLimit axis => [unwindCode axis]
  | .spliceAckUnexpected axis found => [unwindCode axis, found.code]
  | .badLink found read => le 8 found ++ le 8 read
  | .cardReadError addr => le 8 addr
  | .linkReset => []
  | .overflow lost => le 2 lost

/-- A fault entry of 32 bytes (chapter 12). -/
def faultBytes (e : FaultEntry) : List Byte :=
  pageSection 16 (le 1 e.info.code ++ [0] ++ le 2 e.seq.toNat ++ le 6 e.pos) ++ pageSection 16 e.info.fields

/-- The fault slot: the oldest entry, or NONE, every byte 0 (R174; log entry 27). -/
def faultSlot (s : State) : List Byte :=
  match s.su.faults with
  | [] => List.replicate 32 0
  | e :: _ => faultBytes e

/-! ## Sections -/

/-- Code of an engine state (log entry 11). -/
def EngineState.code : EngineState → Byte
  | .stopped => Config.unstatedCode .engineState 0
  | .reading => Config.unstatedCode .engineState 1
  | .watching => Config.unstatedCode .engineState 2
  | .dispatching => Config.unstatedCode .engineState 3
  | .stalled => Config.unstatedCode .engineState 4

/-- The block that a stalled card waits on, by its kind (R171; log entry 11); outside STALLED its place is absent (log entry 27). -/
def waitingBlock (s : State) : List Byte :=
  if s.ce.state == .stalled then byteOpt (s.ce.current.map fun c => Config.unstatedCode .waitingBlock c.ref.kind.toNat)
  else absent 1

/-- Card Engine (R171). -/
def engineSection (s : State) : List Byte :=
  [s.ce.state.code] ++ leOpt 8 s.ce.heldTail ++ tagOpt (s.ce.current.map (·.ref.tag)) ++
    byteOpt (s.ce.current.map (·.ref.kind)) ++ waitingBlock s ++ le 2 s.ce.outstanding.length ++
    leOpt 8 (s.ce.outstanding.head?.map (·.addr)) ++ tagOpt (s.ce.outstanding.head?.map (·.tag)) ++ mark s.ce.readFault

/-- The coordinate of the nearest JOINT entry (R18; log entry 14). -/
def nearestJoint (s : State) : Option Nat :=
  match s.tmap.joints with
  | [] => none
  | [j] => some j.at_
  | j :: k :: _ => some (if Config.nearestJointIsFirst s.web.pos j.at_ k.at_ then j.at_ else k.at_)

/-- Transit Map, with the first SEGMENT entry's dose and tension figures (R18, R96, R144). -/
def mapSection (s : State) : List Byte :=
  let first := s.tmap.segs.head?
  le 6 s.web.pos ++ le 2 s.tmap.segs.length ++ le 2 s.tmap.joints.length ++
    le 2 (s.tmap.segs.filter (·.flags.orphan)).length ++ leOpt 6 (nearestJoint s) ++ tagOpt (first.map (·.tag)) ++
    leOpt 6 (first.map (·.start)) ++ levelByte (first.map leadInWrap) ++ levelByte (first.map trailInWrap) ++
    places 8 ((first.map (·.dLead)).getD []) (leOpt 4) ++ places 8 ((first.map (·.dTrail)).getD []) (leOpt 4) ++
    leOpt 2 (first.map (·.tensionMax)) ++ levelByte (first.map (·.flags.tensionDev))

/-- Code of an engine state of the Print Engine (log entry 11). -/
def PrintState.code : PrintState → Byte
  | .idle => Config.unstatedCode .printState 0
  | .printing => Config.unstatedCode .printState 1
  | .ending => Config.unstatedCode .printState 2

/-- Code of a bar's state (log entry 11). -/
def Bar.code (b : Bar) : Byte := Config.unstatedCode .barState (if b.ready then 1 else 0)

/-- The bars in use, READY or NOT_READY and room (R82), in six places, absent for a bar not in use (log entries 11, 27). -/
def barFields (s : State) : List Byte :=
  places 6 (s.pe.bars.take ((s.setup.map (·.bars)).getD 0)) fun b =>
    byteOpt (b.map (·.code)) ++ leOpt 2 (b.map (·.room))

/-- Print Engine (R82), with four places for the tags of the queued cards, absent beyond the queue (log entry 27). -/
def printSection (s : State) : List Byte :=
  let seg := s.pe.job.bind fun j => segAt s j.start
  [s.pe.state.code] ++ places 4 s.pe.queue (fun q => tagOpt (q.map (·.card.tag))) ++ le 2 s.pe.queue.length ++
    leOpt 1 (s.pe.hold.map (·.marks)) ++ tagOpt (s.pe.job.map (·.card.card.tag)) ++ leOpt 4 (s.pe.job.map (·.nOut)) ++
    leOpt 4 (s.pe.job.map (·.cursor)) ++ leOpt 4 (seg.map (·.emitted)) ++ leOpt 4 (seg.map (·.late)) ++
    leOpt 2 ((seg.bind (·.lastVersion)).map (·.toNat)) ++ barFields s

/-- A profile record in 24 bytes (R41). The grid N and the channel count K take two bytes each, as counts (log entry 27). -/
def profileFields (r : ProfileRecord) : List Byte :=
  pageSection 24 ([r.state.code] ++ leOpt 2 (r.header.map (·.grid)) ++ leOpt 2 (r.header.map (·.channels)) ++
    leOpt 4 (r.header.map (·.base)) ++ leOpt 2 (r.header.map (·.nodes)) ++ le 2 r.refs ++ le 2 r.version.toNat ++ le 2 r.damage)

/-- Profile Store (R41). -/
def storeSection (s : State) : List Byte :=
  let free := s.ps.free.map (·.len)
  s.ps.records.flatMap profileFields ++ le 4 (storeCells s.power.store64k) ++ le 4 free.sum ++ le 2 free.length ++
    le 4 (free.foldl max 0) ++ leOpt 1 (s.ps.loader.map (·.id)) ++ leOpt 4 (s.ps.loader.map (·.cursor))

/-- Code of a shadow entry's state (log entry 11). -/
def shadowCode (e : ShadowEntry) : Byte := Config.unstatedCode .shadowState (if e.visible then 1 else 0)

/-- Code of the patch state (log entry 11). -/
def patchCode : Option PatchPhase → Byte
  | none => Config.unstatedCode .patchState 0
  | some .reading => Config.unstatedCode .patchState 1
  | some .applying => Config.unstatedCode .patchState 2
  | some .waiting => Config.unstatedCode .patchState 3

/-- Shadow buffer, patch state and lookup counters (R58). -/
def shadowSection (s : State) : List Byte :=
  places 2 s.spb.entries (fun e => leOpt 1 (e.map (·.id)) ++ leOpt 4 (e.map (·.node)) ++ byteOpt (e.map shadowCode)) ++
    [patchCode (s.spb.patch.map (·.phase))] ++ tagOpt (s.spb.patch.map (·.card.tag)) ++ leOpt 2 (s.spb.patch.map (·.cursor)) ++
    le 4 s.nc.shadowHits.toNat ++ le 4 s.nc.cacheHits.toNat ++ le 4 s.nc.fills.toNat

/-- A zone in 32 bytes; for one not in use, the state OFF and the rest absent (R112). -/
def zoneRecord (inUse : Bool) (z : Zone) : List Byte :=
  let opt (v : Nat) : List Byte := leOpt 2 (if inUse then some v else none)
  pageSection 32 ([if inUse then z.state.code else ZoneState.off.code] ++ opt z.sp ++ opt z.band ++
    intOpt (if inUse then some z.tMeas else none) ++ opt z.duty ++ opt z.onTime ++ opt z.integ ++ levelByte (if inUse then some z.latch else none) ++
    kindByte (if inUse then z.lastBad else none) ++ opt z.bad)

/-- Heat Controller (R112). A zone at or above the strap count is one not in use (R97). T_trip and the idle cap are absent while
SETUP-valid is clear (log entry 33). -/
def heatSection (s : State) : List Byte :=
  ((List.range 8).flatMap fun n => zoneRecord (decide (n < zonesInUse s)) (nth s.hc.zones n resetZone)) ++
    leOpt 2 (s.setup.map (·.tTrip)) ++ leOpt 2 (s.setup.map (·.idleCap)) ++ mark (zonesCondition s)

/-- The halt cause as a code, 0 where it is absent. -/
def haltByte (s : State) : Byte := (s.su.haltCause.map (·.code)).getD 0

/-- Web Drive and line window (R129, R88, R95). The ramp rate and v_max are absent while SETUP-valid is clear, and the window's hi
before the first SETUP (log entry 33). -/
def driveSection (s : State) : List Byte :=
  [s.wd.state.code] ++ le 2 s.wd.requested ++ le 2 s.wd.target ++ le 2 s.wd.running ++ le 2 s.wd.measured.toNat ++
    leOpt 2 (s.setup.map (·.rampRate)) ++ leOpt 2 (s.setup.map (·.vMax)) ++ [haltByte s] ++
    le 2 (lineWindow s).1 ++ leOpt 2 ((windowTop s).map fun _ => (lineWindow s).2)

/-- Code of an axis state (log entry 11). -/
def AxisState.code : AxisState → Byte
  | .off => Config.unstatedCode .axisState 0
  | .active => Config.unstatedCode .axisState 1
  | .handedOver => Config.unstatedCode .axisState 2

/-- The source of an axis's figures: its code or fabric id, with the tag (log entries 11, 27). -/
def sourceFields : AxisSource → List Byte
  | .setup => Config.unstatedCode .axisSource 0 :: absent 4
  | .fabric id tag => le 1 id ++ le 4 tag.toNat

/-- An axis (R144). -/
def axisFields (a : AxisRecord) : List Byte :=
  [a.state.code] ++ le 2 a.tSp ++ le 1 a.kp ++ le 1 a.ki ++ sourceFields a.source ++ le 2 a.tMeas ++ le 2 a.invalid ++
    kindByte a.lastInvalid ++ le 2 a.integ ++ le 2 a.torque

/-- A fabric record (R144); c_s takes the 2 bytes of its card field (log entry 27). -/
def fabricFields (r : FabricRecord) : List Byte :=
  let f := r.figures
  [if f.isSome then 1 else 0] ++ leOpt 2 (f.map (·.cs)) ++ leOpt 2 (f.map (·.tMin)) ++ leOpt 2 (f.map (·.tMax)) ++
    leOpt 2 (f.map (·.devLimit)) ++ leOpt 1 (f.map (·.kp)) ++ leOpt 1 (f.map (·.ki)) ++ le 2 r.refs

/-- Tension Controller (R144). -/
def tensionSection (s : State) : List Byte := s.tc.axes.flatMap axisFields ++ s.tc.fabrics.flatMap fabricFields

/-- Code of a pending request (log entry 11). -/
def pendingCode : Option SpliceCause → Byte
  | none => Config.unstatedCode .splicePending 0
  | some .rollEnd => Config.unstatedCode .splicePending 1
  | some .count => Config.unstatedCode .splicePending 2
  | some .card => Config.unstatedCode .splicePending 3

/-- Time left on the running timer of a splice in ms, absent in IDLE (R156; log entry 27). -/
def timeLeft (s : State) (r : SpliceRecord) : Option Nat :=
  if r.state == .idle then none else some (r.limit - (s.clock - r.phaseStart))

/-- A splice record with the levels of its output and inputs (R156). The request output's level is 1 while it is asserted, and an input's
is its filtered level at the pin, before the polarity (log entry 27). -/
def spliceFields (s : State) (r : SpliceRecord) (ack rollEnd : LineInput) : List Byte :=
  [r.state.code] ++ byteOpt (r.cause.map (·.code)) ++ tagOpt (r.card.map (·.tag)) ++ [pendingCode r.pending] ++ mark r.fired ++
    leOpt 4 (timeLeft s r) ++ mark r.request ++ levelByte (inputOf s ack).level ++ levelByte (inputOf s rollEnd).level

/-- A roll counter with its validity and roll length (R156). -/
def counterFields (c : Counter) (valid : Bool) (length : Option Nat) : List Byte := le 4 c.metres ++ mark valid ++ leOpt 4 length

/-- Roll changes and keep-alive counters (R156). -/
def rollSection (s : State) : List Byte :=
  spliceFields s s.rc.pu .paperSpliceAck .paperRollEnd ++ spliceFields s s.rc.fu .fabricSpliceAck .fabricRollEnd ++
    places 2 s.rc.joints (fun j => leOpt 6 (j.map (·.due))) ++ le 2 s.rc.joints.length ++
    counterFields s.ka.pu s.ka.puValid (s.setup.map (·.puRoll)) ++ counterFields s.ka.fu s.ka.fuValid (s.setup.map (·.fuRoll)) ++
    le 4 s.ka.lifetime.metres ++ mark s.ka.restarted

/-- An input record in one byte: filtered level, active-high, active, unknown (chapter 12). The level's bit is 0 while the level is unknown
(log entry 27). -/
def inputByte (r : InputRecord) : List Byte := le 1 (markSet [r.level == some true, r.activeHigh, r.active, r.level.isNone])

/-- The body of the page, bytes 4 to 4091 (chapter 12). -/
def pageBody (s : State) : List Byte :=
  le 4 (conditionWord s) ++ le 4 s.su.events.toNat ++ le 4 s.regs.irqEnable.toNat ++ faultSlot s ++ le 1 s.su.faults.length ++
    [haltByte s] ++ pageSection 14 (s.su.inputs.flatMap inputByte) ++ pageSection 64 (engineSection s) ++
    pageSection 128 (mapSection s) ++ pageSection 128 (printSection s) ++ pageSection 512 (storeSection s) ++
    pageSection 64 (shadowSection s) ++ pageSection 320 (heatSection s) ++ pageSection 64 (driveSection s) ++
    pageSection 256 (tensionSection s) ++ pageSection 128 (rollSection s) ++ List.replicate 2364 0

/-- STATUS_PAGE_WRITE: the refresh count, the body, and the refresh count again, at offset 4096 of the line book; no page is written
while BOOK_BASE is 0 (R175). The count rises before it is written (log entry 64). -/
def execStatusPageWrite (s : State) : Result :=
  whenOn s fun s =>
    if s.regs.bookBase = 0 then s
    else
      let page := s.regs.bookBase.toNat + 4096
      let s := { s with su := { s.su with refresh := s.su.refresh + 1, pageDue := false } }
      let count := le 4 s.su.refresh.toNat
      postWrite (cellsAt (page + 4092) count) (postWrite (cellsAt (page + 4) (pageBody s)) (postWrite (cellsAt page count) s))

end Sys2Proof.Machine
end

