-- ==== Sys2Proof/Machine/TensionUnit.lean ====
section
/-! DEFINITION. The Tension Controller's commands: frames (R131), the tension period (R131 to R134, R142), and the FABRIC card
(R137). -/

namespace Sys2Proof.Machine

/-! ## Readings (R131) -/

/-- An axis's reading in a period: valid with a tension, or invalid of a kind (R131). -/
inductive AxisReading where
  | valid (tension : Nat)
  | invalid (kind : BadKind)
  deriving DecidableEq, Repr

/-- The class of a stand's reading in the frame taken (R131). The valid mark is looked at before the range (log entry 52). -/
def classifyAxis (frame : Option (List TensionReading)) (a : Axis) : AxisReading :=
  match frame with
  | none => .invalid .missing
  | some l =>
    let r := nth l a.place ⟨false, 0⟩
    if !r.valid then .invalid .invalid
    else if 0 ≤ r.tension ∧ r.tension ≤ 4000 then .valid r.tension.toNat
    else .invalid .range

/-- TENSION_FRAME: a frame whose check value passes becomes the latest tension frame (R131). -/
def execTensionFrame (checkPasses : Bool) (readings : List TensionReading) (s : State) : Result :=
  whenOn s fun s => if checkPasses then { s with tc := { s.tc with frame := some readings } } else s

/-- An axis takes its reading (R131, R132). -/
def takeReading (r : AxisReading) (a : AxisRecord) : AxisRecord :=
  match r with
  | .valid t => { a with tMeas := t, invalid := 0 }
  | .invalid k => { a with invalid := min 2 (a.invalid + 1), lastInvalid := some k }

/-- The reading is the second invalid one in a row (R132). -/
def sensorLost (r : AxisReading) (a : AxisRecord) : Option BadKind :=
  match r with
  | .valid _ => none
  | .invalid k => if a.invalid = 1 then some k else none

/-- The four axes in order. -/
def allAxes : List Axis := [.pu, .fu, .pr, .fr]

/-- An axis takes its reading; a lost sensor queues TENSION_SENSOR and gives the halt cause TENSION_LOSS (R132; log entry 38). -/
def readAxis (frame : Option (List TensionReading)) (s : State) (a : Axis) : State :=
  let r := classifyAxis frame a
  let lost := sensorLost r (axisOf s a)
  let s := setAxis a (takeReading r) s
  match lost with
  | some k => haltLine .tensionLoss (offerFault (.tensionSensor a k) s)
  | none => s

/-! ## The loop (R133) -/

/-- The integral after a period's step (R133). -/
def axisIntegral (a : AxisRecord) : Nat := (clampInt (a.integ + a.ki * ((a.tSp : Int) - a.tMeas)) 0 64000).toNat

/-- The torque computed from an integral (R133). -/
def axisTorque (a : AxisRecord) (i : Nat) : Nat := (clampInt ((a.kp * ((a.tSp : Int) - a.tMeas) + i) / 64) 0 1000).toNat

/-- An ACTIVE axis whose reading was valid computes its torque (R133). -/
def computeAxis (r : AxisReading) (a : AxisRecord) : AxisRecord :=
  match r, a.state with
  | .valid _, .active => { a with integ := axisIntegral a, torque := axisTorque a (axisIntegral a) }
  | _, _ => a

/-- Every axis computes where it does (R133). -/
def computeAxes (frame : Option (List TensionReading)) (s : State) : State :=
  allAxes.foldl (fun s a => setAxis a (computeAxis (classifyAxis frame a)) s) s

/-! ## Deviation (R142) -/

/-- The deviation check of an entry against a valid FU reading (R142). -/
def checkDeviation (limit tPlan t : Nat) (g : Segment) : Segment :=
  let err := ((t : Int) - tPlan).natAbs
  let run := if limit < err then g.runCount + 1 else 0
  { g with
    tensionMax := max g.tensionMax err, runCount := run
    flags := { g.flags with tensionDev := g.flags.tensionDev || decide (3 < run) } }

/-- The deviation check of an entry that names a fabric and holds LEAD_NIP (R142). -/
def deviationSeg (s : State) (t : Nat) (g : Segment) : Segment :=
  match g.leadNip, g.fabricId, g.tPlan with
  | true, some id, some p =>
    match (fabricOf s id).figures with
    | some f => checkDeviation f.devLimit p t g
    | none => g
  | _, _, _ => g

/-- The deviation check of a tension period (R142). -/
def checkDeviations (frame : Option (List TensionReading)) (s : State) : State :=
  match classifyAxis frame .fu with
  | .valid t => { s with tmap := { s.tmap with segs := s.tmap.segs.map (deviationSeg s t) } }
  | .invalid _ => s

/-- TENSION_PERIOD: readings, lost sensors, torques, the deviation check, and the frame sent (R131 to R134, R142). -/
def execTensionPeriod (s : State) : Result :=
  whenOn s fun s =>
    let frame := s.tc.frame
    let s := allAxes.foldl (readAxis frame) { s with tc := { s.tc with frame := none } }
    sendFrame (checkDeviations frame (computeAxes frame s))

/-! ## FABRIC (R137) -/

/-- Code of a fabric record's state (chapter 12). -/
def fabricCode (r : FabricRecord) : Byte := if r.figures.isSome then 1 else 0

/-- A FABRIC card (R137; log entry 24 for an operation that is not listed). -/
def fabricCard (c : CurrentCard) (s : State) : State :=
  let id := leRead c.image 16 1
  let op := leRead c.image 17 1
  let f := fabricFigures c.image
  let r := fabricOf s id
  if !within 1 id 8 then failField 16 s
  else if !within 1 op 2 then failField 17 s
  else if 0 < r.refs then failCurrent .inUse [] s
  else if op = 2 then doneCurrent [(128, [fabricCode r]), (129, [0])] (setFabric id (fun r => { r with figures := none }) s)
  else
    match fabricError f with
    | some off => failField off s
    | none => doneCurrent [(128, [fabricCode r]), (129, [1])] (setFabric id (fun r => { r with figures := some f }) s)

/-- FABRIC (R137). -/
def execFabric (s : State) : Result := onDispatch .fabric s fabricCard

end Sys2Proof.Machine
end

