-- ==== Sys2Proof/Machine/Transit.lean ====
section
/-! DEFINITION. The web position and what travels with it: position updates (R1), milestones (R6 to R10), paper joints leaving the
wrap (R12), and fabric joints reaching the nip (R14, R150). -/

namespace Sys2Proof.Machine

/-! ## Web position (R1) -/

/-- The highest web position; pos stops there (R1). -/
def maxPos : Nat := 2 ^ 48 - 1

/-- The greatest back-travel amount (R1). -/
def maxBack : Nat := 2 ^ 24 - 1

/-- The web after a forward increment: it pays off the back-travel amount, and the remainder advances pos (R1). -/
def forward (inc : Nat) (w : Web) : Web := ⟨min maxPos (w.pos + (inc - min w.back inc)), w.back - min w.back inc⟩

/-- The web after a reverse increment (R1). -/
def reverseTravel (inc : Nat) (w : Web) : Web := { w with back := min maxBack (w.back + inc) }

/-- Lines of a job that pos has reached: line `n` falls due at start + n × pitch (R76). -/
def linesReached (pos pitch : Nat) (j : PrintJob) : Nat :=
  if j.start ≤ pos then min j.nOut ((pos - j.start) / pitch + 1) else 0

/-- The comparisons with pos that a position update makes: lines (R76), joints (R12) and fabric joints (R150); each is marked, and the
mark's own step acts on it (log entry 15). -/
def comparePos (s : State) : State :=
  let pos := s.web.pos
  let joints :=
    match s.setup with
    | some c => s.tmap.joints.map fun j => { j with due := j.due || decide (j.at_ + exitOffset c ≤ pos) }
    | none => s.tmap.joints
  let s := setJob (fun j => { j with reached := max j.reached (linesReached pos (pitchOf s) j) }) s
  { s with
    tmap := { s.tmap with joints := joints }
    rc := { s.rc with joints := s.rc.joints.map fun j => { j with reached := j.reached || decide (j.due ≤ pos) } } }

/-- The paper counter advances by what pos gained, and is tested (R153, R147). -/
def countPaper (travel : Nat) (s : State) : State :=
  if travel = 0 then s else testCount .pu { s with ka := { s.ka with pu := advanceCounter travel s.ka.pu } }

/-- POSITION_UPDATE (R1). -/
def execPositionUpdate (increment : Nat) (s : State) : Result :=
  whenOn s fun s =>
    let w := forward increment s.web
    touchStart (comparePos (countPaper (w.pos - s.web.pos) { s with web := w }))

/-- BACK_TRAVEL (R1). -/
def execBackTravel (increment : Nat) (s : State) : Result :=
  whenOn s fun s => { s with web := reverseTravel increment s.web }

/-! ## Milestones -/

/-- What the fabric axes take at a handoff (R140). -/
def handoffAxis (f : FabricFigures) (id : Nat) (tag : BitVec 32) (tPlan : Nat) (a : AxisRecord) : AxisRecord :=
  { a with tSp := min f.tMax (max f.tMin tPlan), kp := f.kp, ki := f.ki, source := .fabric id tag }

/-- The fabric handoff of an entry whose lead reaches the nip (R140). -/
def handoff (g : Segment) (s : State) : State :=
  match g.fabricId, g.tPlan with
  | some id, some t =>
    match (fabricOf s id).figures with
    | some f => setAxis .fr (handoffAxis f id g.tag t) (setAxis .fu (handoffAxis f id g.tag t) s)
    | none => s
  | _, _ => s

/-- LEAD_AT_NIP (R7). -/
def execLeadAtNip (s : State) : Result :=
  whenOn s fun s =>
    match nextFor s .leadNip with
    | none => s
    | some g => handoff g (updateSeg g.start (fun g => { g with leadNip := true, runCount := 0 }) s)

/-- TRAIL_AT_NIP (R8). -/
def execTrailAtNip (s : State) : Result :=
  whenOn s fun s =>
    match nextFor s .trailNip with
    | none => s
    | some g => updateSeg g.start (fun g => { g with trailNip := true }) s

/-- LEAD_EXIT (R8). -/
def execLeadExit (s : State) : Result :=
  whenOn s fun s =>
    match nextFor s .leadExit with
    | none => s
    | some g => updateSeg g.start (fun g => { g with leadExit := true }) s

/-- TRAIL_EXIT: the entry is judged, reported and removed (R9, R10, R92, R93). -/
def execTrailExit (s : State) : Result :=
  whenOn s fun s =>
    match nextFor s .trailExit with
    | none => s
    | some g => touchStart (removeSeg g (reportStrip (judgeSeg g) (judged g) s))

/-! ## Joints -/

/-- JOINT_LEAVES_WRAP: the furthest joint that pos has carried to the exit offset is removed (R12), and a pending paper request is
tried (R147). -/
def execJointLeavesWrap (s : State) : Result :=
  whenOn s fun s =>
    match s.tmap.joints.find? (·.due) with
    | none => s
    | some j =>
      touchStart (tryPending .pu
        { s with tmap := { s.tmap with joints := s.tmap.joints.filter (fun k => k.at_ != j.at_) } })

/-- The extent of an entry holds a coordinate (R14). -/
def holdsCoordinate (c : Nat) (g : Segment) : Bool := g.start ≤ c && c < extentEnd g

/-- The segment at the nip is spoiled by a fabric joint (R14); a nip coordinate below 0 lies in no segment. -/
def spoilAtNip (s : State) : State :=
  match s.setup with
  | none => s
  | some c =>
    if s.web.pos < nipOffset c then s
    else
      match s.tmap.segs.find? (holdsCoordinate (s.web.pos - nipOffset c)) with
      | some g => updateSeg g.start (spoilSeg .fabricJoint) s
      | none => s

/-- FABRIC_JOINT_DUE: the first fabric joint that pos has reached leaves the list (R150), spoils the segment at the nip (R14), and a
pending fabric request is tried (R147). -/
def execFabricJointDue (s : State) : Result :=
  whenOn s fun s =>
    if s.rc.joints.any (·.reached) then
      tryPending .fu (spoilAtNip { s with rc := { s.rc with joints := s.rc.joints.eraseP (·.reached) } })
    else s

end Sys2Proof.Machine
end

