-- ==== Sys2Proof/Machine/Dispatch.lean ====
section
/-! DEFINITION. The effect of each command on the part, arm by arm. -/

namespace Sys2Proof.Machine

/-- The effect of a command on everything but the queue of waiting commands. -/
def exec (i : Instr) (s : State) : Host.Outcome State Fault Refusal :=
  match i with
  | .mainPowerOnReset zones8 store64k => Sys2Proof.Machine.execMainPowerOnReset zones8 store64k s
  | .softReset => Sys2Proof.Machine.execSoftReset s
  | .linkReset => Sys2Proof.Machine.execLinkReset s
  | .keepAlivePowerOnReset => Sys2Proof.Machine.execKeepAlivePowerOnReset s
  | .runSet interval => Sys2Proof.Machine.execRunSet interval s
  | .runClear interval => Sys2Proof.Machine.execRunClear interval s
  | .watchInterval interval => Sys2Proof.Machine.execWatchInterval interval s
  | .bookBase value => Sys2Proof.Machine.execBookBase value s
  | .wake value => Sys2Proof.Machine.execWake value s
  | .eventAck marks => Sys2Proof.Machine.execEventAck marks s
  | .irqEnable marks => Sys2Proof.Machine.execIrqEnable marks s
  | .registerWrite offset value => Sys2Proof.Machine.execRegisterWrite offset value s
  | .watchTimerExpiry => Sys2Proof.Machine.execWatchTimerExpiry s
  | .chainReadComplete link card => Sys2Proof.Machine.execChainReadComplete link card s
  | .cardReadError link => Sys2Proof.Machine.execCardReadError link s
  | .chainReadTimeout link => Sys2Proof.Machine.execChainReadTimeout link s
  | .setup => Sys2Proof.Machine.execSetup s
  | .heat => Sys2Proof.Machine.execHeat s
  | .start => Sys2Proof.Machine.execStart s
  | .speed => Sys2Proof.Machine.execSpeed s
  | .stop => Sys2Proof.Machine.execStop s
  | .halt => Sys2Proof.Machine.execHalt s
  | .clear => Sys2Proof.Machine.execClear s
  | .fabric => Sys2Proof.Machine.execFabric s
  | .drop => Sys2Proof.Machine.execDrop s
  | .load => Sys2Proof.Machine.execLoad s
  | .patch => Sys2Proof.Machine.execPatch s
  | .print => Sys2Proof.Machine.execPrint s
  | .splice => Sys2Proof.Machine.execSplice s
  | .fence => Sys2Proof.Machine.execFence s
  | .cardReoffer => Sys2Proof.Machine.execCardReoffer s
  | .positionUpdate increment => Sys2Proof.Machine.execPositionUpdate increment s
  | .backTravel increment => Sys2Proof.Machine.execBackTravel increment s
  | .lineDue => Sys2Proof.Machine.execLineDue s
  | .leadAtNip => Sys2Proof.Machine.execLeadAtNip s
  | .trailAtNip => Sys2Proof.Machine.execTrailAtNip s
  | .leadExit => Sys2Proof.Machine.execLeadExit s
  | .trailExit => Sys2Proof.Machine.execTrailExit s
  | .jointLeavesWrap => Sys2Proof.Machine.execJointLeavesWrap s
  | .fabricJointDue => Sys2Proof.Machine.execFabricJointDue s
  | .rollCountRequest axis => Sys2Proof.Machine.execRollCountRequest axis s
  | .drumTravelIncrement increment => Sys2Proof.Machine.execDrumTravelIncrement increment s
  | .drumEncoderReport speed => Sys2Proof.Machine.execDrumEncoderReport speed s
  | .printStart => Sys2Proof.Machine.execPrintStart s
  | .rasterReadComplete data => Sys2Proof.Machine.execRasterReadComplete data s
  | .rasterReadError => Sys2Proof.Machine.execRasterReadError s
  | .rasterReadTimeout => Sys2Proof.Machine.execRasterReadTimeout s
  | .lineComputationBegin => Sys2Proof.Machine.execLineComputationBegin s
  | .lookup => Sys2Proof.Machine.execLookup s
  | .lookupFillComplete damage => Sys2Proof.Machine.execLookupFillComplete damage s
  | .lineBoundary => Sys2Proof.Machine.execLineBoundary s
  | .loadReadComplete data => Sys2Proof.Machine.execLoadReadComplete data s
  | .loadReadError => Sys2Proof.Machine.execLoadReadError s
  | .loadReadTimeout => Sys2Proof.Machine.execLoadReadTimeout s
  | .loaderWriteComplete => Sys2Proof.Machine.execLoaderWriteComplete s
  | .editListReadComplete data => Sys2Proof.Machine.execEditListReadComplete data s
  | .patchReadError => Sys2Proof.Machine.execPatchReadError s
  | .editListReadTimeout => Sys2Proof.Machine.execEditListReadTimeout s
  | .editApply => Sys2Proof.Machine.execEditApply s
  | .creationReadComplete damage => Sys2Proof.Machine.execCreationReadComplete damage s
  | .drainWriteComplete => Sys2Proof.Machine.execDrainWriteComplete s
  | .freeing id => Sys2Proof.Machine.execFreeing id s
  | .barReport bar ready room seq => Sys2Proof.Machine.execBarReport bar ready room seq s
  | .barSilent bar => Sys2Proof.Machine.execBarSilent bar s
  | .zoneFrame checkPasses readings => Sys2Proof.Machine.execZoneFrame checkPasses readings s
  | .heatPeriod => Sys2Proof.Machine.execHeatPeriod s
  | .heaterWindow => Sys2Proof.Machine.execHeaterWindow s
  | .heaterOnTimeEnd zone => Sys2Proof.Machine.execHeaterOnTimeEnd zone s
  | .tensionFrame checkPasses readings => Sys2Proof.Machine.execTensionFrame checkPasses readings s
  | .tensionPeriod => Sys2Proof.Machine.execTensionPeriod s
  | .rampPeriod => Sys2Proof.Machine.execRampPeriod s
  | .rawLevelChange input high => Sys2Proof.Machine.execRawLevelChange input high s
  | .inputFilterExpiry input => Sys2Proof.Machine.execInputFilterExpiry input s
  | .spliceTimeout axis => Sys2Proof.Machine.execSpliceTimeout axis s
  | .handoverLimit axis => Sys2Proof.Machine.execHandoverLimit axis s
  | .statusPageWrite => Sys2Proof.Machine.execStatusPageWrite s
  | .mainSupplyLoss => Sys2Proof.Machine.execMainSupplyLoss s

end Sys2Proof.Machine
end

