-- ==== Sys2Proof/WellFormed.lean ====
section
/-! DEFINITION. Which commands the environment can give: the operands the spec bounds lie within their bounds. The machine is
total on the others too (log entry 41). -/

namespace Sys2Proof

/-- Offsets of the register window (chapter 12) with a behaviour of their own: they have rows of their own in the table. -/
def behavedRegisters : List Nat := [4, 8, 12, 16, 20, 24]

/-- The operand bounds of chapter 12 (records), chapters 3, 4, 6 and 8 (edit lists, bars, frames) and R1's forward increment. -/
def Instr.wellFormed : Instr → Bool
  | .chainReadComplete _ card        => card.length == 128
  | .registerWrite offset _          => !behavedRegisters.contains offset
  | .rasterReadComplete data         => data.length % 3 == 0 && data.length ≤ 24576
  | .loadReadComplete data           => data.length % 8 == 0 && 8 ≤ data.length && data.length ≤ 512
  | .editListReadComplete data       => data.length % 16 == 0 && 16 ≤ data.length && data.length ≤ 2048
  | .freeing id                      => 1 ≤ id && id ≤ 16
  | .barReport bar _ _ _             => bar < 6
  | .barSilent bar                   => bar < 6
  | .zoneFrame _ readings            => readings.length == 8
  | .tensionFrame _ readings         => readings.length == 4
  | .heaterOnTimeEnd zone            => zone < 8
  | .positionUpdate increment        => 1 ≤ increment
  | .backTravel increment            => 1 ≤ increment
  | .mainPowerOnReset .. | .softReset | .linkReset | .keepAlivePowerOnReset | .runSet _ | .runClear _ | .watchInterval _
  | .bookBase _ | .wake _ | .eventAck _ | .irqEnable _ | .watchTimerExpiry | .cardReadError _ | .chainReadTimeout _ | .setup
  | .heat | .start | .speed | .stop | .halt | .clear | .fabric | .drop | .load | .patch | .print | .splice | .fence
  | .cardReoffer | .lineDue | .leadAtNip | .trailAtNip | .leadExit | .trailExit | .jointLeavesWrap | .fabricJointDue
  | .rollCountRequest _ | .drumTravelIncrement _ | .drumEncoderReport _ | .printStart | .rasterReadError | .rasterReadTimeout
  | .lineComputationBegin | .lookup | .lookupFillComplete _ | .lineBoundary | .loadReadError | .loadReadTimeout
  | .loaderWriteComplete | .patchReadError | .editListReadTimeout | .editApply | .creationReadComplete _ | .drainWriteComplete
  | .heatPeriod | .heaterWindow | .tensionPeriod | .rampPeriod | .rawLevelChange .. | .inputFilterExpiry _
  | .spliceTimeout _ | .handoverLimit _ | .statusPageWrite | .mainSupplyLoss => true

end Sys2Proof
end

