-- ==== Sys2Proof/Safety.lean ====
section
/-! DEFINITION. The terms in which claims about the JS-48 are made: a card in dispatch, a card written final, what a command leaves as it
was, the laws that every step keeps, and a run that follows them. -/

namespace Sys2Proof.Machine

/-! ## Cards -/

/-- The engine is DISPATCHING a card of a kind, with the main supply present (R163). -/
def Dispatching (k : CardKind) (c : CurrentCard) (s : State) : Prop :=
  s.power.mainOn = true ∧ s.ce.state = .dispatching ∧ s.ce.current = some c ∧ CardKind.ofByte c.ref.kind = some k

/-- A take of a card has been written final: the state and the result code stand in its header in host memory, CARD_FINAL is raised,
and the take has left the outstanding set (R165, R166). -/
def CardFinal (c : CardRef) (st : CardState) (rc : ResultCode) (t : State) : Prop :=
  hostByte t (c.addr + 8) = some st.code ∧ hostByte t (c.addr + 11) = some rc.code ∧ hasEvent t .cardFinal = true ∧
    ∀ r ∈ t.ce.outstanding, r.take ≠ c.take

/-- The part has written a row of bytes at an address of host memory, and nothing later there. -/
def HostHolds (t : State) (addr : Nat) (l : List Byte) : Prop := ∀ i b, l[i]? = some b → hostByte t (addr + i) = some b

/-- The outstanding set without a take. -/
def without (c : CardRef) (l : List CardRef) : List CardRef := l.filter (fun r => r.take != c.take)

/-- The engine once the dispatch of its current card has ended, with an outstanding set: a chain read has begun, or with RUN clear the
engine is STOPPED (R163, R159). -/
def engineAfter (s : State) (outstanding : List CardRef) : CardEngine :=
  { s.ce with
    state := if s.regs.run then .reading else .stopped
    current := none
    outstanding := outstanding
    watchOn := s.ce.watchOn && !s.regs.run
    offerDue := false
    fenceCount := 0 }

/-- The engine once an event has come that offers a stalled card of a kind again to its block (R164). -/
def offeredAgain (k : CardKind) (e : CardEngine) : CardEngine :=
  { e with offerDue := e.offerDue ||
      (e.state == .stalled && (e.current.bind fun c => CardKind.ofByte c.ref.kind) == some k) }

/-- The engine once a take that is not in dispatch has been written final: the take has left the outstanding set, and a stalled FENCE
counts it and is offered again (R164, R166, R168). -/
def engineFinal (c : CardRef) (e : CardEngine) : CardEngine :=
  { offeredAgain .fence e with
    outstanding := without c e.outstanding
    fenceCount := if e.state = .stalled ∧ (e.current.bind fun c => CardKind.ofByte c.ref.kind) = some .fence then e.fenceCount + 1
      else e.fenceCount }

/-- The bytes of host memory that the final write of a card reaches: its state, its result code and its results area (R166). -/
def FinalBytes (c : CardRef) (a : Nat) : Prop := a = c.addr + 8 ∨ a = c.addr + 11 ∨ (c.addr + 128 ≤ a ∧ a < c.addr + 256)

/-- Every byte of host memory that the part has written stands, but for those at the addresses named. -/
def OnlyWrites (s t : State) (p : Nat → Prop) : Prop := ∀ a, ¬ p a → hostByte t a = hostByte s a

/-- A card has been written final, and nothing else in host memory: its results area holds the fields named at their offsets and 0
elsewhere, and then its header the state and the code (R166, R178). -/
def WrittenFinal (c : CardRef) (st : CardState) (rc : ResultCode) (results : List (Nat × List Byte)) (s t : State) : Prop :=
  CardFinal c st rc t ∧ HostHolds t (c.addr + 128) (area 128 (results.map fun f => (f.1 - 128, f.2))) ∧
    OnlyWrites s t (FinalBytes c)

/-- The current card has been written final and its dispatch has ended (R163, R166). -/
def DispatchFinal (c : CurrentCard) (st : CardState) (rc : ResultCode) (results : List (Nat × List Byte)) (s t : State) : Prop :=
  WrittenFinal c.ref st rc results s t ∧ t.ce = engineAfter s (without c.ref s.ce.outstanding)

/-- The writes into host memory of a trace, newest first. -/
def writesOf (l : List PortOut) : List PortOut :=
  l.filter fun o => match o with
    | .hostWrite _ => true
    | _ => false

/-- The two writes that make a card final, newest first: its header, and before it its results area with the fields named at their
offsets and 0 elsewhere (R166, R178). -/
def finalWrites (c : CardRef) (st : CardState) (rc : ResultCode) (results : List (Nat × List Byte)) : List PortOut :=
  [.hostWrite [(c.addr + 8, st.code), (c.addr + 11, rc.code)],
    .hostWrite (cellsAt (c.addr + 128) (area 128 (results.map fun f => (f.1 - 128, f.2))))]

/-- The PRINTED write of a strip's card stands in host memory: bytes 128 to 199 of its results, the first-stage and the common fields of
its entry at a pitch, with the end after a number of lines, and its header (R79, R179, chapter 12). -/
def PrintedCard (t : State) (c : CardRef) (pitch lines : Nat) (g : Segment) : Prop :=
  hostByte t (c.addr + 8) = some 3 ∧ hostByte t (c.addr + 11) = some 0 ∧ HostHolds t (c.addr + 128) (le 6 g.start) ∧
    HostHolds t (c.addr + 134) (le 3 lines) ∧ HostHolds t (c.addr + 137) (le 3 (g.planned / pitch)) ∧
    HostHolds t (c.addr + 140) (le 2 (2 ^ 20 - stepOf g.eps)) ∧ HostHolds t (c.addr + 142) (le 2 g.eps) ∧
    HostHolds t (c.addr + 144) (le 2 g.vPlan) ∧ HostHolds t (c.addr + 146) (le 1 (g.vPlan - g.lo)) ∧
    HostHolds t (c.addr + 147) (le 1 (g.hi - g.vPlan)) ∧
    HostHolds t (c.addr + 148) ((List.range 8).flatMap fun z => leOpt 2 (g.gains[z]?)) ∧
    HostHolds t (c.addr + 164) ((List.range 8).flatMap fun z => leOpt 3 (g.dPlan[z]?)) ∧
    HostHolds t (c.addr + 188) (le 1 (markSet g.off)) ∧ HostHolds t (c.addr + 189) (le 3 g.emitted) ∧
    HostHolds t (c.addr + 192) (le 2 (min 65535 g.late)) ∧
    HostHolds t (c.addr + 194) (leOpt 2 (g.firstVersion.map (·.toNat))) ∧
    HostHolds t (c.addr + 196) (leOpt 2 (g.lastVersion.map (·.toNat))) ∧ HostHolds t (c.addr + 198) (le 1 g.flags.byte) ∧
    hostByte t (c.addr + 199) = some ((g.spoil.map (·.code)).getD 0)

/-- The offset of the first check of a list, in its order, that fails (R165). -/
def FirstFails (checks : List (Nat × Prop)) (off : Nat) : Prop :=
  ∃ (i : Nat) (ok : Prop), checks[i]? = some (off, ok) ∧ ¬ ok ∧ ∀ k, k < i → ∀ x, checks[k]? = some x → x.2

/-- The Status Unit with some events raised. -/
def raised (l : List Event) (u : Status) : Status := { u with events := l.foldl (fun w e => w ||| e.mask) u.events }

/-! ## What a command leaves as it was -/

/-- The queue of commands, the clock, the supplies, the keep-alive counters, the registers and the settings stand. -/
def SameBase (s t : State) : Prop :=
  t.pending = s.pending ∧ t.clock = s.clock ∧ t.power = s.power ∧ t.ka = s.ka ∧ t.regs = s.regs ∧ t.setup = s.setup ∧
    t.lastVMax = s.lastVMax

/-- The Card Engine, the Status Unit and the trace of the ports stand. -/
def SameBook (s t : State) : Prop := t.ports = s.ports ∧ t.ce = s.ce ∧ t.su = s.su

/-- The Profile Store, the Shadow Patch Buffer and the Node Cache stand. -/
def SameStore (s t : State) : Prop := t.ps = s.ps ∧ t.spb = s.spb ∧ t.nc = s.nc

/-- The Transit Map and the Print Engine stand. -/
def SamePrint (s t : State) : Prop := t.tmap = s.tmap ∧ t.pe = s.pe

/-- The web position, the heat, the drive, the tension and the roll changes stand. -/
def SameLine (s t : State) : Prop := t.web = s.web ∧ t.hc = s.hc ∧ t.wd = s.wd ∧ t.tc = s.tc ∧ t.rc = s.rc

/-- A card fails at its dispatch and nothing else in the part changes (R165). -/
def FailsCard (c : CurrentCard) (rc : ResultCode) (results : List (Nat × List Byte)) (s t : State) : Prop :=
  DispatchFinal c .failed rc results s t ∧ t.su = raised [.cardFinal] s.su ∧ SameBase s t ∧ SameStore s t ∧ SamePrint s t ∧
    SameLine s t

/-- A card stalls the chain and nothing else in the part changes (R164). -/
def StallsCard (s t : State) : Prop :=
  t.ce = { s.ce with state := .stalled, offerDue := false, fenceCount := 0 } ∧ t.su = raised [.chainWaiting] s.su ∧
    OnlyWrites s t (fun _ => False) ∧ SameBase s t ∧ SameStore s t ∧ SamePrint s t ∧ SameLine s t

/-- The Print Engine stands but for what a start test keeps: the hold reason of the head card, which each test may replace (R63), and the
verdict of a NO_WAIT card's first test (R66). -/
def SameButHold (s t : State) : Prop := t.pe = { s.pe with hold := t.pe.hold, firstTest := t.pe.firstTest }

/-- The Transit Map stands, and the Print Engine but for what a start test keeps. -/
def SamePrintButHold (s t : State) : Prop := t.tmap = s.tmap ∧ SameButHold s t

/-- Nothing of the part is at work for a profile: no shadow entry and no queued PRINT card names it, no PATCH card is in hand, and no
write for it holds the store port (R32, R35, R46). -/
def Loose (id : Nat) (s : State) : Prop :=
  (∀ e ∈ s.spb.entries, e.id ≠ id) ∧ s.spb.patch = none ∧ drainGranted s id = false ∧ loadWriteGranted s id = false ∧
    ∀ q ∈ s.pe.queue, q.profileId ≠ id

/-- A profile record has been freed (R32). -/
def Freed (id : Nat) (h : ProfileHeader) (s t : State) : Prop :=
  t.ps.records[id - 1]? = some emptyRecord ∧ t.ps.free = release h.base h.nodes s.ps.free ∧ hasEvent t .profileFreed = true

/-- The areas of some cards in host memory do not overlap. -/
def Apart (l : List CardRef) : Prop := l.Pairwise fun x y => x.addr + 256 ≤ y.addr ∨ y.addr + 256 ≤ x.addr

/-- The queued PRINT cards that name a profile have failed UNKNOWN_PROFILE, with their fabric references released, and the rest of the
queue stands in its order (R35). -/
def QueueFailed (id : Nat) (s t : State) : Prop :=
  t.pe.queue = s.pe.queue.filter (fun q => q.profileId != id) ∧
    (∀ q ∈ s.pe.queue, q.profileId = id → CardFinal q.card .failed .unknownProfile t) ∧
    ∀ (n : Nat) f, s.tc.fabrics[n]? = some f → t.tc.fabrics[n]? = some { f with
      refs := f.refs - (s.pe.queue.filter (fun q => q.profileId == id && q.fabricId == n + 1)).length }

/-- A profile's record is freed or, while a granted write of the profile is outstanding, waits to be (R32), with its queued PRINT cards'
references released (R35). -/
def FreedOrWaiting (id : Nat) (r : ProfileRecord) (h : ProfileHeader) (s t : State) : Prop :=
  (drainGranted s id = false → loadWriteGranted s id = false → Freed id h s t) ∧
    (drainGranted s id = true ∨ loadWriteGranted s id = true → t.ps.free = s.ps.free ∧ t.ps.records[id - 1]? = some { r with
      refs := r.refs - (s.pe.queue.filter (fun q => q.profileId == id)).length, freeing := true })

/-- No load works for a profile: neither the loader nor a request of the loader at the store port. -/
def NoLoadFor (id : Nat) (s : State) : Prop :=
  (∀ w, s.ps.arb.loaderReq = some w → w.id ≠ id) ∧ ∀ j, s.ps.loader = some j → j.id ≠ id

/-- The last reference of a RETIRING profile has been released (R37): its record is freed or, while a granted write of the profile is
outstanding, waits to be, and no entry of the buffer is its but for the one whose drain write has been granted (R32). -/
def FreedAtRelease (id : Nat) (r : ProfileRecord) (t : State) : Prop :=
  (drainGranted t id = false → loadWriteGranted t id = false →
    t.ps.records[id - 1]? = some emptyRecord ∧ hasEvent t .profileFreed = true) ∧
    (drainGranted t id = true ∨ loadWriteGranted t id = true →
      t.ps.records[id - 1]? = some { r with refs := 0, freeing := true }) ∧
    ∀ e ∈ t.spb.entries, e.id = id → ∃ i v, t.ps.arb.busy = some (.shadow (.drain i e.cell v) true)

/-- The free extents after the last reference of a RETIRING profile alone has been released (R27, R32). -/
def ExtentAtRelease (id : Nat) (h : ProfileHeader) (s t : State) : Prop :=
  (drainGranted t id = false → loadWriteGranted t id = false → t.ps.free = release h.base h.nodes s.ps.free) ∧
    (drainGranted t id = true ∨ loadWriteGranted t id = true → t.ps.free = s.ps.free)

/-- The record of a profile after a visibility step of the buffer: its version is one higher if an entry of it was PENDING (R48). -/
def afterVisibility (s : State) (id : Nat) (r : ProfileRecord) : ProfileRecord :=
  { r with version := if s.spb.entries.any (fun e => e.id == id && !e.visible) then r.version + 1 else r.version }

/-- The release of a job's profile frees no record: the profile is not RETIRING, or another reference to it stands (R37). -/
def NotFreed (id : Nat) (s : State) : Prop := (profileOf s id).state ≠ .retiring ∨ 2 ≤ (profileOf s id).refs

/-- The store port is free and no request waits for it or is about to: no shadow entry is VISIBLE, no PATCH card is in hand, and the
loader is IDLE. -/
def PortQuiet (s : State) : Prop :=
  s.ps.arb.busy = none ∧ s.ps.arb.fillReq = none ∧ s.ps.arb.shadowReq = none ∧ s.ps.arb.loaderReq = none ∧
    (∀ e ∈ s.spb.entries, e.visible = false) ∧ s.spb.patch = none ∧ s.ps.loader = none

/-- The lookup that comes next in a job's computation misses the shadow buffer and the cache, and needs this fill (R50, R52). -/
def HeldFill (s : State) (j : PrintJob) (c : Computation) (f : FillRequest) : Prop :=
  c.column < j.card.width ∧
    (∃ h, (profileOf s j.card.profileId).header = some h ∧ f = ⟨j.card.profileId, cornerNode h.grid c.corner (pixelInput c),
      h.base + cornerNode h.grid c.corner (pixelInput c), h.channels⟩) ∧
    (∀ e ∈ s.spb.entries, e.cell = f.cell → e.visible = false) ∧ cacheHolds s f.cell = none

/-- The edit at the cursor of a PATCH card has been applied: the cursor moves on, or the card is DONE with its count and the profile's
version (R43). -/
def EditTaken (c : CurrentCard) (p : PatchJob) (s t : State) : Prop :=
  (p.cursor + 1 < p.count → t.spb.patch = some { p with cursor := p.cursor + 1, creating := false } ∧ t.ce = s.ce ∧
    OnlyWrites s t (fun _ => False)) ∧
    (p.count ≤ p.cursor + 1 → t.spb.patch = none ∧
      DispatchFinal c .done .ok [(128, le 2 p.count), (130, le 2 (profileOf t p.id).version.toNat)] s t)

/-- The band state of a zone by its setpoint, its band and a temperature (R101, R109). -/
def BandOf (sp band : Nat) (temp : Int) (st : ZoneState) : Prop :=
  (temp < (sp : Int) - band → st = .below) ∧ ((sp : Int) + band < temp → st = .above) ∧
    ((sp : Int) - band ≤ temp → temp ≤ (sp : Int) + band → st = .settling)

/-- A zone takes no heat: duty, integral and on-time 0 and the heater off (R104). -/
def ZoneCut (z : Zone) : Prop := z.integ = 0 ∧ z.duty = 0 ∧ z.onTime = 0 ∧ z.heater = false

/-! ## Laws that every step keeps -/

/-- The store's memory has its canonical form. -/
def StoreCanonical (s : State) : Prop := storeWf s.ps.mem = true

/-- The drive, the axes and the halt cause agree: every axis is OFF in HALTED and none is OFF in any other state (R130), and a halt
cause stands exactly in HALTED (R122, R125, R177). -/
def HaltAgrees (s : State) : Prop :=
  (s.wd.state = .halted → ∀ a ∈ s.tc.axes, a.state = .off) ∧ (s.wd.state ≠ .halted → ∀ a ∈ s.tc.axes, a.state ≠ .off) ∧
    (s.wd.state = .halted ↔ s.su.haltCause ≠ none)

/-- The fault queue and its event agree: at most 32 entries, and FAULT_PENDING is set exactly while the queue holds an entry (R174). -/
def FaultsAgree (s : State) : Prop :=
  s.su.faults.length ≤ 32 ∧ (hasEvent s .faultPending = true ↔ s.su.faults ≠ [])

/-- The Card Engine and the card in hand agree: a current card stands exactly in DISPATCHING and STALLED (chapter 10, CHAIN FOLLOWING),
and the PATCH card in hand of the Shadow Patch Buffer is the current card (chapter 3, THE PATCH CARD). -/
def EngineLaw (s : State) : Prop :=
  (s.ce.current = none ↔ s.ce.state ≠ .dispatching ∧ s.ce.state ≠ .stalled) ∧
    ∀ p, s.spb.patch = some p → ∃ c, s.ce.current = some c ∧ c.ref = p.card ∧ CardKind.ofByte c.ref.kind = some .patch

/-- The limits of the counts and records that the part keeps (R1, R3, R60, R157). -/
def WithinLimits (s : State) : Prop :=
  s.web.pos < 2 ^ 48 ∧ s.web.back < 2 ^ 24 ∧ s.tmap.segs.length ≤ 62 ∧ s.tmap.joints.length ≤ 2 ∧ s.pe.queue.length ≤ 4 ∧
    s.regs.bookBase &&& 0xFFF#64 = 0 ∧ s.regs.irqEnable &&& ~~~eventMarks = 0

/-- A speed lies in the speed window of an entry (R87). -/
def InWindow (v : Nat) (g : Segment) : Prop := g.lo ≤ v ∧ v ≤ g.hi

/-- The law of R119 with what it rests on. The running speed lies in the window of every entry; while entries stand in the map the
drive is RUNNING or DRAINING; a RUNNING drive, and a drive with entries in the map, runs at 10 mm/s to v_max, and so does the speed
asked of a drive that may reach RUNNING; IDLE and HALTED stand still; and a profile's tolerance is below 100 %, so that a window
holds the speed it was planned at. -/
def SpeedLaw (s : State) : Prop :=
  (∀ g ∈ s.tmap.segs, InWindow s.wd.running g) ∧
    (s.tmap.segs ≠ [] → s.wd.state = .running ∨ s.wd.state = .draining) ∧
    (s.wd.state = .running ∨ s.tmap.segs ≠ [] → ∃ c, s.setup = some c ∧ vMin ≤ s.wd.running ∧ s.wd.running ≤ c.vMax) ∧
    (s.wd.state = .starting ∨ s.wd.state = .running → ∃ c, s.setup = some c ∧ vMin ≤ s.wd.requested ∧ s.wd.requested ≤ c.vMax) ∧
    (s.wd.state = .idle ∨ s.wd.state = .halted → s.wd.running = 0) ∧
    ∀ r ∈ s.ps.records, ∀ h, r.header = some h → h.tol < 100

/-- The law of R104 with what it rests on. A zone in OFF, FAULT or TRIPPED has duty, integral and on-time 0 and its heater off; while
the running speed is 0 no duty or on-time exceeds the idle cap; and IDLE and HALTED stand still. -/
def HeatLaw (s : State) : Prop :=
  (∀ z ∈ s.hc.zones, z.state = .off ∨ z.state = .fault ∨ z.state = .tripped →
      z.duty = 0 ∧ z.integ = 0 ∧ z.onTime = 0 ∧ z.heater = false) ∧
    (s.wd.running = 0 → ∀ z ∈ s.hc.zones, z.duty ≤ idleCapOf s ∧ z.onTime ≤ idleCapOf s) ∧
    (s.wd.state = .idle ∨ s.wd.state = .halted → s.wd.running = 0)

/-! ## References (R36, R138) -/

/-- The queued PRINT cards that name a profile, and one more if the printing job names it (R36). -/
def profileUses (s : State) (id : Nat) : Nat :=
  (s.pe.queue.filter (fun q => q.profileId == id)).length + (s.pe.job.toList.filter (fun j => j.card.profileId == id)).length

/-- The queued PRINT cards and the SEGMENT entries that name a fabric (R138). -/
def fabricUses (s : State) (id : Nat) : Nat :=
  (s.pe.queue.filter (fun q => q.fabricId == id)).length + (s.tmap.segs.filter (fun g => g.fabricId == some id)).length

/-- Each profile's and each fabric's reference count is the number of its uses (R36, R138), and a record that is EMPTY or waits to be
freed has none. -/
def CountsAgree (s : State) : Prop :=
  s.ps.records.length = 16 ∧ s.tc.fabrics.length = 8 ∧
    (∀ id, 1 ≤ id → id ≤ 16 → (profileOf s id).refs = profileUses s id) ∧
    (∀ id, 1 ≤ id → id ≤ 8 → (fabricOf s id).refs = fabricUses s id) ∧
    ∀ r ∈ s.ps.records, r.state = .empty ∨ r.freeing = true → r.refs = 0

/-- What the agreement of the counts rests on. Each queued card is a take of its own, older than the next take and other than the current
card's, and names a profile and at least one line; the job stands exactly outside IDLE, at a profile READY or RETIRING; the loader's
record is LOADING; and the strips stand in strict order, none empty. -/
def PrintLaw (s : State) : Prop :=
  (s.pe.queue.map (·.card.take)).Nodup ∧
    (∀ q ∈ s.pe.queue, 1 ≤ q.profileId ∧ q.profileId ≤ 16 ∧ 1 ≤ q.lines ∧ q.card.take < s.ce.takeSeq) ∧
    (∀ c, s.ce.current = some c → c.ref.take < s.ce.takeSeq ∧ ∀ q ∈ s.pe.queue, q.card.take ≠ c.ref.take) ∧
    (s.pe.state = .idle ↔ s.pe.job = none) ∧
    (∀ j, s.pe.job = some j → 1 ≤ j.card.profileId ∧ j.card.profileId ≤ 16 ∧
      (stateSeen (profileOf s j.card.profileId) = .ready ∨ stateSeen (profileOf s j.card.profileId) = .retiring)) ∧
    (∀ j, s.ps.loader = some j → 1 ≤ j.id ∧ j.id ≤ 16 ∧ stateSeen (profileOf s j.id) = .loading) ∧
    (s.tmap.segs.map (·.start)).Pairwise (· < ·) ∧ (∀ g ∈ s.tmap.segs, g.start < extentEnd g) ∧
    ∀ c, s.setup = some c → 1 ≤ c.pitch

/-! ## The shadow buffer (R47, R48) -/

/-- The cell of the edit that a PATCH card in hand has at its cursor, by its profile's record. -/
def editCell (s : State) (p : PatchJob) : Option Nat :=
  match p.edits[p.cursor]?, (profileOf s p.id).header with
  | some e, some h => some (h.base + e.node)
  | _, _ => none

/-- A creation read that is still wanted: the request that waits, or the access at the port (R44). -/
def wantedCreation (s : State) (id cell : Nat) : Prop :=
  ∃ node k, s.ps.arb.shadowReq = some (.creation id node cell k) ∨ s.ps.arb.busy = some (.shadow (.creation id node cell k) true)

/-- The shadow buffer holds at most two entries, each of a profile id, no two of one cell, every VISIBLE entry ahead of every PENDING one,
and none PENDING while no line is computing (R47, R48). -/
def BufferLaw (s : State) : Prop :=
  s.spb.entries.length ≤ 2 ∧ (s.spb.entries.map (·.cell)).Nodup ∧ (∀ e ∈ s.spb.entries, 1 ≤ e.id ∧ e.id ≤ 16) ∧
    (∃ v p, s.spb.entries = v ++ p ∧ (∀ e ∈ v, e.visible = true) ∧ ∀ e ∈ p, e.visible = false) ∧
    (computing s = false → ∀ e ∈ s.spb.entries, e.visible = true)

/-- What the buffer's limits rest on. A PATCH card in hand past READING names a profile that is not EMPTY and does not wait to be freed; a
card whose edit waits for its creation read is APPLYING, and the buffer has room and no entry for the edit's cell; and a wanted creation
read is that edit's, one at a time. -/
def PatchLaw (s : State) : Prop :=
  (∀ p, s.spb.patch = some p → 1 ≤ p.id ∧ p.id ≤ 16 ∧
    (p.phase ≠ .reading → (profileOf s p.id).freeing = false ∧ (profileOf s p.id).header ≠ none) ∧
    (p.creating = true → p.phase = .applying ∧ s.spb.entries.length < 2 ∧
      ∃ cell, editCell s p = some cell ∧ ∀ e ∈ s.spb.entries, e.cell ≠ cell)) ∧
    (∀ id cell, wantedCreation s id cell → ∃ p, s.spb.patch = some p ∧ p.creating = true ∧ p.id = id ∧ editCell s p = some cell) ∧
    ∀ id node cell k, s.ps.arb.shadowReq = some (.creation id node cell k) →
      ∀ i n c m, s.ps.arb.busy ≠ some (.shadow (.creation i n c m) true)

/-! ## Free extents (R25, R27) -/

/-- A cell lies in an extent. -/
def Extent.holds (e : Extent) (a : Nat) : Prop := e.base ≤ a ∧ a < e.base + e.len

/-- The free extents of a list lie above a cell, in ascending order of base cell with a gap before each, and none is empty (R25). -/
def extentsFrom : Nat → List Extent → Prop
  | _, [] => True
  | b, e :: rest => b < e.base ∧ 0 < e.len ∧ extentsFrom (e.base + e.len) rest

/-- A free extent list as R25 keeps it: ascending, none empty, and no two adjacent. -/
def FreeList : List Extent → Prop
  | [] => True
  | e :: rest => 0 < e.len ∧ extentsFrom (e.base + e.len) rest

/-- How many of the free extents and of the records' extents hold a cell. -/
def covers (s : State) (a : Nat) : Nat :=
  (s.ps.free.filter (fun e => decide (e.base ≤ a ∧ a < e.base + e.len))).length +
    (s.ps.records.filter (fun r => r.header.any fun h => decide (h.base ≤ a ∧ a < h.base + h.nodes))).length

/-- The extents of the profiles and the free extents together cover the store exactly once and nothing beyond it, no two free extents
are adjacent, and an EMPTY record has no extent (R25). -/
def ExtentLaw (s : State) : Prop :=
  FreeList s.ps.free ∧ (∀ a, covers s a = if a < storeCells s.power.store64k then 1 else 0) ∧
    (∀ r ∈ s.ps.records, r.state = .empty → r.header = none) ∧ ∀ r ∈ s.ps.records, ∀ h, r.header = some h → 0 < h.nodes

/-- The laws of the store, its references and the shadow buffer, which rest on one another. -/
def StoreLaws (s : State) : Prop := CountsAgree s ∧ PrintLaw s ∧ BufferLaw s ∧ PatchLaw s ∧ ExtentLaw s

/-! ## Runs -/

/-- A state reached from another by some number of steps. -/
inductive Reaches : State → State → Prop where
  | refl (s : State) : Reaches s s
  | tail {s t u : State} : Reaches s t → step t = .next u → Reaches s u

/-- A run is safe if every state of it keeps the laws. -/
def SafeRun (s : State) : Prop :=
  ∀ t, Reaches s t → StoreCanonical t ∧ HaltAgrees t ∧ FaultsAgree t ∧ WithinLimits t ∧ SpeedLaw t ∧ HeatLaw t ∧
    EngineLaw t ∧ StoreLaws t

end Sys2Proof.Machine
end

