-- ==== Sys2Proof/Certificates/Slice0/Obligations.lean ====
section
/-! DEFINITION. The statements about the JS-48 that are put to the provers. -/

open Sys2Proof Sys2Proof.Machine

/-! ## The step and its commands -/

/-- A step runs the command at the front of the queue on the state with the queue's rest. -/
def Obligations.StepRunsFrontCommand : Prop :=
  ∀ (c : Instr) (rest : List Instr) (s : State), step { s with pending := c :: rest } = exec c { s with pending := rest }

/-- What leaves the state alone, by the model's choices: on an empty queue a step is one idle millisecond (log entry 3); the command of
each card kind changes nothing unless the engine is DISPATCHING a card of that kind (log entry 2); the loss of the main supply leaves
all but the supply's mark; and while it is absent no command but main power-on reset and keep-alive power-on reset changes anything (log
entry 32; chapter 9, KEEP-ALIVE COUNTERS). -/
def Obligations.WhatLeavesTheStateAlone : Prop :=
  (∀ s : State, s.pending = [] → step s = .next { s with clock := s.clock + 1 }) ∧
  (∀ p ∈ [(CardKind.setup, Instr.setup), (.heat, .heat), (.drive, .start), (.drive, .speed), (.drive, .stop), (.drive, .halt),
       (.drive, .clear), (.fabric, .fabric), (.drop, .drop), (.load, .load), (.patch, .patch), (.print, .print), (.splice, .splice),
       (.fence, .fence)],
     ∀ s : State, (s.ce.state ≠ .dispatching ∨ ∀ c, s.ce.current = some c → CardKind.ofByte c.ref.kind ≠ some p.1) →
       exec p.2 s = .next s) ∧
  (∀ s : State, exec .mainSupplyLoss s = .next { s with power := { s.power with mainOn := false } }) ∧
  (∀ (c : Instr) (s : State), s.power.mainOn = false → (∀ z st, c ≠ .mainPowerOnReset z st) → c ≠ .keepAlivePowerOnReset →
     exec c s = .next s)

/-- Every command answers a next state, and keeps the queue of waiting commands and the clock; so no step faults or refuses. -/
def Obligations.EveryCommandAnswers : Prop :=
  (∀ (c : Instr) (s : State), ∃ t, exec c s = .next t ∧ t.pending = s.pending ∧ t.clock = s.clock) ∧
    ∀ s : State, ∃ t, step s = .next t

/-! ## Resets and supplies -/

/-- The reset values that main power-on reset gives, block by block (the tables of R40, R59, R81, R111, R128, R143, R155, R157 and
R170, with R1, R3, R95, R172, R174 and R175). The line window is [v_min, v_max] of the last SETUP, which is no longer valid (R95); before a
first SETUP no speed lies in it, by the model's choice (log entry 33). The reset sends the two drive link frames of a halt unless the part was
up and HALTED (R122, R123, R134); that it sends them when the main supply was down is the model's choice (log entries 29, 55). -/
def Obligations.MainPowerOnResetValues : Prop :=
  ∀ (z st : Bool) (s : State), ∃ t, exec (.mainPowerOnReset z st) s = .next t ∧
    t.pending = s.pending ∧ t.clock = s.clock ∧ t.power = ⟨true, z, st⟩ ∧ t.regs = ⟨false, 0, 0, 0⟩ ∧ t.setup = none ∧
    lineWindow t = (10, match s.setup with | some g => g.vMax | none => s.lastVMax.getD 0) ∧
    (t.ce.state = .stopped ∧ t.ce.heldTail = none ∧ t.ce.current = none ∧ t.ce.outstanding = [] ∧ t.ce.recheck = false ∧
      t.ce.readFault = false ∧ t.ce.watchOn = false ∧ t.ce.lastBadLink = none) ∧
    t.web = ⟨0, 0⟩ ∧ t.tmap = ⟨[], []⟩ ∧
    ((∀ r ∈ t.ps.records, r = emptyRecord) ∧ t.ps.records.length = 16 ∧ t.ps.free = [⟨0, if st then 65536 else 32768⟩] ∧
      t.ps.loader = none ∧ t.ps.arb = ⟨none, none, none, none, false, false⟩) ∧
    (t.spb.entries = [] ∧ t.spb.patch = none) ∧
    (t.nc.lines = List.replicate 256 none ∧ t.nc.shadowHits = 0 ∧ t.nc.cacheHits = 0 ∧ t.nc.fills = 0) ∧
    (t.pe.queue = [] ∧ t.pe.state = .idle ∧ t.pe.job = none ∧ t.pe.hold = none ∧ t.pe.seq = 0 ∧ t.pe.sent = 0 ∧
      t.pe.bars = List.replicate 6 ⟨false, 0, true⟩) ∧
    (t.hc.zones = List.replicate 8 resetZone ∧ t.hc.frame = none ∧ t.hc.windowStart = s.clock) ∧
    t.wd = ⟨.halted, 0, 0, 0, 0, false⟩ ∧
    (t.tc.axes = List.replicate 4 resetAxis ∧ t.tc.fabrics = List.replicate 8 ⟨none, 0⟩ ∧ t.tc.frame = none) ∧
    t.rc = ⟨resetSplice, resetSplice, []⟩ ∧
    (t.su.events = (if s.ka.lost then Event.kaLost.mask else 0) ∧ t.su.faults = [] ∧ t.su.faultSeq = 0 ∧ t.su.refresh = 0 ∧
      t.su.haltCause = some .reset ∧ t.su.inputs = s.su.inputs.map (fun r => ⟨r.raw, true, none, false⟩)) ∧
    t.ka = { s.ka with lost := false } ∧ lineStop t = true ∧ OnlyWrites s t (fun _ => False) ∧
    (s.power.mainOn = true → s.wd.state = .halted → t.ports = s.ports) ∧
    (s.power.mainOn = false ∨ s.wd.state ≠ .halted →
      t.ports = .driveFrame 0 [0, 0, 0, 0] :: .driveFrame 0 [0, 0, 0, 0] :: s.ports)

/-- Software reset: what it resets and what it keeps (the same tables). The line window is as main power-on reset leaves it (R95; log
entry 33), and a slot that held a fault makes a page write due (R175). That the heater window goes on from where it stands is read
from R105 (log entry 45). Taken in a state other than HALTED, the reset is a halt and sends the two drive link frames of one, with
reference 0 and no torque (R122, R123, R134; log entries 29, 55). -/
def Obligations.SoftwareResetValues : Prop :=
  ∀ s : State, s.power.mainOn = true → ∃ t, exec .softReset s = .next t ∧
    t.pending = s.pending ∧ t.clock = s.clock ∧ t.power = s.power ∧ t.ka = s.ka ∧
    t.regs = ⟨false, 0, s.regs.bookBase, s.regs.irqEnable⟩ ∧ t.setup = none ∧ t.web = s.web ∧ t.tmap = ⟨[], []⟩ ∧
    lineWindow t = (10, match s.setup with | some g => g.vMax | none => s.lastVMax.getD 0) ∧
    (t.ce.state = .stopped ∧ t.ce.heldTail = none ∧ t.ce.current = none ∧ t.ce.outstanding = [] ∧ t.ce.recheck = false ∧
      t.ce.readFault = false ∧ t.ce.watchOn = false ∧ t.ce.lastBadLink = none) ∧
    (t.ps.records = List.replicate 16 emptyRecord ∧ t.ps.free = [⟨0, if s.power.store64k then 65536 else 32768⟩] ∧
      t.ps.mem = s.ps.mem ∧ t.ps.loader = none ∧ t.ps.arb.fillReq = none ∧ t.ps.arb.shadowReq = none ∧
      t.ps.arb.loaderReq = none ∧ t.ps.arb.shadowCredit = false ∧ t.ps.arb.loaderCredit = false) ∧
    (t.spb.entries = [] ∧ t.spb.patch = none) ∧ t.nc = ⟨List.replicate 256 none, 0, 0, 0⟩ ∧
    (t.pe.queue = [] ∧ t.pe.state = .idle ∧ t.pe.job = none ∧ t.pe.hold = none ∧ t.pe.seq = 0 ∧ t.pe.sent = 0 ∧
      t.pe.bars = List.replicate 6 ⟨false, 0, true⟩) ∧
    t.hc = ⟨List.replicate 8 resetZone, none, s.hc.windowStart⟩ ∧ t.wd = ⟨.halted, 0, 0, 0, s.wd.measured, false⟩ ∧
    t.tc = ⟨List.replicate 4 resetAxis, List.replicate 8 ⟨none, 0⟩, none⟩ ∧ t.rc = ⟨resetSplice, resetSplice, []⟩ ∧
    (t.su.events = 0 ∧ t.su.faults = [] ∧ t.su.faultSeq = 0 ∧ t.su.refresh = 0 ∧ t.su.haltCause = some .reset ∧
      (s.su.faults ≠ [] → t.su.pageDue = true) ∧ t.su.inputs = s.su.inputs.map (fun r => ⟨r.raw, true, none, false⟩)) ∧
    irqSummary t = false ∧ lineStop t = true ∧ (s.wd.state = .halted → t.ports = s.ports) ∧
    (s.wd.state ≠ .halted → t.ports = .driveFrame 0 [0, 0, 0, 0] :: .driveFrame 0 [0, 0, 0, 0] :: s.ports)

/-- Link reset: the registers and the Card Engine are reset, the print and its queue end with no card written, every strip becomes an
ORPHAN, the drive drains, splices go on without their cards, and the fault LINK_RESET follows. At the store (under the laws of its
references) every READY profile stays with no reference, every LOADING and RETIRING one is freed or waits for its granted write, and
the entries that stay are VISIBLE, with a version step for each profile that had a PENDING one. -/
def Obligations.LinkResetValues : Prop :=
  ∀ s : State, s.power.mainOn = true → ∃ t, exec .linkReset s = .next t ∧
    t.pending = s.pending ∧ t.clock = s.clock ∧ t.power = s.power ∧ t.ka = s.ka ∧ t.setup = s.setup ∧ t.web = s.web ∧
    t.lastVMax = s.lastVMax ∧ t.regs = ⟨false, 0, 0, 0⟩ ∧
    (t.ce.state = .stopped ∧ t.ce.heldTail = none ∧ t.ce.current = none ∧ t.ce.outstanding = [] ∧ t.ce.recheck = false ∧
      t.ce.readFault = false ∧ t.ce.watchOn = false ∧ t.ce.lastBadLink = none) ∧
    (t.pe.queue = [] ∧ t.pe.state = .idle ∧ t.pe.job = none ∧ t.pe.hold = none ∧ t.pe.seq = s.pe.seq ∧
      t.pe.sent = s.pe.sent ∧ t.pe.bars = s.pe.bars) ∧
    t.tmap.joints = s.tmap.joints ∧ t.tmap.segs.map (·.start) = s.tmap.segs.map (·.start) ∧
    (∀ g ∈ t.tmap.segs, g.flags.orphan = true ∧ g.card = none) ∧
    (∀ j, s.pe.job = some j → ∀ g ∈ t.tmap.segs, g.start = j.start → g.endAt = some (g.start + max 1 j.fallen * pitchOf s)) ∧
    t.ps.loader = none ∧ t.spb.patch = none ∧ t.ps.mem = s.ps.mem ∧ t.nc = s.nc ∧ t.hc = s.hc ∧
    (StoreLaws s →
      (∀ (n : Nat) r, s.ps.records[n]? = some r → r.state = .ready ∨ r.state = .empty ∨ r.freeing = true →
        t.ps.records[n]? = some { r with
          refs := 0
          version := if s.spb.entries.any (fun e => e.id == n + 1 && !e.visible) then r.version + 1 else r.version }) ∧
      (∀ (n : Nat) r, s.ps.records[n]? = some r → r.state = .loading ∨ r.state = .retiring → r.freeing = false → r.header ≠ none →
        (drainGranted t (n + 1) = false → loadWriteGranted t (n + 1) = false →
          t.ps.records[n]? = some emptyRecord ∧ hasEvent t .profileFreed = true) ∧
        (drainGranted t (n + 1) = true ∨ loadWriteGranted t (n + 1) = true → ∃ v, t.ps.records[n]? = some { r with
          refs := 0, version := v, freeing := true })) ∧
      ((∀ r ∈ s.ps.records, r.state = .ready ∨ r.state = .empty ∨ r.freeing = true) → t.ps.free = s.ps.free ∧
        t.spb.entries = s.spb.entries.map (fun e => { e with visible := true })) ∧
      (∀ e ∈ s.spb.entries, (profileOf s e.id).state = .ready → { e with visible := true } ∈ t.spb.entries) ∧
      ∀ e ∈ t.spb.entries, e.visible = true ∧ (∃ d ∈ s.spb.entries, e = { d with visible := true }) ∧
        ((profileOf s e.id).state = .loading ∨ (profileOf s e.id).state = .retiring → (profileOf s e.id).freeing = false →
          ∃ i v, t.ps.arb.busy = some (.shadow (.drain i e.cell v) true))) ∧
    t.wd = { s.wd with state := if s.wd.state = .starting ∨ s.wd.state = .running then .draining else s.wd.state } ∧
    t.tc.axes = s.tc.axes ∧ t.tc.frame = s.tc.frame ∧ t.tc.fabrics.map (·.figures) = s.tc.fabrics.map (·.figures) ∧
    (∀ i r, t.tc.fabrics[i]? = some r → r.refs = (t.tmap.segs.filter (fun g => g.fabricId == some (i + 1))).length) ∧
    t.rc = ⟨{ s.rc.pu with card := none }, { s.rc.fu with card := none }, s.rc.joints⟩ ∧
    (t.su.faults = queueAfter s.su.faults ⟨.linkReset, s.su.faultSeq, s.web.pos⟩ ∧ t.su.faultSeq = s.su.faultSeq + 1 ∧
      t.su.haltCause = s.su.haltCause ∧ t.su.inputs = s.su.inputs ∧ t.su.refresh = s.su.refresh ∧
      s.su.events &&& t.su.events = s.su.events) ∧
    OnlyWrites s t (fun _ => False)

/-- R154, the loss of the keep-alive supply: the reset, KA_LOST at the next main power-on reset, the counter that is not valid, and the
restarted mark. -/
def Obligations.KeepAliveLossRule : Prop :=
  (∀ s : State, exec .keepAlivePowerOnReset s = .next { s with ka := ⟨⟨0, 0⟩, false, ⟨0, 0⟩, false, ⟨0, 0⟩, true, true⟩ }) ∧
    (∀ (z st : Bool) (s : State), ∃ t, exec (.mainPowerOnReset z st) s = .next t ∧ t.ka.lost = false ∧
      t.su.events = (if s.ka.lost then Event.kaLost.mask else 0)) ∧
    (∀ (n : Nat) (s : State) (t : State), 0 < n → s.ka.fuValid = false → exec (.drumTravelIncrement n) s = .next t →
      s.power.mainOn = true → t.ka.fu = advanceCounter n s.ka.fu ∧ t.rc.fu = s.rc.fu) ∧
    (∀ (n : Nat) (s t : State), s.ka.puValid = false → exec (.positionUpdate n) s = .next t → s.web.pos < t.web.pos →
      t.ka.pu = advanceCounter (t.web.pos - s.web.pos) s.ka.pu ∧ t.rc.pu = s.rc.pu) ∧
    (∀ (a : Unwind) (s : State), rollValid s a = false → exec (.rollCountRequest a) s = .next s) ∧
    (∀ (a : Unwind) (s : State), rollValid (completeSplice a s) a = true ∧ rollCounter (completeSplice a s) a = ⟨0, 0⟩) ∧
    (∀ (i : Instr) (s t : State), exec i s = .next t → s.ka.restarted = true → t.ka.restarted = true)

/-! ## Registers, events and faults -/

/-- The register writes that steer the Card Engine. CONTROL stores the RUN mark and the watch interval: a STOPPED engine with RUN set and a
line book begins a chain read, a WATCHING engine with RUN clear stops, and a changed interval restarts or stops the timer. BOOK_BASE is
stored with its low twelve bits 0 while the engine is STOPPED, and ignored otherwise; a register without behaviour ignores a write. A
wake and a watch expiry in WATCHING begin a chain read, and a wake in READING sets the recheck mark. IDENT reads the
identity 48, the revision and the straps, CONTROL its RUN mark and interval with SOFT_RESET 0, BOOK_BASE and IRQ_ENABLE what they hold,
and every other offset 0. -/
def Obligations.RegisterWrites : Prop :=
  (∀ (i : Instr) (run : Bool) (iv : BitVec 8) (s : State), s.power.mainOn = true →
     (i = .runSet iv ∧ run = true) ∨ (i = .runClear iv ∧ run = false) ∨ (i = .watchInterval iv ∧ run = s.regs.run) →
     ∃ t, exec i s = .next t ∧ t.regs = { s.regs with run := run, interval := iv } ∧
       (s.ce.state = .stopped → run = true → s.regs.bookBase ≠ 0 →
         t.ce = { s.ce with state := .reading, watchOn := false } ∧ t.ports = .hostRead (linkAddress s) 8 :: s.ports) ∧
       (s.ce.state = .watching → run = false → t.ce = { s.ce with state := .stopped, watchOn := false } ∧ t.ports = s.ports) ∧
       (s.ce.state = .watching → run = true →
         t.ce = { s.ce with watchOn := if iv = s.regs.interval then s.ce.watchOn else iv != 0 } ∧ t.ports = s.ports) ∧
       (s.ce.state = .stopped → run = false ∨ s.regs.bookBase = 0 → t.ce = s.ce ∧ t.ports = s.ports) ∧
       (s.ce.state = .reading ∨ s.ce.state = .dispatching ∨ s.ce.state = .stalled → t.ce = s.ce ∧ t.ports = s.ports) ∧
       t.power = s.power ∧ t.ka = s.ka ∧ t.setup = s.setup ∧ t.lastVMax = s.lastVMax ∧ t.su = s.su ∧ SameStore s t ∧
       SamePrint s t ∧ SameLine s t) ∧
  ((∀ (v : BitVec 64) (s : State), s.power.mainOn = true → ∃ t, exec (.bookBase v) s = .next t ∧
     (s.ce.state ≠ .stopped → t = s) ∧
     (s.ce.state = .stopped → t.regs = { s.regs with bookBase := (v >>> 12) <<< 12 } ∧
       (s.regs.run = true → (v >>> 12) <<< 12 ≠ 0 → t.ce = { s.ce with state := .reading, watchOn := false } ∧
         t.ports = .hostRead (s.ce.heldTail.getD ((v >>> 12) <<< 12).toNat) 8 :: s.ports) ∧
       (s.regs.run = false ∨ (v >>> 12) <<< 12 = 0 → t.ce = s.ce ∧ t.ports = s.ports) ∧
       t.power = s.power ∧ t.ka = s.ka ∧ t.setup = s.setup ∧ t.lastVMax = s.lastVMax ∧ t.su = s.su ∧ SameStore s t ∧
       SamePrint s t ∧ SameLine s t)) ∧
     ∀ (off : Nat) (v : BitVec 32) (s : State), exec (.registerWrite off v) s = .next s) ∧
  (∀ (v : BitVec 32) (s : State), s.power.mainOn = true →
     (∃ t, exec (.wake v) s = .next t ∧
       (s.ce.state = .watching → t = { s with
         ce := { s.ce with state := .reading, watchOn := false }, ports := .hostRead (linkAddress s) 8 :: s.ports }) ∧
       (s.ce.state = .reading → t = { s with ce := { s.ce with recheck := true } }) ∧
       (s.ce.state = .stopped ∨ s.ce.state = .dispatching ∨ s.ce.state = .stalled → t = s)) ∧
     ∃ t, exec .watchTimerExpiry s = .next t ∧
       (s.ce.state = .watching ∧ s.ce.watchOn = true → t = { s with
         ce := { s.ce with state := .reading, watchOn := false }, ports := .hostRead (linkAddress s) 8 :: s.ports }) ∧
       (¬(s.ce.state = .watching ∧ s.ce.watchOn = true) → t = s)) ∧
  ∀ s : State,
    ((readRegister s 0).setWidth 8 = 48#8 ∧ ((readRegister s 0) >>> 8).setWidth 8 = Config.revision ∧
      (readRegister s 0).getLsbD 16 = s.power.zones8 ∧ (readRegister s 0).getLsbD 17 = s.power.store64k ∧
      ∀ n, 18 ≤ n → (readRegister s 0).getLsbD n = false) ∧
    ((readRegister s 4).getLsbD 0 = s.regs.run ∧ (∀ n, 1 ≤ n → n < 8 → (readRegister s 4).getLsbD n = false) ∧
      ((readRegister s 4) >>> 8).setWidth 8 = s.regs.interval ∧ ∀ n, 16 ≤ n → (readRegister s 4).getLsbD n = false) ∧
    readRegister s 8 = s.regs.bookBase ∧ readRegister s 24 = s.regs.irqEnable.setWidth 64 ∧
    ∀ off, off ≠ 0 → off ≠ 4 → off ≠ 8 → off ≠ 24 → readRegister s off = 0

/-- Events and the interrupt: a raise sets its mark and no other; EVENT_ACK clears the marks written as 1, and the mark of
FAULT_PENDING comes back only for a fault that remains; IRQ_ENABLE stores the enables of the thirteen events (log entry 37); and the
interrupt is signalled exactly where the summary rises. -/
def Obligations.EventsAndTheInterrupt : Prop :=
  (∀ (e : Event) (s : State), (raiseEvent e s).su.events = s.su.events ||| e.mask ∧
    (raiseEvent e s).ports =
      if irqSummary (raiseEvent e s) = true ∧ irqSummary s = false then .interrupt :: s.ports else s.ports) ∧
  (∀ (m : BitVec 32) (s : State), s.power.mainOn = true → ∃ t, exec (.eventAck m) s = .next t ∧
    t.su.events = (s.su.events &&& ~~~m) |||
      (if m.getLsbD 2 = true ∧ 2 ≤ s.su.faults.length then Event.faultPending.mask else 0) ∧
    t.su.haltCause = s.su.haltCause ∧ t.su.inputs = s.su.inputs ∧ t.su.faultSeq = s.su.faultSeq ∧
    t.ce = s.ce ∧ SameBase s t ∧ SameStore s t ∧ SamePrint s t ∧ SameLine s t ∧
    t.ports = (if m.getLsbD 2 = true ∧ 2 ≤ s.su.faults.length ∧ irqSummary t = true ∧
        (s.su.events &&& ~~~m) &&& s.regs.irqEnable = 0 then .interrupt :: s.ports else s.ports)) ∧
  ∀ (m : BitVec 32) (s : State), s.power.mainOn = true → ∃ t, exec (.irqEnable m) s = .next t ∧
    t.regs = { s.regs with irqEnable := m &&& 0x1FFF } ∧ t.su = s.su ∧ t.ce = s.ce ∧
    t.power = s.power ∧ t.ka = s.ka ∧ t.setup = s.setup ∧ t.lastVMax = s.lastVMax ∧ SameStore s t ∧ SamePrint s t ∧
    SameLine s t ∧
    t.ports = if irqSummary t = true ∧ irqSummary s = false then .interrupt :: s.ports else s.ports

/-- R174, the fault queue: where a fault offered goes, what it carries, what EVENT_ACK discards, what the slot and the condition word
show, and what each reset leaves. -/
def Obligations.FaultQueueRule : Prop :=
  (∀ (f : FaultInfo) (s : State),
    (offerFault f s).su.faultSeq = s.su.faultSeq + 1 ∧
    (s.su.faults = [] → (offerFault f s).su.faults = [⟨f, s.su.faultSeq, s.web.pos⟩] ∧
      hasEvent (offerFault f s) .faultPending = true) ∧
    (1 ≤ s.su.faults.length → s.su.faults.length ≤ 31 →
      (offerFault f s).su.faults = s.su.faults ++ [⟨f, s.su.faultSeq, s.web.pos⟩]) ∧
    (∀ q last, s.su.faults = q ++ [last] → q.length = 31 → (∀ n, last.info ≠ .overflow n) →
      (offerFault f s).su.faults = q ++ [⟨.overflow 2, last.seq, last.pos⟩]) ∧
    (∀ q last n, s.su.faults = q ++ [last] → q.length = 31 → last.info = .overflow n →
      (offerFault f s).su.faults = q ++ [⟨.overflow (min 65535 (n + 1)), last.seq, last.pos⟩])) ∧
  (∀ (m : BitVec 32) (s : State), s.power.mainOn = true → ∃ t, exec (.eventAck m) s = .next t ∧
    (m.getLsbD 2 = false → t.su.faults = s.su.faults) ∧ (m.getLsbD 2 = true → t.su.faults = s.su.faults.drop 1) ∧
    (m.getLsbD 2 = true → (hasEvent t .faultPending = true ↔ 2 ≤ s.su.faults.length)) ∧
    t.ports = (if m.getLsbD 2 = true ∧ 2 ≤ s.su.faults.length ∧ irqSummary t = true ∧
        (s.su.events &&& ~~~m) &&& s.regs.irqEnable = 0 then .interrupt :: s.ports else s.ports)) ∧
  (∀ s : State, (s.su.faults = [] → faultSlot s = List.replicate 32 0) ∧
    (∀ e rest, s.su.faults = e :: rest → faultSlot s = faultBytes e) ∧
    (conditionWord s).testBit 3 = !s.su.faults.isEmpty) ∧
  (∀ (z st : Bool) (s : State), ∃ t, exec (.mainPowerOnReset z st) s = .next t ∧ t.su.faults = [] ∧ t.su.faultSeq = 0) ∧
  (∀ s : State, s.power.mainOn = true → ∃ t, exec .softReset s = .next t ∧ t.su.faults = [] ∧ t.su.faultSeq = 0) ∧
  (∀ s : State, s.power.mainOn = true → ∃ t, exec .linkReset s = .next t ∧
    t.su.faults = (offerFault .linkReset s).su.faults ∧ t.su.faultSeq = s.su.faultSeq + 1) ∧
  ∀ s : State, ∃ t, exec .keepAlivePowerOnReset s = .next t ∧ t.su = s.su

/-! ## The chain of cards -/

/-- A chain read takes a POSTED card: TAKEN is written, the card is the held tail, the current card and the newest outstanding card,
as read; a kind that is not in the table is FAILED BAD_KIND at once. -/
def Obligations.ChainReadTakesAPostedCard : Prop :=
  ∀ (link : BitVec 64) (card : List Byte) (s : State), s.power.mainOn = true → s.ce.stale = 0 → s.ce.state = .reading →
    s.regs.run = true → link ≠ 0 → link.toNat % 256 = 0 → byteAt card 8 = 1 →
    ∃ t, exec (.chainReadComplete link card) s = .next t ∧
      t.ce.heldTail = some link.toNat ∧ t.ce.readFault = false ∧ t.ce.lastBadLink = none ∧ t.ce.takeSeq = s.ce.takeSeq + 1 ∧
      SameBase s t ∧ SameStore s t ∧ SamePrint s t ∧ SameLine s t ∧
      (∀ k, CardKind.ofByte (byteAt card 9) = some k →
        t.ce.state = .dispatching ∧
        t.ce.current = some ⟨⟨s.ce.takeSeq, link.toNat, BitVec.ofNat 32 (leRead card 12 4), byteAt card 9⟩,
          (byteAt card 10).getLsbD 0, card⟩ ∧
        t.ce.outstanding = s.ce.outstanding ++
          [⟨s.ce.takeSeq, link.toNat, BitVec.ofNat 32 (leRead card 12 4), byteAt card 9⟩] ∧
        hostByte t (link.toNat + 8) = some 2 ∧ hostByte t (link.toNat + 11) = some 0 ∧ t.su = s.su ∧
        OnlyWrites s t (fun a => a = link.toNat + 8 ∨ a = link.toNat + 11)) ∧
      (CardKind.ofByte (byteAt card 9) = none →
        t.ce.state = .reading ∧ t.ce.current = none ∧
        t.ce.outstanding = s.ce.outstanding.filter (fun r => r.take != s.ce.takeSeq) ∧
        hostByte t (link.toNat + 8) = some 5 ∧ hostByte t (link.toNat + 11) = some 1 ∧
        HostHolds t (link.toNat + 128) (byteAt card 9 :: List.replicate 127 0) ∧ t.su = raised [.cardFinal] s.su ∧
        OnlyWrites s t (FinalBytes ⟨s.ce.takeSeq, link.toNat, 0, 0⟩))

/-- Chain reads that take no card. One that finds no POSTED card goes back to WATCHING or, with the recheck mark, reads again, and a
misaligned link queues BAD_LINK once. One that fails ends as not ready and queues CARD_READ_ERROR with the address, unless the
read-fault mark stands. One that a reset dropped is discarded. One that ends after RUN was cleared has run to its completion, with the
read of the card that a good link names, and stops the engine. By the model's choices its result is dropped whole (log entry 21), the
completions of dropped reads are the next ones in the order of issue (log entry 6), a completion outside READING changes nothing (log
entry 2), and the read of the card is recorded at the chain read's end (log entry 57). -/
def Obligations.ChainReadsWithoutACard : Prop :=
  (∀ (link : BitVec 64) (card : List Byte) (s : State), s.power.mainOn = true → s.ce.stale = 0 → s.ce.state = .reading →
     s.regs.run = true → link = 0 ∨ link.toNat % 256 ≠ 0 ∨ byteAt card 8 ≠ 1 →
     ∃ t, exec (.chainReadComplete link card) s = .next t ∧
       (s.ce.recheck = false → t.ce.state = .watching ∧ t.ce.watchOn = (s.regs.interval != 0)) ∧
       (s.ce.recheck = true → t.ce.state = .reading ∧ t.ce.watchOn = false) ∧ t.ce.recheck = false ∧ t.ce.readFault = false ∧
       t.ce.lastBadLink = (if link.toNat % 256 = 0 then none else some link.toNat) ∧ t.ce.heldTail = s.ce.heldTail ∧
       t.ce.current = s.ce.current ∧ t.ce.outstanding = s.ce.outstanding ∧
       t.su = (if link.toNat % 256 = 0 ∨ s.ce.lastBadLink = some link.toNat then s.su
         else (offerFault (.badLink link.toNat (linkAddress s)) s).su) ∧
       OnlyWrites s t (fun _ => False) ∧ SameBase s t ∧ SameStore s t ∧ SamePrint s t ∧ SameLine s t) ∧
  (∀ (i : Instr) (link : Option (BitVec 64)) (s : State), i = .cardReadError link ∨ i = .chainReadTimeout link →
     s.power.mainOn = true → s.ce.stale = 0 → s.ce.state = .reading → s.regs.run = true →
     (∀ l, link = some l → l ≠ 0 ∧ l.toNat % 256 = 0) →
     ∃ t, exec i s = .next t ∧ t.ce.readFault = true ∧
       (s.ce.recheck = false → t.ce.state = .watching ∧ t.ce.watchOn = (s.regs.interval != 0)) ∧
       (s.ce.recheck = true → t.ce.state = .reading ∧ t.ce.watchOn = false) ∧ t.ce.recheck = false ∧
       t.ce.lastBadLink = (if link = none then s.ce.lastBadLink else none) ∧ t.ce.heldTail = s.ce.heldTail ∧
       t.ce.current = s.ce.current ∧ t.ce.outstanding = s.ce.outstanding ∧
       t.su = (if s.ce.readFault then s.su
         else (offerFault (.cardReadError (match link with | none => linkAddress s | some l => l.toNat)) s).su) ∧
       OnlyWrites s t (fun _ => False) ∧ SameBase s t ∧ SameStore s t ∧ SamePrint s t ∧ SameLine s t) ∧
  (∀ (i : Instr) (card : List Byte) (l : Option (BitVec 64)) (s : State),
     (∃ link, i = .chainReadComplete link card ∧ l = some link) ∨ i = .cardReadError l ∨ i = .chainReadTimeout l →
     s.power.mainOn = true →
     (∀ n, s.ce.stale = n + 1 → exec i s = .next { s with ce := { s.ce with stale := n } }) ∧
     (s.ce.stale = 0 → s.ce.state = .reading → s.regs.run = false →
       (l = none ∨ (∃ x, l = some x ∧ (x = 0 ∨ x.toNat % 256 ≠ 0)) →
         exec i s = .next { s with ce := { s.ce with state := .stopped } }) ∧
       ∀ x, l = some x → x ≠ 0 → x.toNat % 256 = 0 → exec i s = .next { s with
         ce := { s.ce with state := .stopped }, ports := .hostRead x.toNat 128 :: s.ports }) ∧
     (s.ce.stale = 0 → s.ce.state ≠ .reading → exec i s = .next s))

/-- A FENCE card is DONE with its count once no older card is outstanding; otherwise it stalls or, with NO_WAIT, fails NOT_READY with
the number of cards before it. -/
def Obligations.FenceWaitsForOlderCards : Prop :=
  ∀ (c : CurrentCard) (s : State), Dispatching .fence c s → ∃ t, exec .fence s = .next t ∧
    (s.ce.outstanding.head?.map (·.take) = some c.ref.take →
      DispatchFinal c .done .ok [(128, le 4 s.ce.fenceCount)] s t ∧ t.su = raised [.cardFinal] s.su ∧ SameBase s t ∧
        SameStore s t ∧ SamePrint s t ∧ SameLine s t) ∧
    (∀ older rest, s.ce.outstanding = older ++ c.ref :: rest → (∀ r ∈ older, r.take ≠ c.ref.take) → older ≠ [] →
      (c.noWait = false → StallsCard s t) ∧
      (c.noWait = true → FailsCard c .notReady [(128, le 4 older.length)] s t))

/-- A stalled card is offered again once the event that its block names has come, and only then: a PRINT card that finds a place and a
LOAD card at an IDLE loader are dispatched as at first, a FENCE card that has become the oldest is DONE, and a PATCH card whose edit
can be made goes on. The events: a final write of any card makes a stalled FENCE card count it and due to be offered, and each other
event makes due a stalled card of its kind; neither reaches an engine that is not STALLED. -/
def Obligations.StalledCardIsOfferedAgain : Prop :=
  ((∀ (c : CardRef) (fields : List (Nat × List Byte)) (st : CardState) (rc : ResultCode) (s : State), ∃ t,
      t = finalWrite c fields st rc s ∧ t.ce.outstanding = s.ce.outstanding.filter (fun r => r.take != c.take) ∧
      t.ce = { s.ce with
        outstanding := t.ce.outstanding, offerDue := t.ce.offerDue, fenceCount := t.ce.fenceCount } ∧
      (∀ k, s.ce.state = .stalled → s.ce.current = some k → CardKind.ofByte k.ref.kind = some .fence →
        t.ce.offerDue = true ∧ t.ce.fenceCount = s.ce.fenceCount + 1) ∧
      (s.ce.state ≠ .stalled ∨ s.ce.current = none ∨
          (∃ k, s.ce.current = some k ∧ CardKind.ofByte k.ref.kind ≠ some .fence) →
        t.ce.offerDue = s.ce.offerDue ∧ t.ce.fenceCount = s.ce.fenceCount)) ∧
    ∀ (k : CardKind) (s : State),
      (∀ c, s.ce.state = .stalled → s.ce.current = some c → CardKind.ofByte c.ref.kind = some k →
        offerTo k s = { s with ce := { s.ce with offerDue := true } }) ∧
      (s.ce.state ≠ .stalled ∨ s.ce.current = none ∨ (∃ c, s.ce.current = some c ∧ CardKind.ofByte c.ref.kind ≠ some k) →
        offerTo k s = s)) ∧
  ∀ s : State, s.power.mainOn = true → ∃ t, exec .cardReoffer s = .next t ∧
    (s.ce.state ≠ .stalled ∨ s.ce.offerDue = false ∨ s.ce.current = none → t = s) ∧
    ∀ c, s.ce.state = .stalled → s.ce.offerDue = true → s.ce.current = some c →
      (CardKind.ofByte c.ref.kind = some .fence → s.ce.outstanding.head?.map (·.take) = some c.ref.take →
        CardFinal c.ref .done .ok t ∧ HostHolds t (c.ref.addr + 128) (le 4 s.ce.fenceCount) ∧ t.ce.current = none ∧
        t.ce.state = if s.regs.run then .reading else .stopped) ∧
      (CardKind.ofByte c.ref.kind = some .fence → s.ce.outstanding.head?.map (·.take) ≠ some c.ref.take → c.noWait = false →
        c.ref.take ∈ s.ce.outstanding.map (·.take) → t = { s with ce := { s.ce with offerDue := false } }) ∧
      (CardKind.ofByte c.ref.kind = some .load → s.ps.loader.isSome = true → c.noWait = false →
        t = { s with ce := { s.ce with offerDue := false } }) ∧
      (CardKind.ofByte c.ref.kind = some .load → s.ps.loader = none →
        exec .cardReoffer s = exec .load { s with ce := { s.ce with state := .dispatching, offerDue := false } }) ∧
      (CardKind.ofByte c.ref.kind = some .print → s.pe.queue.length < 4 →
        exec .cardReoffer s = exec .print { s with ce := { s.ce with state := .dispatching, offerDue := false } }) ∧
      (CardKind.ofByte c.ref.kind = some .patch → ∀ p e h, s.spb.patch = some p → p.phase = .waiting →
        p.edits[p.cursor]? = some e → (profileOf s p.id).header = some h →
        (editRoute s.spb.entries (h.base + e.node) = .wait → t = { s with ce := { s.ce with offerDue := false } }) ∧
        (editRoute s.spb.entries (h.base + e.node) ≠ .wait →
          t.spb = { s.spb with patch := some { p with phase := .applying } } ∧
          t.ce = { s.ce with state := .dispatching, offerDue := false }))

/-! ## SETUP and HEAT -/

/-- An accepted SETUP card is DONE, and every block takes its settings at once; if no new polarity makes an edge, nothing else in the
part changes. That the idle cap cuts at once is the model's choice (log entry 47). -/
def Obligations.SetupTakesEffectAtOnce : Prop :=
  ∀ (c : CurrentCard) (g : Settings) (s : State), Dispatching .setup c s → EngineLaw s → g = parseSettings c.image →
    s.wd.state = .idle ∨ s.wd.state = .halted → s.pe.queue = [] → s.tmap.segs = [] → setupError s.power s.hc.zones g = none →
    ∃ t, exec .setup s = .next t ∧ t.setup = some g ∧ CardFinal c.ref .done .ok t ∧ t.ce.current = none ∧
      t.ce.state = (if s.regs.run then .reading else .stopped) ∧
      (∀ a ∈ t.tc.axes, a.tSp = g.paperTsp ∧ a.kp = g.paperKp ∧ a.ki = g.paperKi ∧ a.source = .setup) ∧
      (∀ (n : Nat) r, t.su.inputs[n]? = some r → r.activeHigh = g.polarities.getLsbD n) ∧
      (∀ (n : Nat) z, t.hc.zones[n]? = some z → g.zones ≤ n → z.state = .off ∧ z.sp = 0 ∧ z.latch = false ∧ ZoneCut z) ∧
      (∀ (n : Nat) b, t.pe.bars[n]? = some b → g.bars ≤ n → b = ⟨false, 0, true⟩) ∧
      ((∀ i, (inputOf s i).active = ((inputOf s i).level == some (g.polarities.getLsbD (inputIndex i)))) →
        DispatchFinal c .done .ok [] s t ∧ t.power = s.power ∧ t.ka = s.ka ∧ t.regs = s.regs ∧ t.lastVMax = s.lastVMax ∧ t.web = s.web ∧ t.wd = s.wd ∧
        t.tmap = s.tmap ∧ SameStore s t ∧ t.pe = { s.pe with bars := t.pe.bars, hold := none } ∧
        (∀ (n : Nat) b, s.pe.bars[n]? = some b → n < g.bars → t.pe.bars[n]? = some b) ∧
        (∀ (n : Nat) z, s.hc.zones[n]? = some z → n < g.zones → t.hc.zones[n]? = some { z with
          duty := min z.duty g.idleCap, onTime := min z.onTime g.idleCap,
          heater := z.heater && decide (s.clock - s.hc.windowStart < min z.onTime g.idleCap) }) ∧
        t.tc.axes = s.tc.axes.map (fun a =>
          { a with tSp := g.paperTsp, kp := g.paperKp, ki := g.paperKi, source := .setup }) ∧
        t.tc.fabrics = s.tc.fabrics ∧ t.rc.joints = s.rc.joints ∧
        (t.rc.pu = { s.rc.pu with countDue := s.rc.pu.countDue ||
          (s.ka.puValid && decide (0 < g.puRoll) && decide (g.puRoll ≤ s.ka.pu.metres) && !s.rc.pu.fired) }) ∧
        (t.rc.fu = { s.rc.fu with countDue := s.rc.fu.countDue ||
          (s.ka.fuValid && decide (0 < g.fuRoll) && decide (g.fuRoll ≤ s.ka.fu.metres) && !s.rc.fu.fired) }) ∧
        t.su.events = (if !zonesCondition s && zonesCondition t then (s.su.events ||| Event.zonesInBand.mask) else s.su.events)
          ||| Event.cardFinal.mask ∧
        t.su.faults = s.su.faults ∧ t.su.haltCause = s.su.haltCause)

/-- What refuses a SETUP and a HEAT card, with the ranges of their fields. A SETUP card fails WRONG_STATE outside IDLE and HALTED, with a
PRINT card queued or with a strip in the map, before any field is checked; a HEAT card does without SETUP-valid; the first field out of
range, in the order of body offsets, fails either BAD_FIELD with its offset; and nothing is applied. A rule over several fields is checked
at the later one, and bits 3 to 7 of the halt flags are not checked, by the model's choices (log entries 23, 58). -/
def Obligations.SettingsRefusals : Prop :=
  ((∀ (c : CurrentCard) (s : State), Dispatching .setup c s →
     (¬((s.wd.state = .idle ∨ s.wd.state = .halted) ∧ s.pe.queue = [] ∧ s.tmap.segs = []) →
       ∃ t, exec .setup s = .next t ∧ FailsCard c .wrongState [] s t) ∧
     ∀ off, (s.wd.state = .idle ∨ s.wd.state = .halted) → s.pe.queue = [] → s.tmap.segs = [] →
       setupError s.power s.hc.zones (parseSettings c.image) = some off →
       ∃ t, exec .setup s = .next t ∧ FailsCard c .badField [(128, le 2 off)] s t) ∧
   (∀ (p : Power) (zones : List Zone) (g : Settings), setupError p zones g = none ↔
     (500 ≤ g.lUp ∧ g.lUp ≤ 30000) ∧ (500 ≤ g.lPn ∧ g.lPn ≤ 30000) ∧ (500 ≤ g.lW ∧ g.lW ≤ 6000) ∧
     (500 ≤ g.lFn ∧ g.lFn ≤ 30000) ∧ (20 ≤ g.pitch ∧ g.pitch ≤ 500) ∧ g.jointGap ≤ 2000 ∧ (16 ≤ g.width ∧ g.width ≤ 8192) ∧
     (1 ≤ g.zones ∧ g.zones ≤ if p.zones8 then 8 else 4) ∧ (4 ≤ g.bars ∧ g.bars ≤ 6) ∧ (10 ≤ g.vMax ∧ g.vMax ≤ 500) ∧
     (10 ≤ g.rampRate ∧ g.rampRate ≤ 1000 ∧ g.rampRate % 10 = 0) ∧ (20 ≤ g.paperTsp ∧ g.paperTsp ≤ 1000) ∧
     (1 ≤ g.spliceTimeout ∧ g.spliceTimeout ≤ 60) ∧ (1 ≤ g.handoverLimit ∧ g.handoverLimit ≤ 30) ∧ g.puRoll ≤ 100000 ∧
     g.fuRoll ≤ 100000 ∧ (1200 ≤ g.tTrip ∧ g.tTrip ≤ 2450 ∧ ∀ z ∈ zones.take g.zones, z.sp = 0 ∨ z.sp < g.tTrip) ∧
     g.idleCap ≤ 1000) ∧
   (∀ (p : Power) (zones : List Zone) (g : Settings) (off : Nat), setupError p zones g = some off ↔ FirstFails
     [(16, 500 ≤ g.lUp ∧ g.lUp ≤ 30000), (18, 500 ≤ g.lPn ∧ g.lPn ≤ 30000), (20, 500 ≤ g.lW ∧ g.lW ≤ 6000),
      (22, 500 ≤ g.lFn ∧ g.lFn ≤ 30000), (24, 20 ≤ g.pitch ∧ g.pitch ≤ 500), (26, g.jointGap ≤ 2000),
      (28, 16 ≤ g.width ∧ g.width ≤ 8192), (30, 1 ≤ g.zones ∧ g.zones ≤ if p.zones8 then 8 else 4),
      (31, 4 ≤ g.bars ∧ g.bars ≤ 6), (32, 10 ≤ g.vMax ∧ g.vMax ≤ 500),
      (34, 10 ≤ g.rampRate ∧ g.rampRate ≤ 1000 ∧ g.rampRate % 10 = 0), (36, 20 ≤ g.paperTsp ∧ g.paperTsp ≤ 1000),
      (41, 1 ≤ g.spliceTimeout ∧ g.spliceTimeout ≤ 60), (42, 1 ≤ g.handoverLimit ∧ g.handoverLimit ≤ 30),
      (44, g.puRoll ≤ 100000), (48, g.fuRoll ≤ 100000),
      (52, 1200 ≤ g.tTrip ∧ g.tTrip ≤ 2450 ∧ ∀ z ∈ zones.take g.zones, z.sp = 0 ∨ z.sp < g.tTrip),
      (54, g.idleCap ≤ 1000)] off)) ∧
  ((∀ (c : CurrentCard) (s : State), Dispatching .heat c s →
     (s.setup = none → ∃ t, exec .heat s = .next t ∧ FailsCard c .wrongState [] s t) ∧
     ∀ g off, s.setup = some g → heatError g.zones g.tTrip c.image = some off →
       ∃ t, exec .heat s = .next t ∧ FailsCard c .badField [(128, le 2 off)] s t) ∧
   (∀ (zones tTrip : Nat) (body : List Byte), heatError zones tTrip body = none ↔
     ∀ z < 8,
       (z < zones → (leRead body (16 + 6 * z) 2 = 0 ∨
           (1000 ≤ leRead body (16 + 6 * z) 2 ∧ leRead body (16 + 6 * z) 2 ≤ 2300 ∧ leRead body (16 + 6 * z) 2 < tTrip)) ∧
         10 ≤ leRead body (18 + 6 * z) 2 ∧ leRead body (18 + 6 * z) 2 ≤ 200) ∧
       (zones ≤ z → leRead body (16 + 6 * z) 2 = 0)) ∧
   ∀ (zones tTrip : Nat) (body : List Byte) (off : Nat), heatError zones tTrip body = some off ↔
     FirstFails ((List.range 8).flatMap fun z =>
       if z < zones then
         [(16 + 6 * z, leRead body (16 + 6 * z) 2 = 0 ∨
            (1000 ≤ leRead body (16 + 6 * z) 2 ∧ leRead body (16 + 6 * z) 2 ≤ 2300 ∧ leRead body (16 + 6 * z) 2 < tTrip)),
          (18 + 6 * z, 10 ≤ leRead body (18 + 6 * z) 2 ∧ leRead body (18 + 6 * z) 2 ≤ 200)]
       else [(16 + 6 * z, leRead body (16 + 6 * z) 2 = 0)]) off)

/-- A HEAT card that passes its checks gives every zone in use its setting and its state by the tables of R107 and R109, leaves every
other zone, and is DONE with the zone states and the zones still tripped. -/
def Obligations.HeatCardSetsTheZones : Prop :=
  ∀ (c : CurrentCard) (g : Settings) (s : State), Dispatching .heat c s → s.setup = some g →
    heatError g.zones g.tTrip c.image = none →
    ∃ t, exec .heat s = .next t ∧
      DispatchFinal c .done .ok [(128, t.hc.zones.map (·.state.code)), (136, le 1 (markSet (t.hc.zones.map (·.latch))))] s t ∧
      t.hc.zones.length = s.hc.zones.length ∧ t.hc.frame = s.hc.frame ∧ t.hc.windowStart = s.hc.windowStart ∧
      (∀ (n : Nat) z, s.hc.zones[n]? = some z → g.zones ≤ n → t.hc.zones[n]? = some z) ∧
      (∀ (n : Nat) z, s.hc.zones[n]? = some z → n < g.zones → ∃ z', t.hc.zones[n]? = some z' ∧
        z'.sp = leRead c.image (16 + 6 * n) 2 ∧ z'.band = leRead c.image (18 + 6 * n) 2 ∧
        z'.kp = leRead c.image (20 + 6 * n) 1 ∧ z'.ki = leRead c.image (21 + 6 * n) 1 ∧
        z'.tMeas = z.tMeas ∧ z'.bad = z.bad ∧ z'.lastBad = z.lastBad ∧ z'.good = z.good ∧
        (z.latch = false → z.state = .fault → z'.state = .fault ∧ z'.latch = false) ∧
        (z.latch = false → z.state = .off → z'.sp = 0 → z'.state = .off) ∧
        (z.latch = false → z.state = .off → z'.sp ≠ 0 →
          BandOf z'.sp z'.band z.tMeas z'.state ∧ z'.settle = 0 ∧ z'.integ = 0) ∧
        (z.latch = false → z.state.isBand = true → z'.sp = 0 → z'.state = .off ∧ ZoneCut z') ∧
        (z.latch = false → z.state.isBand = true → z'.sp ≠ 0 → z'.sp = z.sp → z'.band = z.band →
          z'.state = z.state ∧ z'.settle = z.settle ∧ z'.out = z.out ∧ z'.integ = z.integ ∧ z'.duty = z.duty) ∧
        (z.latch = false → z.state.isBand = true → z'.sp ≠ 0 → z'.sp ≠ z.sp ∨ z'.band ≠ z.band →
          BandOf z'.sp z'.band z.tMeas z'.state ∧ z'.settle = 0 ∧ z'.integ = z.integ ∧ z'.duty = z.duty) ∧
        (z.latch = true → z.state = .tripped → z.tMeas < (g.tTrip : Int) - 100 → z'.latch = false ∧ z'.integ = 0 ∧
          (z'.sp = 0 → z'.state = .off) ∧ (z'.sp ≠ 0 → BandOf z'.sp z'.band z.tMeas z'.state ∧ z'.settle = 0)) ∧
        (z.latch = true → z.state ≠ .tripped ∨ (g.tTrip : Int) - 100 ≤ z.tMeas →
          z'.latch = true ∧ z'.state = z.state)) ∧
      t.su = raised (if !zonesCondition s && zonesCondition t then [.zonesInBand, .cardFinal] else [.cardFinal]) s.su ∧
      SameBase s t ∧ SameStore s t ∧ SamePrintButHold s t ∧ t.web = s.web ∧ t.wd = s.wd ∧ t.tc = s.tc ∧ t.rc = s.rc

/-- R133 and R103 as one period computes them: the integral, the torque or duty, their clamps, and the idle cap of R104, under which a
computed duty above the cap is set to the cap and the integral step is not taken. -/
def Obligations.LoopsOfOnePeriod : Prop :=
  (∀ (t : Nat) (a : AxisRecord), a.state = .active → a.tMeas = t →
    (computeAxis (.valid t) a).integ = (max 0 (min 64000 ((a.integ : Int) + a.ki * ((a.tSp : Int) - a.tMeas)))).toNat ∧
    (computeAxis (.valid t) a).torque = (max 0 (min 1000 ((a.kp * ((a.tSp : Int) - a.tMeas) +
      ((computeAxis (.valid t) a).integ : Int)) / 64))).toNat ∧
    (computeAxis (.valid t) a).torque ≤ 1000 ∧ (computeAxis (.valid t) a).integ ≤ 64000) ∧
  (∀ (r : AxisReading) (a : AxisRecord), a.state ≠ .active ∨ (∃ k, r = .invalid k) → computeAxis r a = a) ∧
  (∀ (stopped : Bool) (cap : Nat) (z : Zone) (i u : Int),
    i = max 0 (min 16000 ((z.integ : Int) + z.ki * ((z.sp : Int) - z.tMeas))) →
    u = max 0 (min 1000 ((z.kp * ((z.sp : Int) - z.tMeas) + i) / 16)) →
    (stopped = true → (cap : Int) < u → (computeDuty stopped cap z).duty = cap ∧ (computeDuty stopped cap z).integ = z.integ) ∧
    (stopped = false ∨ u ≤ cap →
      ((computeDuty stopped cap z).duty : Int) = u ∧ ((computeDuty stopped cap z).integ : Int) = i) ∧
    (computeDuty stopped cap z).state = z.state ∧ (computeDuty stopped cap z).onTime = z.onTime)

/-- What a heat period does to one zone in use, phase by phase (R98 to R101, R106, R110). A zone that recovers from FAULT enters its band
state by the reading and is judged against its band in the same period; its duty in that period, which the spec leaves open, is not
stated (log entries 16 and 35). -/
def Obligations.ZoneThroughAHeatPeriod : Prop :=
  ∀ (stopped : Bool) (cap tTrip : Nat) (z : Zone),
    (∀ k, let z' := zonePeriod stopped cap tTrip (.bad k) z
      z'.tMeas = z.tMeas ∧ z'.lastBad = some k ∧ z'.latch = z.latch ∧ z'.bad = min 3 (z.bad + 1) ∧
      (z.state = .fault → z'.state = .fault ∧ z'.good = 0) ∧
      (z.state ≠ .fault → 2 ≤ z.bad → z'.state = .fault ∧ z'.good = 0 ∧ z'.settle = 0 ∧ z'.out = 0 ∧ ZoneCut z') ∧
      (z.state ≠ .fault → z.bad ≤ 1 → z'.state = z.state ∧ z'.integ = z.integ ∧ z'.duty = z.duty ∧ z'.settle = z.settle ∧
        z'.out = z.out ∧ z'.onTime = z.onTime)) ∧
    (∀ t, let z' := zonePeriod stopped cap tTrip (.good t) z
      z'.tMeas = t ∧ z'.bad = 0 ∧ z'.sp = z.sp ∧ z'.band = z.band ∧
      (z.latch = false → (tTrip : Int) ≤ t → z'.latch = true ∧
        (z.state ≠ .fault → z'.state = .tripped ∧ ZoneCut z')) ∧
      (z.latch = true ∨ t < (tTrip : Int) → z'.latch = z.latch) ∧
      (z.state = .fault → z.good + 1 < 10 → z'.state = .fault ∧ z'.good = z.good + 1) ∧
      (z.state = .fault → z.good + 1 = 10 → z.latch = true → z'.state = .tripped) ∧
      (z.state = .fault → z.good + 1 = 10 → z.latch = false → t < (tTrip : Int) → z.sp = 0 → z'.state = .off) ∧
      (z.state = .fault → z.good + 1 = 10 → z.latch = false → t < (tTrip : Int) → z.sp ≠ 0 →
        BandOf z.sp z.band t z'.state ∧ z'.out = 0 ∧
        z'.settle = if (z.sp : Int) - z.band ≤ t ∧ t ≤ z.sp + z.band then 1 else 0) ∧
      (z.state = .fault → z.good + 1 = 10 → z.latch = false → (tTrip : Int) ≤ t → z'.state = .tripped ∧ ZoneCut z') ∧
      (z.state = .off → t < (tTrip : Int) ∨ z.latch = true → z'.state = .off ∧ z'.duty = z.duty ∧ z'.integ = z.integ) ∧
      (z.state = .tripped → z.latch = true → z'.state = .tripped ∧ z'.duty = z.duty ∧ z'.integ = z.integ) ∧
      (z.state = .below ∨ z.state = .above → t < (tTrip : Int) → (z.sp : Int) - z.band ≤ t → t ≤ z.sp + z.band →
        z'.state = .settling ∧ z'.settle = 1) ∧
      (z.state = .settling → t < (tTrip : Int) → (z.sp : Int) - z.band ≤ t → t ≤ z.sp + z.band →
        (z.settle + 1 < 10 → z'.state = .settling ∧ z'.settle = z.settle + 1) ∧
        (10 ≤ z.settle + 1 → z'.state = .inBand ∧ z'.out = 0)) ∧
      (z.state = .inBand → t < (tTrip : Int) → (z.sp : Int) - z.band ≤ t → t ≤ z.sp + z.band →
        z'.state = .inBand ∧ z'.out = 0) ∧
      (z.state = .inBand → t < (tTrip : Int) → z.out + 1 < 3 → t < (z.sp : Int) - z.band ∨ (z.sp : Int) + z.band < t →
        z'.state = .inBand ∧ z'.out = z.out + 1) ∧
      (z.state = .below ∨ z.state = .above ∨ z.state = .settling ∨ (z.state = .inBand ∧ 3 ≤ z.out + 1) → t < (tTrip : Int) →
        (t < (z.sp : Int) - z.band → z'.state = .below) ∧ ((z.sp : Int) + z.band < t → z'.state = .above)) ∧
      (z.state.isBand = true → t < (tTrip : Int) → z'.onTime = z.onTime ∧
        z'.duty = (computeDuty stopped cap { z with tMeas := t }).duty ∧
        z'.integ = (computeDuty stopped cap { z with tMeas := t }).integ))

/-- A heat period at the part: the frame is taken; each zone in use goes through its period and no other zone changes; the fault entries
and ZONE_ALARM follow, and ZONES_IN_BAND where the zones condition has become met; the dose of every strip in the wrap is counted; and a
trip halts the line if the SETUP asks for it, after the whole period by the model's choice (log entry 17), and in HALTED each one is queued
as LATER_HALT. A reading without its valid mark is INVALID whatever its figure, by the model's choice (log entry 52). -/
def Obligations.HeatPeriodAtThePart : Prop :=
  ∀ s : State, s.power.mainOn = true →
    (s.setup = none → exec .heatPeriod s = .next { s with hc := { s.hc with frame := none } }) ∧
    ∀ g, s.setup = some g → ∃ t, exec .heatPeriod s = .next t ∧ t.hc.frame = none ∧
      (periodAlarm s g (zonesPeriod s g) = true → hasEvent t .zoneAlarm = true) ∧
      (periodAlarm s g (zonesPeriod s g) = false → hasEvent t .zoneAlarm = hasEvent s .zoneAlarm) ∧
      (zonesCondition s = false → zonesCondition t = true → hasEvent t .zonesInBand = true) ∧
      (zonesCondition s = true ∨ zonesCondition t = false → hasEvent t .zonesInBand = hasEvent s .zonesInBand) ∧
      (g.haltOnTrip = false ∨ trippedZones s.hc.zones (zonesPeriod s g) = 0 ∨ s.wd.state = .halted →
        t.su.faults = ((periodFaults s g (zonesPeriod s g) ++ if g.haltOnTrip = true then
          List.replicate (trippedZones s.hc.zones (zonesPeriod s g)) (FaultInfo.laterHalt .trip) else []).foldl
            (fun s f => offerFault f s) s).su.faults ∧
        t.hc.zones.length = s.hc.zones.length ∧
        (∀ (n : Nat) z, s.hc.zones[n]? = some z → t.hc.zones[n]? = some (if n < g.zones then
          zonePeriod (s.wd.running == 0) g.idleCap g.tTrip (classifyZone s.hc.frame n) z else z)) ∧
        t.tmap.joints = s.tmap.joints ∧ t.tmap.segs = s.tmap.segs.map (countDose (t.hc.zones.take g.zones)) ∧
        t.hc.windowStart = s.hc.windowStart ∧ t.wd = s.wd ∧ t.tc = s.tc ∧ t.rc = s.rc ∧ t.web = s.web ∧ t.ce = s.ce ∧
        SameButHold s t ∧ SameStore s t ∧ SameBase s t ∧ t.su.haltCause = s.su.haltCause ∧
        OnlyWrites s t (fun _ => False)) ∧
      (g.haltOnTrip = true → 0 < trippedZones s.hc.zones (zonesPeriod s g) → s.wd.state ≠ .halted →
        t.wd.state = .halted ∧ t.wd.running = 0 ∧ t.tmap.segs = [] ∧ t.su.haltCause = s.su.haltCause.or (some .trip) ∧
        t.su.faults = ((periodFaults s g (zonesPeriod s g) ++
          List.replicate (trippedZones s.hc.zones (zonesPeriod s g) - 1) (FaultInfo.laterHalt .trip)).foldl
            (fun s f => offerFault f s) s).su.faults ∧
        t.hc.zones.map (·.state) = (zonesPeriod s g).map (·.state))

/-- The dose a heat period counts for one strip: each zone's temperature above the onset, for the lead between LEAD_NIP and LEAD_EXIT and
for the trail from TRAIL_NIP on, held at 2³² − 1; a zone in FAULT adds 0 and sets ZONE_FAULT; a strip with no point in the wrap is not
touched. -/
def Obligations.DeliveredDoseOfAStrip : Prop :=
  ∀ (zones : List Zone) (g : Segment),
    (¬((g.leadNip = true ∧ g.leadExit = false) ∨ g.trailNip = true) → countDose zones g = g) ∧
    (((g.leadNip = true ∧ g.leadExit = false) ∨ g.trailNip = true) →
      ((countDose zones g).flags.zoneFault = true ↔ g.flags.zoneFault = true ∨ ∃ z ∈ zones, z.state = .fault) ∧
      countDose zones g = { g with
        dLead := (countDose zones g).dLead, dTrail := (countDose zones g).dTrail, flags := { g.flags with
          zoneFault := (countDose zones g).flags.zoneFault } } ∧
      (¬(g.leadNip = true ∧ g.leadExit = false) → (countDose zones g).dLead = g.dLead) ∧
      (g.trailNip = false → (countDose zones g).dTrail = g.dTrail)) ∧
    (∀ (n d : Nat) z, g.leadNip = true → g.leadExit = false → g.dLead[n]? = some d → zones[n]? = some z →
      (countDose zones g).dLead[n]? = some (min (2 ^ 32 - 1)
        (d + if z.state = .fault then 0 else (max 0 (z.tMeas - g.tOnset)).toNat))) ∧
    (∀ (n d : Nat) z, g.trailNip = true → g.dTrail[n]? = some d → zones[n]? = some z →
      (countDose zones g).dTrail[n]? = some (min (2 ^ 32 - 1)
        (d + if z.state = .fault then 0 else (max 0 (z.tMeas - g.tOnset)).toNat)))

/-- Reports to the part: a zone or tension frame whose check value passes is stored in place of the one before, and one that fails is
discarded; a bar's report restores its record, with the room less the lines sent after the one it names (log entry 34); a bar in use that
falls silent is NOT_READY and queues BAR_SILENT once; and a bar not in use is ignored. -/
def Obligations.SensorAndBarReports : Prop :=
  ∀ s : State, s.power.mainOn = true →
    (∀ l, exec (.zoneFrame true l) s = .next { s with hc := { s.hc with frame := some l } }) ∧
    (∀ l, exec (.tensionFrame true l) s = .next { s with tc := { s.tc with frame := some l } }) ∧
    (∀ l, exec (.zoneFrame false l) s = .next s) ∧ (∀ l, exec (.tensionFrame false l) s = .next s) ∧
    ∀ (n : Nat) (ready : Bool) (room : Nat) (seq : BitVec 16) (b : Bar) (c : Settings), s.pe.bars[n]? = some b →
      (s.setup = some c → n < c.bars → ∃ t, exec (.barReport n ready room seq) s = .next t ∧
        t = { s with pe := { s.pe with bars := t.pe.bars, hold := t.pe.hold, firstTest := t.pe.firstTest } } ∧
        t.pe.bars[n]? = some ⟨ready, room - min s.pe.sent (s.pe.seq - 1 - seq).toNat, false⟩ ∧ t.pe.bars.length = s.pe.bars.length ∧
        ∀ k, k ≠ n → t.pe.bars[k]? = s.pe.bars[k]?) ∧
      (s.setup = some c → n < c.bars → b.silent = false → ∃ t, exec (.barSilent n) s = .next t ∧
        t = { s with pe := { s.pe with bars := t.pe.bars, hold := t.pe.hold, firstTest := t.pe.firstTest }, su := t.su, ports := t.ports } ∧
        t.pe.bars[n]? = some { b with ready := false, silent := true } ∧ t.pe.bars.length = s.pe.bars.length ∧
        (∀ k, k ≠ n → t.pe.bars[k]? = s.pe.bars[k]?) ∧ t.su = (offerFault (.barSilent n) s).su ∧
        OnlyWrites s t (fun _ => False)) ∧
      (s.setup = none ∨ (s.setup = some c ∧ (c.bars ≤ n ∨ b.silent = true)) → exec (.barSilent n) s = .next s) ∧
      (s.setup = none ∨ (s.setup = some c ∧ c.bars ≤ n) → exec (.barReport n ready room seq) s = .next s)

/-- A heater window: at its start every zone in use takes its duty as on-time, and its output turns on if that is above 0; after the
on-time the output turns off, unless the on-time is the whole window; a zone not in use is not touched. -/
def Obligations.HeaterWindows : Prop :=
  ∀ s : State, s.power.mainOn = true →
    (∃ t, exec .heaterWindow s = .next t ∧ t = { s with hc := t.hc } ∧ t.hc.frame = s.hc.frame ∧ t.hc.windowStart = s.clock ∧
      t.hc.zones.length = s.hc.zones.length ∧
      ∀ (n : Nat) z, s.hc.zones[n]? = some z →
        (n < zonesInUse s → t.hc.zones[n]? = some { z with onTime := z.duty, heater := decide (0 < z.duty) }) ∧
        (zonesInUse s ≤ n → t.hc.zones[n]? = some z)) ∧
    ∀ k, ∃ t, exec (.heaterOnTimeEnd k) s = .next t ∧ t = { s with hc := { s.hc with zones := t.hc.zones } } ∧
      t.hc.zones.length = s.hc.zones.length ∧
      ∀ (n : Nat) z, s.hc.zones[n]? = some z →
        (n = k → k < zonesInUse s → z.onTime < 1000 → t.hc.zones[n]? = some { z with heater := false }) ∧
        (n ≠ k ∨ zonesInUse s ≤ k ∨ 1000 ≤ z.onTime → t.hc.zones[n]? = some z)

/-! ## The drive -/

/-- START in IDLE begins a run, SPEED in STARTING, RUNNING or DRAINING sets the requested speed alone, and STOP in STARTING or RUNNING makes
the drive DRAINING; where they have no effect, where they fail, and what an action fails with that no DRIVE card has
(R115 to R117, R178). That the state is checked before the speed, and the offset of an unknown action, are the model's choices (log
entry 24); the results of a START or SPEED card with a bad speed are read from the spec (log entry 40). -/
def Obligations.StartSpeedAndStop : Prop :=
  (∀ (c : CurrentCard) (s : State), Dispatching .drive c s →
     (∀ g, leRead c.image 16 1 = 1 → s.wd.state = .idle → s.setup = some g →
       (g.haltOnGuard = false ∨ (inputOf s .guard).countsActive = false) →
       (10 ≤ leRead c.image 18 2 → leRead c.image 18 2 ≤ g.vMax → ∃ t, exec .start s = .next t ∧
         t.wd = { s.wd with state := .starting, requested := leRead c.image 18 2 } ∧
         DispatchFinal c .done .ok [(128, [1]), (129, [1]), (130, le 2 (leRead c.image 18 2)), (132, le 2 s.wd.running)] s t ∧
         t.su = raised [.cardFinal] s.su ∧ SameBase s t ∧ SameStore s t ∧ SamePrintButHold s t ∧ t.web = s.web ∧ t.hc = s.hc ∧
         t.tc = s.tc ∧ t.rc = s.rc) ∧
       (leRead c.image 18 2 < 10 ∨ g.vMax < leRead c.image 18 2 → ∃ t, exec .start s = .next t ∧
         FailsCard c .badField [(128, le 2 18)] s t)) ∧
     (leRead c.image 16 1 = 1 → (s.wd.state ≠ .idle ∨ s.setup = none ∨
         ∃ g, s.setup = some g ∧ g.haltOnGuard = true ∧ (inputOf s .guard).countsActive = true) →
       ∃ t, exec .start s = .next t ∧ FailsCard c .wrongState
         [(128, [1]), (129, [s.wd.state.code]), (130, le 2 s.wd.requested), (132, le 2 s.wd.running)] s t) ∧
     (leRead c.image 16 1 = 0 ∨ 5 < leRead c.image 16 1 → ∀ i ∈ [Instr.start, .speed, .stop, .halt, .clear],
       ∃ t, exec i s = .next t ∧ FailsCard c .badField [(128, le 2 16)] s t)) ∧
  (∀ (c : CurrentCard) (s : State), Dispatching .drive c s →
     (leRead c.image 16 1 = 2 → s.wd.state = .starting ∨ s.wd.state = .running ∨ s.wd.state = .draining →
       ((∃ g, s.setup = some g ∧ 10 ≤ leRead c.image 18 2 ∧ leRead c.image 18 2 ≤ g.vMax) → ∃ t, exec .speed s = .next t ∧
         t.wd = { s.wd with requested := leRead c.image 18 2 } ∧
         DispatchFinal c .done .ok [(128, [2]), (129, [s.wd.state.code]), (130, le 2 (leRead c.image 18 2)),
           (132, le 2 s.wd.running)] s t ∧
         t.su = raised [.cardFinal] s.su ∧ SameBase s t ∧ SameStore s t ∧ SamePrint s t ∧ t.web = s.web ∧ t.hc = s.hc ∧
         t.tc = s.tc ∧ t.rc = s.rc) ∧
       (∀ g, s.setup = some g → leRead c.image 18 2 < 10 ∨ g.vMax < leRead c.image 18 2 →
         ∃ t, exec .speed s = .next t ∧ FailsCard c .badField [(128, le 2 18)] s t)) ∧
     (leRead c.image 16 1 = 2 → s.wd.state = .idle ∨ s.wd.state = .rampdown ∨ s.wd.state = .halted →
       ∃ t, exec .speed s = .next t ∧ FailsCard c .wrongState
         [(128, [2]), (129, [s.wd.state.code]), (130, le 2 s.wd.requested), (132, le 2 s.wd.running)] s t) ∧
     (leRead c.image 16 1 = 3 → s.wd.state ≠ .halted → ∃ t, exec .stop s = .next t ∧
       t.wd = { s.wd with state := if s.wd.state = .starting ∨ s.wd.state = .running then .draining else s.wd.state } ∧
       DispatchFinal c .done .ok [(128, [3]), (129, [t.wd.state.code]), (130, le 2 s.wd.requested), (132, le 2 s.wd.running)] s t ∧
       t.su = raised [.cardFinal] s.su ∧ SameBase s t ∧ SameStore s t ∧ SamePrintButHold s t ∧ t.web = s.web ∧ t.hc = s.hc ∧
       t.tc = s.tc ∧ t.rc = s.rc) ∧
     (leRead c.image 16 1 = 3 → s.wd.state = .halted → ∃ t, exec .stop s = .next t ∧ FailsCard c .wrongState
       [(128, [3]), (129, [5]), (130, le 2 s.wd.requested), (132, le 2 s.wd.running)] s t))

/-- A HALT card outside HALTED halts the line: the speeds are 0, the cause is HOST unless one stands, LINE_STOP and LINE_HALTED, two
frames with reference 0 and no torque, the map empty of strips with its joints kept, the job ended and the queue kept, the splices
withdrawn with their cards FAILED HALTED, the heat at the idle cap; in HALTED it is a later cause, a fault and nothing else. The card is
DONE. That both frames carry no torque, the order of the parts of a halt, and that such a SPLICE card's results hold the state found alone
are the model's choices (log entries 29, 53, 56). -/
def Obligations.HaltCard : Prop :=
  ∀ (c : CurrentCard) (s : State), Dispatching .drive c s → EngineLaw s → leRead c.image 16 1 = 4 →
    (s.wd.state ≠ .halted → ∃ t, exec .halt s = .next t ∧ t.wd = ⟨.halted, 0, 0, 0, s.wd.measured, false⟩ ∧
      CardFinal c.ref .done .ok t ∧ t.ce.current = none ∧
      HostHolds t (c.ref.addr + 128) (area 128 [(0, [4]), (1, [5]), (2, [0, 0]), (4, [0, 0])]) ∧
      t.su.haltCause = s.su.haltCause.or (some .host) ∧ hasEvent t .lineHalted = true ∧ lineStop t = true ∧
      t.tc.axes = s.tc.axes.map (fun a => { a with state := .off, torque := 0, integ := 0 }) ∧
      (∃ l, t.ports = l ++ .driveFrame 0 (s.tc.axes.map fun _ => 0) :: .driveFrame 0 (s.tc.axes.map fun _ => 0) ::
        (if irqSummary (raiseEvent .lineHalted s) && !irqSummary s then .interrupt :: s.ports else s.ports)) ∧
      t.tmap.segs = [] ∧ t.tmap.joints = s.tmap.joints ∧ (s.tmap.segs ≠ [] → hasEvent t .segmentDone = true) ∧
      (∀ g ∈ s.tmap.segs, ∀ r, g.card = some r → ∀ x ∈ t.ce.outstanding, x.take ≠ r.take) ∧
      t.pe.job = none ∧ t.pe.state = .idle ∧ t.pe.queue = s.pe.queue ∧ t.pe.seq = s.pe.seq ∧ t.pe.bars = s.pe.bars ∧
      (t.rc.pu.state = .idle ∧ t.rc.pu.request = (s.rc.pu.request && s.rc.pu.state == .idle) ∧
        t.rc.pu.pending = s.rc.pu.pending ∧ t.rc.pu.fired = s.rc.pu.fired) ∧
      (t.rc.fu.state = .idle ∧ t.rc.fu.request = (s.rc.fu.request && s.rc.fu.state == .idle) ∧
        t.rc.fu.pending = s.rc.fu.pending ∧ t.rc.fu.fired = s.rc.fu.fired) ∧
      t.rc.joints = s.rc.joints ∧
      (∀ (a : Unwind) r, (spliceOf s a).state ≠ .idle → (spliceOf s a).card = some r → Apart [r, c.ref] →
        (∀ (b : Unwind) k, b ≠ a → (spliceOf s b).card = some k → Apart [r, k]) → CardFinal r .failed .halted t ∧
        HostHolds t (r.addr + 128) (area 128 [(1, [(spliceOf s a).state.code])])) ∧
      (∀ z ∈ t.hc.zones, z.duty ≤ idleCapOf s ∧ z.onTime ≤ idleCapOf s) ∧
      t.hc.zones.map (·.state) = s.hc.zones.map (·.state) ∧ t.ka = s.ka ∧ t.regs = s.regs ∧ t.setup = s.setup ∧
      t.web = s.web ∧ t.ps.mem = s.ps.mem ∧ t.ps.loader = s.ps.loader ∧ t.spb.patch = s.spb.patch ∧ t.nc = s.nc) ∧
    (s.wd.state = .halted → ∃ t, exec .halt s = .next t ∧
      DispatchFinal c .done .ok [(128, [4]), (129, [5]), (130, le 2 s.wd.requested), (132, le 2 s.wd.running)] s t ∧
      t.su = raised [.cardFinal] (offerFault (.laterHalt .host) s).su ∧ SameBase s t ∧ SameStore s t ∧ SamePrint s t ∧
      SameLine s t)

/-- The strips that a halt finds in the map, however many: each card is written SPOILED with reason HALT unless a reason stands, its results
carry the counts as they stand and no judgement, and an ORPHAN is written nowhere; every strip leaves the map and releases its fabric
reference. A strip's results are stated where no later strip's card overlaps its card; that the strips are reported in list order is
the model's choice (log entry 30). -/
def Obligations.HaltReportsTheStrip : Prop :=
  ∀ s : State, ∃ t, haltMap s = t ∧ t.tmap = ⟨[], s.tmap.joints⟩ ∧ (s.tmap.segs ≠ [] → hasEvent t .segmentDone = true) ∧
    t.ce.outstanding = s.ce.outstanding.filter (fun x => s.tmap.segs.all fun g => g.card.all fun r => x.take != r.take) ∧
    (∀ pre g post r, s.tmap.segs = pre ++ g :: post → g.card = some r → g.flags.orphan = false →
      (∀ h ∈ post, ∀ k, h.card = some k → k.addr + 256 ≤ r.addr ∨ r.addr + 256 ≤ k.addr) →
      CardFinal r .spoiled .ok t ∧ hostByte t (r.addr + 199) = some ((g.spoil.getD .halt).code) ∧
      HostHolds t (r.addr + 200) ((List.range 8).flatMap fun z => leOpt 3 ((g.dLead.map (min 16777215))[z]?)) ∧
      HostHolds t (r.addr + 224) ((List.range 8).flatMap fun z => leOpt 3 ((g.dTrail.map (min 16777215))[z]?)) ∧
      HostHolds t (r.addr + 248) [0, 128, 0, 128, 255] ∧
      (g.endAt = none → HostHolds t (r.addr + 134) [255, 255, 255])) ∧
    OnlyWrites s t (fun a => ∃ g ∈ s.tmap.segs, ∃ r, g.card = some r ∧ FinalBytes r a) ∧
    ∀ (n : Nat) f, s.tc.fabrics[n]? = some f → t.tc.fabrics[n]? = some { f with
      refs := f.refs - (s.tmap.segs.filter (fun g => g.fabricId == some (n + 1))).length }

/-- CLEAR in HALTED with SETUP-valid and no break or ESTOP input active or unknown returns the drive to IDLE, the halt cause to absent
and the axes to ACTIVE, and tries the pending splices; with flush every queued card is written FAILED ABORTED, head first and before the CLEAR
card, and releases its profile and fabric references, whereby a RETIRING profile whose last reference it was is freed; otherwise it is
refused with the active inputs and changes nothing. The place of the flush byte's check, the inputs of unknown level in the mark set, and
that the pending splices are tried before the writes are the model's choices (log entries 24, 25, 54). -/
def Obligations.ClearEndsAHalt : Prop :=
  ∀ (c : CurrentCard) (s : State), Dispatching .drive c s → EngineLaw s → leRead c.image 16 1 = 5 →
    (s.wd.state ≠ .halted ∨ s.setup = none ∨ (inputOf s .paperBreak).countsActive = true ∨
        (inputOf s .fabricBreak).countsActive = true ∨ (inputOf s .estop).countsActive = true →
      ∃ t, exec .clear s = .next t ∧ FailsCard c .wrongState [(128, [5]), (129, [s.wd.state.code]),
        (130, le 2 s.wd.requested), (132, le 2 s.wd.running), (135, le 1 (activeInputs s))] s t) ∧
    (s.wd.state = .halted → s.setup ≠ none → (inputOf s .paperBreak).countsActive = false →
      (inputOf s .fabricBreak).countsActive = false → (inputOf s .estop).countsActive = false →
      (1 < leRead c.image 17 1 → ∃ t, exec .clear s = .next t ∧ FailsCard c .badField [(128, le 2 17)] s t) ∧
      (leRead c.image 17 1 ≤ 1 → ∃ t, exec .clear s = .next t ∧
        t.wd = { s.wd with state := .idle, requested := 0, target := 0, running := 0 } ∧ t.su.haltCause = none ∧
        lineStop t = false ∧ t.tc.axes = s.tc.axes.map (fun a => { a with state := .active, integ := 0 }) ∧
        t.pe.queue = (if leRead c.image 17 1 = 1 then [] else s.pe.queue) ∧ CardFinal c.ref .done .ok t ∧
        HostHolds t (c.ref.addr + 128) (area 128 [(0, [5]), (1, [0]), (2, [0, 0]), (4, [0, 0]),
          (6, le 1 (if leRead c.image 17 1 = 1 then s.pe.queue.length else 0))]) ∧
        t.ce.current = none ∧ (∀ q ∈ s.pe.queue, leRead c.image 17 1 = 1 → ∀ x ∈ t.ce.outstanding, x.take ≠ q.card.take) ∧
        SameBase s t ∧ t.tmap = s.tmap ∧ t.web = s.web ∧ t.hc = s.hc ∧ t.nc = s.nc ∧ t.ps.mem = s.ps.mem ∧
        t.ps.loader = s.ps.loader ∧ t.su.faults = s.su.faults ∧ t.rc.joints = s.rc.joints ∧
        (∀ a : Unwind,
          (∀ k, (spliceOf s a).pending = some k → (spliceOf s a).state = .idle → jointRoom s a = true → s.tc.axes.length = 4 →
            spliceOf t a = { spliceOf s a with
              state := .wait, cause := some k, card := none, pending := none, request := true, phaseStart := s.clock,
              limit := ((s.setup.map (·.spliceTimeout)).getD 0) * 1000, waited := 0,
              handover := ((s.setup.map (·.handoverLimit)).getD 0) * 1000 } ∧ hasEvent t .spliceActive = true) ∧
          ((spliceOf s a).pending = none ∨ (spliceOf s a).state ≠ .idle ∨ jointRoom s a = false → spliceOf t a = spliceOf s a)) ∧
        (leRead c.image 17 1 = 0 → s.rc.pu.pending = none → s.rc.fu.pending = none →
          t.rc = s.rc ∧ t.tc.fabrics = s.tc.fabrics ∧ SameStore s t ∧ SamePrintButHold s t ∧
          t.su.events = s.su.events ||| Event.cardFinal.mask ∧ OnlyWrites s t (FinalBytes c.ref)) ∧
        (leRead c.image 17 1 = 1 →
          writesOf t.ports = finalWrites c.ref .done .ok [(128, [5]), (129, [0]), (130, [0, 0]), (132, [0, 0]),
              (134, le 1 s.pe.queue.length)] ++
            s.pe.queue.reverse.flatMap (fun q => finalWrites q.card .failed .aborted []) ++ writesOf s.ports ∧
          t.pe = { s.pe with queue := [], hold := none } ∧
          t.ce = engineAfter s (s.ce.outstanding.filter fun x =>
            x.take != c.ref.take && s.pe.queue.all fun q => x.take != q.card.take) ∧
          (Apart (c.ref :: s.pe.queue.map (·.card)) → ∀ q ∈ s.pe.queue, CardFinal q.card .failed .aborted t ∧
            HostHolds t (q.card.addr + 128) (area 128 [])) ∧
          (∀ (n : Nat) f, s.tc.fabrics[n]? = some f → t.tc.fabrics[n]? = some { f with
            refs := f.refs - (s.pe.queue.filter (fun q => q.fabricId == n + 1)).length }) ∧
          ((∀ q ∈ s.pe.queue, (profileOf s q.profileId).state ≠ .retiring) →
            t.ps = { s.ps with records := t.ps.records } ∧ t.spb = s.spb) ∧
          ((∀ q ∈ s.pe.queue, 1 ≤ q.profileId) → ∀ (n k : Nat) p, s.ps.records[n]? = some p →
            k = (s.pe.queue.filter (fun q => q.profileId == n + 1)).length →
            (p.state ≠ .retiring ∨ k = 0 ∨ k < p.refs → t.ps.records[n]? = some { p with refs := p.refs - k }) ∧
            ∀ h, p.state = .retiring → p.refs = k → 0 < k → p.header = some h → NoLoadFor (n + 1) s →
              FreedAtRelease (n + 1) p t) ∧
          OnlyWrites s t (fun a => FinalBytes c.ref a ∨ ∃ q ∈ s.pe.queue, FinalBytes q.card a))))

/-- The ramp period, state by state: the target, the step by the ramp rate, the changes of state, the events, the frame sent last, and
the idle cap where the speed reaches 0. That SPEED_HELD changes at ramp periods alone is the model's choice (log entry 18). -/
def Obligations.RampPeriodMovesTheSpeed : Prop :=
  ∀ s : State, s.power.mainOn = true → ∃ t, exec .rampPeriod s = .next t ∧
    t.ports.head? = some (.driveFrame t.wd.running (s.tc.axes.map (·.torque))) ∧
    (s.wd.state = .idle ∨ s.wd.state = .halted → t.wd = { s.wd with target := 0, held := false }) ∧
    (s.wd.state = .starting → t.wd.target = s.wd.requested ∧ t.wd.requested = s.wd.requested ∧ t.wd.held = false ∧
      t.wd.state = if t.wd.running = s.wd.requested then .running else .starting) ∧
    (s.wd.state = .running ∨ (s.wd.state = .draining ∧ s.tmap.segs ≠ []) → t.wd.state = s.wd.state ∧
      t.wd.requested = s.wd.requested ∧ t.wd.target = min (lineWindow s).2 (max (lineWindow s).1 s.wd.requested) ∧
      t.wd.held = decide (t.wd.target ≠ s.wd.requested)) ∧
    (s.wd.state = .draining ∧ s.tmap.segs = [] → t.wd.requested = 0 ∧ t.wd.target = 0 ∧ t.wd.held = false ∧
      t.wd.state = if t.wd.running = 0 then .idle else .rampdown) ∧
    (s.wd.state = .rampdown → t.wd.requested = s.wd.requested ∧ t.wd.target = 0 ∧ t.wd.held = false ∧
      t.wd.state = if t.wd.running = 0 then .idle else .rampdown) ∧
    (s.wd.state ≠ .idle → s.wd.state ≠ .halted → t.wd.running =
      if s.wd.running ≤ t.wd.target then min (s.wd.running + ((s.setup.map (·.rampRate)).getD 0) / 10) t.wd.target
      else max (s.wd.running - ((s.setup.map (·.rampRate)).getD 0) / 10) t.wd.target) ∧
    t.wd.measured = s.wd.measured ∧
    t.su = raised ((if s.wd.state = .starting ∧ t.wd.state = .running then [Event.lineRunning] else []) ++
      (if s.wd.held = false ∧ t.wd.held = true then [Event.speedHeld] else [])) s.su ∧
    (t.wd.running ≠ 0 ∨ s.wd.running = 0 → t.hc = s.hc) ∧
    (s.wd.running ≠ 0 → t.wd.running = 0 → ∀ z ∈ t.hc.zones, z.duty ≤ idleCapOf s ∧ z.onTime ≤ idleCapOf s) ∧
    OnlyWrites s t (fun _ => False) ∧ t.ce = s.ce ∧ SameBase s t ∧ SameStore s t ∧ SamePrintButHold s t ∧ t.web = s.web ∧
    t.tc = s.tc ∧ t.rc = s.rc

/-- The figures of a plan over all values (R67, R68, R73, R74, R84 to R88 in part). The line window is exactly the speeds in 10 to v_max
and in every entry's window; a plan's window runs from the least to the greatest speed of R87 and holds the speed it was planned at; a
gain is the rounded quotient, clamped to its limits, and G_max at a plan dose of 0; the step is the floor of R67, and the line count the
greatest whose last line reads a source line of the raster; grid positions, nodes and weights are those of R73, the eight corner weights
sum to 4096, and a column lies in the zone whose share of the width holds it (R74). -/
def Obligations.FiguresOfThePlan : Prop :=
  (∀ (s : State) (g : Settings) (v : Nat), s.setup = some g →
    ((lineWindow s).1 ≤ v ∧ v ≤ (lineWindow s).2 ↔ 10 ≤ v ∧ v ≤ g.vMax ∧ ∀ e ∈ s.tmap.segs, e.lo ≤ v ∧ v ≤ e.hi)) ∧
  (∀ v tol vMax : Nat, 10 ≤ v → v ≤ vMax → tol < 100 → windowLo v tol ≤ v ∧ v ≤ windowHi v tol vMax ∧
    (∀ x, windowLo v tol ≤ x ↔ 10 ≤ x ∧ v * 100 ≤ x * (100 + tol)) ∧
    ∀ x, x ≤ windowHi v tol vMax ↔ x ≤ vMax ∧ x * (100 - tol) ≤ v * 100) ∧
  (∀ (s : State) (g : Settings) (v : Nat), s.setup = some g → (lineWindow s).1 ≤ v → v ≤ (lineWindow s).2 →
    ∀ r, (lineWindow s).1 ≤ clampSpeed r (lineWindow s) ∧ clampSpeed r (lineWindow s) ≤ (lineWindow s).2) ∧
  (∀ sp tOnset lW v : Nat, planDose sp tOnset lW v = (max 0 ((sp : Int) - tOnset)).toNat * lW * 10 / v) ∧
  (∀ sp tOnset lW v : Nat, 500 ≤ lW → 10 ≤ v → v ≤ 500 → (planDose sp tOnset lW v = 0 ↔ sp ≤ tOnset)) ∧
  (∀ (h : ProfileHeader) (d raw : Nat), h.gMin ≤ h.gMax → h.gMin ≤ gainOf h d ∧ gainOf h d ≤ h.gMax ∧
    (d = 0 → gainOf h d = h.gMax) ∧
    (0 < d → raw = (h.dRef * 4096 + d / 2) / d → (raw ≤ h.gMin → gainOf h d = h.gMin) ∧ (h.gMax ≤ raw → gainOf h d = h.gMax) ∧
      (h.gMin ≤ raw → raw ≤ h.gMax → gainOf h d = raw)) ∧
    (h.gMin < gainOf h d → gainOf h d < h.gMax →
      (2 * gainOf h d - 1) * d ≤ 2 * (h.dRef * 4096) ∧ 2 * (h.dRef * 4096) < (2 * gainOf h d + 1) * d)) ∧
  (∀ eps source : Nat, stepOf eps * (1000000 + eps) ≤ 2 ^ 20 * 1000000 ∧ 2 ^ 20 * 1000000 < (stepOf eps + 1) * (1000000 + eps) ∧
    (0 < stepOf eps → ∀ n, n < linesOut source (stepOf eps) ↔ n * stepOf eps < source * 2 ^ 20)) ∧
  (∀ eps source : Nat, eps ≤ 50000 → 998643 ≤ stepOf eps ∧ stepOf eps ≤ 2 ^ 20 ∧ (eps = 0 → stepOf eps = 2 ^ 20) ∧
    source ≤ linesOut source (stepOf eps) ∧ (source ≤ 65535 → linesOut source (stepOf eps) ≤ 68812) ∧
    (∀ n, n < linesOut source (stepOf eps) → sourceLine (n * stepOf eps) < source) ∧
    ∀ n, sourceLine ((n + 1) * stepOf eps) ≤ sourceLine (n * stepOf eps) + 1) ∧
  (∀ n v : Nat, n = 9 ∨ n = 17 ∨ n = 33 → v ≤ 255 → gridPosition n v = (v * (n - 1) * 16 + 127) / 255 ∧
    gridPosition n v ≤ (n - 1) * 16 ∧ gridNode n v ≤ n - 2 ∧ (gridNode n v < n - 2 → gridWeight n v < 16) ∧
    gridWeight n v ≤ 16 ∧ gridPosition n v = 16 * gridNode n v + gridWeight n v) ∧
  (∀ (n : Nat) (v : Nat → Nat), n = 9 ∨ n = 17 ∨ n = 33 → (∀ a, v a ≤ 255) →
    ((List.range 8).map fun k => cornerWeight n k v).sum = 4096 ∧ ∀ k, k < 8 → cornerNode n k v < n ^ 3) ∧
  (∀ c zones width : Nat, 0 < width → columnZone c zones width * width ≤ c * zones ∧
    c * zones < (columnZone c zones width + 1) * width ∧ (c < width → 0 < zones → columnZone c zones width < zones)) ∧
  ∀ sum gain : Nat, sum ≤ 255 * 4096 → laydown sum gain ≤ 255 ∧ (gain = 4096 → laydown sum gain = (sum + 2048) / 4096)

/-- The reports of travel: a drum speed report replaces the last; forward drum travel advances the fabric and lifetime counters and may
make the fabric counter's request due; reverse drum travel is dropped; reverse paper travel adds to the back-travel amount, up to
2²⁴ − 1 µm; forward paper travel pays that amount off first, and the rest advances the web position up to 2⁴⁸ − 1 µm and the paper
counter, and marks what the position has reached: lines, paper joints and fabric joints (log entry 15). A counter at its top keeps its
residue by the model's choice (log entry 36). -/
def Obligations.TravelReports : Prop :=
  ∀ s : State, s.power.mainOn = true →
    (∀ v, exec (.drumEncoderReport v) s = .next { s with wd := { s.wd with measured := v } }) ∧
    (∀ n : Int, n ≤ 0 → exec (.drumTravelIncrement n) s = .next s) ∧
    (∀ n : Nat, 0 < n → ∃ t, exec (.drumTravelIncrement n) s = .next t ∧
      t.ka.fu = ⟨min 4294967295 (s.ka.fu.metres + (s.ka.fu.residue + n) / 1000000), (s.ka.fu.residue + n) % 1000000⟩ ∧
      t.ka.lifetime =
        ⟨min 4294967295 (s.ka.lifetime.metres + (s.ka.lifetime.residue + n) / 1000000), (s.ka.lifetime.residue + n) % 1000000⟩ ∧
      t.ka.pu = s.ka.pu ∧ t.ka.puValid = s.ka.puValid ∧ t.ka.fuValid = s.ka.fuValid ∧ t.ka.restarted = s.ka.restarted ∧
      t.ka.lost = s.ka.lost ∧
      t = { s with ka := t.ka, rc := { s.rc with fu := { s.rc.fu with countDue := s.rc.fu.countDue ||
        (s.ka.fuValid && decide (0 < rollLength s .fu) && decide (rollLength s .fu ≤ t.ka.fu.metres) && !s.rc.fu.fired) } } }) ∧
    (∀ n, exec (.backTravel n) s = .next { s with web := ⟨s.web.pos, min (2 ^ 24 - 1) (s.web.back + n)⟩ }) ∧
    ∀ n, ∃ t, exec (.positionUpdate n) s = .next t ∧
      t.web = ⟨min (2 ^ 48 - 1) (s.web.pos + (n - min s.web.back n)), s.web.back - min s.web.back n⟩ ∧
      t.ka = { s.ka with pu := if t.web.pos ≤ s.web.pos then s.ka.pu else
        ⟨min 4294967295 (s.ka.pu.metres + (s.ka.pu.residue + (t.web.pos - s.web.pos)) / 1000000),
          (s.ka.pu.residue + (t.web.pos - s.web.pos)) % 1000000⟩ } ∧
      t.rc = ⟨{ s.rc.pu with countDue := s.rc.pu.countDue || (decide (s.web.pos < t.web.pos) && s.ka.puValid &&
          decide (0 < rollLength s .pu) && decide (rollLength s .pu ≤ t.ka.pu.metres) && !s.rc.pu.fired) },
        s.rc.fu, s.rc.joints.map (fun j => { j with reached := j.reached || decide (j.due ≤ t.web.pos) })⟩ ∧
      t.tmap.segs = s.tmap.segs ∧ (s.setup = none → t.tmap.joints = s.tmap.joints) ∧
      (∀ g, s.setup = some g → t.tmap.joints = s.tmap.joints.map (fun j =>
        { j with due := j.due || decide (j.at_ + (g.lPn + g.lW) * 1000 ≤ t.web.pos) })) ∧
      t.pe = { s.pe with
        hold := t.pe.hold, firstTest := t.pe.firstTest,
        job := s.pe.job.map (fun j => { j with
          reached := max j.reached (if j.start ≤ t.web.pos then min j.nOut ((t.web.pos - j.start) / pitchOf s + 1) else 0) }) } ∧
      t.pending = s.pending ∧ t.clock = s.clock ∧ t.power = s.power ∧ t.regs = s.regs ∧ t.setup = s.setup ∧
      t.lastVMax = s.lastVMax ∧ SameBook s t ∧ SameStore s t ∧ t.hc = s.hc ∧ t.wd = s.wd ∧ t.tc = s.tc

/-! ## Tension, fabrics and splices -/

/-- The tension period with no second invalid reading in a row: every axis takes its reading, the ACTIVE ones with a valid reading compute,
the others keep torque and integral, every strip in the wrap of a fabric is checked against its T_plan, and the frame goes out. -/
def Obligations.TensionPeriodRuns : Prop :=
  ∀ s : State, s.power.mainOn = true → s.tc.axes.length = 4 →
    (∀ a k, classifyAxis s.tc.frame a = .invalid k → (axisOf s a).invalid ≠ 1) →
    ∃ t, exec .tensionPeriod s = .next t ∧ t.tc.frame = none ∧ t.tc.fabrics = s.tc.fabrics ∧
      (∀ a, (∀ n, classifyAxis s.tc.frame a = .valid n → axisOf t a =
          computeAxis (.valid n) { axisOf s a with tMeas := n, invalid := 0 }) ∧
        (∀ k, classifyAxis s.tc.frame a = .invalid k → axisOf t a =
          { axisOf s a with invalid := min 2 ((axisOf s a).invalid + 1), lastInvalid := some k })) ∧
      t.ports = .driveFrame s.wd.running (t.tc.axes.map (·.torque)) :: s.ports ∧
      t.tmap.joints = s.tmap.joints ∧ t.tmap.segs.length = s.tmap.segs.length ∧
      (∀ (n : Nat) g, s.tmap.segs[n]? = some g →
        (g.leadNip = false ∨ g.fabricId = none ∨ (∀ v, classifyAxis s.tc.frame .fu ≠ .valid v) → t.tmap.segs[n]? = some g) ∧
        ∀ id p f v, g.leadNip = true → g.fabricId = some id → g.tPlan = some p → (fabricOf s id).figures = some f →
          classifyAxis s.tc.frame .fu = .valid v → ∃ g', t.tmap.segs[n]? = some g' ∧
            g'.tensionMax = max g.tensionMax (((v : Int) - p).natAbs) ∧
            g'.runCount = (if f.devLimit < ((v : Int) - p).natAbs then g.runCount + 1 else 0) ∧
            (g'.flags.tensionDev = true ↔ g.flags.tensionDev = true ∨ 3 < g'.runCount) ∧
            g' = { g with
              tensionMax := g'.tensionMax, runCount := g'.runCount,
              flags := { g.flags with tensionDev := g'.flags.tensionDev } }) ∧
      t.su = s.su ∧ t.ce = s.ce ∧ SameBase s t ∧ SameStore s t ∧ t.pe = s.pe ∧ t.web = s.web ∧ t.hc = s.hc ∧ t.wd = s.wd ∧
      t.rc = s.rc

/-- A stand's second invalid reading in a row halts a line that is not HALTED with the cause TENSION_LOSS, and in HALTED queues
TENSION_SENSOR and LATER_HALT, before any torque is computed by the model's choice (log entry 38); the classes of a reading, of which
INVALID goes before RANGE by the model's choice (log entry 52). -/
def Obligations.LostTensionSensor : Prop :=
  (∀ (s : State) (a : Axis) (k : BadKind), s.power.mainOn = true → s.tc.axes.length = 4 →
    classifyAxis s.tc.frame a = .invalid k → (axisOf s a).invalid = 1 → ∃ t, exec .tensionPeriod s = .next t ∧
      t.wd.state = .halted ∧ (axisOf t a).invalid = 2 ∧ (axisOf t a).lastInvalid = some k ∧
      (s.wd.state ≠ .halted → t.wd.running = 0 ∧ t.tmap.segs = [] ∧ t.su.haltCause = s.su.haltCause.or (some .tensionLoss) ∧
        ∀ x ∈ t.tc.axes, x.state = .off ∧ x.torque = 0) ∧
      (s.wd.state = .halted → (∀ b k', b ≠ a → classifyAxis s.tc.frame b = .invalid k' → (axisOf s b).invalid ≠ 1) →
        t.su.faults = (offerFault (.laterHalt .tensionLoss) (offerFault (.tensionSensor a k) s)).su.faults ∧
        t.su.haltCause = s.su.haltCause)) ∧
  ∀ (a : Axis) (l : List TensionReading) (r : TensionReading), l[a.place]? = some r →
    classifyAxis none a = .invalid .missing ∧ (r.valid = false → classifyAxis (some l) a = .invalid .invalid) ∧
    (r.valid = true → r.tension < 0 ∨ 4000 < r.tension → classifyAxis (some l) a = .invalid .range) ∧
    (r.valid = true → ∀ n : Nat, r.tension = n → n ≤ 4000 → classifyAxis (some l) a = .valid n)

/-- R141's law over every command: an unwind that is HANDED_OVER before and after it has kept its torque and its integral. -/
def Obligations.HandedOverTorqueIsHeld : Prop :=
  ∀ (i : Instr) (s t : State) (a : Axis), exec i s = .next t → (axisOf s a).state = .handedOver →
    (axisOf t a).state = .handedOver → (axisOf t a).torque = (axisOf s a).torque ∧ (axisOf t a).integ = (axisOf s a).integ

/-- A FABRIC card: the order of its checks, what it changes, and its results (R137, R138, R178). The order of its figures' checks, the field
of a T_max below T_min, and the offset of an operation that is neither DEFINE nor DELETE are the model's choices (log entries 23, 24). -/
def Obligations.FabricCard : Prop :=
  ∀ (c : CurrentCard) (s : State) (id op : Nat) (f : FabricFigures), Dispatching .fabric c s → id = leRead c.image 16 1 →
    op = leRead c.image 17 1 → f = ⟨leRead c.image 18 2, leRead c.image 20 2, leRead c.image 22 2, leRead c.image 24 2,
      leRead c.image 26 1, leRead c.image 27 1⟩ →
    ∃ t, exec .fabric s = .next t ∧
      (id = 0 ∨ 8 < id → FailsCard c .badField [(128, le 2 16)] s t) ∧
      ∀ r, 1 ≤ id → id ≤ 8 → s.tc.fabrics[id - 1]? = some r →
        (op = 0 ∨ 2 < op → r.refs = 0 → FailsCard c .badField [(128, le 2 17)] s t) ∧
        (1 ≤ op → op ≤ 2 → 0 < r.refs → FailsCard c .inUse [] s t) ∧
        (op = 2 ∨ (op = 1 ∧ f.cs ≤ 200 ∧ 20 ≤ f.tMin ∧ f.tMin ≤ f.tMax ∧ f.tMax ≤ 1000 ∧ 1 ≤ f.devLimit ∧ f.devLimit ≤ 500) →
          r.refs = 0 →
          t.tc.fabrics[id - 1]? = some { r with figures := if op = 1 then some f else none } ∧
          (∀ n, n ≠ id - 1 → t.tc.fabrics[n]? = s.tc.fabrics[n]?) ∧ t.tc.axes = s.tc.axes ∧ t.tc.frame = s.tc.frame ∧
          DispatchFinal c .done .ok [(128, [if r.figures.isSome then 1 else 0]), (129, [if op = 1 then 1 else 0])] s t ∧
          t.su = raised [.cardFinal] s.su ∧ SameBase s t ∧ SameStore s t ∧ SamePrint s t ∧ t.web = s.web ∧ t.hc = s.hc ∧
          t.wd = s.wd ∧ t.rc = s.rc) ∧
        (op = 1 → r.refs = 0 → ¬(f.cs ≤ 200 ∧ 20 ≤ f.tMin ∧ f.tMin ≤ f.tMax ∧ f.tMax ≤ 1000 ∧ 1 ≤ f.devLimit ∧
          f.devLimit ≤ 500) → FailsCard c .badField [(128, le 2 (if 200 < f.cs then 18
            else if f.tMin < 20 ∨ 1000 < f.tMin ∨ (20 ≤ f.tMax ∧ f.tMax ≤ 1000 ∧ f.tMax < f.tMin) then 20
            else if f.tMax < 20 ∨ 1000 < f.tMax then 22 else 24))] s t)

/-- A SPLICE card: the order of its checks, and the splice it begins as a held card. -/
def Obligations.SpliceCard : Prop :=
  ∀ (c : CurrentCard) (s : State), Dispatching .splice c s →
    ((leRead c.image 16 1 = 0 ∨ 2 < leRead c.image 16 1) →
      ∃ t, exec .splice s = .next t ∧ FailsCard c .badField [(128, le 2 16)] s t) ∧
    ∀ a : Unwind, leRead c.image 16 1 = (match a with | .pu => 1 | .fu => 2) →
      ((axisOf s (unwindAxis a)).state ≠ .active ∨ (spliceOf s a).state ≠ .idle →
        ∃ t, exec .splice s = .next t ∧ FailsCard c .wrongState [] s t) ∧
      ((axisOf s (unwindAxis a)).state = .active → (spliceOf s a).state = .idle →
        2 ≤ (match a with | .pu => s.tmap.joints.length | .fu => s.rc.joints.length) →
        ∃ t, exec .splice s = .next t ∧ FailsCard c .busy [] s t) ∧
      ((axisOf s (unwindAxis a)).state = .active → (spliceOf s a).state = .idle →
        (match a with | .pu => s.tmap.joints.length | .fu => s.rc.joints.length) < 2 →
        ∃ t, exec .splice s = .next t ∧
          spliceOf t a = { spliceOf s a with
            state := .wait, cause := some .card, card := some c.ref, pending := none,
            request := true, phaseStart := s.clock, limit := ((s.setup.map (·.spliceTimeout)).getD 0) * 1000, waited := 0,
            handover := ((s.setup.map (·.handoverLimit)).getD 0) * 1000 } ∧
          (∀ b, b ≠ a → spliceOf t b = spliceOf s b) ∧ t.rc.joints = s.rc.joints ∧ t.ce = engineAfter s s.ce.outstanding ∧
          t.su = raised [.spliceActive] s.su ∧ OnlyWrites s t (fun _ => False) ∧ SameBase s t ∧ SameStore s t ∧
          SamePrint s t ∧ t.web = s.web ∧ t.hc = s.hc ∧ t.wd = s.wd ∧ t.tc = s.tc)

/-- The automatic splice requests, by the roll counter and by a roll end input: each begins a splice on an ACTIVE axis with joint room, is
absorbed by a splice in progress, or is kept pending; the counter's request sets the fired mark; and a counter that does not ask, like
a roll end that goes inactive, does nothing. That the request which a test has found is made at a step of its own, where the test is made
again, is the model's choice (log entries 1, 63). -/
def Obligations.AutomaticSpliceRequests : Prop :=
  (∀ (a : Unwind) (s : State), s.power.mainOn = true →
     ((spliceOf s a).countDue = false ∨ countAsks s a = false → exec (.rollCountRequest a) s = .next s) ∧
     ((spliceOf s a).countDue = true → rollValid s a = true → 0 < rollLength s a → rollLength s a ≤ (rollCounter s a).metres →
       (spliceOf s a).fired = false → ∃ t, exec (.rollCountRequest a) s = .next t ∧ (spliceOf t a).fired = true ∧
       (spliceOf t a).countDue = false ∧ (∀ b, b ≠ a → spliceOf t b = spliceOf s b) ∧ t.rc.joints = s.rc.joints ∧
       ((spliceOf s a).state ≠ .idle → spliceOf t a = { spliceOf s a with fired := true, countDue := false } ∧ t.su = s.su) ∧
       ((spliceOf s a).state = .idle → (axisOf s (unwindAxis a)).state = .active → jointRoom s a = true →
         (spliceOf t a).state = .wait ∧ (spliceOf t a).cause = some .count ∧ (spliceOf t a).card = none ∧
         (spliceOf t a).pending = none ∧ (spliceOf t a).request = true ∧ (spliceOf t a).phaseStart = s.clock ∧
         (spliceOf t a).limit = ((s.setup.map (·.spliceTimeout)).getD 0) * 1000 ∧
         (spliceOf t a).handover = ((s.setup.map (·.handoverLimit)).getD 0) * 1000 ∧ t.su = raised [.spliceActive] s.su) ∧
       ((spliceOf s a).state = .idle → (axisOf s (unwindAxis a)).state ≠ .active ∨ jointRoom s a = false →
         spliceOf t a = { spliceOf s a with fired := true, countDue := false, pending := some .count } ∧ t.su = s.su) ∧
       t.ce = s.ce ∧ OnlyWrites s t (fun _ => False) ∧ SameBase s t ∧ SameStore s t ∧ SamePrint s t ∧ t.web = s.web ∧
       t.hc = s.hc ∧ t.wd = s.wd ∧ t.tc = s.tc)) ∧
  (∀ (a : Unwind) (i : LineInput) (lvl : Bool) (s : State), s.power.mainOn = true → s.su.inputs.length = 8 →
     i = (match a with | .pu => .paperRollEnd | .fu => .fabricRollEnd) → (inputOf s i).filtering = true →
     (inputOf s i).level = some lvl → (inputOf s i).raw = !lvl → ∃ t, exec (.inputFilterExpiry i) s = .next t ∧
       ((inputOf s i).activeHigh = lvl ∨ (spliceOf s a).state ≠ .idle →
         t = { s with su := { s.su with inputs := t.su.inputs } }) ∧
       ((inputOf s i).activeHigh = !lvl → (spliceOf s a).state = .idle → (axisOf s (unwindAxis a)).state = .active →
         jointRoom s a = true → spliceOf t a = { spliceOf s a with
           state := .wait, cause := some .rollEnd, card := none, pending := none, request := true, phaseStart := s.clock,
           limit := ((s.setup.map (·.spliceTimeout)).getD 0) * 1000, waited := 0,
           handover := ((s.setup.map (·.handoverLimit)).getD 0) * 1000 } ∧ hasEvent t .spliceActive = true) ∧
       ((inputOf s i).activeHigh = !lvl → (spliceOf s a).state = .idle →
         (axisOf s (unwindAxis a)).state ≠ .active ∨ jointRoom s a = false →
         spliceOf t a = { spliceOf s a with pending := some .rollEnd } ∧ t.su.events = s.su.events) ∧
       (∀ b, b ≠ a → spliceOf t b = spliceOf s b) ∧ t.rc.joints = s.rc.joints ∧ SameBase s t ∧ t.ce = s.ce ∧ SameStore s t ∧
       SamePrint s t ∧ t.web = s.web ∧ t.hc = s.hc ∧ t.wd = s.wd ∧ t.tc = s.tc)

/-- The two limits of a splice: with no acknowledge in time the request is withdrawn, SPLICE_TIMEOUT queued and the card FAILED TIMEOUT
with the splice time in its results (the limit, by the model's choice, log entry 28), also while the chain is stalled, where the final
write can make a FENCE due; a handover past its limit queues HANDOVER_LIMIT and halts the line with the cause HANDOVER, which writes the
splice's card FAILED HALTED with the state found; and outside those phases neither does anything. That the axis stands in the results of the
first and not of the second is the model's choice (log entry 56). -/
def Obligations.SpliceLimits : Prop :=
  ∀ (a : Unwind) (s : State), s.power.mainOn = true →
    ((spliceOf s a).state ≠ .wait → exec (.spliceTimeout a) s = .next s) ∧
    ((spliceOf s a).state ≠ .handedOver → exec (.handoverLimit a) s = .next s) ∧
    (∀ k, (spliceOf s a).state = .wait → (spliceOf s a).cause = some k →
      ∃ t, exec (.spliceTimeout a) s = .next t ∧
      spliceOf t a = { spliceOf s a with state := .idle, cause := none, card := none, request := false } ∧
      (∀ b, b ≠ a → spliceOf t b = spliceOf s b) ∧ t.rc.joints = s.rc.joints ∧
      t.su.faults = (offerFault (.spliceTimeout a k) s).su.faults ∧
      (∀ c, (spliceOf s a).card = some c →
        WrittenFinal c .failed .timeout [(128, [match a with | .pu => 1 | .fu => 2]), (148, le 4 (spliceOf s a).limit)] s t ∧
        t.ce = engineFinal c s.ce) ∧
      ((spliceOf s a).card = none → OnlyWrites s t (fun _ => False) ∧ t.ce = s.ce) ∧
      SameBase s t ∧ SameStore s t ∧ SamePrint s t ∧ t.web = s.web ∧ t.hc = s.hc ∧ t.wd = s.wd ∧ t.tc = s.tc) ∧
    ((spliceOf s a).state = .handedOver → s.wd.state ≠ .halted → ∃ t, exec (.handoverLimit a) s = .next t ∧
      t.wd = ⟨.halted, 0, 0, 0, s.wd.measured, false⟩ ∧ t.su.haltCause = s.su.haltCause.or (some .handover) ∧
      t.su.faults = (offerFault (.handoverLimit a) s).su.faults ∧ (spliceOf t a).state = .idle ∧
      (spliceOf t a).request = false ∧ rollCounter t a = rollCounter s a ∧ t.tmap.joints = s.tmap.joints ∧
      t.rc.joints = s.rc.joints ∧ (∀ x ∈ t.tc.axes, x.state = .off ∧ x.torque = 0) ∧
      ∀ r, (spliceOf s a).card = some r → (∀ (b : Unwind) k, b ≠ a → (spliceOf s b).card = some k → Apart [r, k]) →
        CardFinal r .failed .halted t ∧ HostHolds t (r.addr + 128) (area 128 [(1, [SpliceState.handedOver.code])]))

/-! ## Line inputs -/

/-- The input filter and the edges that halt. A change of the raw level starts a new 2 ms, and the level that has held becomes the filtered
level, the first one without an edge. A break or ESTOP input that goes active halts the line, and so does GUARD in a drive that is not
IDLE with halt-on-guard set; in HALTED the cause is queued as LATER_HALT; and going inactive does nothing. -/
def Obligations.InputFilterAndHaltEdges : Prop :=
  (∀ (i : LineInput) (s : State), s.power.mainOn = true → s.su.inputs.length = 8 →
     (∀ high, (inputOf s i).raw = high → exec (.rawLevelChange i high) s = .next s) ∧
     (∀ high, (inputOf s i).raw ≠ high → ∃ t, exec (.rawLevelChange i high) s = .next t ∧
       t = { s with su := { s.su with inputs := t.su.inputs } } ∧
       inputOf t i = { inputOf s i with raw := high, filtering := true } ∧ ∀ j, j ≠ i → inputOf t j = inputOf s j) ∧
     ((inputOf s i).filtering = false → exec (.inputFilterExpiry i) s = .next s) ∧
     ((inputOf s i).filtering = true → ∃ t, exec (.inputFilterExpiry i) s = .next t ∧
       inputOf t i = { inputOf s i with filtering := false, level := some (inputOf s i).raw } ∧
       (∀ j, j ≠ i → inputOf t j = inputOf s j) ∧
       ((inputOf s i).level = none ∨ (inputOf s i).level = some (inputOf s i).raw →
         t = { s with su := { s.su with inputs := t.su.inputs } }))) ∧
  (∀ (i : LineInput) (cause : HaltCause) (lvl : Bool) (s : State), s.power.mainOn = true → s.su.inputs.length = 8 →
     (i, cause) ∈ [(LineInput.paperBreak, HaltCause.paperBreak), (.fabricBreak, .fabricBreak), (.estop, .estop),
       (.guard, .guard)] →
     (inputOf s i).filtering = true → (inputOf s i).level = some lvl → (inputOf s i).raw = !lvl →
     ∃ t, exec (.inputFilterExpiry i) s = .next t ∧
       ((inputOf s i).activeHigh = lvl → t = { s with su := { s.su with inputs := t.su.inputs } }) ∧
       ((inputOf s i).activeHigh = !lvl → (i = .guard → s.wd.state ≠ .idle ∧ haltOnGuard s = true) →
         t.wd.state = .halted ∧
         (s.wd.state ≠ .halted → t.wd = ⟨.halted, 0, 0, 0, s.wd.measured, false⟩ ∧ t.tmap.segs = [] ∧
           t.tmap.joints = s.tmap.joints ∧ t.su.haltCause = s.su.haltCause.or (some cause) ∧
           hasEvent t .lineHalted = true ∧ t.pe.queue = s.pe.queue ∧ ∀ x ∈ t.tc.axes, x.state = .off ∧ x.torque = 0) ∧
         (s.wd.state = .halted → t = { s with su := t.su, ports := t.ports } ∧
           t.su.faults = (offerFault (.laterHalt cause) s).su.faults ∧ t.su.haltCause = s.su.haltCause)) ∧
       (i = .guard → (inputOf s i).activeHigh = !lvl → s.wd.state = .idle ∨ haltOnGuard s = false →
         t = { s with su := { s.su with inputs := t.su.inputs } }))

/-- The edges of a splice acknowledge: going active in SPLICE_WAIT it withdraws the request and hands the axis over with its torque and
integral held, under the handover limit that stood when the splice began; elsewhere it is SPLICE_ACK_UNEXPECTED; going inactive in
HANDED_OVER it completes the splice, making the joint and starting the roll counter afresh; elsewhere it does nothing. A paper joint whose
coordinate a joint holds takes the least greater one that no entry holds, and the card's results carry the coordinate or due position.
The splice and handover times in the results, and the list of fabric joints in the order of their due positions, are the model's choices
(log entries 28, 50). -/
def Obligations.SpliceAcknowledgeEdges : Prop :=
  ∀ (a : Unwind) (i : LineInput) (lvl : Bool) (s : State), s.power.mainOn = true → s.su.inputs.length = 8 →
    s.tc.axes.length = 4 → i = (match a with | .pu => .paperSpliceAck | .fu => .fabricSpliceAck) →
    (inputOf s i).filtering = true → (inputOf s i).level = some lvl → (inputOf s i).raw = !lvl →
    ∃ t, exec (.inputFilterExpiry i) s = .next t ∧
      ((inputOf s i).activeHigh = !lvl → (spliceOf s a).state = .wait →
        spliceOf t a = { spliceOf s a with
          state := .handedOver, request := false,
          waited := s.clock - (spliceOf s a).phaseStart, phaseStart := s.clock,
          limit := (spliceOf s a).handover } ∧
        ((axisOf s (unwindAxis a)).state = .active →
          axisOf t (unwindAxis a) = { axisOf s (unwindAxis a) with state := .handedOver }) ∧
        (∀ b, b ≠ unwindAxis a → axisOf t b = axisOf s b) ∧ t.su.faults = s.su.faults ∧ t.ports = s.ports ∧ t.ka = s.ka) ∧
      ((inputOf s i).activeHigh = !lvl → (spliceOf s a).state ≠ .wait → t.rc = s.rc ∧ t.tc = s.tc ∧
        t.su.faults = (offerFault (.spliceAckUnexpected a (spliceOf s a).state) s).su.faults ∧ t.ka = s.ka) ∧
      ((inputOf s i).activeHigh = lvl → (spliceOf s a).state ≠ .handedOver →
        t = { s with su := { s.su with inputs := t.su.inputs } }) ∧
      ((inputOf s i).activeHigh = lvl → (spliceOf s a).state = .handedOver →
        (spliceOf t a).state = .idle ∧ (spliceOf t a).fired = false ∧ (spliceOf t a).pending = none ∧
        (spliceOf t a).card = none ∧ rollCounter t a = ⟨0, 0⟩ ∧ rollValid t a = true ∧ t.ka.lifetime = s.ka.lifetime ∧
        ((axisOf s (unwindAxis a)).state = .handedOver →
          axisOf t (unwindAxis a) = { axisOf s (unwindAxis a) with state := .active }) ∧
        ∃ x,
        (a = .fu → x = s.web.pos + ((s.setup.map (·.lFn)).getD 0) * 1000 ∧ t.tmap = s.tmap ∧
          ∃ pre post, s.rc.joints = pre ++ post ∧ t.rc.joints = pre ++ ⟨x, false⟩ :: post ∧ (∀ k ∈ pre, k.due ≤ x) ∧
            ∀ k, post.head? = some k → x < k.due) ∧
        (a = .pu → t.rc.joints = s.rc.joints ∧
          ((∀ k ∈ s.tmap.joints, k.at_ ≠ s.web.pos + ((s.setup.map (·.lUp)).getD 0) * 1000) →
            x = s.web.pos + ((s.setup.map (·.lUp)).getD 0) * 1000) ∧
          ((∃ k ∈ s.tmap.joints, k.at_ = s.web.pos + ((s.setup.map (·.lUp)).getD 0) * 1000) →
            s.web.pos + ((s.setup.map (·.lUp)).getD 0) * 1000 < x ∧ (∀ k ∈ s.tmap.joints, k.at_ ≠ x) ∧
            (∀ g ∈ s.tmap.segs, g.start ≠ x) ∧
            ∀ y, s.web.pos + ((s.setup.map (·.lUp)).getD 0) * 1000 < y → y < x →
              (∃ k ∈ s.tmap.joints, k.at_ = y) ∨ ∃ g ∈ s.tmap.segs, g.start = y) ∧
          (s.tmap.joints.length < 2 →
            (∃ pre post, s.tmap.joints = pre ++ post ∧ t.tmap.joints = pre ++ ⟨x, false⟩ :: post ∧ (∀ k ∈ pre, k.at_ ≤ x) ∧
              ∀ k, post.head? = some k → x < k.at_) ∧
            t.tmap.segs = s.tmap.segs.map (fun g =>
              if g.endAt = none ∧ g.start ≤ x ∧ x < g.start + g.planned then { g with spoil := g.spoil.or (some .joint) } else g)) ∧
          (2 ≤ s.tmap.joints.length → t.tmap = s.tmap)) ∧
        (∀ c, (spliceOf s a).card = some c → CardFinal c .done .ok t ∧ t.ce = engineFinal c s.ce ∧
          HostHolds t (c.addr + 128) [match a with | .pu => 1 | .fu => 2] ∧
          HostHolds t (c.addr + 130) [if rollValid s a then 1 else 0] ∧ HostHolds t (c.addr + 136) (le 6 x) ∧
          HostHolds t (c.addr + 144) (le 4 (rollCounter s a).metres) ∧ HostHolds t (c.addr + 148) (le 4 (spliceOf s a).waited) ∧
          HostHolds t (c.addr + 152) (le 4 (s.clock - (spliceOf s a).phaseStart))) ∧
        ((spliceOf s a).card = none → t.ports = s.ports))

/-! ## The web and what travels with it -/

/-- The milestones that end nothing, for the first strip of the map that has not taken them, and the joints. Lead at nip sets LEAD_NIP
and, where the strip names a fabric, hands its T_plan, clamped, and the fabric's gains to the fabric axes; trail at nip and lead exit set
their marks; before their thresholds nothing is taken. A paper joint at the exit offset leaves the map, the first fabric joint of the list
that is due leaves it, also past one that is not, and spoils the strip at the nip, and either lets a pending request of its axis begin a
splice. That a position update marks the joints it reaches and these commands take them, and the order of the list of fabric joints with
the first due one taken, are the model's choices (log entries 15, 50). -/
def Obligations.MilestonesAndJoints : Prop :=
  (∀ (s : State) (c : Settings) (pre : List Segment) (g : Segment) (rest : List Segment), s.power.mainOn = true →
    s.setup = some c → s.tmap.segs = pre ++ g :: rest → (∀ e, g.endAt = some e → g.start ≤ e) →
    ((∀ h ∈ pre, h.leadNip = true) → g.leadNip = false → g.start + c.lPn * 1000 ≤ s.web.pos → ∃ t, exec .leadAtNip s = .next t ∧
      t.tmap = ⟨s.tmap.segs.map (fun h => if h.start = g.start then { h with leadNip := true, runCount := 0 } else h),
        s.tmap.joints⟩ ∧
      (g.fabricId = none → t.tc = s.tc) ∧
      (∀ id p f, g.fabricId = some id → g.tPlan = some p → (fabricOf s id).figures = some f → s.tc.axes.length = 4 →
        t.tc.fabrics = s.tc.fabrics ∧ t.tc.frame = s.tc.frame ∧ ∀ a, axisOf t a = if a = .fu ∨ a = .fr then
          { axisOf s a with tSp := min f.tMax (max f.tMin p), kp := f.kp, ki := f.ki, source := .fabric id g.tag }
          else axisOf s a) ∧
      SameBase s t ∧ SameBook s t ∧ SameStore s t ∧ t.pe = s.pe ∧ t.web = s.web ∧ t.hc = s.hc ∧ t.wd = s.wd ∧ t.rc = s.rc) ∧
    (∀ e, (∀ h ∈ pre, h.trailNip = true) → g.endAt = some e → g.leadNip = true → g.trailNip = false →
      e + c.lPn * 1000 ≤ s.web.pos →
      g.leadExit = true ∨ e + c.lPn * 1000 ≤ g.start + (c.lPn + c.lW) * 1000 →
      exec .trailAtNip s = .next { s with tmap := ⟨s.tmap.segs.map (fun h =>
        if h.start = g.start then { h with trailNip := true } else h), s.tmap.joints⟩ }) ∧
    ((∀ h ∈ pre, h.leadExit = true) → g.leadNip = true → g.leadExit = false → g.start + (c.lPn + c.lW) * 1000 ≤ s.web.pos →
      (g.trailNip = true ∨ ∀ e, g.endAt = some e → g.start + (c.lPn + c.lW) * 1000 ≤ e + c.lPn * 1000) →
      exec .leadExit s = .next { s with tmap := ⟨s.tmap.segs.map (fun h =>
        if h.start = g.start then { h with leadExit := true } else h), s.tmap.joints⟩ }) ∧
    ((∀ h ∈ s.tmap.segs, s.web.pos < h.start + c.lPn * 1000 ∧ ∀ e, h.endAt = some e → h.start ≤ e) →
      ∀ i ∈ [Instr.leadAtNip, .trailAtNip, .leadExit, .trailExit], exec i s = .next s)) ∧
  (∀ s : State, s.power.mainOn = true →
    ((∀ j ∈ s.tmap.joints, j.due = false) → exec .jointLeavesWrap s = .next s) ∧
    ∀ j rest, s.tmap.joints = j :: rest → j.due = true → (∀ k ∈ rest, k.at_ ≠ j.at_) → ∃ t, exec .jointLeavesWrap s = .next t ∧
      t.tmap = ⟨s.tmap.segs, rest⟩ ∧ t.rc.fu = s.rc.fu ∧ t.rc.joints = s.rc.joints ∧
      (∀ k, s.rc.pu.pending = some k → rest.length < 2 → (axisOf s .pu).state = .active → s.rc.pu.state = .idle →
        t.rc.pu = { s.rc.pu with
          state := .wait, cause := some k, card := none, pending := none, request := true, phaseStart := s.clock,
          limit := ((s.setup.map (·.spliceTimeout)).getD 0) * 1000, waited := 0,
          handover := ((s.setup.map (·.handoverLimit)).getD 0) * 1000 } ∧ t.su = raised [.spliceActive] s.su) ∧
      (s.rc.pu.pending = none ∨ (axisOf s .pu).state ≠ .active ∨ s.rc.pu.state ≠ .idle →
        t.rc.pu = s.rc.pu ∧ t.su = s.su ∧ t.ports = s.ports) ∧
      OnlyWrites s t (fun _ => False) ∧ t.ce = s.ce ∧ SameBase s t ∧ SameStore s t ∧ SameButHold s t ∧
      t.web = s.web ∧ t.hc = s.hc ∧ t.wd = s.wd ∧ t.tc = s.tc) ∧
  ∀ s : State, s.power.mainOn = true →
    ((∀ j ∈ s.rc.joints, j.reached = false) → exec .fabricJointDue s = .next s) ∧
    ∀ before j rest, s.rc.joints = before ++ j :: rest → (∀ k ∈ before, k.reached = false) → j.reached = true →
      ∃ t, exec .fabricJointDue s = .next t ∧ t.rc.joints = before ++ rest ∧ t.rc.pu = s.rc.pu ∧ t.tmap.joints = s.tmap.joints ∧
      (∀ c pre g post, s.setup = some c → c.lPn * 1000 ≤ s.web.pos → s.tmap.segs = pre ++ g :: post →
        g.start ≤ s.web.pos - c.lPn * 1000 → s.web.pos - c.lPn * 1000 < extentEnd g →
        (∀ h ∈ pre, ¬(h.start ≤ s.web.pos - c.lPn * 1000 ∧ s.web.pos - c.lPn * 1000 < extentEnd h)) →
        (∀ h ∈ pre ++ post, h.start ≠ g.start) →
        t.tmap.segs = pre ++ { g with spoil := g.spoil.or (some .fabricJoint) } :: post) ∧
      ((∀ c, s.setup = some c → s.web.pos < c.lPn * 1000 ∨ ∀ h ∈ s.tmap.segs,
          ¬(h.start ≤ s.web.pos - c.lPn * 1000 ∧ s.web.pos - c.lPn * 1000 < extentEnd h)) → t.tmap.segs = s.tmap.segs) ∧
      (∀ k, s.rc.fu.pending = some k → before.length + rest.length < 2 → (axisOf s .fu).state = .active → s.rc.fu.state = .idle →
        t.rc.fu.state = .wait ∧ t.rc.fu.cause = some k ∧ t.rc.fu.pending = none ∧ t.rc.fu.request = true ∧
          t.su = raised [.spliceActive] s.su) ∧
      (s.rc.fu.pending = none ∨ (axisOf s .fu).state ≠ .active ∨ s.rc.fu.state ≠ .idle →
        t.rc.fu = s.rc.fu ∧ t.su = s.su ∧ t.ports = s.ports) ∧
      OnlyWrites s t (fun _ => False) ∧ t.ce = s.ce ∧ SameBase s t ∧ SameStore s t ∧ t.pe = s.pe ∧ t.web = s.web ∧
      t.hc = s.hc ∧ t.wd = s.wd ∧ t.tc = s.tc

/-- Trail exit: the first strip of the map, and no strip before it has left, is judged, its card is written TRANSFERRED or, with a spoil
reason, SPOILED with its results, and it leaves the map with its fabric reference; an ORPHAN is written nowhere. The judgement: a
deviation is the difference from the plan in units of 0.1 %, cut towards 0, the deviations stand in ascending order of zone, and the worst is
the one of greatest magnitude, on a tie the one of the lower zone. -/
def Obligations.TrailExitReportsTheStrip : Prop :=
  (∀ (s : State) (c : Settings) (g : Segment) (rest : List Segment) (e : Nat), s.power.mainOn = true → s.setup = some c →
    s.tmap.segs = g :: rest → g.endAt = some e → g.leadNip = true → g.leadExit = true → g.trailNip = true →
    e + (c.lPn + c.lW) * 1000 ≤ s.web.pos → ∃ t, exec .trailExit s = .next t ∧
      t.tmap = ⟨s.tmap.segs.filter (fun h => h.start != g.start), s.tmap.joints⟩ ∧ hasEvent t .segmentDone = true ∧
      (∀ r, g.card = some r → CardFinal r (if g.spoil.isSome then .spoiled else .transferred) .ok t ∧
        HostHolds t (r.addr + 128) (le 6 g.start) ∧ HostHolds t (r.addr + 134) (le 3 ((e - g.start) / c.pitch)) ∧
        HostHolds t (r.addr + 189) (le 3 g.emitted) ∧ HostHolds t (r.addr + 198) (le 1 (judgeSeg g).flags.byte) ∧
        hostByte t (r.addr + 199) = some ((g.spoil.map (·.code)).getD 0) ∧
        HostHolds t (r.addr + 200) ((List.range 8).flatMap fun z => leOpt 3 ((g.dLead.map (min 16777215))[z]?)) ∧
        HostHolds t (r.addr + 224) ((List.range 8).flatMap fun z => leOpt 3 ((g.dTrail.map (min 16777215))[z]?)) ∧
        HostHolds t (r.addr + 248) (leInt 2 (((judged g).1.map (·.2)).getD (-32768))) ∧
        HostHolds t (r.addr + 250) (leInt 2 (((judged g).2.map (·.2)).getD (-32768))) ∧
        HostHolds t (r.addr + 252) (le 1 (((judged g).1.map (·.1)).getD 15 + 16 * ((judged g).2.map (·.1)).getD 15)) ∧
        OnlyWrites s t (FinalBytes r) ∧ t.ce = engineFinal r s.ce) ∧
      (g.card = none → OnlyWrites s t (fun _ => False) ∧ t.ce = s.ce) ∧
      (∀ id f, g.fabricId = some id → 1 ≤ id → s.tc.fabrics[id - 1]? = some f →
        t.tc.fabrics[id - 1]? = some { f with refs := f.refs - 1 }) ∧
      (g.fabricId = none → t.tc.fabrics = s.tc.fabrics) ∧ t.tc.axes = s.tc.axes ∧ t.tc.frame = s.tc.frame ∧
      SameButHold s t ∧ t.su.faults = s.su.faults ∧ SameBase s t ∧ SameStore s t ∧ t.web = s.web ∧
      t.hc = s.hc ∧ t.wd = s.wd ∧ t.rc = s.rc) ∧
  (∀ (s : State) (c : Settings) (g : Segment) (rest : List Segment), s.setup = some c → s.tmap.segs = g :: rest →
    g.endAt = none ∨ g.trailNip = false ∨ (∃ e, g.endAt = some e ∧ (s.web.pos < e + (c.lPn + c.lW) * 1000 ∨
      (g.leadNip = false ∧ g.start ≤ e ∧ 0 < c.lW) ∨ (g.leadExit = false ∧ g.start < e))) → exec .trailExit s = .next s) ∧
  (∀ g : Segment, (judgeSeg g).flags.offDose = true ↔ g.flags.offDose = true ∨
    ∃ x ∈ deviations g.dLead g.dPlan g.off ++ deviations g.dTrail g.dPlan g.off, g.tol * 10 < x.2.natAbs) ∧
  (∀ (delivered planned : List Nat) (off : List Bool) (z : Nat) (d : Int), (z, d) ∈ deviations delivered planned off ↔
    z < planned.length ∧ off[z]? = some false ∧ d = deviation ((delivered[z]?).getD 0) ((planned[z]?).getD 0)) ∧
  (∀ (delivered planned : List Nat) (off : List Bool),
    ((deviations delivered planned off).map (·.1)).Pairwise (· < ·) ∧
    ∀ w, worst (deviations delivered planned off) = some w → w ∈ deviations delivered planned off ∧
      ∀ x ∈ deviations delivered planned off, x.2.natAbs ≤ w.2.natAbs ∧ (x.2.natAbs = w.2.natAbs → w.1 ≤ x.1)) ∧
  (∀ d p : Nat, 0 < p → -1000 ≤ deviation d p ∧ deviation d p ≤ 32767 ∧ (d ≤ p → deviation d p ≤ 0) ∧ (p ≤ d → 0 ≤ deviation d p) ∧
    (deviation d p).natAbs * p ≤ ((d : Int) - p).natAbs * 1000 ∧
    (deviation d p < 32767 → ((d : Int) - p).natAbs * 1000 < ((deviation d p).natAbs + 1) * p)) ∧
  ∀ l : List (Nat × Int), (worst l = none ↔ l = []) ∧ ∀ w, worst l = some w →
    ∃ pre post, l = pre ++ w :: post ∧ (∀ x ∈ pre, x.2.natAbs < w.2.natAbs) ∧ ∀ x ∈ post, x.2.natAbs ≤ w.2.natAbs

/-! ## The Profile Store -/

/-- R25 to R27 and R39 over all lists and arbiters. Allocation takes the low end of the lowest free extent that is long enough, and
refuses only where none is; release returns cells and joins what it touches; either keeps the list ascending with no two adjacent, and
no cell is lost or gained. The free port is granted by the order of R39, and a port in use is left. Wherever the port is looked at, the two
requesters make their requests first, a request that waits stands until it is granted, and a free port with any request waiting is granted
at once. -/
def Obligations.FreeExtentsAndThePortOrder : Prop :=
  (∀ (n : Nat) (l : List Extent), 0 < n → FreeList l →
    (allocate n l = none ↔ ∀ e ∈ l, e.len < n) ∧
    ∀ b l', allocate n l = some (b, l') → FreeList l' ∧
      (∃ e ∈ l, e.base = b ∧ n ≤ e.len ∧ ∀ x ∈ l, x.base < b → x.len < n) ∧
      ∀ a, (∃ e ∈ l', e.holds a) ↔ (∃ e ∈ l, e.holds a) ∧ ¬(b ≤ a ∧ a < b + n)) ∧
  (∀ (b n : Nat) (l : List Extent), 0 < n → FreeList l → (∀ e ∈ l, e.base + e.len ≤ b ∨ b + n ≤ e.base) →
    FreeList (release b n l) ∧
    ∀ a, (∃ e ∈ release b n l, e.holds a) ↔ (∃ e ∈ l, e.holds a) ∨ (b ≤ a ∧ a < b + n)) ∧
  (∀ a : Arbiter,
    (a.busy ≠ none → grant a = a) ∧
    (a.shadowReq = none → a.loaderReq = none → a.fillReq = none → grant a = a) ∧
    (a.busy = none → ∀ r, a.shadowReq = some r → a.shadowCredit = true →
      grant a = { a with busy := some (.shadow r true), shadowReq := none, shadowCredit := false }) ∧
    (a.busy = none → ∀ r, a.loaderReq = some r → a.loaderCredit = true → (a.shadowReq = none ∨ a.shadowCredit = false) →
      grant a = { a with busy := some (.loader r true), loaderReq := none, loaderCredit := false }) ∧
    (a.busy = none → (a.shadowReq = none ∨ a.shadowCredit = false) → (a.loaderReq = none ∨ a.loaderCredit = false) →
      (∀ r, a.fillReq = some r → grant a = { a with busy := some (.fill r true), fillReq := none }) ∧
      (∀ r, a.fillReq = none → a.shadowReq = some r → grant a = { a with busy := some (.shadow r true), shadowReq := none }) ∧
      (∀ r, a.fillReq = none → a.shadowReq = none → a.loaderReq = some r →
        grant a = { a with busy := some (.loader r true), loaderReq := none }))) ∧
  ∀ s t : State, t = pumpPort s →
    t = { s with ps := { s.ps with arb := t.ps.arb } } ∧
    (∀ b, s.ps.arb.busy = some b → t.ps.arb.busy = some b ∧ t.ps.arb.shadowCredit = s.ps.arb.shadowCredit ∧
      t.ps.arb.loaderCredit = s.ps.arb.loaderCredit) ∧
    (∃ sr lr, t.ps.arb = grant { s.ps.arb with shadowReq := sr, loaderReq := lr } ∧
      (∀ w, s.ps.arb.shadowReq = some w → sr = some w) ∧ ∀ w, s.ps.arb.loaderReq = some w → lr = some w) ∧
    (s.ps.arb.busy = none → s.ps.arb.shadowReq ≠ none ∨ s.ps.arb.loaderReq ≠ none ∨ s.ps.arb.fillReq ≠ none →
      t.ps.arb.busy ≠ none ∧
      (s.ps.arb.shadowCredit = false → s.ps.arb.loaderCredit = false →
        (∀ r, s.ps.arb.fillReq = some r → t.ps.arb.busy = some (.fill r true)) ∧
        (∀ w, s.ps.arb.fillReq = none → s.ps.arb.shadowReq = some w → t.ps.arb.busy = some (.shadow w true))))

/-- A LOAD card: a BUSY loader makes it wait, with no field checked, or fails it BUSY with NO_WAIT; a field out of range, a record that
is not EMPTY and want of room fail it in that order; and otherwise the extent is allocated, the record is LOADING, the card is held, and
the first block is read. Of several fields out of range the first by its body offset (chapter 12) is the one named: that the order of R21
and R29 is that of the offsets is read into the spec (log entry 23). -/
def Obligations.LoadCard : Prop :=
  (∀ (c : CurrentCard) (s : State), Dispatching .load c s →
    (s.ps.loader.isSome = true → c.noWait = false → ∃ t, exec .load s = .next t ∧ StallsCard s t) ∧
    (s.ps.loader.isSome = true → c.noWait = true → ∃ t, exec .load s = .next t ∧ FailsCard c .busy [] s t) ∧
    (s.ps.loader = none → ∀ off, loadError c.image = some off →
      ∃ t, exec .load s = .next t ∧ FailsCard c .badField [(128, le 2 off)] s t) ∧
    ∀ id r, s.ps.loader = none → loadError c.image = none → id = leRead c.image 16 1 → s.ps.records[id - 1]? = some r →
      (r.state ≠ .empty → ∃ t, exec .load s = .next t ∧ FailsCard c .inUse [] s t) ∧
      (r.state = .empty → allocate (leRead c.image 17 1 ^ 3) s.ps.free = none →
        ∃ t, exec .load s = .next t ∧ FailsCard c .noRoom [] s t) ∧
      ∀ b free, r.state = .empty → allocate (leRead c.image 17 1 ^ 3) s.ps.free = some (b, free) →
        ∃ t, exec .load s = .next t ∧ t.ps.free = free ∧
          t.ps.records[id - 1]? = some ⟨.loading, some ⟨leRead c.image 17 1, leRead c.image 18 1, b, leRead c.image 17 1 ^ 3,
            leRead c.image 20 2, leRead c.image 26 4, leRead c.image 22 2, leRead c.image 24 2, leRead c.image 19 1⟩, 0, 0, 0,
            false⟩ ∧
          (∀ n, n ≠ id - 1 → t.ps.records[n]? = s.ps.records[n]?) ∧
          t.ps.loader = some ⟨c.ref, id, leRead c.image 32 8, 0, [], true⟩ ∧
          .hostRead (leRead c.image 32 8) (8 * min 64 (leRead c.image 17 1 ^ 3)) ∈ t.ports ∧
          t.ps.mem = s.ps.mem ∧ t.ps.arb = s.ps.arb ∧ t.spb = s.spb ∧ t.nc = s.nc ∧ t.ce = engineAfter s s.ce.outstanding ∧
          t.su = s.su ∧ OnlyWrites s t (fun _ => False) ∧ SameBase s t ∧ SamePrint s t ∧ SameLine s t) ∧
  (∀ b : List Byte, loadError b = none ↔
    (1 ≤ leRead b 16 1 ∧ leRead b 16 1 ≤ 16) ∧ (leRead b 17 1 = 9 ∨ leRead b 17 1 = 17 ∨ leRead b 17 1 = 33) ∧
    (4 ≤ leRead b 18 1 ∧ leRead b 18 1 ≤ 6) ∧ (1 ≤ leRead b 19 1 ∧ leRead b 19 1 ≤ 30) ∧
    (1000 ≤ leRead b 20 2 ∧ leRead b 20 2 ≤ 2000) ∧ (2048 ≤ leRead b 22 2 ∧ leRead b 22 2 ≤ 4096) ∧
    (4096 ≤ leRead b 24 2 ∧ leRead b 24 2 ≤ 8192) ∧ (1000 ≤ leRead b 26 4 ∧ leRead b 26 4 ≤ 9000000) ∧
    (leRead b 32 8 ≠ 0 ∧ leRead b 32 8 % 8 = 0)) ∧
  ∀ (b : List Byte) (off : Nat), loadError b = some off ↔ FirstFails
    [(16, 1 ≤ leRead b 16 1 ∧ leRead b 16 1 ≤ 16), (17, leRead b 17 1 = 9 ∨ leRead b 17 1 = 17 ∨ leRead b 17 1 = 33),
     (18, 4 ≤ leRead b 18 1 ∧ leRead b 18 1 ≤ 6), (19, 1 ≤ leRead b 19 1 ∧ leRead b 19 1 ≤ 30),
     (20, 1000 ≤ leRead b 20 2 ∧ leRead b 20 2 ≤ 2000), (22, 2048 ≤ leRead b 22 2 ∧ leRead b 22 2 ≤ 4096),
     (24, 4096 ≤ leRead b 24 2 ∧ leRead b 24 2 ≤ 8192), (26, 1000 ≤ leRead b 26 4 ∧ leRead b 26 4 ≤ 9000000),
     (32, leRead b 32 8 ≠ 0 ∧ leRead b 32 8 % 8 = 0)] off

/-- The loader's reads and writes. A block that has been read is buffered, cut to the profile's channels, and its first write takes a
quiet port, whether or not a line computes; a completed write leaves its cell with fresh parity and every other cell, and the cursor moves on, to the next block after
the last record of one, and to READY with version 0 and the LOAD card DONE after the last of all; a write whose load was aborted still
writes its cell; and a read that fails ends the load with its fault, its card FAILED READ_ERROR, its record freed, and the queued
PRINT cards that name it FAILED UNKNOWN_PROFILE. Either end offers a stalled LOAD card again. That the completions of reads given up are
the next ones, in the order of issue, and are dropped, and that a completion with no load in READING changes nothing, are the model's
(log entries 6, 2). -/
def Obligations.LoaderReadsAndWrites : Prop :=
  (∀ (data : List Byte) (i k c : Nat), c < 8 → k ≤ 8 →
    channel (sourceRecord data i k) c = if c < k then byteAt data (8 * i + c) else 0) ∧
  (∀ (data : List Byte) (s : State), s.power.mainOn = true →
    (∀ i ∈ [Instr.loadReadComplete data, .loadReadError, .loadReadTimeout],
      (∀ n, s.ps.stale = n + 1 → exec i s = .next { s with ps := { s.ps with stale := n } }) ∧
      (s.ps.stale = 0 → (s.ps.loader = none ∨ ∃ j, s.ps.loader = some j ∧ j.reading = false) → exec i s = .next s)) ∧
    ∀ j h, s.ps.stale = 0 → s.ps.loader = some j → j.reading = true → (profileOf s j.id).header = some h →
      ∃ t, exec (.loadReadComplete data) s = .next t ∧
        t.ps.loader = some { j with
          reading := false,
          buffer := (List.range (min 64 (h.nodes - j.cursor))).map fun i => sourceRecord data i h.channels } ∧
        t = { s with ps := { s.ps with loader := t.ps.loader, arb := t.ps.arb } } ∧
        (s.ps.arb.busy = none → s.ps.arb.fillReq = none → s.ps.arb.shadowReq = none → s.ps.arb.loaderReq = none →
          s.spb.patch = none → (∀ e ∈ s.spb.entries, e.visible = false) → j.cursor < h.nodes →
          t.ps.arb.busy = some (.loader ⟨j.id, h.base + j.cursor, sourceRecord data 0 h.channels⟩ true))) ∧
  (∀ (s : State) (r : LoadRequest) (live : Bool), s.power.mainOn = true → StoreCanonical s →
    s.ps.arb.busy = some (.loader r live) → ∃ t, exec .loaderWriteComplete s = .next t ∧
      (∀ a, storeRead t.ps.mem a = if a = r.cell then freshCell r.value else storeRead s.ps.mem a) ∧ t.ps.free = s.ps.free ∧
      t.spb = s.spb ∧ t.tmap = s.tmap ∧ SameBase s t ∧ SameLine s t ∧ SameButHold s t ∧
      (live = false → t.ps.loader = s.ps.loader ∧ t.ps.records = s.ps.records ∧ t.ports = s.ports ∧ t.su = s.su ∧ t.ce = s.ce) ∧
      ∀ j p h, live = true → s.ps.loader = some j → s.ps.records[j.id - 1]? = some p → p.header = some h →
        (j.cursor + 1 ≠ h.nodes → j.buffer.drop 1 ≠ [] →
          t.ps.loader = some { j with cursor := j.cursor + 1, buffer := j.buffer.drop 1 } ∧ t.ps.records = s.ps.records ∧
          t.ports = s.ports ∧ t.su = s.su ∧ t.ce = s.ce) ∧
        (j.cursor + 1 ≠ h.nodes → j.buffer.drop 1 = [] →
          t.ps.loader = some { j with cursor := j.cursor + 1, buffer := [], reading := true } ∧ t.ps.records = s.ps.records ∧
          t.ports = .hostRead (j.source + 8 * (j.cursor + 1)) (8 * min 64 (h.nodes - (j.cursor + 1))) :: s.ports ∧
          t.su = s.su ∧ t.ce = s.ce) ∧
        (j.cursor + 1 = h.nodes → t.ps.loader = none ∧
          t.ps.records[j.id - 1]? = some { p with state := .ready, version := 0 } ∧
          (∀ n, n ≠ j.id - 1 → t.ps.records[n]? = s.ps.records[n]?) ∧
          WrittenFinal j.card .done .ok [(128, le 4 h.base), (132, le 4 h.nodes)] s t ∧
          t.ce = offeredAgain .load (engineFinal j.card s.ce) ∧ t.su.faults = s.su.faults)) ∧
  (∀ s : State, s.power.mainOn = true → (∀ r live, s.ps.arb.busy ≠ some (.loader r live)) →
    exec .loaderWriteComplete s = .next s) ∧
  ∀ (i : Instr) (s : State) (j : LoadJob) (p : ProfileRecord) (h : ProfileHeader), s.power.mainOn = true →
    i = .loadReadError ∨ i = .loadReadTimeout → s.ps.stale = 0 → s.ps.loader = some j → j.reading = true →
    s.ps.records[j.id - 1]? = some p → p.header = some h → (∃ t, exec i s = .next t ∧
      (s.spb.patch = none → 1 ≤ j.id → p.state = .loading → (∀ q ∈ s.pe.queue, 1 ≤ q.profileId) →
        (s.pe.queue.map (·.card.take)).Nodup → Apart (j.card :: s.pe.queue.map (·.card)) →
        t.ps.loader = none ∧ QueueFailed j.id s t ∧ FreedOrWaiting j.id p h s t ∧ CardFinal j.card .failed .readError t ∧
        HostHolds t (j.card.addr + 128) (area 128 [(8, le 4 j.cursor)]) ∧ ∀ e ∈ t.spb.entries, e.id = j.id →
          ∃ i v, t.ps.arb.busy = some (.shadow (.drain i e.cell v) true))) ∧
    (Loose j.id s → ∃ t, exec i s = .next t ∧
      t.ps.loader = none ∧ Freed j.id h s t ∧ (∀ n, n ≠ j.id - 1 → t.ps.records[n]? = s.ps.records[n]?) ∧
      t.ps.mem = s.ps.mem ∧ t.ps.stale = 0 ∧ WrittenFinal j.card .failed .readError [(136, le 4 j.cursor)] s t ∧
      t.ce = offeredAgain .load (engineFinal j.card s.ce) ∧
      t.su.faults = (offerFault (.loadReadError j.id j.cursor) s).su.faults ∧ t.spb = s.spb ∧ t.nc = s.nc ∧
      t.tmap = s.tmap ∧ SameButHold s t ∧ SameBase s t ∧ SameLine s t)

/-- A DROP card by the state of its record: EMPTY, or waiting to be freed, is UNKNOWN_PROFILE; READY with no reference is freed; READY
with references becomes RETIRING; RETIRING stays; LOADING has its load aborted, the queued PRINT cards that name it FAILED
UNKNOWN_PROFILE, and is freed. While a granted write of the profile is outstanding, the loader's among them, the freeing waits, and
FREEING, a step of its own by the model's choice (log entry 20), ends it once none is. -/
def Obligations.DropAndFreeing : Prop :=
  (∀ (c : CurrentCard) (s : State) (id : Nat), Dispatching .drop c s → id = leRead c.image 16 1 →
    (id = 0 ∨ 16 < id → ∃ t, exec .drop s = .next t ∧ DispatchFinal c .failed .badField [(128, le 2 16)] s t ∧ SameStore s t) ∧
    ∀ r, 1 ≤ id → id ≤ 16 → s.ps.records[id - 1]? = some r →
      (r.state = .empty ∨ r.freeing = true → ∃ t, exec .drop s = .next t ∧
        DispatchFinal c .failed .unknownProfile [] s t ∧ SameStore s t ∧ t.su = raised [.cardFinal] s.su ∧ SameBase s t ∧
        SamePrintButHold s t ∧ SameLine s t) ∧
      (∀ h, r.state = .ready → r.freeing = false → r.refs = 0 → r.header = some h → Loose id s → ∃ t, exec .drop s = .next t ∧
        Freed id h s t ∧ (∀ n, n ≠ id - 1 → t.ps.records[n]? = s.ps.records[n]?) ∧ t.ps.mem = s.ps.mem ∧ t.spb = s.spb ∧
        DispatchFinal c .done .ok [(128, [2]), (129, [1])] s t ∧ SameBase s t ∧ SamePrintButHold s t ∧ SameLine s t) ∧
      (r.state = .ready → r.freeing = false → r.refs = 0 → s.spb.patch = none →
        drainGranted s id = true ∨ loadWriteGranted s id = true → ∃ t, exec .drop s = .next t ∧
        t.ps.records[id - 1]? = some { r with freeing := true } ∧ t.ps.free = s.ps.free ∧
        DispatchFinal c .done .ok [(128, [2]), (129, [1])] s t) ∧
      (r.state = .ready → r.freeing = false → 0 < r.refs → ∃ t, exec .drop s = .next t ∧
        t.ps.records[id - 1]? = some { r with state := .retiring } ∧
        (∀ n, n ≠ id - 1 → t.ps.records[n]? = s.ps.records[n]?) ∧ t.ps.free = s.ps.free ∧ t.ps.arb = s.ps.arb ∧
        DispatchFinal c .done .ok [(128, [2]), (129, [2])] s t ∧ t.spb = s.spb ∧ SameBase s t ∧ SamePrintButHold s t ∧
        SameLine s t) ∧
      (r.state = .retiring → r.freeing = false → ∃ t, exec .drop s = .next t ∧ SameStore s t ∧
        DispatchFinal c .done .ok [(128, [3]), (129, [2])] s t ∧ SameBase s t ∧ SamePrintButHold s t ∧ SameLine s t) ∧
      (∀ h j, r.state = .loading → r.freeing = false → r.header = some h → Loose id s → s.ps.loader = some j → j.id = id →
        j.card.addr + 256 ≤ c.ref.addr ∨ c.ref.addr + 256 ≤ j.card.addr → ∃ t, exec .drop s = .next t ∧
        Freed id h s t ∧ t.ps.loader = none ∧ t.ps.stale = s.ps.stale + (if j.reading then 1 else 0) ∧
        CardFinal j.card .failed .aborted t ∧ CardFinal c.ref .done .ok t ∧ HostHolds t (c.ref.addr + 128) [1, 1]) ∧
      (∀ h j, r.state = .loading → r.freeing = false → r.header = some h → s.ps.loader = some j → j.id = id →
        s.spb.patch = none → (∀ q ∈ s.pe.queue, 1 ≤ q.profileId) → (s.pe.queue.map (·.card.take)).Nodup →
        Apart (c.ref :: j.card :: s.pe.queue.map (·.card)) → ∃ t, exec .drop s = .next t ∧
        t.ps.loader = none ∧ t.ps.stale = s.ps.stale + (if j.reading then 1 else 0) ∧ QueueFailed id s t ∧
        FreedOrWaiting id r h s t ∧ (∀ w live, s.ps.arb.busy = some (.loader w live) → t.ps.arb.busy = some (.loader w false)) ∧
        CardFinal j.card .failed .aborted t ∧ CardFinal c.ref .done .ok t ∧ HostHolds t (c.ref.addr + 128) [1, 1] ∧
        t.ce = engineAfter s (t.ce.outstanding))) ∧
  ∀ (s : State) (id : Nat) (r : ProfileRecord), s.power.mainOn = true → 1 ≤ id → id ≤ 16 → s.ps.records[id - 1]? = some r →
    (r.freeing = false ∨ drainGranted s id = true ∨ loadWriteGranted s id = true → exec (.freeing id) s = .next s) ∧
    ∀ h, r.freeing = true → r.header = some h → drainGranted s id = false → loadWriteGranted s id = false →
      ∃ t, exec (.freeing id) s = .next t ∧ Freed id h s t ∧ (∀ n, n ≠ id - 1 → t.ps.records[n]? = s.ps.records[n]?) ∧
        t.ps.mem = s.ps.mem ∧ t.ps.loader = s.ps.loader ∧ t.ps.arb = s.ps.arb ∧ t.spb = s.spb ∧ t.nc = s.nc ∧ t.ce = s.ce ∧
        t.su = raised [.profileFreed] s.su ∧ OnlyWrites s t (fun _ => False) ∧ SameBase s t ∧ SamePrintButHold s t ∧
        SameLine s t

/-! ## Patches, the shadow buffer and the node cache -/

/-- A PATCH card and its edit list: the checks before the read, the read, and what its completion or failure does. The first edit that its
profile cannot take fails the card BAD_FIELD with the edit's position, and then a freed profile fails it NOT_READY; of an edit for a freed
profile the mask alone is checked, by the model's reading (log entry 60), as of several bad fields of the card the first by its offset is
named (log entry 23); a failed read fails it READ_ERROR with its fault, and otherwise
the card enters APPLYING. A card past READING whose profile is freed fails NOT_READY with the
edits applied, and the profile's entries are gone: so at the release of the last reference of a RETIRING profile, as at the line boundary
that ends its job. That a position counts from 0, and that the fault of a failed read precedes the card's write, are the model's choices
(log entries 48, 49); that the completions of reads given up are the next ones, in the order of issue, is the model's reading (log
entry 6), and that one with no card in READING changes nothing its choice (log entry 2). -/
def Obligations.PatchCardAndItsList : Prop :=
  (∀ (c : CurrentCard) (s : State), Dispatching .patch c s → s.spb.patch = none →
    (∀ off, patchError c.image = some off → ∃ t, exec .patch s = .next t ∧ FailsCard c .badField [(128, le 2 off)] s t) ∧
    ∀ id r, patchError c.image = none → id = leRead c.image 16 1 → s.ps.records[id - 1]? = some r →
      (r.state = .empty ∨ r.state = .loading ∨ r.freeing = true →
        ∃ t, exec .patch s = .next t ∧ FailsCard c .notReady [] s t) ∧
      (r.state = .ready ∨ r.state = .retiring → r.freeing = false → exec .patch s = .next { s with
        ports := .hostRead (leRead c.image 24 8) (16 * leRead c.image 18 2) :: s.ports,
        spb := { s.spb with patch := some ⟨c.ref, c.noWait, id, leRead c.image 18 2, leRead c.image 24 8, .reading, [], 0,
          false⟩ } })) ∧
  (∀ b : List Byte, patchError b = none ↔ (1 ≤ leRead b 16 1 ∧ leRead b 16 1 ≤ 16) ∧ (1 ≤ leRead b 18 2 ∧ leRead b 18 2 ≤ 128) ∧
    (leRead b 24 8 ≠ 0 ∧ leRead b 24 8 % 8 = 0)) ∧
  (∀ (b : List Byte) (off : Nat), patchError b = some off ↔ FirstFails [(16, 1 ≤ leRead b 16 1 ∧ leRead b 16 1 ≤ 16),
    (18, 1 ≤ leRead b 18 2 ∧ leRead b 18 2 ≤ 128), (24, leRead b 24 8 ≠ 0 ∧ leRead b 24 8 % 8 = 0)] off) ∧
  (∀ (h : ProfileHeader) (e : Edit), editOk h e = true ↔ e.node < h.nodes ∧ e.mask ≠ 0 ∧ e.mask.toNat < 2 ^ h.channels) ∧
  (∀ (s : State) (data : List Byte), s.power.mainOn = true →
    (∀ i ∈ [Instr.editListReadComplete data, .patchReadError, .editListReadTimeout],
      (∀ n, s.spb.stale = n + 1 → exec i s = .next { s with spb := { s.spb with stale := n } }) ∧
      (s.spb.stale = 0 → (s.spb.patch = none ∨ ∃ p, s.spb.patch = some p ∧ p.phase ≠ .reading) → exec i s = .next s)) ∧
    ∀ c p, s.spb.stale = 0 → s.spb.patch = some p → p.phase = .reading → Dispatching .patch c s →
      (∀ h, (stateSeen (profileOf s p.id) = .ready ∨ stateSeen (profileOf s p.id) = .retiring) →
        (profileOf s p.id).header = some h →
        ((∀ e ∈ parseEdits data p.count, editOk h e = true) → exec (.editListReadComplete data) s = .next { s with
          spb := { s.spb with patch := some { p with phase := .applying, edits := parseEdits data p.count } } }) ∧
        (∀ n, (∃ e, (parseEdits data p.count)[n]? = some e ∧ editOk h e = false) →
          (∀ m e, m < n → (parseEdits data p.count)[m]? = some e → editOk h e = true) →
          ∃ t, exec (.editListReadComplete data) s = .next t ∧ DispatchFinal c .failed .badField [(128, le 2 n)] s t ∧
            t.spb = { s.spb with patch := none } ∧ t.su = raised [.cardFinal] s.su ∧ t.ps = s.ps ∧ t.nc = s.nc ∧
            SameBase s t ∧ SamePrint s t ∧ SameLine s t)) ∧
      (stateSeen (profileOf s p.id) = .empty →
        ((∀ e ∈ parseEdits data p.count, e.mask ≠ 0) →
          ∃ t, exec (.editListReadComplete data) s = .next t ∧ DispatchFinal c .failed .notReady [] s t ∧
            t.spb = { s.spb with patch := none } ∧ t.ps = s.ps ∧ t.nc = s.nc ∧ SameBase s t ∧ SamePrint s t ∧ SameLine s t) ∧
        (∀ n, (∃ e, (parseEdits data p.count)[n]? = some e ∧ e.mask = 0) →
          (∀ m e, m < n → (parseEdits data p.count)[m]? = some e → e.mask ≠ 0) →
          ∃ t, exec (.editListReadComplete data) s = .next t ∧ DispatchFinal c .failed .badField [(128, le 2 n)] s t ∧
            t.spb = { s.spb with patch := none } ∧ t.ps = s.ps ∧ t.nc = s.nc ∧ SameBase s t ∧ SamePrint s t ∧ SameLine s t)) ∧
      (∀ i ∈ [Instr.patchReadError, .editListReadTimeout], ∃ t, exec i s = .next t ∧ DispatchFinal c .failed .readError [] s t ∧
        t.spb = { s.spb with patch := none } ∧ t.su = raised [.cardFinal] (offerFault (.patchReadError p.id) s).su ∧
        t.ps = s.ps ∧ t.nc = s.nc ∧ SameBase s t ∧ SamePrint s t ∧ SameLine s t)) ∧
  ∀ (s : State) (c : CurrentCard) (p : PatchJob) (r : ProfileRecord) (h : ProfileHeader), s.ce.current = some c →
    CardKind.ofByte c.ref.kind = some .patch → s.spb.patch = some p → c.ref = p.card → p.phase ≠ .reading → 1 ≤ p.id →
    s.ps.records[p.id - 1]? = some r → r.state = .retiring → r.refs = 1 → r.header = some h →
    ((releaseProfile p.id s).spb.patch = none ∧
      DispatchFinal c .failed .notReady [(128, le 2 p.cursor)] s (releaseProfile p.id s) ∧
      (drainGranted s p.id = false → loadWriteGranted s p.id = false → Freed p.id h s (releaseProfile p.id s)) ∧
      (drainGranted s p.id = true ∨ loadWriteGranted s p.id = true → (releaseProfile p.id s).ps.free = s.ps.free ∧
        (releaseProfile p.id s).ps.records[p.id - 1]? = some { r with refs := 0, freeing := true }) ∧
      ∀ e ∈ (releaseProfile p.id s).spb.entries, e.id = p.id → ∃ i v, s.ps.arb.busy = some (.shadow (.drain i e.cell v) true)) ∧
    ∀ j k, s.power.mainOn = true → s.pe.state = .ending → s.pe.job = some j → j.card.profileId = p.id → j.comp = some k →
      k.filling = false → j.card.width ≤ k.column → ∃ t, exec .lineBoundary s = .next t ∧ t.spb.patch = none ∧
        DispatchFinal c .failed .notReady [(128, le 2 p.cursor)] s t

/-- Edits and drains. An edit merges into the PENDING entry of its cell; with no entry and room it makes one from the cache line that
holds the cell, or asks for its creation read; otherwise it waits or, with NO_WAIT, fails the card BUSY with its position. The creation
read brings the entry, with its parity error counted, queued and, if the SETUP asks for it, halting the line; a drain write leaves the
value in the store and takes the entry out. A channel that an edit marks takes its value, and the others keep theirs. Damage that a read
meets stays in the store, the position in the results counts from 0, the parity of a read whose value is discarded is not checked, and a
job in ENDING takes the PARITY mark too, by the model's choices (log entries 8, 48, 51, 62). -/
def Obligations.EditsAndDrains : Prop :=
  (∀ (v : CellValue) (e : Edit) (k c : Nat), c < 8 → k ≤ 8 → channel (keepChannels (mergeEdit v e) k) c =
    if c < k then (if e.mask.getLsbD c then channel e.values c else channel v c) else 0) ∧
  (∀ s : State, s.power.mainOn = true →
    (s.spb.patch = none ∨ ∃ p, s.spb.patch = some p ∧ (p.phase ≠ .applying ∨ p.creating = true)) →
    exec .editApply s = .next s) ∧
  (∀ (c : CurrentCard) (s : State) (p : PatchJob) (e : Edit) (r : ProfileRecord) (h : ProfileHeader), Dispatching .patch c s →
    s.spb.patch = some p → p.phase = .applying → p.creating = false → p.edits[p.cursor]? = some e →
    s.ps.records[p.id - 1]? = some r → r.header = some h → ∃ t, exec .editApply s = .next t ∧
      t.ps.mem = s.ps.mem ∧ t.ps.free = s.ps.free ∧ t.nc = s.nc ∧ SameBase s t ∧ SamePrint s t ∧ SameLine s t ∧
      (∀ x, s.spb.entries.find? (fun x => x.cell == h.base + e.node) = some x → x.visible = false →
        (∀ (n : Nat) y, s.spb.entries[n]? = some y → t.spb.entries[n]? = some (if y.cell = h.base + e.node ∧ y.visible = false
          then { y with value := keepChannels (mergeEdit y.value e) h.channels } else y)) ∧
        t.spb.entries.length = s.spb.entries.length ∧ t.ps = s.ps ∧ EditTaken c p s t) ∧
      (s.spb.entries.find? (fun x => x.cell == h.base + e.node) = none → s.spb.entries.length < 2 →
        (∀ v, cacheHolds s (h.base + e.node) = some v →
          t.spb.entries = s.spb.entries ++ [⟨p.id, e.node, h.base + e.node, keepChannels (mergeEdit v e) h.channels,
            !computing s⟩] ∧
          t.ps.records[p.id - 1]? = some { r with version := if computing s then r.version else r.version + 1 } ∧
          EditTaken c p s t) ∧
        (cacheHolds s (h.base + e.node) = none → t.spb = { s.spb with patch := some { p with creating := true } } ∧
          t.ps.records = s.ps.records ∧ t.ce = s.ce ∧ t.su = s.su ∧ t.ports = s.ports ∧
          (s.ps.arb.busy = none → s.ps.arb.fillReq = none → s.ps.arb.shadowReq = none → s.ps.arb.loaderReq = none →
            s.ps.loader = none → (∀ x ∈ s.spb.entries, x.visible = false) →
            t.ps.arb.busy = some (.shadow (.creation p.id e.node (h.base + e.node) h.channels) true)))) ∧
      ((∃ x, s.spb.entries.find? (fun x => x.cell == h.base + e.node) = some x ∧ x.visible = true) ∨
          (s.spb.entries.find? (fun x => x.cell == h.base + e.node) = none ∧ 2 ≤ s.spb.entries.length) →
        t.ps = s.ps ∧ t.spb.entries = s.spb.entries ∧
        (p.noWait = true → t.spb.patch = none ∧
          DispatchFinal c .failed .busy [(128, le 2 p.cursor), (132, le 2 p.cursor)] s t) ∧
        (p.noWait = false → t.spb.patch = some { p with phase := .waiting } ∧ t.ce.state = .stalled ∧
          t.ce.current = s.ce.current ∧ t.su = raised [.chainWaiting] s.su))) ∧
  (∀ (s : State) (dmg : CellDamage) (id node cell k : Nat) (live : Bool), s.power.mainOn = true → StoreCanonical s →
    s.ps.arb.busy = some (.shadow (.creation id node cell k) live) → ∃ t, exec (.creationReadComplete dmg) s = .next t ∧
      (∀ a, storeRead t.ps.mem a = if a = cell then damaged (storeRead s.ps.mem cell) dmg else storeRead s.ps.mem a) ∧
      (live = false → t.spb = s.spb ∧ t.ps.records = s.ps.records ∧ t.ports = s.ports ∧ t.su = s.su ∧ t.ce = s.ce) ∧
      ∀ c p e r, live = true → Dispatching .patch c s → s.spb.patch = some p → p.creating = true →
        p.edits[p.cursor]? = some e → 1 ≤ id → s.ps.records[id - 1]? = some r →
        (badChannels (damaged (storeRead s.ps.mem cell) dmg) k = 0 ∨ haltOnParity s = false →
          t.spb.entries = s.spb.entries ++ [⟨id, node, cell,
            keepChannels (mergeEdit (damaged (storeRead s.ps.mem cell) dmg).bytes e) k, !computing s⟩] ∧ EditTaken c p s t) ∧
        (badChannels (damaged (storeRead s.ps.mem cell) dmg) k = 0 → t.su.faults = s.su.faults ∧ t.tmap = s.tmap ∧ t.wd = s.wd ∧
          t.ps.records[id - 1]? = some { r with version := if computing s then r.version else r.version + 1 }) ∧
        (badChannels (damaged (storeRead s.ps.mem cell) dmg) k ≠ 0 → haltOnParity s = false →
          t.su.faults = (offerFault (.parity id node cell .merge (badChannels (damaged (storeRead s.ps.mem cell) dmg) k))
            s).su.faults ∧ t.wd = s.wd ∧
          t.ps.records[id - 1]? = some { r with
            version := if computing s then r.version else r.version + 1,
            damage := if r.header = none then r.damage else min 255 (r.damage + 1) } ∧
          (∀ j, s.pe.job = some j → t.tmap.segs = s.tmap.segs.map (fun g =>
            if g.start = j.start ∧ j.card.profileId = id then { g with flags := { g.flags with parity := true } } else g))) ∧
        (badChannels (damaged (storeRead s.ps.mem cell) dmg) k ≠ 0 → haltOnParity s = true → s.wd.state ≠ .halted →
          t.wd = ⟨.halted, 0, 0, 0, s.wd.measured, false⟩ ∧ t.su.haltCause = s.su.haltCause.or (some .parity))) ∧
  ∀ s : State, s.power.mainOn = true →
    ((∀ r live, s.ps.arb.busy ≠ some (.shadow r live)) → ∀ dmg, ∀ i ∈ [Instr.creationReadComplete dmg, .drainWriteComplete],
      exec i s = .next s) ∧
    ∀ id cell v live, StoreCanonical s → s.ps.arb.busy = some (.shadow (.drain id cell v) live) →
      ∃ t, exec .drainWriteComplete s = .next t ∧
        (∀ a, storeRead t.ps.mem a = if a = cell then freshCell v else storeRead s.ps.mem a) ∧
        t.spb = { s.spb with entries := if live then s.spb.entries.filter (fun x => x.cell != cell) else s.spb.entries } ∧
        t.ce = { s.ce with offerDue := s.ce.offerDue || (live && s.ce.state == .stalled && currentIs s .patch) } ∧
        t.ps.records = s.ps.records ∧ t.ps.free = s.ps.free ∧ t.ps.loader = s.ps.loader ∧ t.su = s.su ∧ t.ports = s.ports ∧
        SameBase s t ∧ SamePrint s t ∧ SameLine s t

/-- R53: every write to the store, the loader's or a drain's, leaves no cache line that holds the written cell, and leaves a line that
holds another cell; no other command writes the store, but main power-on reset, which brings it up unwritten. A read of an undamaged
cell writes nothing (damage that a read meets is the model's, log entry 8, and is stated elsewhere). -/
def Obligations.CacheIsCleanAfterEveryWrite : Prop :=
  (∀ (s : State) (i : Instr) (cell : Nat) (v : CellValue), s.power.mainOn = true →
    (i = .loaderWriteComplete ∧ ∃ id live, s.ps.arb.busy = some (.loader ⟨id, cell, v⟩ live)) ∨
      (i = .drainWriteComplete ∧ ∃ id live, s.ps.arb.busy = some (.shadow (.drain id cell v) live)) →
    ∃ t, exec i s = .next t ∧ cacheHolds t cell = none ∧ (∀ n, n ≠ cell % 256 → t.nc.lines[n]? = s.nc.lines[n]?) ∧
      (cacheHolds s cell = none → t.nc.lines = s.nc.lines) ∧ (StoreCanonical s → storeRead t.ps.mem cell = freshCell v)) ∧
  ∀ (i : Instr) (s t : State), exec i s = .next t → StoreCanonical s → i ≠ .loaderWriteComplete → i ≠ .drainWriteComplete →
    (∀ d, i = .lookupFillComplete d ∨ i = .creationReadComplete d → d = ⟨0, 0⟩) → (∀ z st, i ≠ .mainPowerOnReset z st) →
    t.ps.mem = s.ps.mem

/-! ## The Print Engine -/

/-- A PRINT card in the order of its checks: SETUP-valid, the fields, the profile, its channels, the fabric, and room in the queue, where
it waits or fails QUEUE_FULL; a card that passes joins the queue's tail, takes its references, and is held. Of several fields out of range
the first by its body offset (chapter 12) is the one named, by the model's reading (log entry 23). -/
def Obligations.PrintCard : Prop :=
  (∀ (c : CurrentCard) (s : State), Dispatching .print c s →
    (s.setup = none → ∃ t, exec .print s = .next t ∧ FailsCard c .wrongState [] s t) ∧
    ∀ g q, s.setup = some g → q = parsePrint c →
      (∀ off, printError g.width q = some off → ∃ t, exec .print s = .next t ∧ FailsCard c .badField [(128, le 2 off)] s t) ∧
      (printError g.width q = none → q.profileId = 0 ∨ 16 < q.profileId →
        ∃ t, exec .print s = .next t ∧ FailsCard c .badField [(128, le 2 32)] s t) ∧
      ∀ r, printError g.width q = none → 1 ≤ q.profileId → q.profileId ≤ 16 → s.ps.records[q.profileId - 1]? = some r →
        (r.state = .empty ∨ r.state = .retiring ∨ r.freeing = true →
          ∃ t, exec .print s = .next t ∧ FailsCard c .unknownProfile [] s t) ∧
        ∀ h, r.state = .ready ∨ r.state = .loading → r.freeing = false → r.header = some h →
          (h.channels ≠ g.bars → ∃ t, exec .print s = .next t ∧ FailsCard c .badField [(128, le 2 32)] s t) ∧
          (h.channels = g.bars → q.fabricId ≠ 0 → (fabricOf s q.fabricId).figures = none →
            ∃ t, exec .print s = .next t ∧ FailsCard c .badField [(128, le 2 33)] s t) ∧
          (h.channels = g.bars → q.fabricId = 0 ∨ (fabricOf s q.fabricId).figures ≠ none →
            (4 ≤ s.pe.queue.length → c.noWait = false → ∃ t, exec .print s = .next t ∧ StallsCard s t) ∧
            (4 ≤ s.pe.queue.length → c.noWait = true → ∃ t, exec .print s = .next t ∧ FailsCard c .queueFull [] s t) ∧
            (s.pe.queue.length < 4 → ∃ t, exec .print s = .next t ∧
              t.pe = { s.pe with queue := s.pe.queue ++ [q], hold := t.pe.hold, firstTest := t.pe.firstTest } ∧
              t.ps.records[q.profileId - 1]? = some { r with refs := r.refs + 1 } ∧
              (∀ n, n ≠ q.profileId - 1 → t.ps.records[n]? = s.ps.records[n]?) ∧
              (q.fabricId = 0 → t.tc = s.tc) ∧
              (∀ f, q.fabricId ≠ 0 → s.tc.fabrics[q.fabricId - 1]? = some f →
                t.tc.fabrics[q.fabricId - 1]? = some { f with refs := f.refs + 1 }) ∧
              (∀ n, n ≠ q.fabricId - 1 → t.tc.fabrics[n]? = s.tc.fabrics[n]?) ∧ t.tc.axes = s.tc.axes ∧
              t.ce = engineAfter s s.ce.outstanding ∧ t.su = s.su ∧ OnlyWrites s t (fun _ => False) ∧ SameBase s t ∧
              t.ps = { s.ps with records := t.ps.records } ∧ t.spb = s.spb ∧ t.nc = s.nc ∧ t.tmap = s.tmap ∧ t.web = s.web ∧
              t.hc = s.hc ∧ t.wd = s.wd ∧ t.rc = s.rc))) ∧
  (∀ (w : Nat) (q : QueuedPrint), printError w q = none ↔ q.raster ≠ 0 ∧ (3 * q.width ≤ q.stride ∧ q.stride ≤ 1048576) ∧
    (1 ≤ q.width ∧ q.width ≤ w) ∧ 1 ≤ q.lines ∧ q.fabricId ≤ 8 ∧ (q.fabricId = 0 ∨ (20 ≤ q.tPlan ∧ q.tPlan ≤ 1000))) ∧
  ∀ (w : Nat) (q : QueuedPrint) (off : Nat), printError w q = some off ↔ FirstFails
    [(16, q.raster ≠ 0), (24, 3 * q.width ≤ q.stride ∧ q.stride ≤ 1048576), (28, 1 ≤ q.width ∧ q.width ≤ w), (30, 1 ≤ q.lines),
     (33, q.fabricId ≤ 8), (34, q.fabricId = 0 ∨ (20 ≤ q.tPlan ∧ q.tPlan ≤ 1000))] off

/-- The start test and the print start. A NO_WAIT card is judged once: the verdict of its first test stands, whatever later tests find,
for as long as it heads the queue (R66). A test finds nothing unmet exactly where the drive is RUNNING, the profile READY or RETIRING, the
zones condition holds, every bar in use is READY, the map has room, and no joint lies in the planned extent with its gap. The print then
starts at the map's start coordinate with the figures of its plan, and its first raster read is issued unless a discarded read is still in
flight; a card that cannot start waits under its hold reason or, with
NO_WAIT, fails NOT_READY with it. That PRINT_START is the one command that starts or fails it is the model's choice (log entry 26). -/
def Obligations.PrintStart : Prop :=
  (∀ (s : State) (q : QueuedPrint) (c : Settings), s.setup = some c →
    (startTest s q = none ↔ s.wd.state = .running ∧
      (stateSeen (profileOf s q.profileId) = .ready ∨ stateSeen (profileOf s q.profileId) = .retiring) ∧
      zonesCondition s = true ∧ (∀ b ∈ s.pe.bars.take c.bars, b.ready = true) ∧ s.tmap.segs.length < 62 ∧
      ∀ j ∈ s.tmap.joints, j.at_ < startCoordinate s ∨
        startCoordinate s + linesOut q.lines (stepOf (stretchOf s q)) * c.pitch + c.jointGap * 1000 ≤ j.at_) ∧
    (∀ h, startTest s q = some h → (h.drive = true ↔ s.wd.state ≠ .running) ∧ (h.zones = true ↔ zonesCondition s = false) ∧
      (h.profile = true ↔ stateSeen (profileOf s q.profileId) = .empty ∨ stateSeen (profileOf s q.profileId) = .loading) ∧
      (h.bars = true ↔ ∃ b ∈ s.pe.bars.take c.bars, b.ready = false) ∧ (h.room = true → 62 ≤ s.tmap.segs.length) ∧
      (s.wd.state = .running →
        stateSeen (profileOf s q.profileId) = .ready ∨ stateSeen (profileOf s q.profileId) = .retiring →
        zonesCondition s = true → (∀ b ∈ s.pe.bars.take c.bars, b.ready = true) →
        (h.room = true ↔ 62 ≤ s.tmap.segs.length) ∧ (h.clearance = true ↔ s.tmap.segs.length < 62 ∧ ∃ j ∈ s.tmap.joints,
          startCoordinate s ≤ j.at_ ∧
          j.at_ < startCoordinate s + linesOut q.lines (stepOf (stretchOf s q)) * c.pitch + c.jointGap * 1000)) ∧
      (h.room = true → h.drive = false ∧ h.profile = false ∧ h.zones = false ∧ h.bars = false ∧ h.clearance = false) ∧
      (h.clearance = true → h.drive = false ∧ h.profile = false ∧ h.zones = false ∧ h.bars = false)) ∧
    (s.tmap.segs = [] → startCoordinate s = s.web.pos) ∧
    ∀ l g, s.tmap.segs = l ++ [g] → startCoordinate s = max s.web.pos (g.endAt.getD (g.start + g.planned))) ∧
  ∀ s : State, s.power.mainOn = true →
    (s.pe.state ≠ .idle ∨ s.pe.queue = [] → exec .printStart s = .next s) ∧
    ∀ q rest, s.pe.state = .idle → s.pe.queue = q :: rest →
      (∀ h, startTest s q = some h → q.noWait = false → exec .printStart s = .next { s with pe := { s.pe with hold := some h } }) ∧
      (∀ h, q.noWait = true → (∀ x, s.pe.firstTest ≠ some (q.card.take, x)) → startTest s q = some h →
        (touchStart s).pe = { s.pe with firstTest := some (q.card.take, h) }) ∧
      (∀ h, q.noWait = true → s.pe.firstTest = some (q.card.take, h) → touchStart s = s) ∧
      (∀ h, q.noWait = true → s.pe.firstTest = some (q.card.take, h) ∨
          ((∀ x, s.pe.firstTest ≠ some (q.card.take, x)) ∧ startTest s q = some h) → ∃ t, exec .printStart s = .next t ∧
        CardFinal q.card .failed .notReady t ∧ HostHolds t (q.card.addr + 128) (le 2 h.marks) ∧
        t.pe.queue = s.pe.queue.filter (fun x => x.card.take != q.card.take) ∧ t.pe.state = .idle ∧ t.pe.job = s.pe.job ∧
        ((profileOf s q.profileId).state ≠ .retiring → t.ce = offeredAgain .print (engineFinal q.card s.ce)) ∧
        t.tmap = s.tmap ∧ t.wd = s.wd ∧ t.setup = s.setup) ∧
      (∀ (i : Instr) (t : State) (h : HoldReason), s.pe.firstTest = some (q.card.take, h) → exec i s = .next t →
        t.pe.queue.head? = some q → t.pe.firstTest = some (q.card.take, h)) ∧
      ∀ c h, startTest s q = none → (q.noWait = true → ∀ x, s.pe.firstTest ≠ some (q.card.take, x)) → s.setup = some c →
        (profileOf s q.profileId).header = some h → ∃ t, exec .printStart s = .next t ∧
          (∃ g, t.tmap = ⟨s.tmap.segs ++ [g], s.tmap.joints⟩ ∧ g.card = some q.card ∧ g.tag = q.card.tag ∧
            g.start = startCoordinate s ∧ g.endAt = none ∧
            g.planned = linesOut q.lines (stepOf (stretchOf s q)) * c.pitch ∧ g.profileId = q.profileId ∧
            g.fabricId = (if q.fabricId = 0 then none else some q.fabricId) ∧ g.vPlan = s.wd.running ∧
            g.lo = windowLo s.wd.running h.tol ∧ g.hi = windowHi s.wd.running h.tol c.vMax ∧ g.tOnset = h.tOnset ∧ g.tol = h.tol ∧
            g.tPlan = (if q.fabricId = 0 then none else some q.tPlan) ∧ g.eps = stretchOf s q ∧
            g.dPlan = (s.hc.zones.take c.zones).map (fun z => planDose z.sp h.tOnset c.lW s.wd.running) ∧
            g.gains = g.dPlan.map (gainOf h) ∧ g.off = g.dPlan.map (· == 0) ∧ g.dLead = g.dPlan.map (fun _ => 0) ∧
            g.dTrail = g.dLead ∧ g.emitted = 0 ∧ g.late = 0 ∧ g.firstVersion = none ∧ g.lastVersion = none ∧
            g.tensionMax = 0 ∧ g.spoil = none ∧ g.flags = ⟨false, false, false, false, false, false, false⟩ ∧
            g.leadNip = false ∧ g.trailNip = false ∧ g.leadExit = false) ∧
          t.pe = { s.pe with
            queue := rest, state := .printing, hold := none, read := t.pe.read,
            job := some ⟨q, startCoordinate s, stepOf (stretchOf s q), linesOut q.lines (stepOf (stretchOf s q)), 0, 0, [], [],
              none, 0, 0⟩ } ∧
          (s.pe.read = none → 0 < q.lines → t.pe.read = some ⟨0, true⟩ ∧
            t.ports.head? = some (.hostRead q.raster (3 * q.width))) ∧
          (∀ r, s.pe.read = some r → t.pe.read = some r ∧ t.ports =
            if irqSummary (raiseEvent .printing s) && !irqSummary s then .interrupt :: s.ports else s.ports) ∧
          t.su = raised [.printing] s.su ∧ t.ce = offeredAgain .print s.ce ∧
          OnlyWrites s t (fun _ => False) ∧ SameBase s t ∧ SameStore s t ∧ SameLine s t

/-- The raster reads of a print. A line that the window needs enters it and the next read follows while the window holds fewer than 4
lines; the end of a read that no job needs, or that the window of the job that stands no longer needs, is dropped whatever it is, and the
next read follows as well; and a needed read that fails spoils the strip with RASTER, queues its fault, ends the print with the card
PRINTED and its first-stage results, and ends the job, which releases its profile. -/
def Obligations.RasterReads : Prop :=
  ∀ s : State, s.power.mainOn = true →
    (∀ data, s.pe.read = none → ∀ i ∈ [Instr.rasterReadComplete data, .rasterReadError, .rasterReadTimeout],
      exec i s = .next s) ∧
    (∀ data, s.pe.job = none → ∀ i ∈ [Instr.rasterReadComplete data, .rasterReadError, .rasterReadTimeout],
      exec i s = .next { s with pe := { s.pe with read := none } }) ∧
    (∀ r j data w, s.pe.read = some r → r.live = true → s.pe.state = .printing → s.pe.job = some j → sourceLine j.acc ≤ r.line →
      w = (j.window ++ [(r.line, data)]).filter (fun l => sourceLine j.acc ≤ l.1) →
      ∃ t, exec (.rasterReadComplete data) s = .next t ∧
        t = { s with pe := { s.pe with job := some { j with window := w }, read := t.pe.read }, ports := t.ports } ∧
        (w.length < 4 → r.line + 1 < j.card.lines → t.pe.read = some ⟨r.line + 1, true⟩ ∧
          t.ports = .hostRead (j.card.raster + (r.line + 1) * j.card.stride) (3 * j.card.width) :: s.ports) ∧
        (4 ≤ w.length ∨ j.card.lines ≤ r.line + 1 → t.pe.read = none ∧ t.ports = s.ports)) ∧
    (∀ r j data w, s.pe.read = some r → s.pe.job = some j →
      r.live = false ∨ s.pe.state ≠ .printing ∨ r.line < sourceLine j.acc →
      w = j.window.filter (fun l => sourceLine j.acc ≤ l.1) →
      ∀ i ∈ [Instr.rasterReadComplete data, .rasterReadError, .rasterReadTimeout], ∃ t, exec i s = .next t ∧
        t = { s with pe := { s.pe with job := some { j with window := w }, read := t.pe.read }, ports := t.ports } ∧
        ∀ n, (w = [] → n = sourceLine j.acc) → (∀ l, w.getLast? = some l → n = l.1 + 1) →
          (s.pe.state = .printing → w.length < 4 → n < j.card.lines → t.pe.read = some ⟨n, true⟩ ∧
            t.ports = .hostRead (j.card.raster + n * j.card.stride) (3 * j.card.width) :: s.ports) ∧
          (s.pe.state ≠ .printing ∨ 4 ≤ w.length ∨ j.card.lines ≤ n → t.pe.read = none ∧ t.ports = s.ports)) ∧
    ∀ r j i kind, s.pe.read = some r → r.live = true → s.pe.state = .printing → s.pe.job = some j → sourceLine j.acc ≤ r.line →
      (i = .rasterReadError ∧ kind = .error) ∨ (i = .rasterReadTimeout ∧ kind = .timeout) → ∃ t, exec i s = .next t ∧
        t.pe = { s.pe with job := none, state := .idle, read := none, hold := t.pe.hold, firstTest := t.pe.firstTest } ∧
        t.su.faults = (offerFault (.rasterReadError j.card.card.tag r.line kind) s).su.faults ∧
        t.tmap = ⟨s.tmap.segs.map (fun g => if g.start = j.start then { g with
          spoil := g.spoil.or (some .raster), endAt := some (g.start + max 1 j.fallen * pitchOf s) } else g), s.tmap.joints⟩ ∧
        ((profileOf s j.card.profileId).state ≠ .retiring ∨ s.spb.patch = none → 0 < pitchOf s →
          ∀ g c, t.tmap.segs.find? (fun g => g.start == j.start) = some g → g.card = some c →
            PrintedCard t c (pitchOf s) (max 1 j.fallen) g) ∧
        (NotFreed j.card.profileId s → (∀ e ∈ s.spb.entries, 1 ≤ e.id) → t.ce = s.ce ∧
          t.spb = { s.spb with entries :=
            if j.comp = none then s.spb.entries else s.spb.entries.map fun e => { e with visible := true } } ∧
          ∀ (n : Nat) p, s.ps.records[n]? = some p → t.ps.records[n]? =
            some { (if j.comp = none then p else afterVisibility s (n + 1) p) with
              refs := if n = j.card.profileId - 1 then p.refs - 1 else p.refs }) ∧
        (∀ p h, s.ps.records[j.card.profileId - 1]? = some p → p.state = .retiring → p.refs ≤ 1 → p.header = some h →
          1 ≤ j.card.profileId → (∀ e ∈ s.spb.entries, 1 ≤ e.id) → NoLoadFor j.card.profileId s →
          FreedAtRelease j.card.profileId (if j.comp = none then p else afterVisibility s j.card.profileId p) t ∧
          ExtentAtRelease j.card.profileId h s t) ∧
        t.ps.mem = s.ps.mem ∧ t.nc = s.nc ∧ SameBase s t ∧ SameLine s t

/-- A line's computation: it begins where the cursor's line has its source line, a free slot and time, and reads the profile's version
into the strip; each lookup is served from a VISIBLE entry, from the cache line, or by a fill, and its value is weighted into the column;
a completed fill serves its lookup and writes the cache line if its parity is good, and otherwise counts, queues and flags the error and,
if the SETUP asks for it, halts the line; the fill of a computation that was abandoned does the same, but serves and counts no lookup
(R52; what it does after its profile has been freed, or after a software reset, is the model's, log entries 19 and 39). The lookup held
behind a completed fill, if it misses too, has its own fill waiting when the port is granted, so that a shadow and a loader request without
credit stay behind it, and otherwise those get the free port at once (R39, R50, by the reading of log entry 59). A column's gain is
its zone's in the strip's plan (R74). Damage that a read meets stays in the store, a line begins while no position update has
reached it, and a job in ENDING takes the PARITY mark too, by the model's choices (log entries 8, 15, 62). -/
def Obligations.LineComputation : Prop :=
  (∀ s : State, s.power.mainOn = true →
    (s.pe.job = none ∨ s.pe.state ≠ .printing ∨ (∃ j, s.pe.job = some j ∧ (j.comp.isSome = true ∨ 2 ≤ j.slots.length ∨
        j.nOut ≤ j.cursor ∨ j.cursor < j.reached ∨ ∀ l ∈ j.window, l.1 ≠ sourceLine j.acc)) →
      exec .lineComputationBegin s = .next s) ∧
    ∀ j l h, s.pe.state = .printing → s.pe.job = some j → j.comp = none → j.slots.length < 2 → j.cursor < j.nOut →
      j.reached ≤ j.cursor → j.window.find? (fun l => l.1 == sourceLine j.acc) = some l →
      (profileOf s j.card.profileId).header = some h → exec .lineComputationBegin s = .next { s with
        tmap := ⟨s.tmap.segs.map (fun g => if g.start = j.start then { g with
          firstVersion := some (g.firstVersion.getD (profileOf s j.card.profileId).version),
          lastVersion := some (profileOf s j.card.profileId).version,
          flags := { g.flags with
            patched := g.flags.patched ||
              g.firstVersion.getD (profileOf s j.card.profileId).version != (profileOf s j.card.profileId).version } } else g),
          s.tmap.joints⟩,
        pe := { s.pe with job := some { j with comp := some ⟨j.cursor, (profileOf s j.card.profileId).version, l.2, 0, 0, false,
          List.replicate h.channels 0, []⟩ } } }) ∧
  (∀ s : State, s.power.mainOn = true →
    (s.pe.job = none ∨ (∃ j, s.pe.job = some j ∧ (j.comp = none ∨ ∃ c, j.comp = some c ∧
      (c.filling = true ∨ j.card.width ≤ c.column))) → exec .lookup s = .next s) ∧
    ∀ j c h cell, s.pe.job = some j → j.comp = some c → c.filling = false → c.column < j.card.width →
      (profileOf s j.card.profileId).header = some h → cell = h.base + cornerNode h.grid c.corner (pixelInput c) →
      (∀ e, s.spb.entries.find? (fun e => e.cell == cell && e.visible) = some e → exec .lookup s = .next { s with
        nc := { s.nc with shadowHits := s.nc.shadowHits + 1 },
        pe := { s.pe with job := some { j with
          comp := some (takeCorner h.grid h.channels (columnGain s j c) e.value c) } } }) ∧
      (∀ v, s.spb.entries.find? (fun e => e.cell == cell && e.visible) = none → cacheHolds s cell = some v →
        exec .lookup s = .next { s with
          nc := { s.nc with cacheHits := s.nc.cacheHits + 1 },
          pe := { s.pe with job := some { j with
            comp := some (takeCorner h.grid h.channels (columnGain s j c) v c) } } }) ∧
      (s.spb.entries.find? (fun e => e.cell == cell && e.visible) = none → cacheHolds s cell = none →
        ∃ t, exec .lookup s = .next t ∧
          t = { s with
            ps := { s.ps with arb := t.ps.arb },
            pe := { s.pe with job := some { j with comp := some { c with filling := true } } } } ∧
          (PortQuiet s ∨ (s.ps.arb.busy = none ∧ s.ps.arb.shadowCredit = false ∧ s.ps.arb.loaderCredit = false) →
            t.ps.arb.busy = some (.fill ⟨j.card.profileId, cornerNode h.grid c.corner (pixelInput c), cell, h.channels⟩ true)))) ∧
  (∀ (s : State) (j : PrintJob) (c : Computation) (g : Settings) (e : Segment) (x : Nat), s.setup = some g →
    s.tmap.segs.find? (fun e => e.start == j.start) = some e → e.gains[columnZone c.column g.zones g.width]? = some x →
    columnGain s j c = x) ∧
  (∀ (n k gain : Nat) (v : CellValue) (c : Computation),
    (c.corner < 7 → takeCorner n k gain v c = { c with
      corner := c.corner + 1, filling := false,
      sums := (List.range k).map fun i => nth c.sums i 0 + (channel v i).toNat * cornerWeight n c.corner (pixelInput c) }) ∧
    (c.corner = 7 → takeCorner n k gain v c = { c with
      column := c.column + 1, corner := 0, filling := false, sums := List.replicate k 0,
      cols := ((List.range k).map fun i => BitVec.ofNat 8 (min 255 (((nth c.sums i 0 +
        (channel v i).toNat * cornerWeight n 7 (pixelInput c) + 2048) / 4096 * gain + 2048) / 4096))) :: c.cols })) ∧
  ∀ (s : State) (dmg : CellDamage), s.power.mainOn = true →
    ((∀ r live, s.ps.arb.busy ≠ some (.fill r live)) → exec (.lookupFillComplete dmg) s = .next s) ∧
    ∀ r live cell, StoreCanonical s → s.ps.arb.busy = some (.fill r live) →
      cell = damaged (storeRead s.ps.mem r.cell) dmg → ∃ t, exec (.lookupFillComplete dmg) s = .next t ∧
        (∀ a, storeRead t.ps.mem a = if a = r.cell then cell else storeRead s.ps.mem a) ∧
        (live = false → badChannels cell r.channels = 0 → t.pe = s.pe ∧ t.su = s.su ∧ t.tmap = s.tmap ∧ t.wd = s.wd ∧
          t.ps.records = s.ps.records ∧ t.nc = { s.nc with lines := t.nc.lines } ∧
          (∀ n, n ≠ r.cell % 256 → t.nc.lines[n]? = s.nc.lines[n]?) ∧
          (s.nc.lines.length = 256 → cacheHolds t r.cell = some cell.bytes)) ∧
        (live = false → badChannels cell r.channels ≠ 0 → t.nc = s.nc ∧
          (haltOnParity s = false → t.pe = s.pe ∧ t.wd = s.wd ∧
            t.su.faults = (offerFault (.parity r.id r.node r.cell .fill (badChannels cell r.channels)) s).su.faults ∧
            (∀ p, 1 ≤ r.id → s.ps.records[r.id - 1]? = some p → t.ps.records[r.id - 1]? = some { p with
              damage := if p.header = none then p.damage else min 255 (p.damage + 1) }) ∧
            ∀ j, s.pe.job = some j → t.tmap.segs = s.tmap.segs.map (fun g =>
              if g.start = j.start ∧ j.card.profileId = r.id then { g with flags := { g.flags with parity := true } } else g)) ∧
          (haltOnParity s = true → s.wd.state ≠ .halted →
            t.wd = ⟨.halted, 0, 0, 0, s.wd.measured, false⟩ ∧ t.su.haltCause = s.su.haltCause.or (some .parity))) ∧
        ∀ j c h p, live = true → s.pe.job = some j → j.comp = some c → 1 ≤ r.id → s.ps.records[r.id - 1]? = some p →
          p.header = some h → s.nc.lines.length = 256 →
          (badChannels cell r.channels = 0 ∨ haltOnParity s = false → t.nc.fills = s.nc.fills + 1 ∧ t.wd = s.wd ∧
            ∀ k, k = takeCorner h.grid h.channels (columnGain s j c) cell.bytes c →
              (∀ f, HeldFill t j k f → t.pe = { s.pe with job := some { j with comp := some { k with filling := true } } } ∧
                (s.ps.arb.shadowCredit = false → s.ps.arb.loaderCredit = false → t.ps.arb.busy = some (.fill f true) ∧
                  t.ps.arb.shadowCredit = false ∧ t.ps.arb.loaderCredit = false ∧
                  (∀ w, s.ps.arb.shadowReq = some w → t.ps.arb.shadowReq = some w) ∧
                  ∀ w, s.ps.arb.loaderReq = some w → t.ps.arb.loaderReq = some w)) ∧
              ((∀ f, ¬ HeldFill t j k f) → t.pe = { s.pe with job := some { j with comp := some k } } ∧
                (s.ps.arb.fillReq = none → s.ps.arb.shadowCredit = false → s.ps.arb.loaderCredit = false →
                  (∀ w, s.ps.arb.shadowReq = some w → t.ps.arb.busy = some (.shadow w true)) ∧
                  (∀ w, s.ps.arb.loaderReq = some w → t.ps.arb.busy ≠ none)))) ∧
          (badChannels cell r.channels = 0 → cacheHolds t r.cell = some cell.bytes ∧ t.su = s.su ∧ t.tmap = s.tmap ∧
            t.ps.records = s.ps.records ∧ ∀ n, n ≠ r.cell % 256 → t.nc.lines[n]? = s.nc.lines[n]?) ∧
          (badChannels cell r.channels ≠ 0 → haltOnParity s = false ∨ s.wd.state ≠ .halted → t.nc.lines = s.nc.lines ∧
            t.su.faults = (offerFault (.parity r.id r.node r.cell .fill (badChannels cell r.channels)) s).su.faults) ∧
          (badChannels cell r.channels ≠ 0 → haltOnParity s = false →
            t.ps.records[r.id - 1]? = some { p with damage := min 255 (p.damage + 1) } ∧
            t.tmap.segs = s.tmap.segs.map (fun g =>
              if g.start = j.start ∧ j.card.profileId = r.id then { g with flags := { g.flags with parity := true } } else g)) ∧
          (badChannels cell r.channels ≠ 0 → haltOnParity s = true → s.wd.state ≠ .halted →
            t.wd = ⟨.halted, 0, 0, 0, s.wd.measured, false⟩ ∧ t.su.haltCause = s.su.haltCause.or (some .parity) ∧
            t.pe.job = none)

/-- The line boundary and the line that falls due. At the boundary the finished line is placed, or discarded if it has fallen due, the
cursor moves on, every PENDING entry becomes VISIBLE with one version step for each profile, both credits are set, of which the first grant
of a free port takes one, and in ENDING the job ends. A line that falls due is sent from its slot to every bar in use if all can receive
it, and otherwise it is late, which past the limit spoils the strip; so does the last one, which then ends the print with the card PRINTED
and its first-stage results, and ends the job, which releases its profile, unless its last computation still runs. That a position update
marks the lines and LINE_DUE takes them one by one is the model's choice (log entry 15). -/
def Obligations.LineBoundaryAndLineDue : Prop :=
  (∀ s : State, s.power.mainOn = true →
    (s.pe.job = none ∨ (∃ j, s.pe.job = some j ∧ (j.comp = none ∨ ∃ c, j.comp = some c ∧
      (c.filling = true ∨ c.column < j.card.width))) → exec .lineBoundary s = .next s) ∧
    ∀ j c, s.pe.job = some j → j.comp = some c → c.filling = false → j.card.width ≤ c.column →
      ∃ t, exec .lineBoundary s = .next t ∧
        (s.pe.state = .printing → (∀ e ∈ s.spb.entries, 1 ≤ e.id) →
          t.spb = { s.spb with entries := s.spb.entries.map fun e => { e with visible := true } } ∧
          (∀ (n : Nat) r, s.ps.records[n]? = some r → t.ps.records[n]? = some { r with
            version := if (s.spb.entries.any fun e => e.id == n + 1 && !e.visible) then r.version + 1 else r.version }) ∧
          ∃ k, t.pe.job = some k ∧ k.comp = none ∧ k.cursor = max (c.line + 1) j.fallen ∧ k.acc = k.cursor * j.step ∧
            k.slots = (if c.line < j.reached then j.slots else j.slots ++ [⟨c.line, c.version, c.cols.reverse⟩]) ∧
            k.window = j.window.filter (fun l => sourceLine k.acc ≤ l.1) ∧ k.fallen = j.fallen ∧ k.reached = j.reached ∧
            t.pe.queue = s.pe.queue ∧ t.pe.state = .printing ∧ t.tmap = s.tmap ∧ t.su = s.su ∧ t.ce = s.ce ∧
            OnlyWrites s t (fun _ => False) ∧ SameBase s t ∧ t.nc = s.nc ∧ SameLine s t) ∧
        (s.pe.state = .printing → PortQuiet s → s.spb.entries = [] →
          t.ps.arb = ⟨none, none, none, none, true, true⟩) ∧
        (s.pe.state = .printing ∨ (s.pe.state = .ending ∧ NotFreed j.card.profileId s) →
          (∀ b, s.ps.arb.busy = some b → t.ps.arb.busy = some b ∧ t.ps.arb.shadowCredit = true ∧ t.ps.arb.loaderCredit = true) ∧
          (s.ps.arb.busy = none →
            (∀ w, s.ps.arb.shadowReq = some w → t.ps.arb.busy = some (.shadow w true) ∧ t.ps.arb.shadowReq = none ∧
              t.ps.arb.shadowCredit = false ∧ t.ps.arb.loaderCredit = true) ∧
            (∀ e rest, s.ps.arb.shadowReq = none → s.spb.entries = e :: rest →
              t.ps.arb.busy = some (.shadow (.drain e.id e.cell e.value) true) ∧ t.ps.arb.shadowCredit = false ∧
              t.ps.arb.loaderCredit = true) ∧
            (∀ w, s.ps.arb.shadowReq = none → s.spb.entries = [] → s.spb.patch = none → s.ps.arb.loaderReq = some w →
              t.ps.arb.busy = some (.loader w true) ∧ t.ps.arb.shadowCredit = true ∧ t.ps.arb.loaderCredit = false))) ∧
        (s.pe.state = .ending → t.pe.job = none ∧ t.pe.state = .idle ∧ t.pe.queue = s.pe.queue ∧
          t.pe.read = s.pe.read.map (fun r => { r with live := false }) ∧ t.tmap = s.tmap ∧ t.ps.mem = s.ps.mem ∧
          t.su.faults = s.su.faults ∧ t.nc = s.nc ∧ SameBase s t ∧ SameLine s t ∧ (∀ e ∈ t.spb.entries, e.visible = true)) ∧
        (s.pe.state = .ending → (∀ e ∈ s.spb.entries, 1 ≤ e.id) → NotFreed j.card.profileId s →
          t.spb = { s.spb with entries := s.spb.entries.map fun e => { e with visible := true } } ∧
          (∀ (n : Nat) r, s.ps.records[n]? = some r → t.ps.records[n]? = some { afterVisibility s (n + 1) r with
            refs := if n = j.card.profileId - 1 then r.refs - 1 else r.refs }) ∧
          t.ps.free = s.ps.free ∧ t.su = s.su ∧ t.ce = s.ce ∧ OnlyWrites s t (fun _ => False)) ∧
        ∀ r h, s.pe.state = .ending → (∀ e ∈ s.spb.entries, 1 ≤ e.id) → 1 ≤ j.card.profileId →
          s.ps.records[j.card.profileId - 1]? = some r → r.state = .retiring → r.refs ≤ 1 → r.header = some h →
          NoLoadFor j.card.profileId s →
          FreedAtRelease j.card.profileId (afterVisibility s j.card.profileId r) t ∧ ExtentAtRelease j.card.profileId h s t) ∧
  ∀ (s : State) (j : PrintJob) (c : Settings), s.power.mainOn = true → s.pe.job = some j → s.setup = some c →
    (j.reached ≤ j.fallen ∨ s.pe.state ≠ .printing → exec .lineDue s = .next s) ∧
    (s.pe.state = .printing → j.fallen < j.reached → j.fallen + 1 ≠ j.nOut → ∃ t k, exec .lineDue s = .next t ∧
      t.pe.job = some k ∧ k.fallen = j.fallen + 1 ∧ k.reached = j.reached ∧ k.comp = j.comp ∧
      k.slots = j.slots.filter (fun l => l.line != j.fallen) ∧
      k.cursor = (if j.comp = none ∧ j.cursor = j.fallen then j.fallen + 1 else j.cursor) ∧
      (k.cursor = j.cursor → k.acc = j.acc) ∧ (k.cursor ≠ j.cursor → k.acc = k.cursor * j.step) ∧
      (∀ l, j.slots.find? (fun l => l.line == j.fallen) = some l →
        (∀ b ∈ s.pe.bars.take c.bars, b.ready = true ∧ 1 ≤ b.room) →
        .headLine s.pe.seq ((List.range c.bars).map fun k => (List.range c.width).map fun i =>
          ((l.columns[i]?).getD [])[k]?.getD 0) ∈ t.ports ∧
        t.pe.seq = s.pe.seq + 1 ∧
        t.pe.bars = (s.pe.bars.take c.bars).map (fun b => { b with room := b.room - 1 }) ++ s.pe.bars.drop c.bars ∧
        t.tmap.segs = s.tmap.segs.map (fun g => if g.start = j.start then { g with emitted := g.emitted + 1 } else g)) ∧
      (j.slots.find? (fun l => l.line == j.fallen) = none ∨ (∃ b ∈ s.pe.bars.take c.bars, b.ready = false ∨ b.room = 0) →
        t.pe.seq = s.pe.seq ∧ t.pe.bars = s.pe.bars ∧
        t.tmap.segs = s.tmap.segs.map (fun g => if g.start = j.start then { g with
          late := g.late + 1, flags := { g.flags with late := true },
          spoil := if c.lateLimit < g.late + 1 then g.spoil.or (some .late) else g.spoil } else g)) ∧
      t.tmap.joints = s.tmap.joints ∧ t.pe.queue = s.pe.queue ∧ t.pe.state = .printing ∧ SameStore s t ∧ SameBase s t ∧
      t.su = s.su ∧ t.ce = s.ce ∧ OnlyWrites s t (fun _ => False) ∧ SameLine s t) ∧
    (s.pe.state = .printing → j.fallen < j.reached → j.fallen + 1 = j.nOut → ∃ t, exec .lineDue s = .next t ∧
      (j.comp = none → t.pe.job = none ∧ t.pe.state = .idle) ∧ (j.comp ≠ none → t.pe.state = .ending ∧ ∃ k, t.pe.job = some k ∧
        k = { j with fallen := j.nOut, slots := j.slots.filter (fun l => l.line != j.fallen), window := [] }) ∧
      t.pe.read = s.pe.read.map (fun r => { r with live := false }) ∧
      (∀ l, j.slots.find? (fun l => l.line == j.fallen) = some l →
        (∀ b ∈ s.pe.bars.take c.bars, b.ready = true ∧ 1 ≤ b.room) →
        .headLine s.pe.seq ((List.range c.bars).map fun k => (List.range c.width).map fun i =>
          ((l.columns[i]?).getD [])[k]?.getD 0) ∈ t.ports ∧
        t.pe.seq = s.pe.seq + 1 ∧
        t.pe.bars = (s.pe.bars.take c.bars).map (fun b => { b with room := b.room - 1 }) ++ s.pe.bars.drop c.bars ∧
        t.tmap.segs = s.tmap.segs.map (fun g => if g.start = j.start then { g with
          emitted := g.emitted + 1, endAt := some (g.start + j.nOut * c.pitch) } else g)) ∧
      (j.slots.find? (fun l => l.line == j.fallen) = none ∨ (∃ b ∈ s.pe.bars.take c.bars, b.ready = false ∨ b.room = 0) →
        t.pe.seq = s.pe.seq ∧ t.pe.bars = s.pe.bars ∧
        t.tmap.segs = s.tmap.segs.map (fun g => if g.start = j.start then { g with
          late := g.late + 1, flags := { g.flags with late := true },
          spoil := if c.lateLimit < g.late + 1 then g.spoil.or (some .late) else g.spoil,
          endAt := some (g.start + j.nOut * c.pitch) } else g)) ∧
      ((profileOf s j.card.profileId).state ≠ .retiring ∨ s.spb.patch = none ∨ j.comp ≠ none → 0 < c.pitch →
        ∀ g r, t.tmap.segs.find? (fun g => g.start == j.start) = some g → g.card = some r → PrintedCard t r c.pitch j.nOut g) ∧
      (j.comp ≠ none → t.su = s.su ∧ t.ce = s.ce ∧ SameStore s t) ∧
      (j.comp = none → NotFreed j.card.profileId s → t.su = s.su ∧ t.ce = s.ce ∧ t.ps = { s.ps with records := t.ps.records } ∧
        t.spb = s.spb ∧ ∀ (n : Nat) p, s.ps.records[n]? = some p → t.ps.records[n]? = some { p with
          refs := if n = j.card.profileId - 1 then p.refs - 1 else p.refs }) ∧
      (∀ p h, j.comp = none → s.ps.records[j.card.profileId - 1]? = some p → p.state = .retiring → p.refs ≤ 1 →
        p.header = some h → NoLoadFor j.card.profileId s →
        FreedAtRelease j.card.profileId p t ∧ ExtentAtRelease j.card.profileId h s t) ∧
      t.tmap.joints = s.tmap.joints ∧ t.pe.queue = s.pe.queue ∧ t.su.faults = s.su.faults ∧ t.ps.mem = s.ps.mem ∧
      t.nc = s.nc ∧ SameBase s t ∧ SameLine s t)

/-! ## The status page -/

/-- STATUS_PAGE_WRITE: with a line book, the refresh count, the body and the count again are written, in that order, at offset 4096, and
the count has risen by one; what the body holds at its first offsets, the input records among them, and at those of the sections, with whole
profile and zone records, the drive's figures, and the sections of the shadow buffer, of the tension and of the roll changes; no page is
written while BOOK_BASE is 0. The size of a figure that R178 does not name, the place of a figure within its section, the level that an
input gives, the absent temperature of a zone not in use, what stands for a figure of a SETUP that is not valid, and codes that no table
gives are the model's choices (log entries 27, 33, 11). -/
def Obligations.StatusPageWrite : Prop :=
  ∀ s : State, s.power.mainOn = true → (s.regs.bookBase = 0 → exec .statusPageWrite s = .next s) ∧
    (s.regs.bookBase ≠ 0 → ∃ t base, base = s.regs.bookBase.toNat + 4096 ∧ exec .statusPageWrite s = .next t ∧
      t = { s with su := { s.su with refresh := s.su.refresh + 1, pageDue := false }, ports := t.ports } ∧
      (∃ first body last, t.ports = .hostWrite last :: .hostWrite body :: .hostWrite first :: s.ports ∧
        first.map (·.2) = le 4 (s.su.refresh + 1).toNat ∧ last.map (·.2) = first.map (·.2)) ∧
      HostHolds t base (le 4 (s.su.refresh + 1).toNat) ∧ HostHolds t (base + 4092) (le 4 (s.su.refresh + 1).toNat) ∧
      HostHolds t (base + 4) (le 4 (conditionWord s)) ∧ HostHolds t (base + 8) (le 4 s.su.events.toNat) ∧
      HostHolds t (base + 12) (le 4 s.regs.irqEnable.toNat) ∧ HostHolds t (base + 16) (faultSlot s) ∧
      HostHolds t (base + 48) (le 1 s.su.faults.length) ∧
      HostHolds t (base + 49) [(s.su.haltCause.map (·.code)).getD 0] ∧
      HostHolds t (base + 64) [s.ce.state.code] ∧ HostHolds t (base + 128) (le 6 s.web.pos) ∧
      HostHolds t (base + 134) (le 2 s.tmap.segs.length) ∧ HostHolds t (base + 136) (le 2 s.tmap.joints.length) ∧
      HostHolds t (base + 256) [s.pe.state.code] ∧
      (s.ps.records.length = 16 → ∀ (n : Nat) r, s.ps.records[n]? = some r → HostHolds t (base + 384 + 24 * n)
        ([r.state.code] ++ leOpt 2 (r.header.map (·.grid)) ++ leOpt 2 (r.header.map (·.channels)) ++
          leOpt 4 (r.header.map (·.base)) ++ leOpt 2 (r.header.map (·.nodes)) ++ le 2 r.refs ++ le 2 r.version.toNat ++
          le 2 r.damage)) ∧
      (∀ n, n < 8 → (∀ z, s.hc.zones[n]? = some z → n < zonesInUse s → HostHolds t (base + 960 + 32 * n)
          ([z.state.code] ++ le 2 z.sp ++ le 2 z.band ++ leInt 2 z.tMeas ++ le 2 z.duty ++ le 2 z.onTime ++ le 2 z.integ ++
            mark z.latch)) ∧
        (zonesInUse s ≤ n → HostHolds t (base + 960 + 32 * n) ([ZoneState.off.code] ++ List.replicate 4 255 ++ [0, 128] ++
          List.replicate 10 255 ++ List.replicate 15 0))) ∧
      HostHolds t (base + 1280) ([s.wd.state.code] ++ le 2 s.wd.requested ++ le 2 s.wd.target ++ le 2 s.wd.running ++
        le 2 s.wd.measured.toNat ++ leOpt 2 (s.setup.map (·.rampRate)) ++ leOpt 2 (s.setup.map (·.vMax)) ++
        [(s.su.haltCause.map (·.code)).getD 0] ++ le 2 (lineWindow s).1) ∧
      (s.setup ≠ none → HostHolds t (base + 1296) (le 2 (lineWindow s).2)) ∧
      (s.su.inputs.length = 8 → ∀ (n : Nat) r, s.su.inputs[n]? = some r → HostHolds t (base + 50 + n)
        (le 1 (markSet [r.level == some true, r.activeHigh, r.active, r.level.isNone]))) ∧
      (∀ n, n < 2 → (∀ e, s.spb.entries[n]? = some e → HostHolds t (base + 896 + 6 * n)
          (le 1 e.id ++ le 4 e.node ++ [Config.unstatedCode .shadowState (if e.visible then 1 else 0)])) ∧
        (s.spb.entries.length ≤ n → HostHolds t (base + 896 + 6 * n) (List.replicate 6 255))) ∧
      HostHolds t (base + 908) ([patchCode (s.spb.patch.map (·.phase))] ++ leOpt 4 (s.spb.patch.map (·.card.tag.toNat)) ++
        leOpt 2 (s.spb.patch.map (·.cursor)) ++ le 4 s.nc.shadowHits.toNat ++ le 4 s.nc.cacheHits.toNat ++
        le 4 s.nc.fills.toNat) ∧
      (s.tc.axes.length = 4 →
        (∀ (n : Nat) a, s.tc.axes[n]? = some a → HostHolds t (base + 1344 + 19 * n) ([a.state.code] ++ le 2 a.tSp ++
          le 1 a.kp ++ le 1 a.ki ++ (match a.source with
            | .setup => Config.unstatedCode .axisSource 0 :: List.replicate 4 255
            | .fabric id tag => le 1 id ++ le 4 tag.toNat) ++
          le 2 a.tMeas ++ le 2 a.invalid ++ [((a.lastInvalid).map (·.code)).getD 255] ++ le 2 a.integ ++ le 2 a.torque)) ∧
        ∀ (n : Nat) f, n < 8 → s.tc.fabrics[n]? = some f → HostHolds t (base + 1420 + 13 * n)
          ([if f.figures.isSome then 1 else 0] ++ leOpt 2 (f.figures.map (·.cs)) ++ leOpt 2 (f.figures.map (·.tMin)) ++
            leOpt 2 (f.figures.map (·.tMax)) ++ leOpt 2 (f.figures.map (·.devLimit)) ++ leOpt 1 (f.figures.map (·.kp)) ++
            leOpt 1 (f.figures.map (·.ki)) ++ le 2 f.refs)) ∧
      (∀ (a : Unwind) r, r = spliceOf s a → HostHolds t (base + match a with | .pu => 1600 | .fu => 1615)
        ([r.state.code, ((r.cause).map (·.code)).getD 255] ++ leOpt 4 (r.card.map (·.tag.toNat)) ++ [pendingCode r.pending] ++
          mark r.fired ++ leOpt 4 (if r.state = .idle then none else some (r.limit - (s.clock - r.phaseStart))) ++
          mark r.request ++
          (match (inputOf s (match a with | .pu => .paperSpliceAck | .fu => .fabricSpliceAck)).level with
            | none => [255]
            | some b => mark b) ++
          (match (inputOf s (match a with | .pu => .paperRollEnd | .fu => .fabricRollEnd)).level with
            | none => [255]
            | some b => mark b))) ∧
      (∀ n, n < 2 → HostHolds t (base + 1630 + 6 * n) (leOpt 6 ((s.rc.joints[n]?).map (·.due)))) ∧
      HostHolds t (base + 1642) (le 2 s.rc.joints.length) ∧
      (∀ a : Unwind, HostHolds t (base + match a with | .pu => 1644 | .fu => 1653)
        (le 4 (rollCounter s a).metres ++ mark (rollValid s a) ++
          leOpt 4 (s.setup.map (match a with | .pu => (·.puRoll) | .fu => (·.fuRoll))))) ∧
      HostHolds t (base + 1662) (le 4 s.ka.lifetime.metres ++ mark s.ka.restarted) ∧
      OnlyWrites s t (fun a => base ≤ a ∧ a < base + 4096))

/-! ## Laws that every step keeps -/

/-- The laws hold right after main power-on reset. -/
def Obligations.LawsHoldAtReset : Prop :=
  StoreCanonical State.reset ∧ HaltAgrees State.reset ∧ FaultsAgree State.reset ∧ WithinLimits State.reset ∧
    SpeedLaw State.reset ∧ HeatLaw State.reset ∧ EngineLaw State.reset ∧ StoreLaws State.reset

/-- Every step keeps the canonical form of the store, the agreement of the fault queue with FAULT_PENDING, the limits of the counts and
records (chapter 1; R60, R157, R174), and the laws of the store: each reference count is the number of its uses (R36, R138), the extents
of the profiles and the free extents cover the store exactly once with no two free ones adjacent (R25), and the shadow buffer holds at
most two entries, of distinct cells, the VISIBLE ones first (R47, R48), with what these rest on. -/
def Obligations.StepsKeepTheRecordsInBounds : Prop :=
  (∀ s t : State, StoreCanonical s → step s = .next t → StoreCanonical t) ∧
  (∀ s t : State, FaultsAgree s → step s = .next t → FaultsAgree t) ∧
  (∀ s t : State, WithinLimits s → step s = .next t → WithinLimits t) ∧
  ∀ s t : State, StoreLaws s → step s = .next t → StoreLaws t

/-- Every step keeps the agreement of HALTED, the axes and the halt cause (R122, R125, R130, R177). -/
def Obligations.StepsKeepHaltedAndOffTogether : Prop :=
  ∀ s t : State, HaltAgrees s → step s = .next t → HaltAgrees t

/-- Every step keeps the running speed within the window of every strip (R87, R88, R119). -/
def Obligations.StepsKeepTheSpeedInEveryWindow : Prop :=
  ∀ s t : State, SpeedLaw s → step s = .next t → SpeedLaw t

/-- Every step keeps zones without heat cut, and every duty at a standing line under the idle cap (R104). -/
def Obligations.StepsKeepTheHeatLaw : Prop :=
  ∀ s t : State, HeatLaw s → step s = .next t → HeatLaw t

/-- Every step keeps a current card exactly in DISPATCHING and STALLED, and the PATCH card in hand as that card (chapters 3 and 10). -/
def Obligations.StepsKeepTheCardInHand : Prop :=
  ∀ s t : State, EngineLaw s → step s = .next t → EngineLaw t
end

