-- ==== Sys2Proof/Laws/State.lean ====
section
/-! SUPPORT. What each named update of State leaves as it was: one lemma per update, a conjunction over the fields it does not reach,
true by unfolding, and the values it writes. -/

namespace Sys2Proof.Machine

/-! ## Fields an update leaves -/

@[simp] theorem emit_frame (s : State) (o : PortOut) :
    (emit o s).pending = s.pending ∧ (emit o s).clock = s.clock ∧ (emit o s).power = s.power ∧ (emit o s).ka = s.ka ∧
    (emit o s).regs = s.regs ∧ (emit o s).setup = s.setup ∧ (emit o s).lastVMax = s.lastVMax ∧ (emit o s).web = s.web ∧
    (emit o s).ce = s.ce ∧ (emit o s).tmap = s.tmap ∧ (emit o s).ps = s.ps ∧ (emit o s).spb = s.spb ∧ (emit o s).nc = s.nc ∧
    (emit o s).pe = s.pe ∧ (emit o s).hc = s.hc ∧ (emit o s).wd = s.wd ∧ (emit o s).tc = s.tc ∧ (emit o s).rc = s.rc ∧
    (emit o s).su = s.su :=
  ⟨rfl, rfl, rfl, rfl, rfl, rfl, rfl, rfl, rfl, rfl, rfl, rfl, rfl, rfl, rfl, rfl, rfl, rfl, rfl⟩

@[simp] theorem postWrite_frame (s : State) (cells : List Host.Cell) :
    (postWrite cells s).pending = s.pending ∧ (postWrite cells s).clock = s.clock ∧ (postWrite cells s).power = s.power ∧
    (postWrite cells s).ka = s.ka ∧ (postWrite cells s).regs = s.regs ∧ (postWrite cells s).setup = s.setup ∧
    (postWrite cells s).lastVMax = s.lastVMax ∧ (postWrite cells s).web = s.web ∧ (postWrite cells s).ce = s.ce ∧
    (postWrite cells s).tmap = s.tmap ∧ (postWrite cells s).ps = s.ps ∧ (postWrite cells s).spb = s.spb ∧
    (postWrite cells s).nc = s.nc ∧ (postWrite cells s).pe = s.pe ∧ (postWrite cells s).hc = s.hc ∧
    (postWrite cells s).wd = s.wd ∧ (postWrite cells s).tc = s.tc ∧ (postWrite cells s).rc = s.rc ∧
    (postWrite cells s).su = s.su :=
  ⟨rfl, rfl, rfl, rfl, rfl, rfl, rfl, rfl, rfl, rfl, rfl, rfl, rfl, rfl, rfl, rfl, rfl, rfl, rfl⟩

@[simp] theorem writeHeader_frame (s : State) (addr : Nat) (st : CardState) (rc : ResultCode) :
    (writeHeader addr st rc s).pending = s.pending ∧ (writeHeader addr st rc s).clock = s.clock ∧
    (writeHeader addr st rc s).power = s.power ∧ (writeHeader addr st rc s).ka = s.ka ∧
    (writeHeader addr st rc s).regs = s.regs ∧ (writeHeader addr st rc s).setup = s.setup ∧
    (writeHeader addr st rc s).lastVMax = s.lastVMax ∧ (writeHeader addr st rc s).web = s.web ∧
    (writeHeader addr st rc s).ce = s.ce ∧ (writeHeader addr st rc s).tmap = s.tmap ∧ (writeHeader addr st rc s).ps = s.ps ∧
    (writeHeader addr st rc s).spb = s.spb ∧ (writeHeader addr st rc s).nc = s.nc ∧ (writeHeader addr st rc s).pe = s.pe ∧
    (writeHeader addr st rc s).hc = s.hc ∧ (writeHeader addr st rc s).wd = s.wd ∧ (writeHeader addr st rc s).tc = s.tc ∧
    (writeHeader addr st rc s).rc = s.rc ∧ (writeHeader addr st rc s).su = s.su :=
  ⟨rfl, rfl, rfl, rfl, rfl, rfl, rfl, rfl, rfl, rfl, rfl, rfl, rfl, rfl, rfl, rfl, rfl, rfl, rfl⟩

@[simp] theorem setProfile_frame (s : State) (id : Nat) (f : ProfileRecord → ProfileRecord) :
    (setProfile id f s).pending = s.pending ∧ (setProfile id f s).clock = s.clock ∧ (setProfile id f s).power = s.power ∧
    (setProfile id f s).ka = s.ka ∧ (setProfile id f s).regs = s.regs ∧ (setProfile id f s).setup = s.setup ∧
    (setProfile id f s).lastVMax = s.lastVMax ∧ (setProfile id f s).web = s.web ∧ (setProfile id f s).ports = s.ports ∧
    (setProfile id f s).ce = s.ce ∧ (setProfile id f s).tmap = s.tmap ∧ (setProfile id f s).spb = s.spb ∧
    (setProfile id f s).nc = s.nc ∧ (setProfile id f s).pe = s.pe ∧ (setProfile id f s).hc = s.hc ∧
    (setProfile id f s).wd = s.wd ∧ (setProfile id f s).tc = s.tc ∧ (setProfile id f s).rc = s.rc ∧
    (setProfile id f s).su = s.su :=
  ⟨rfl, rfl, rfl, rfl, rfl, rfl, rfl, rfl, rfl, rfl, rfl, rfl, rfl, rfl, rfl, rfl, rfl, rfl, rfl⟩

@[simp] theorem setFabric_frame (s : State) (id : Nat) (f : FabricRecord → FabricRecord) :
    (setFabric id f s).pending = s.pending ∧ (setFabric id f s).clock = s.clock ∧ (setFabric id f s).power = s.power ∧
    (setFabric id f s).ka = s.ka ∧ (setFabric id f s).regs = s.regs ∧ (setFabric id f s).setup = s.setup ∧
    (setFabric id f s).lastVMax = s.lastVMax ∧ (setFabric id f s).web = s.web ∧ (setFabric id f s).ports = s.ports ∧
    (setFabric id f s).ce = s.ce ∧ (setFabric id f s).tmap = s.tmap ∧ (setFabric id f s).ps = s.ps ∧
    (setFabric id f s).spb = s.spb ∧ (setFabric id f s).nc = s.nc ∧ (setFabric id f s).pe = s.pe ∧
    (setFabric id f s).hc = s.hc ∧ (setFabric id f s).wd = s.wd ∧ (setFabric id f s).rc = s.rc ∧ (setFabric id f s).su = s.su :=
  ⟨rfl, rfl, rfl, rfl, rfl, rfl, rfl, rfl, rfl, rfl, rfl, rfl, rfl, rfl, rfl, rfl, rfl, rfl, rfl⟩

@[simp] theorem cacheFill_frame (s : State) (cell : Nat) (v : CellValue) :
    (cacheFill cell v s).pending = s.pending ∧ (cacheFill cell v s).clock = s.clock ∧ (cacheFill cell v s).power = s.power ∧
    (cacheFill cell v s).ka = s.ka ∧ (cacheFill cell v s).regs = s.regs ∧ (cacheFill cell v s).setup = s.setup ∧
    (cacheFill cell v s).lastVMax = s.lastVMax ∧ (cacheFill cell v s).web = s.web ∧ (cacheFill cell v s).ports = s.ports ∧
    (cacheFill cell v s).ce = s.ce ∧ (cacheFill cell v s).tmap = s.tmap ∧ (cacheFill cell v s).ps = s.ps ∧
    (cacheFill cell v s).spb = s.spb ∧ (cacheFill cell v s).pe = s.pe ∧ (cacheFill cell v s).hc = s.hc ∧
    (cacheFill cell v s).wd = s.wd ∧ (cacheFill cell v s).tc = s.tc ∧ (cacheFill cell v s).rc = s.rc ∧
    (cacheFill cell v s).su = s.su :=
  ⟨rfl, rfl, rfl, rfl, rfl, rfl, rfl, rfl, rfl, rfl, rfl, rfl, rfl, rfl, rfl, rfl, rfl, rfl, rfl⟩

@[simp] theorem readCell_frame (s : State) (cell : Nat) (d : CellDamage) :
    ((readCell cell d s).2).pending = s.pending ∧ ((readCell cell d s).2).clock = s.clock ∧
    ((readCell cell d s).2).power = s.power ∧ ((readCell cell d s).2).ka = s.ka ∧ ((readCell cell d s).2).regs = s.regs ∧
    ((readCell cell d s).2).setup = s.setup ∧ ((readCell cell d s).2).lastVMax = s.lastVMax ∧
    ((readCell cell d s).2).web = s.web ∧ ((readCell cell d s).2).ports = s.ports ∧ ((readCell cell d s).2).ce = s.ce ∧
    ((readCell cell d s).2).tmap = s.tmap ∧ ((readCell cell d s).2).spb = s.spb ∧ ((readCell cell d s).2).nc = s.nc ∧
    ((readCell cell d s).2).pe = s.pe ∧ ((readCell cell d s).2).hc = s.hc ∧ ((readCell cell d s).2).wd = s.wd ∧
    ((readCell cell d s).2).tc = s.tc ∧ ((readCell cell d s).2).rc = s.rc ∧ ((readCell cell d s).2).su = s.su :=
  ⟨rfl, rfl, rfl, rfl, rfl, rfl, rfl, rfl, rfl, rfl, rfl, rfl, rfl, rfl, rfl, rfl, rfl, rfl, rfl⟩

@[simp] theorem setArb_frame (s : State) (a : Arbiter) :
    (setArb a s).pending = s.pending ∧ (setArb a s).clock = s.clock ∧ (setArb a s).power = s.power ∧ (setArb a s).ka = s.ka ∧
    (setArb a s).regs = s.regs ∧ (setArb a s).setup = s.setup ∧ (setArb a s).lastVMax = s.lastVMax ∧ (setArb a s).web = s.web ∧
    (setArb a s).ports = s.ports ∧ (setArb a s).ce = s.ce ∧ (setArb a s).tmap = s.tmap ∧ (setArb a s).spb = s.spb ∧
    (setArb a s).nc = s.nc ∧ (setArb a s).pe = s.pe ∧ (setArb a s).hc = s.hc ∧ (setArb a s).wd = s.wd ∧ (setArb a s).tc = s.tc ∧
    (setArb a s).rc = s.rc ∧ (setArb a s).su = s.su :=
  ⟨rfl, rfl, rfl, rfl, rfl, rfl, rfl, rfl, rfl, rfl, rfl, rfl, rfl, rfl, rfl, rfl, rfl, rfl, rfl⟩

@[simp] theorem portDone_frame (s : State) :
    (portDone s).pending = s.pending ∧ (portDone s).clock = s.clock ∧ (portDone s).power = s.power ∧ (portDone s).ka = s.ka ∧
    (portDone s).regs = s.regs ∧ (portDone s).setup = s.setup ∧ (portDone s).lastVMax = s.lastVMax ∧ (portDone s).web = s.web ∧
    (portDone s).ports = s.ports ∧ (portDone s).ce = s.ce ∧ (portDone s).tmap = s.tmap ∧ (portDone s).spb = s.spb ∧
    (portDone s).nc = s.nc ∧ (portDone s).pe = s.pe ∧ (portDone s).hc = s.hc ∧ (portDone s).wd = s.wd ∧ (portDone s).tc = s.tc ∧
    (portDone s).rc = s.rc ∧ (portDone s).su = s.su :=
  ⟨rfl, rfl, rfl, rfl, rfl, rfl, rfl, rfl, rfl, rfl, rfl, rfl, rfl, rfl, rfl, rfl, rfl, rfl, rfl⟩

@[simp] theorem updateSeg_frame (s : State) (start : Nat) (f : Segment → Segment) :
    (updateSeg start f s).pending = s.pending ∧ (updateSeg start f s).clock = s.clock ∧ (updateSeg start f s).power = s.power ∧
    (updateSeg start f s).ka = s.ka ∧ (updateSeg start f s).regs = s.regs ∧ (updateSeg start f s).setup = s.setup ∧
    (updateSeg start f s).lastVMax = s.lastVMax ∧ (updateSeg start f s).web = s.web ∧ (updateSeg start f s).ports = s.ports ∧
    (updateSeg start f s).ce = s.ce ∧ (updateSeg start f s).ps = s.ps ∧ (updateSeg start f s).spb = s.spb ∧
    (updateSeg start f s).nc = s.nc ∧ (updateSeg start f s).pe = s.pe ∧ (updateSeg start f s).hc = s.hc ∧
    (updateSeg start f s).wd = s.wd ∧ (updateSeg start f s).tc = s.tc ∧ (updateSeg start f s).rc = s.rc ∧
    (updateSeg start f s).su = s.su :=
  ⟨rfl, rfl, rfl, rfl, rfl, rfl, rfl, rfl, rfl, rfl, rfl, rfl, rfl, rfl, rfl, rfl, rfl, rfl, rfl⟩

@[simp] theorem setHold_frame (s : State) (h : Option HoldReason) :
    (setHold h s).pending = s.pending ∧ (setHold h s).clock = s.clock ∧ (setHold h s).power = s.power ∧
    (setHold h s).ka = s.ka ∧ (setHold h s).regs = s.regs ∧ (setHold h s).setup = s.setup ∧
    (setHold h s).lastVMax = s.lastVMax ∧ (setHold h s).web = s.web ∧ (setHold h s).ports = s.ports ∧ (setHold h s).ce = s.ce ∧
    (setHold h s).tmap = s.tmap ∧ (setHold h s).ps = s.ps ∧ (setHold h s).spb = s.spb ∧ (setHold h s).nc = s.nc ∧
    (setHold h s).hc = s.hc ∧ (setHold h s).wd = s.wd ∧ (setHold h s).tc = s.tc ∧ (setHold h s).rc = s.rc ∧
    (setHold h s).su = s.su :=
  ⟨rfl, rfl, rfl, rfl, rfl, rfl, rfl, rfl, rfl, rfl, rfl, rfl, rfl, rfl, rfl, rfl, rfl, rfl, rfl⟩

@[simp] theorem setJob_frame (s : State) (f : PrintJob → PrintJob) :
    (setJob f s).pending = s.pending ∧ (setJob f s).clock = s.clock ∧ (setJob f s).power = s.power ∧ (setJob f s).ka = s.ka ∧
    (setJob f s).regs = s.regs ∧ (setJob f s).setup = s.setup ∧ (setJob f s).lastVMax = s.lastVMax ∧ (setJob f s).web = s.web ∧
    (setJob f s).ports = s.ports ∧ (setJob f s).ce = s.ce ∧ (setJob f s).tmap = s.tmap ∧ (setJob f s).ps = s.ps ∧
    (setJob f s).spb = s.spb ∧ (setJob f s).nc = s.nc ∧ (setJob f s).hc = s.hc ∧ (setJob f s).wd = s.wd ∧
    (setJob f s).tc = s.tc ∧ (setJob f s).rc = s.rc ∧ (setJob f s).su = s.su :=
  ⟨rfl, rfl, rfl, rfl, rfl, rfl, rfl, rfl, rfl, rfl, rfl, rfl, rfl, rfl, rfl, rfl, rfl, rfl, rfl⟩

@[simp] theorem mapAxes_frame (s : State) (f : AxisRecord → AxisRecord) :
    (mapAxes f s).pending = s.pending ∧ (mapAxes f s).clock = s.clock ∧ (mapAxes f s).power = s.power ∧
    (mapAxes f s).ka = s.ka ∧ (mapAxes f s).regs = s.regs ∧ (mapAxes f s).setup = s.setup ∧
    (mapAxes f s).lastVMax = s.lastVMax ∧ (mapAxes f s).web = s.web ∧ (mapAxes f s).ports = s.ports ∧ (mapAxes f s).ce = s.ce ∧
    (mapAxes f s).tmap = s.tmap ∧ (mapAxes f s).ps = s.ps ∧ (mapAxes f s).spb = s.spb ∧ (mapAxes f s).nc = s.nc ∧
    (mapAxes f s).pe = s.pe ∧ (mapAxes f s).hc = s.hc ∧ (mapAxes f s).wd = s.wd ∧ (mapAxes f s).rc = s.rc ∧
    (mapAxes f s).su = s.su :=
  ⟨rfl, rfl, rfl, rfl, rfl, rfl, rfl, rfl, rfl, rfl, rfl, rfl, rfl, rfl, rfl, rfl, rfl, rfl, rfl⟩

@[simp] theorem setAxis_frame (s : State) (a : Axis) (f : AxisRecord → AxisRecord) :
    (setAxis a f s).pending = s.pending ∧ (setAxis a f s).clock = s.clock ∧ (setAxis a f s).power = s.power ∧
    (setAxis a f s).ka = s.ka ∧ (setAxis a f s).regs = s.regs ∧ (setAxis a f s).setup = s.setup ∧
    (setAxis a f s).lastVMax = s.lastVMax ∧ (setAxis a f s).web = s.web ∧ (setAxis a f s).ports = s.ports ∧
    (setAxis a f s).ce = s.ce ∧ (setAxis a f s).tmap = s.tmap ∧ (setAxis a f s).ps = s.ps ∧ (setAxis a f s).spb = s.spb ∧
    (setAxis a f s).nc = s.nc ∧ (setAxis a f s).pe = s.pe ∧ (setAxis a f s).hc = s.hc ∧ (setAxis a f s).wd = s.wd ∧
    (setAxis a f s).rc = s.rc ∧ (setAxis a f s).su = s.su :=
  ⟨rfl, rfl, rfl, rfl, rfl, rfl, rfl, rfl, rfl, rfl, rfl, rfl, rfl, rfl, rfl, rfl, rfl, rfl, rfl⟩

@[simp] theorem sendFrame_frame (s : State) :
    (sendFrame s).pending = s.pending ∧ (sendFrame s).clock = s.clock ∧ (sendFrame s).power = s.power ∧
    (sendFrame s).ka = s.ka ∧ (sendFrame s).regs = s.regs ∧ (sendFrame s).setup = s.setup ∧
    (sendFrame s).lastVMax = s.lastVMax ∧ (sendFrame s).web = s.web ∧ (sendFrame s).ce = s.ce ∧ (sendFrame s).tmap = s.tmap ∧
    (sendFrame s).ps = s.ps ∧ (sendFrame s).spb = s.spb ∧ (sendFrame s).nc = s.nc ∧ (sendFrame s).pe = s.pe ∧
    (sendFrame s).hc = s.hc ∧ (sendFrame s).wd = s.wd ∧ (sendFrame s).tc = s.tc ∧ (sendFrame s).rc = s.rc ∧
    (sendFrame s).su = s.su :=
  ⟨rfl, rfl, rfl, rfl, rfl, rfl, rfl, rfl, rfl, rfl, rfl, rfl, rfl, rfl, rfl, rfl, rfl, rfl, rfl⟩

@[simp] theorem reportStopped_frame (s : State) :
    (reportStopped s).pending = s.pending ∧ (reportStopped s).clock = s.clock ∧ (reportStopped s).power = s.power ∧
    (reportStopped s).ka = s.ka ∧ (reportStopped s).regs = s.regs ∧ (reportStopped s).setup = s.setup ∧
    (reportStopped s).lastVMax = s.lastVMax ∧ (reportStopped s).web = s.web ∧ (reportStopped s).ports = s.ports ∧
    (reportStopped s).ce = s.ce ∧ (reportStopped s).tmap = s.tmap ∧ (reportStopped s).ps = s.ps ∧
    (reportStopped s).spb = s.spb ∧ (reportStopped s).nc = s.nc ∧ (reportStopped s).pe = s.pe ∧ (reportStopped s).wd = s.wd ∧
    (reportStopped s).tc = s.tc ∧ (reportStopped s).rc = s.rc ∧ (reportStopped s).su = s.su :=
  ⟨rfl, rfl, rfl, rfl, rfl, rfl, rfl, rfl, rfl, rfl, rfl, rfl, rfl, rfl, rfl, rfl, rfl, rfl, rfl⟩

@[simp] theorem setLoader_frame (s : State) (j : Option LoadJob) :
    (setLoader j s).pending = s.pending ∧ (setLoader j s).clock = s.clock ∧ (setLoader j s).power = s.power ∧
    (setLoader j s).ka = s.ka ∧ (setLoader j s).regs = s.regs ∧ (setLoader j s).setup = s.setup ∧
    (setLoader j s).lastVMax = s.lastVMax ∧ (setLoader j s).web = s.web ∧ (setLoader j s).ports = s.ports ∧
    (setLoader j s).ce = s.ce ∧ (setLoader j s).tmap = s.tmap ∧ (setLoader j s).spb = s.spb ∧ (setLoader j s).nc = s.nc ∧
    (setLoader j s).pe = s.pe ∧ (setLoader j s).hc = s.hc ∧ (setLoader j s).wd = s.wd ∧ (setLoader j s).tc = s.tc ∧
    (setLoader j s).rc = s.rc ∧ (setLoader j s).su = s.su :=
  ⟨rfl, rfl, rfl, rfl, rfl, rfl, rfl, rfl, rfl, rfl, rfl, rfl, rfl, rfl, rfl, rfl, rfl, rfl, rfl⟩

@[simp] theorem readBlock_frame (s : State) (j : LoadJob) :
    (readBlock j s).pending = s.pending ∧ (readBlock j s).clock = s.clock ∧ (readBlock j s).power = s.power ∧
    (readBlock j s).ka = s.ka ∧ (readBlock j s).regs = s.regs ∧ (readBlock j s).setup = s.setup ∧
    (readBlock j s).lastVMax = s.lastVMax ∧ (readBlock j s).web = s.web ∧ (readBlock j s).ce = s.ce ∧
    (readBlock j s).tmap = s.tmap ∧ (readBlock j s).spb = s.spb ∧ (readBlock j s).nc = s.nc ∧ (readBlock j s).pe = s.pe ∧
    (readBlock j s).hc = s.hc ∧ (readBlock j s).wd = s.wd ∧ (readBlock j s).tc = s.tc ∧ (readBlock j s).rc = s.rc ∧
    (readBlock j s).su = s.su :=
  ⟨rfl, rfl, rfl, rfl, rfl, rfl, rfl, rfl, rfl, rfl, rfl, rfl, rfl, rfl, rfl, rfl, rfl, rfl⟩

@[simp] theorem setPatch_frame (s : State) (p : Option PatchJob) :
    (setPatch p s).pending = s.pending ∧ (setPatch p s).clock = s.clock ∧ (setPatch p s).power = s.power ∧
    (setPatch p s).ka = s.ka ∧ (setPatch p s).regs = s.regs ∧ (setPatch p s).setup = s.setup ∧
    (setPatch p s).lastVMax = s.lastVMax ∧ (setPatch p s).web = s.web ∧ (setPatch p s).ports = s.ports ∧
    (setPatch p s).ce = s.ce ∧ (setPatch p s).tmap = s.tmap ∧ (setPatch p s).ps = s.ps ∧ (setPatch p s).nc = s.nc ∧
    (setPatch p s).pe = s.pe ∧ (setPatch p s).hc = s.hc ∧ (setPatch p s).wd = s.wd ∧ (setPatch p s).tc = s.tc ∧
    (setPatch p s).rc = s.rc ∧ (setPatch p s).su = s.su :=
  ⟨rfl, rfl, rfl, rfl, rfl, rfl, rfl, rfl, rfl, rfl, rfl, rfl, rfl, rfl, rfl, rfl, rfl, rfl, rfl⟩

@[simp] theorem mergePending_frame (s : State) (cell : Nat) (e : Edit) (k : Nat) :
    (mergePending cell e k s).pending = s.pending ∧ (mergePending cell e k s).clock = s.clock ∧
    (mergePending cell e k s).power = s.power ∧ (mergePending cell e k s).ka = s.ka ∧ (mergePending cell e k s).regs = s.regs ∧
    (mergePending cell e k s).setup = s.setup ∧ (mergePending cell e k s).lastVMax = s.lastVMax ∧
    (mergePending cell e k s).web = s.web ∧ (mergePending cell e k s).ports = s.ports ∧ (mergePending cell e k s).ce = s.ce ∧
    (mergePending cell e k s).tmap = s.tmap ∧ (mergePending cell e k s).ps = s.ps ∧ (mergePending cell e k s).nc = s.nc ∧
    (mergePending cell e k s).pe = s.pe ∧ (mergePending cell e k s).hc = s.hc ∧ (mergePending cell e k s).wd = s.wd ∧
    (mergePending cell e k s).tc = s.tc ∧ (mergePending cell e k s).rc = s.rc ∧ (mergePending cell e k s).su = s.su :=
  ⟨rfl, rfl, rfl, rfl, rfl, rfl, rfl, rfl, rfl, rfl, rfl, rfl, rfl, rfl, rfl, rfl, rfl, rfl, rfl⟩

@[simp] theorem clearRead_frame (s : State) :
    (clearRead s).pending = s.pending ∧ (clearRead s).clock = s.clock ∧ (clearRead s).power = s.power ∧
    (clearRead s).ka = s.ka ∧ (clearRead s).regs = s.regs ∧ (clearRead s).setup = s.setup ∧
    (clearRead s).lastVMax = s.lastVMax ∧ (clearRead s).web = s.web ∧ (clearRead s).ports = s.ports ∧ (clearRead s).ce = s.ce ∧
    (clearRead s).tmap = s.tmap ∧ (clearRead s).ps = s.ps ∧ (clearRead s).spb = s.spb ∧ (clearRead s).nc = s.nc ∧
    (clearRead s).hc = s.hc ∧ (clearRead s).wd = s.wd ∧ (clearRead s).tc = s.tc ∧ (clearRead s).rc = s.rc ∧
    (clearRead s).su = s.su :=
  ⟨rfl, rfl, rfl, rfl, rfl, rfl, rfl, rfl, rfl, rfl, rfl, rfl, rfl, rfl, rfl, rfl, rfl, rfl, rfl⟩

@[simp] theorem setBar_frame (s : State) (bar : Nat) (f : Bar → Bar) :
    (setBar bar f s).pending = s.pending ∧ (setBar bar f s).clock = s.clock ∧ (setBar bar f s).power = s.power ∧
    (setBar bar f s).ka = s.ka ∧ (setBar bar f s).regs = s.regs ∧ (setBar bar f s).setup = s.setup ∧
    (setBar bar f s).lastVMax = s.lastVMax ∧ (setBar bar f s).web = s.web ∧ (setBar bar f s).ports = s.ports ∧
    (setBar bar f s).ce = s.ce ∧ (setBar bar f s).tmap = s.tmap ∧ (setBar bar f s).ps = s.ps ∧ (setBar bar f s).spb = s.spb ∧
    (setBar bar f s).nc = s.nc ∧ (setBar bar f s).hc = s.hc ∧ (setBar bar f s).wd = s.wd ∧ (setBar bar f s).tc = s.tc ∧
    (setBar bar f s).rc = s.rc ∧ (setBar bar f s).su = s.su :=
  ⟨rfl, rfl, rfl, rfl, rfl, rfl, rfl, rfl, rfl, rfl, rfl, rfl, rfl, rfl, rfl, rfl, rfl, rfl, rfl⟩

@[simp] theorem setZones_frame (s : State) (zones : List Zone) :
    (setZones zones s).pending = s.pending ∧ (setZones zones s).clock = s.clock ∧ (setZones zones s).power = s.power ∧
    (setZones zones s).ka = s.ka ∧ (setZones zones s).regs = s.regs ∧ (setZones zones s).setup = s.setup ∧
    (setZones zones s).lastVMax = s.lastVMax ∧ (setZones zones s).web = s.web ∧ (setZones zones s).ports = s.ports ∧
    (setZones zones s).ce = s.ce ∧ (setZones zones s).tmap = s.tmap ∧ (setZones zones s).ps = s.ps ∧
    (setZones zones s).spb = s.spb ∧ (setZones zones s).nc = s.nc ∧ (setZones zones s).pe = s.pe ∧
    (setZones zones s).wd = s.wd ∧ (setZones zones s).tc = s.tc ∧ (setZones zones s).rc = s.rc ∧ (setZones zones s).su = s.su :=
  ⟨rfl, rfl, rfl, rfl, rfl, rfl, rfl, rfl, rfl, rfl, rfl, rfl, rfl, rfl, rfl, rfl, rfl, rfl, rfl⟩

@[simp] theorem setDrive_frame (s : State) (f : Drive → Drive) :
    (setDrive f s).pending = s.pending ∧ (setDrive f s).clock = s.clock ∧ (setDrive f s).power = s.power ∧
    (setDrive f s).ka = s.ka ∧ (setDrive f s).regs = s.regs ∧ (setDrive f s).setup = s.setup ∧
    (setDrive f s).lastVMax = s.lastVMax ∧ (setDrive f s).web = s.web ∧ (setDrive f s).ports = s.ports ∧
    (setDrive f s).ce = s.ce ∧ (setDrive f s).tmap = s.tmap ∧ (setDrive f s).ps = s.ps ∧ (setDrive f s).spb = s.spb ∧
    (setDrive f s).nc = s.nc ∧ (setDrive f s).pe = s.pe ∧ (setDrive f s).hc = s.hc ∧ (setDrive f s).tc = s.tc ∧
    (setDrive f s).rc = s.rc ∧ (setDrive f s).su = s.su :=
  ⟨rfl, rfl, rfl, rfl, rfl, rfl, rfl, rfl, rfl, rfl, rfl, rfl, rfl, rfl, rfl, rfl, rfl, rfl, rfl⟩

@[simp] theorem setEngine_frame (s : State) (f : CardEngine → CardEngine) :
    (setEngine f s).pending = s.pending ∧ (setEngine f s).clock = s.clock ∧ (setEngine f s).power = s.power ∧
    (setEngine f s).ka = s.ka ∧ (setEngine f s).regs = s.regs ∧ (setEngine f s).setup = s.setup ∧
    (setEngine f s).lastVMax = s.lastVMax ∧ (setEngine f s).web = s.web ∧ (setEngine f s).ports = s.ports ∧
    (setEngine f s).tmap = s.tmap ∧ (setEngine f s).ps = s.ps ∧ (setEngine f s).spb = s.spb ∧ (setEngine f s).nc = s.nc ∧
    (setEngine f s).pe = s.pe ∧ (setEngine f s).hc = s.hc ∧ (setEngine f s).wd = s.wd ∧ (setEngine f s).tc = s.tc ∧
    (setEngine f s).rc = s.rc ∧ (setEngine f s).su = s.su :=
  ⟨rfl, rfl, rfl, rfl, rfl, rfl, rfl, rfl, rfl, rfl, rfl, rfl, rfl, rfl, rfl, rfl, rfl, rfl, rfl⟩

@[simp] theorem setInput_frame (s : State) (i : LineInput) (f : InputRecord → InputRecord) :
    (setInput i f s).pending = s.pending ∧ (setInput i f s).clock = s.clock ∧ (setInput i f s).power = s.power ∧
    (setInput i f s).ka = s.ka ∧ (setInput i f s).regs = s.regs ∧ (setInput i f s).setup = s.setup ∧
    (setInput i f s).lastVMax = s.lastVMax ∧ (setInput i f s).web = s.web ∧ (setInput i f s).ports = s.ports ∧
    (setInput i f s).ce = s.ce ∧ (setInput i f s).tmap = s.tmap ∧ (setInput i f s).ps = s.ps ∧ (setInput i f s).spb = s.spb ∧
    (setInput i f s).nc = s.nc ∧ (setInput i f s).pe = s.pe ∧ (setInput i f s).hc = s.hc ∧ (setInput i f s).wd = s.wd ∧
    (setInput i f s).tc = s.tc ∧ (setInput i f s).rc = s.rc :=
  ⟨rfl, rfl, rfl, rfl, rfl, rfl, rfl, rfl, rfl, rfl, rfl, rfl, rfl, rfl, rfl, rfl, rfl, rfl, rfl⟩

/-! ## Values an update writes -/

@[simp] theorem emit_ports (s : State) (o : PortOut) : (emit o s).ports = o :: s.ports := rfl

@[simp] theorem postWrite_ports (s : State) (cells : List Host.Cell) : (postWrite cells s).ports = .hostWrite cells :: s.ports := rfl

@[simp] theorem setArb_arb (s : State) (a : Arbiter) : (setArb a s).ps.arb = a := rfl

@[simp] theorem setArb_rest (s : State) (a : Arbiter) :
    (setArb a s).ps.records = s.ps.records ∧ (setArb a s).ps.free = s.ps.free ∧ (setArb a s).ps.mem = s.ps.mem ∧
    (setArb a s).ps.loader = s.ps.loader ∧ (setArb a s).ps.stale = s.ps.stale := ⟨rfl, rfl, rfl, rfl, rfl⟩

@[simp] theorem setProfile_rest (s : State) (id : Nat) (f : ProfileRecord → ProfileRecord) :
    (setProfile id f s).ps.free = s.ps.free ∧ (setProfile id f s).ps.mem = s.ps.mem ∧
    (setProfile id f s).ps.loader = s.ps.loader ∧ (setProfile id f s).ps.stale = s.ps.stale ∧
    (setProfile id f s).ps.arb = s.ps.arb := ⟨rfl, rfl, rfl, rfl, rfl⟩

@[simp] theorem setFabric_rest (s : State) (id : Nat) (f : FabricRecord → FabricRecord) :
    (setFabric id f s).tc.axes = s.tc.axes ∧ (setFabric id f s).tc.frame = s.tc.frame := ⟨rfl, rfl⟩

@[simp] theorem setAxis_rest (s : State) (a : Axis) (f : AxisRecord → AxisRecord) :
    (setAxis a f s).tc.fabrics = s.tc.fabrics ∧ (setAxis a f s).tc.frame = s.tc.frame := ⟨rfl, rfl⟩

@[simp] theorem mapAxes_rest (s : State) (f : AxisRecord → AxisRecord) :
    (mapAxes f s).tc.axes = s.tc.axes.map f ∧ (mapAxes f s).tc.fabrics = s.tc.fabrics ∧ (mapAxes f s).tc.frame = s.tc.frame :=
  ⟨rfl, rfl, rfl⟩

@[simp] theorem updateSeg_joints (s : State) (start : Nat) (f : Segment → Segment) :
    (updateSeg start f s).tmap.joints = s.tmap.joints := rfl

@[simp] theorem setHold_hold (s : State) (h : Option HoldReason) : (setHold h s).pe.hold = h := rfl

@[simp] theorem setHold_rest (s : State) (h : Option HoldReason) :
    (setHold h s).pe.queue = s.pe.queue ∧ (setHold h s).pe.state = s.pe.state ∧ (setHold h s).pe.job = s.pe.job ∧
    (setHold h s).pe.read = s.pe.read ∧ (setHold h s).pe.bars = s.pe.bars ∧ (setHold h s).pe.seq = s.pe.seq ∧
    (setHold h s).pe.sent = s.pe.sent ∧ (setHold h s).pe.firstTest = s.pe.firstTest :=
  ⟨rfl, rfl, rfl, rfl, rfl, rfl, rfl, rfl⟩

@[simp] theorem setJob_rest (s : State) (f : PrintJob → PrintJob) :
    (setJob f s).pe.job = s.pe.job.map f ∧ (setJob f s).pe.queue = s.pe.queue ∧ (setJob f s).pe.state = s.pe.state ∧
    (setJob f s).pe.read = s.pe.read ∧ (setJob f s).pe.hold = s.pe.hold ∧ (setJob f s).pe.bars = s.pe.bars ∧
    (setJob f s).pe.seq = s.pe.seq ∧ (setJob f s).pe.sent = s.pe.sent ∧ (setJob f s).pe.firstTest = s.pe.firstTest :=
  ⟨rfl, rfl, rfl, rfl, rfl, rfl, rfl, rfl, rfl⟩

@[simp] theorem setDrive_wd (s : State) (f : Drive → Drive) : (setDrive f s).wd = f s.wd := rfl

@[simp] theorem setEngine_ce (s : State) (f : CardEngine → CardEngine) : (setEngine f s).ce = f s.ce := rfl

@[simp] theorem setPatch_rest (s : State) (p : Option PatchJob) :
    (setPatch p s).spb.patch = p ∧ (setPatch p s).spb.entries = s.spb.entries ∧ (setPatch p s).spb.stale = s.spb.stale :=
  ⟨rfl, rfl, rfl⟩

@[simp] theorem setZones_zones (s : State) (zones : List Zone) : (setZones zones s).hc.zones = zones := rfl

@[simp] theorem setInput_rest (s : State) (i : LineInput) (f : InputRecord → InputRecord) :
    (setInput i f s).su.events = s.su.events ∧ (setInput i f s).su.faults = s.su.faults ∧
    (setInput i f s).su.faultSeq = s.su.faultSeq ∧ (setInput i f s).su.refresh = s.su.refresh ∧
    (setInput i f s).su.pageDue = s.su.pageDue ∧ (setInput i f s).su.haltCause = s.su.haltCause :=
  ⟨rfl, rfl, rfl, rfl, rfl, rfl⟩

end Sys2Proof.Machine
end

