-- ==== Sys2Proof/Laws/Frames.lean ====
section
/-! SUPPORT. What each shared operation leaves as it was: one lemma per operation, a conjunction over the fields of State that it does
not reach. -/

namespace Sys2Proof.Machine

/-- A fold of updates that keep a view of the state keeps it. -/
theorem foldl_keeps {α β : Type} (view : State → β) (f : State → α → State) (h : ∀ s x, view (f s x) = view s) (l : List α)
    (s : State) : view (l.foldl f s) = view s := by
  induction l generalizing s with
  | nil => rfl
  | cons x xs ih => rw [List.foldl_cons, ih, h]

@[simp] theorem signalRise_frame (s : State) (b : Bool) :
    (signalRise b s).pending = s.pending ∧ (signalRise b s).clock = s.clock ∧ (signalRise b s).power = s.power ∧
    (signalRise b s).ka = s.ka ∧ (signalRise b s).regs = s.regs ∧ (signalRise b s).setup = s.setup ∧
    (signalRise b s).lastVMax = s.lastVMax ∧ (signalRise b s).web = s.web ∧ (signalRise b s).ce = s.ce ∧
    (signalRise b s).tmap = s.tmap ∧ (signalRise b s).ps = s.ps ∧ (signalRise b s).spb = s.spb ∧ (signalRise b s).nc = s.nc ∧
    (signalRise b s).pe = s.pe ∧ (signalRise b s).hc = s.hc ∧ (signalRise b s).wd = s.wd ∧ (signalRise b s).tc = s.tc ∧
    (signalRise b s).rc = s.rc ∧ (signalRise b s).su = s.su := by
  unfold signalRise
  split <;> simp

@[simp] theorem raiseEvent_frame (s : State) (e : Event) :
    (raiseEvent e s).pending = s.pending ∧ (raiseEvent e s).clock = s.clock ∧ (raiseEvent e s).power = s.power ∧
    (raiseEvent e s).ka = s.ka ∧ (raiseEvent e s).regs = s.regs ∧ (raiseEvent e s).setup = s.setup ∧
    (raiseEvent e s).lastVMax = s.lastVMax ∧ (raiseEvent e s).web = s.web ∧ (raiseEvent e s).ce = s.ce ∧
    (raiseEvent e s).tmap = s.tmap ∧ (raiseEvent e s).ps = s.ps ∧ (raiseEvent e s).spb = s.spb ∧ (raiseEvent e s).nc = s.nc ∧
    (raiseEvent e s).pe = s.pe ∧ (raiseEvent e s).hc = s.hc ∧ (raiseEvent e s).wd = s.wd ∧ (raiseEvent e s).tc = s.tc ∧
    (raiseEvent e s).rc = s.rc := by simp [raiseEvent]

@[simp] theorem offerFault_frame (s : State) (f : FaultInfo) :
    (offerFault f s).pending = s.pending ∧ (offerFault f s).clock = s.clock ∧ (offerFault f s).power = s.power ∧
    (offerFault f s).ka = s.ka ∧ (offerFault f s).regs = s.regs ∧ (offerFault f s).setup = s.setup ∧
    (offerFault f s).lastVMax = s.lastVMax ∧ (offerFault f s).web = s.web ∧ (offerFault f s).ce = s.ce ∧
    (offerFault f s).tmap = s.tmap ∧ (offerFault f s).ps = s.ps ∧ (offerFault f s).spb = s.spb ∧ (offerFault f s).nc = s.nc ∧
    (offerFault f s).pe = s.pe ∧ (offerFault f s).hc = s.hc ∧ (offerFault f s).wd = s.wd ∧ (offerFault f s).tc = s.tc ∧
    (offerFault f s).rc = s.rc := by
  unfold offerFault
  split <;> simp

@[simp] theorem offerTo_frame (s : State) (k : CardKind) :
    (offerTo k s).pending = s.pending ∧ (offerTo k s).clock = s.clock ∧ (offerTo k s).power = s.power ∧
    (offerTo k s).ka = s.ka ∧ (offerTo k s).regs = s.regs ∧ (offerTo k s).setup = s.setup ∧
    (offerTo k s).lastVMax = s.lastVMax ∧ (offerTo k s).web = s.web ∧ (offerTo k s).ports = s.ports ∧
    (offerTo k s).tmap = s.tmap ∧ (offerTo k s).ps = s.ps ∧ (offerTo k s).spb = s.spb ∧ (offerTo k s).nc = s.nc ∧
    (offerTo k s).pe = s.pe ∧ (offerTo k s).hc = s.hc ∧ (offerTo k s).wd = s.wd ∧ (offerTo k s).tc = s.tc ∧
    (offerTo k s).rc = s.rc ∧ (offerTo k s).su = s.su := by
  unfold offerTo
  split <;> simp

@[simp] theorem noteFinal_frame (s : State) :
    (noteFinal s).pending = s.pending ∧ (noteFinal s).clock = s.clock ∧ (noteFinal s).power = s.power ∧
    (noteFinal s).ka = s.ka ∧ (noteFinal s).regs = s.regs ∧ (noteFinal s).setup = s.setup ∧
    (noteFinal s).lastVMax = s.lastVMax ∧ (noteFinal s).web = s.web ∧ (noteFinal s).ports = s.ports ∧
    (noteFinal s).tmap = s.tmap ∧ (noteFinal s).ps = s.ps ∧ (noteFinal s).spb = s.spb ∧ (noteFinal s).nc = s.nc ∧
    (noteFinal s).pe = s.pe ∧ (noteFinal s).hc = s.hc ∧ (noteFinal s).wd = s.wd ∧ (noteFinal s).tc = s.tc ∧
    (noteFinal s).rc = s.rc ∧ (noteFinal s).su = s.su := by
  unfold noteFinal
  split <;> simp

@[simp] theorem finishCard_frame (s : State) (c : CardRef) (st : CardState) (rc : ResultCode) :
    (finishCard c st rc s).pending = s.pending ∧ (finishCard c st rc s).clock = s.clock ∧
    (finishCard c st rc s).power = s.power ∧ (finishCard c st rc s).ka = s.ka ∧ (finishCard c st rc s).regs = s.regs ∧
    (finishCard c st rc s).setup = s.setup ∧ (finishCard c st rc s).lastVMax = s.lastVMax ∧ (finishCard c st rc s).web = s.web ∧
    (finishCard c st rc s).tmap = s.tmap ∧ (finishCard c st rc s).ps = s.ps ∧ (finishCard c st rc s).spb = s.spb ∧
    (finishCard c st rc s).nc = s.nc ∧ (finishCard c st rc s).pe = s.pe ∧ (finishCard c st rc s).hc = s.hc ∧
    (finishCard c st rc s).wd = s.wd ∧ (finishCard c st rc s).tc = s.tc ∧ (finishCard c st rc s).rc = s.rc := by simp [finishCard]

@[simp] theorem finalWrite_frame (s : State) (c : CardRef) (fields : List (Nat × List Byte)) (st : CardState) (rc : ResultCode) :
    (finalWrite c fields st rc s).pending = s.pending ∧ (finalWrite c fields st rc s).clock = s.clock ∧
    (finalWrite c fields st rc s).power = s.power ∧ (finalWrite c fields st rc s).ka = s.ka ∧
    (finalWrite c fields st rc s).regs = s.regs ∧ (finalWrite c fields st rc s).setup = s.setup ∧
    (finalWrite c fields st rc s).lastVMax = s.lastVMax ∧ (finalWrite c fields st rc s).web = s.web ∧
    (finalWrite c fields st rc s).tmap = s.tmap ∧ (finalWrite c fields st rc s).ps = s.ps ∧
    (finalWrite c fields st rc s).spb = s.spb ∧ (finalWrite c fields st rc s).nc = s.nc ∧
    (finalWrite c fields st rc s).pe = s.pe ∧ (finalWrite c fields st rc s).hc = s.hc ∧
    (finalWrite c fields st rc s).wd = s.wd ∧ (finalWrite c fields st rc s).tc = s.tc ∧ (finalWrite c fields st rc s).rc = s.rc := by simp [finalWrite]

@[simp] theorem beginChainRead_frame (s : State) :
    (beginChainRead s).pending = s.pending ∧ (beginChainRead s).clock = s.clock ∧ (beginChainRead s).power = s.power ∧
    (beginChainRead s).ka = s.ka ∧ (beginChainRead s).regs = s.regs ∧ (beginChainRead s).setup = s.setup ∧
    (beginChainRead s).lastVMax = s.lastVMax ∧ (beginChainRead s).web = s.web ∧ (beginChainRead s).tmap = s.tmap ∧
    (beginChainRead s).ps = s.ps ∧ (beginChainRead s).spb = s.spb ∧ (beginChainRead s).nc = s.nc ∧
    (beginChainRead s).pe = s.pe ∧ (beginChainRead s).hc = s.hc ∧ (beginChainRead s).wd = s.wd ∧ (beginChainRead s).tc = s.tc ∧
    (beginChainRead s).rc = s.rc ∧ (beginChainRead s).su = s.su := by simp [beginChainRead]

@[simp] theorem endDispatch_frame (s : State) :
    (endDispatch s).pending = s.pending ∧ (endDispatch s).clock = s.clock ∧ (endDispatch s).power = s.power ∧
    (endDispatch s).ka = s.ka ∧ (endDispatch s).regs = s.regs ∧ (endDispatch s).setup = s.setup ∧
    (endDispatch s).lastVMax = s.lastVMax ∧ (endDispatch s).web = s.web ∧ (endDispatch s).tmap = s.tmap ∧
    (endDispatch s).ps = s.ps ∧ (endDispatch s).spb = s.spb ∧ (endDispatch s).nc = s.nc ∧ (endDispatch s).pe = s.pe ∧
    (endDispatch s).hc = s.hc ∧ (endDispatch s).wd = s.wd ∧ (endDispatch s).tc = s.tc ∧ (endDispatch s).rc = s.rc ∧
    (endDispatch s).su = s.su := by
  unfold endDispatch
  dsimp only
  split <;> simp

@[simp] theorem finishCurrent_frame (s : State) (fields : List (Nat × List Byte)) (st : CardState) (rc : ResultCode) :
    (finishCurrent fields st rc s).pending = s.pending ∧ (finishCurrent fields st rc s).clock = s.clock ∧
    (finishCurrent fields st rc s).power = s.power ∧ (finishCurrent fields st rc s).ka = s.ka ∧
    (finishCurrent fields st rc s).regs = s.regs ∧ (finishCurrent fields st rc s).setup = s.setup ∧
    (finishCurrent fields st rc s).lastVMax = s.lastVMax ∧ (finishCurrent fields st rc s).web = s.web ∧
    (finishCurrent fields st rc s).tmap = s.tmap ∧ (finishCurrent fields st rc s).ps = s.ps ∧
    (finishCurrent fields st rc s).spb = s.spb ∧ (finishCurrent fields st rc s).nc = s.nc ∧
    (finishCurrent fields st rc s).pe = s.pe ∧ (finishCurrent fields st rc s).hc = s.hc ∧
    (finishCurrent fields st rc s).wd = s.wd ∧ (finishCurrent fields st rc s).tc = s.tc ∧
    (finishCurrent fields st rc s).rc = s.rc := by
  unfold finishCurrent
  split <;> simp

@[simp] theorem doneCurrent_frame (s : State) (fields : List (Nat × List Byte)) :
    (doneCurrent fields s).pending = s.pending ∧ (doneCurrent fields s).clock = s.clock ∧
    (doneCurrent fields s).power = s.power ∧ (doneCurrent fields s).ka = s.ka ∧ (doneCurrent fields s).regs = s.regs ∧
    (doneCurrent fields s).setup = s.setup ∧ (doneCurrent fields s).lastVMax = s.lastVMax ∧ (doneCurrent fields s).web = s.web ∧
    (doneCurrent fields s).tmap = s.tmap ∧ (doneCurrent fields s).ps = s.ps ∧ (doneCurrent fields s).spb = s.spb ∧
    (doneCurrent fields s).nc = s.nc ∧ (doneCurrent fields s).pe = s.pe ∧ (doneCurrent fields s).hc = s.hc ∧
    (doneCurrent fields s).wd = s.wd ∧ (doneCurrent fields s).tc = s.tc ∧ (doneCurrent fields s).rc = s.rc := by simp [doneCurrent]

@[simp] theorem failCurrent_frame (s : State) (rc : ResultCode) (fields : List (Nat × List Byte)) :
    (failCurrent rc fields s).pending = s.pending ∧ (failCurrent rc fields s).clock = s.clock ∧
    (failCurrent rc fields s).power = s.power ∧ (failCurrent rc fields s).ka = s.ka ∧ (failCurrent rc fields s).regs = s.regs ∧
    (failCurrent rc fields s).setup = s.setup ∧ (failCurrent rc fields s).lastVMax = s.lastVMax ∧
    (failCurrent rc fields s).web = s.web ∧ (failCurrent rc fields s).tmap = s.tmap ∧ (failCurrent rc fields s).ps = s.ps ∧
    (failCurrent rc fields s).spb = s.spb ∧ (failCurrent rc fields s).nc = s.nc ∧ (failCurrent rc fields s).pe = s.pe ∧
    (failCurrent rc fields s).hc = s.hc ∧ (failCurrent rc fields s).wd = s.wd ∧ (failCurrent rc fields s).tc = s.tc ∧
    (failCurrent rc fields s).rc = s.rc := by simp [failCurrent]

@[simp] theorem failField_frame (s : State) (off : Nat) :
    (failField off s).pending = s.pending ∧ (failField off s).clock = s.clock ∧ (failField off s).power = s.power ∧
    (failField off s).ka = s.ka ∧ (failField off s).regs = s.regs ∧ (failField off s).setup = s.setup ∧
    (failField off s).lastVMax = s.lastVMax ∧ (failField off s).web = s.web ∧ (failField off s).tmap = s.tmap ∧
    (failField off s).ps = s.ps ∧ (failField off s).spb = s.spb ∧ (failField off s).nc = s.nc ∧ (failField off s).pe = s.pe ∧
    (failField off s).hc = s.hc ∧ (failField off s).wd = s.wd ∧ (failField off s).tc = s.tc ∧ (failField off s).rc = s.rc := by simp [failField]

@[simp] theorem stallCurrent_frame (s : State) :
    (stallCurrent s).pending = s.pending ∧ (stallCurrent s).clock = s.clock ∧ (stallCurrent s).power = s.power ∧
    (stallCurrent s).ka = s.ka ∧ (stallCurrent s).regs = s.regs ∧ (stallCurrent s).setup = s.setup ∧
    (stallCurrent s).lastVMax = s.lastVMax ∧ (stallCurrent s).web = s.web ∧ (stallCurrent s).tmap = s.tmap ∧
    (stallCurrent s).ps = s.ps ∧ (stallCurrent s).spb = s.spb ∧ (stallCurrent s).nc = s.nc ∧ (stallCurrent s).pe = s.pe ∧
    (stallCurrent s).hc = s.hc ∧ (stallCurrent s).wd = s.wd ∧ (stallCurrent s).tc = s.tc ∧ (stallCurrent s).rc = s.rc := by
  unfold stallCurrent
  split <;> simp

@[simp] theorem waitOrFail_frame (s : State) (rc : ResultCode) (fields : List (Nat × List Byte)) :
    (waitOrFail rc fields s).pending = s.pending ∧ (waitOrFail rc fields s).clock = s.clock ∧
    (waitOrFail rc fields s).power = s.power ∧ (waitOrFail rc fields s).ka = s.ka ∧ (waitOrFail rc fields s).regs = s.regs ∧
    (waitOrFail rc fields s).setup = s.setup ∧ (waitOrFail rc fields s).lastVMax = s.lastVMax ∧
    (waitOrFail rc fields s).web = s.web ∧ (waitOrFail rc fields s).tmap = s.tmap ∧ (waitOrFail rc fields s).ps = s.ps ∧
    (waitOrFail rc fields s).spb = s.spb ∧ (waitOrFail rc fields s).nc = s.nc ∧ (waitOrFail rc fields s).pe = s.pe ∧
    (waitOrFail rc fields s).hc = s.hc ∧ (waitOrFail rc fields s).wd = s.wd ∧ (waitOrFail rc fields s).tc = s.tc ∧
    (waitOrFail rc fields s).rc = s.rc := by
  unfold waitOrFail
  (repeat' split) <;> simp

@[simp] theorem takeFabric_frame (s : State) (id : Nat) :
    (takeFabric id s).pending = s.pending ∧ (takeFabric id s).clock = s.clock ∧ (takeFabric id s).power = s.power ∧
    (takeFabric id s).ka = s.ka ∧ (takeFabric id s).regs = s.regs ∧ (takeFabric id s).setup = s.setup ∧
    (takeFabric id s).lastVMax = s.lastVMax ∧ (takeFabric id s).web = s.web ∧ (takeFabric id s).ports = s.ports ∧
    (takeFabric id s).ce = s.ce ∧ (takeFabric id s).tmap = s.tmap ∧ (takeFabric id s).ps = s.ps ∧
    (takeFabric id s).spb = s.spb ∧ (takeFabric id s).nc = s.nc ∧ (takeFabric id s).pe = s.pe ∧ (takeFabric id s).hc = s.hc ∧
    (takeFabric id s).wd = s.wd ∧ (takeFabric id s).rc = s.rc ∧ (takeFabric id s).su = s.su := by
  unfold takeFabric
  split <;> simp

@[simp] theorem releaseFabric_frame (s : State) (id : Nat) :
    (releaseFabric id s).pending = s.pending ∧ (releaseFabric id s).clock = s.clock ∧ (releaseFabric id s).power = s.power ∧
    (releaseFabric id s).ka = s.ka ∧ (releaseFabric id s).regs = s.regs ∧ (releaseFabric id s).setup = s.setup ∧
    (releaseFabric id s).lastVMax = s.lastVMax ∧ (releaseFabric id s).web = s.web ∧ (releaseFabric id s).ports = s.ports ∧
    (releaseFabric id s).ce = s.ce ∧ (releaseFabric id s).tmap = s.tmap ∧ (releaseFabric id s).ps = s.ps ∧
    (releaseFabric id s).spb = s.spb ∧ (releaseFabric id s).nc = s.nc ∧ (releaseFabric id s).pe = s.pe ∧
    (releaseFabric id s).hc = s.hc ∧ (releaseFabric id s).wd = s.wd ∧ (releaseFabric id s).rc = s.rc ∧
    (releaseFabric id s).su = s.su := by
  unfold releaseFabric
  split <;> simp

@[simp] theorem cacheInvalidate_frame (s : State) (cell : Nat) :
    (cacheInvalidate cell s).pending = s.pending ∧ (cacheInvalidate cell s).clock = s.clock ∧
    (cacheInvalidate cell s).power = s.power ∧ (cacheInvalidate cell s).ka = s.ka ∧ (cacheInvalidate cell s).regs = s.regs ∧
    (cacheInvalidate cell s).setup = s.setup ∧ (cacheInvalidate cell s).lastVMax = s.lastVMax ∧
    (cacheInvalidate cell s).web = s.web ∧ (cacheInvalidate cell s).ports = s.ports ∧ (cacheInvalidate cell s).ce = s.ce ∧
    (cacheInvalidate cell s).tmap = s.tmap ∧ (cacheInvalidate cell s).ps = s.ps ∧ (cacheInvalidate cell s).spb = s.spb ∧
    (cacheInvalidate cell s).pe = s.pe ∧ (cacheInvalidate cell s).hc = s.hc ∧ (cacheInvalidate cell s).wd = s.wd ∧
    (cacheInvalidate cell s).tc = s.tc ∧ (cacheInvalidate cell s).rc = s.rc ∧ (cacheInvalidate cell s).su = s.su := by
  unfold cacheInvalidate
  split <;> simp

@[simp] theorem writeCell_frame (s : State) (cell : Nat) (v : CellValue) :
    (writeCell cell v s).pending = s.pending ∧ (writeCell cell v s).clock = s.clock ∧ (writeCell cell v s).power = s.power ∧
    (writeCell cell v s).ka = s.ka ∧ (writeCell cell v s).regs = s.regs ∧ (writeCell cell v s).setup = s.setup ∧
    (writeCell cell v s).lastVMax = s.lastVMax ∧ (writeCell cell v s).web = s.web ∧ (writeCell cell v s).ports = s.ports ∧
    (writeCell cell v s).ce = s.ce ∧ (writeCell cell v s).tmap = s.tmap ∧ (writeCell cell v s).spb = s.spb ∧
    (writeCell cell v s).pe = s.pe ∧ (writeCell cell v s).hc = s.hc ∧ (writeCell cell v s).wd = s.wd ∧
    (writeCell cell v s).tc = s.tc ∧ (writeCell cell v s).rc = s.rc ∧ (writeCell cell v s).su = s.su := by simp [writeCell]

@[simp] theorem requestShadow_frame (s : State) :
    (requestShadow s).pending = s.pending ∧ (requestShadow s).clock = s.clock ∧ (requestShadow s).power = s.power ∧
    (requestShadow s).ka = s.ka ∧ (requestShadow s).regs = s.regs ∧ (requestShadow s).setup = s.setup ∧
    (requestShadow s).lastVMax = s.lastVMax ∧ (requestShadow s).web = s.web ∧ (requestShadow s).ports = s.ports ∧
    (requestShadow s).ce = s.ce ∧ (requestShadow s).tmap = s.tmap ∧ (requestShadow s).spb = s.spb ∧
    (requestShadow s).nc = s.nc ∧ (requestShadow s).pe = s.pe ∧ (requestShadow s).hc = s.hc ∧ (requestShadow s).wd = s.wd ∧
    (requestShadow s).tc = s.tc ∧ (requestShadow s).rc = s.rc ∧ (requestShadow s).su = s.su := by
  unfold requestShadow
  split <;> simp

@[simp] theorem requestLoad_frame (s : State) :
    (requestLoad s).pending = s.pending ∧ (requestLoad s).clock = s.clock ∧ (requestLoad s).power = s.power ∧
    (requestLoad s).ka = s.ka ∧ (requestLoad s).regs = s.regs ∧ (requestLoad s).setup = s.setup ∧
    (requestLoad s).lastVMax = s.lastVMax ∧ (requestLoad s).web = s.web ∧ (requestLoad s).ports = s.ports ∧
    (requestLoad s).ce = s.ce ∧ (requestLoad s).tmap = s.tmap ∧ (requestLoad s).spb = s.spb ∧ (requestLoad s).nc = s.nc ∧
    (requestLoad s).pe = s.pe ∧ (requestLoad s).hc = s.hc ∧ (requestLoad s).wd = s.wd ∧ (requestLoad s).tc = s.tc ∧
    (requestLoad s).rc = s.rc ∧ (requestLoad s).su = s.su := by
  unfold requestLoad
  (repeat' split) <;> simp

@[simp] theorem pumpPort_frame (s : State) :
    (pumpPort s).pending = s.pending ∧ (pumpPort s).clock = s.clock ∧ (pumpPort s).power = s.power ∧ (pumpPort s).ka = s.ka ∧
    (pumpPort s).regs = s.regs ∧ (pumpPort s).setup = s.setup ∧ (pumpPort s).lastVMax = s.lastVMax ∧ (pumpPort s).web = s.web ∧
    (pumpPort s).ports = s.ports ∧ (pumpPort s).ce = s.ce ∧ (pumpPort s).tmap = s.tmap ∧ (pumpPort s).spb = s.spb ∧
    (pumpPort s).nc = s.nc ∧ (pumpPort s).pe = s.pe ∧ (pumpPort s).hc = s.hc ∧ (pumpPort s).wd = s.wd ∧ (pumpPort s).tc = s.tc ∧
    (pumpPort s).rc = s.rc ∧ (pumpPort s).su = s.su := by simp [pumpPort]

@[simp] theorem bumpVersions_frame (s : State) (ids : List Nat) :
    (bumpVersions ids s).pending = s.pending ∧ (bumpVersions ids s).clock = s.clock ∧ (bumpVersions ids s).power = s.power ∧
    (bumpVersions ids s).ka = s.ka ∧ (bumpVersions ids s).regs = s.regs ∧ (bumpVersions ids s).setup = s.setup ∧
    (bumpVersions ids s).lastVMax = s.lastVMax ∧ (bumpVersions ids s).web = s.web ∧ (bumpVersions ids s).ports = s.ports ∧
    (bumpVersions ids s).ce = s.ce ∧ (bumpVersions ids s).tmap = s.tmap ∧ (bumpVersions ids s).spb = s.spb ∧
    (bumpVersions ids s).nc = s.nc ∧ (bumpVersions ids s).pe = s.pe ∧ (bumpVersions ids s).hc = s.hc ∧
    (bumpVersions ids s).wd = s.wd ∧ (bumpVersions ids s).tc = s.tc ∧ (bumpVersions ids s).rc = s.rc ∧
    (bumpVersions ids s).su = s.su := by
  unfold bumpVersions
  refine ⟨foldl_keeps (·.pending) _ (fun s x => by simp) _ _,
    foldl_keeps (·.clock) _ (fun s x => by simp) _ _,
    foldl_keeps (·.power) _ (fun s x => by simp) _ _,
    foldl_keeps (·.ka) _ (fun s x => by simp) _ _,
    foldl_keeps (·.regs) _ (fun s x => by simp) _ _,
    foldl_keeps (·.setup) _ (fun s x => by simp) _ _,
    foldl_keeps (·.lastVMax) _ (fun s x => by simp) _ _,
    foldl_keeps (·.web) _ (fun s x => by simp) _ _,
    foldl_keeps (·.ports) _ (fun s x => by simp) _ _,
    foldl_keeps (·.ce) _ (fun s x => by simp) _ _,
    foldl_keeps (·.tmap) _ (fun s x => by simp) _ _,
    foldl_keeps (·.spb) _ (fun s x => by simp) _ _,
    foldl_keeps (·.nc) _ (fun s x => by simp) _ _,
    foldl_keeps (·.pe) _ (fun s x => by simp) _ _,
    foldl_keeps (·.hc) _ (fun s x => by simp) _ _,
    foldl_keeps (·.wd) _ (fun s x => by simp) _ _,
    foldl_keeps (·.tc) _ (fun s x => by simp) _ _,
    foldl_keeps (·.rc) _ (fun s x => by simp) _ _,
    foldl_keeps (·.su) _ (fun s x => by simp) _ _⟩

@[simp] theorem visibilityStep_frame (s : State) :
    (visibilityStep s).pending = s.pending ∧ (visibilityStep s).clock = s.clock ∧ (visibilityStep s).power = s.power ∧
    (visibilityStep s).ka = s.ka ∧ (visibilityStep s).regs = s.regs ∧ (visibilityStep s).setup = s.setup ∧
    (visibilityStep s).lastVMax = s.lastVMax ∧ (visibilityStep s).web = s.web ∧ (visibilityStep s).ports = s.ports ∧
    (visibilityStep s).ce = s.ce ∧ (visibilityStep s).tmap = s.tmap ∧ (visibilityStep s).nc = s.nc ∧
    (visibilityStep s).pe = s.pe ∧ (visibilityStep s).hc = s.hc ∧ (visibilityStep s).wd = s.wd ∧ (visibilityStep s).tc = s.tc ∧
    (visibilityStep s).rc = s.rc ∧ (visibilityStep s).su = s.su := by simp [visibilityStep]

@[simp] theorem parityError_frame (s : State) (id node cell : Nat) (src : ParitySource) (marks : Byte) :
    (parityError id node cell src marks s).pending = s.pending ∧ (parityError id node cell src marks s).clock = s.clock ∧
    (parityError id node cell src marks s).power = s.power ∧ (parityError id node cell src marks s).ka = s.ka ∧
    (parityError id node cell src marks s).regs = s.regs ∧ (parityError id node cell src marks s).setup = s.setup ∧
    (parityError id node cell src marks s).lastVMax = s.lastVMax ∧ (parityError id node cell src marks s).web = s.web ∧
    (parityError id node cell src marks s).ce = s.ce ∧ (parityError id node cell src marks s).tmap = s.tmap ∧
    (parityError id node cell src marks s).spb = s.spb ∧ (parityError id node cell src marks s).nc = s.nc ∧
    (parityError id node cell src marks s).pe = s.pe ∧ (parityError id node cell src marks s).hc = s.hc ∧
    (parityError id node cell src marks s).wd = s.wd ∧ (parityError id node cell src marks s).tc = s.tc ∧
    (parityError id node cell src marks s).rc = s.rc := by simp [parityError]

@[simp] theorem completeFree_frame (s : State) (id : Nat) :
    (completeFree id s).pending = s.pending ∧ (completeFree id s).clock = s.clock ∧ (completeFree id s).power = s.power ∧
    (completeFree id s).ka = s.ka ∧ (completeFree id s).regs = s.regs ∧ (completeFree id s).setup = s.setup ∧
    (completeFree id s).lastVMax = s.lastVMax ∧ (completeFree id s).web = s.web ∧ (completeFree id s).ce = s.ce ∧
    (completeFree id s).tmap = s.tmap ∧ (completeFree id s).spb = s.spb ∧ (completeFree id s).nc = s.nc ∧
    (completeFree id s).pe = s.pe ∧ (completeFree id s).hc = s.hc ∧ (completeFree id s).wd = s.wd ∧
    (completeFree id s).tc = s.tc ∧ (completeFree id s).rc = s.rc := by
  unfold completeFree
  split <;> simp

@[simp] theorem discardEntries_frame (s : State) (id : Nat) :
    (discardEntries id s).pending = s.pending ∧ (discardEntries id s).clock = s.clock ∧ (discardEntries id s).power = s.power ∧
    (discardEntries id s).ka = s.ka ∧ (discardEntries id s).regs = s.regs ∧ (discardEntries id s).setup = s.setup ∧
    (discardEntries id s).lastVMax = s.lastVMax ∧ (discardEntries id s).web = s.web ∧ (discardEntries id s).ports = s.ports ∧
    (discardEntries id s).tmap = s.tmap ∧ (discardEntries id s).nc = s.nc ∧ (discardEntries id s).pe = s.pe ∧
    (discardEntries id s).hc = s.hc ∧ (discardEntries id s).wd = s.wd ∧ (discardEntries id s).tc = s.tc ∧
    (discardEntries id s).rc = s.rc ∧ (discardEntries id s).su = s.su := by
  unfold discardEntries
  dsimp only
  (repeat' split) <;> simp

@[simp] theorem failPatchOf_frame (s : State) (id : Nat) :
    (failPatchOf id s).pending = s.pending ∧ (failPatchOf id s).clock = s.clock ∧ (failPatchOf id s).power = s.power ∧
    (failPatchOf id s).ka = s.ka ∧ (failPatchOf id s).regs = s.regs ∧ (failPatchOf id s).setup = s.setup ∧
    (failPatchOf id s).lastVMax = s.lastVMax ∧ (failPatchOf id s).web = s.web ∧ (failPatchOf id s).tmap = s.tmap ∧
    (failPatchOf id s).ps = s.ps ∧ (failPatchOf id s).nc = s.nc ∧ (failPatchOf id s).pe = s.pe ∧ (failPatchOf id s).hc = s.hc ∧
    (failPatchOf id s).wd = s.wd ∧ (failPatchOf id s).tc = s.tc ∧ (failPatchOf id s).rc = s.rc := by
  unfold failPatchOf
  (repeat' split) <;> simp

@[simp] theorem freeRecord_frame (s : State) (id : Nat) :
    (freeRecord id s).pending = s.pending ∧ (freeRecord id s).clock = s.clock ∧ (freeRecord id s).power = s.power ∧
    (freeRecord id s).ka = s.ka ∧ (freeRecord id s).regs = s.regs ∧ (freeRecord id s).setup = s.setup ∧
    (freeRecord id s).lastVMax = s.lastVMax ∧ (freeRecord id s).web = s.web ∧ (freeRecord id s).tmap = s.tmap ∧
    (freeRecord id s).nc = s.nc ∧ (freeRecord id s).pe = s.pe ∧ (freeRecord id s).hc = s.hc ∧ (freeRecord id s).wd = s.wd ∧
    (freeRecord id s).tc = s.tc ∧ (freeRecord id s).rc = s.rc := by
  unfold freeRecord
  dsimp only
  split <;> simp

@[simp] theorem releaseProfile_frame (s : State) (id : Nat) :
    (releaseProfile id s).pending = s.pending ∧ (releaseProfile id s).clock = s.clock ∧ (releaseProfile id s).power = s.power ∧
    (releaseProfile id s).ka = s.ka ∧ (releaseProfile id s).regs = s.regs ∧ (releaseProfile id s).setup = s.setup ∧
    (releaseProfile id s).lastVMax = s.lastVMax ∧ (releaseProfile id s).web = s.web ∧ (releaseProfile id s).tmap = s.tmap ∧
    (releaseProfile id s).nc = s.nc ∧ (releaseProfile id s).pe = s.pe ∧ (releaseProfile id s).hc = s.hc ∧
    (releaseProfile id s).wd = s.wd ∧ (releaseProfile id s).tc = s.tc ∧ (releaseProfile id s).rc = s.rc := by
  unfold releaseProfile
  dsimp only
  split <;> simp

@[simp] theorem writePrinted_frame (s : State) (g : Segment) :
    (writePrinted g s).pending = s.pending ∧ (writePrinted g s).clock = s.clock ∧ (writePrinted g s).power = s.power ∧
    (writePrinted g s).ka = s.ka ∧ (writePrinted g s).regs = s.regs ∧ (writePrinted g s).setup = s.setup ∧
    (writePrinted g s).lastVMax = s.lastVMax ∧ (writePrinted g s).web = s.web ∧ (writePrinted g s).ce = s.ce ∧
    (writePrinted g s).tmap = s.tmap ∧ (writePrinted g s).ps = s.ps ∧ (writePrinted g s).spb = s.spb ∧
    (writePrinted g s).nc = s.nc ∧ (writePrinted g s).pe = s.pe ∧ (writePrinted g s).hc = s.hc ∧ (writePrinted g s).wd = s.wd ∧
    (writePrinted g s).tc = s.tc ∧ (writePrinted g s).rc = s.rc ∧ (writePrinted g s).su = s.su := by
  unfold writePrinted
  split <;> simp

@[simp] theorem writeStripResults_frame (s : State) (c : CardRef) (g : Segment) (w : Option (Nat × Int) × Option (Nat × Int)) :
    (writeStripResults c g w s).pending = s.pending ∧ (writeStripResults c g w s).clock = s.clock ∧
    (writeStripResults c g w s).power = s.power ∧ (writeStripResults c g w s).ka = s.ka ∧
    (writeStripResults c g w s).regs = s.regs ∧ (writeStripResults c g w s).setup = s.setup ∧
    (writeStripResults c g w s).lastVMax = s.lastVMax ∧ (writeStripResults c g w s).web = s.web ∧
    (writeStripResults c g w s).ce = s.ce ∧ (writeStripResults c g w s).tmap = s.tmap ∧ (writeStripResults c g w s).ps = s.ps ∧
    (writeStripResults c g w s).spb = s.spb ∧ (writeStripResults c g w s).nc = s.nc ∧ (writeStripResults c g w s).pe = s.pe ∧
    (writeStripResults c g w s).hc = s.hc ∧ (writeStripResults c g w s).wd = s.wd ∧ (writeStripResults c g w s).tc = s.tc ∧
    (writeStripResults c g w s).rc = s.rc ∧ (writeStripResults c g w s).su = s.su := by
  unfold writeStripResults
  split <;> simp

@[simp] theorem reportStrip_frame (s : State) (g : Segment) (w : Option (Nat × Int) × Option (Nat × Int)) :
    (reportStrip g w s).pending = s.pending ∧ (reportStrip g w s).clock = s.clock ∧ (reportStrip g w s).power = s.power ∧
    (reportStrip g w s).ka = s.ka ∧ (reportStrip g w s).regs = s.regs ∧ (reportStrip g w s).setup = s.setup ∧
    (reportStrip g w s).lastVMax = s.lastVMax ∧ (reportStrip g w s).web = s.web ∧ (reportStrip g w s).tmap = s.tmap ∧
    (reportStrip g w s).ps = s.ps ∧ (reportStrip g w s).spb = s.spb ∧ (reportStrip g w s).nc = s.nc ∧
    (reportStrip g w s).pe = s.pe ∧ (reportStrip g w s).hc = s.hc ∧ (reportStrip g w s).wd = s.wd ∧
    (reportStrip g w s).tc = s.tc ∧ (reportStrip g w s).rc = s.rc := by
  unfold reportStrip
  split <;> simp

@[simp] theorem removeSeg_frame (s : State) (g : Segment) :
    (removeSeg g s).pending = s.pending ∧ (removeSeg g s).clock = s.clock ∧ (removeSeg g s).power = s.power ∧
    (removeSeg g s).ka = s.ka ∧ (removeSeg g s).regs = s.regs ∧ (removeSeg g s).setup = s.setup ∧
    (removeSeg g s).lastVMax = s.lastVMax ∧ (removeSeg g s).web = s.web ∧ (removeSeg g s).ce = s.ce ∧
    (removeSeg g s).ps = s.ps ∧ (removeSeg g s).spb = s.spb ∧ (removeSeg g s).nc = s.nc ∧ (removeSeg g s).pe = s.pe ∧
    (removeSeg g s).hc = s.hc ∧ (removeSeg g s).wd = s.wd ∧ (removeSeg g s).rc = s.rc := by simp [removeSeg]

@[simp] theorem addJoint_frame (s : State) (c : Nat) :
    (addJoint c s).pending = s.pending ∧ (addJoint c s).clock = s.clock ∧ (addJoint c s).power = s.power ∧
    (addJoint c s).ka = s.ka ∧ (addJoint c s).regs = s.regs ∧ (addJoint c s).setup = s.setup ∧
    (addJoint c s).lastVMax = s.lastVMax ∧ (addJoint c s).web = s.web ∧ (addJoint c s).ports = s.ports ∧
    (addJoint c s).ce = s.ce ∧ (addJoint c s).ps = s.ps ∧ (addJoint c s).spb = s.spb ∧ (addJoint c s).nc = s.nc ∧
    (addJoint c s).pe = s.pe ∧ (addJoint c s).hc = s.hc ∧ (addJoint c s).wd = s.wd ∧ (addJoint c s).tc = s.tc ∧
    (addJoint c s).rc = s.rc ∧ (addJoint c s).su = s.su := by
  unfold addJoint
  split <;> simp

@[simp] theorem noteFirst_frame (s : State) (q : QueuedPrint) (h : HoldReason) :
    (noteFirst q h s).pending = s.pending ∧ (noteFirst q h s).clock = s.clock ∧ (noteFirst q h s).power = s.power ∧
    (noteFirst q h s).ka = s.ka ∧ (noteFirst q h s).regs = s.regs ∧ (noteFirst q h s).setup = s.setup ∧
    (noteFirst q h s).lastVMax = s.lastVMax ∧ (noteFirst q h s).web = s.web ∧ (noteFirst q h s).ports = s.ports ∧
    (noteFirst q h s).ce = s.ce ∧ (noteFirst q h s).tmap = s.tmap ∧ (noteFirst q h s).ps = s.ps ∧
    (noteFirst q h s).spb = s.spb ∧ (noteFirst q h s).nc = s.nc ∧ (noteFirst q h s).hc = s.hc ∧ (noteFirst q h s).wd = s.wd ∧
    (noteFirst q h s).tc = s.tc ∧ (noteFirst q h s).rc = s.rc ∧ (noteFirst q h s).su = s.su := by
  unfold noteFirst
  split <;> simp

@[simp] theorem touchStart_frame (s : State) :
    (touchStart s).pending = s.pending ∧ (touchStart s).clock = s.clock ∧ (touchStart s).power = s.power ∧
    (touchStart s).ka = s.ka ∧ (touchStart s).regs = s.regs ∧ (touchStart s).setup = s.setup ∧
    (touchStart s).lastVMax = s.lastVMax ∧ (touchStart s).web = s.web ∧ (touchStart s).ports = s.ports ∧
    (touchStart s).ce = s.ce ∧ (touchStart s).tmap = s.tmap ∧ (touchStart s).ps = s.ps ∧ (touchStart s).spb = s.spb ∧
    (touchStart s).nc = s.nc ∧ (touchStart s).hc = s.hc ∧ (touchStart s).wd = s.wd ∧ (touchStart s).tc = s.tc ∧
    (touchStart s).rc = s.rc ∧ (touchStart s).su = s.su := by
  unfold touchStart
  (repeat' split) <;> simp

@[simp] theorem failQueued_frame (s : State) (rc : ResultCode) (fields : List (Nat × List Byte)) (q : QueuedPrint) :
    (failQueued rc fields q s).pending = s.pending ∧ (failQueued rc fields q s).clock = s.clock ∧
    (failQueued rc fields q s).power = s.power ∧ (failQueued rc fields q s).ka = s.ka ∧
    (failQueued rc fields q s).regs = s.regs ∧ (failQueued rc fields q s).setup = s.setup ∧
    (failQueued rc fields q s).lastVMax = s.lastVMax ∧ (failQueued rc fields q s).web = s.web ∧
    (failQueued rc fields q s).tmap = s.tmap ∧ (failQueued rc fields q s).nc = s.nc ∧ (failQueued rc fields q s).hc = s.hc ∧
    (failQueued rc fields q s).wd = s.wd ∧ (failQueued rc fields q s).rc = s.rc := by simp [failQueued]

@[simp] theorem failQueuedOf_frame (s : State) (id : Nat) :
    (failQueuedOf id s).pending = s.pending ∧ (failQueuedOf id s).clock = s.clock ∧ (failQueuedOf id s).power = s.power ∧
    (failQueuedOf id s).ka = s.ka ∧ (failQueuedOf id s).regs = s.regs ∧ (failQueuedOf id s).setup = s.setup ∧
    (failQueuedOf id s).lastVMax = s.lastVMax ∧ (failQueuedOf id s).web = s.web ∧ (failQueuedOf id s).tmap = s.tmap ∧
    (failQueuedOf id s).nc = s.nc ∧ (failQueuedOf id s).hc = s.hc ∧ (failQueuedOf id s).wd = s.wd ∧
    (failQueuedOf id s).rc = s.rc := by
  unfold failQueuedOf
  refine ⟨foldl_keeps (·.pending) _ (fun s x => by simp) _ _,
    foldl_keeps (·.clock) _ (fun s x => by simp) _ _,
    foldl_keeps (·.power) _ (fun s x => by simp) _ _,
    foldl_keeps (·.ka) _ (fun s x => by simp) _ _,
    foldl_keeps (·.regs) _ (fun s x => by simp) _ _,
    foldl_keeps (·.setup) _ (fun s x => by simp) _ _,
    foldl_keeps (·.lastVMax) _ (fun s x => by simp) _ _,
    foldl_keeps (·.web) _ (fun s x => by simp) _ _,
    foldl_keeps (·.tmap) _ (fun s x => by simp) _ _,
    foldl_keeps (·.nc) _ (fun s x => by simp) _ _,
    foldl_keeps (·.hc) _ (fun s x => by simp) _ _,
    foldl_keeps (·.wd) _ (fun s x => by simp) _ _,
    foldl_keeps (·.rc) _ (fun s x => by simp) _ _⟩

@[simp] theorem fetchRaster_frame (s : State) :
    (fetchRaster s).pending = s.pending ∧ (fetchRaster s).clock = s.clock ∧ (fetchRaster s).power = s.power ∧
    (fetchRaster s).ka = s.ka ∧ (fetchRaster s).regs = s.regs ∧ (fetchRaster s).setup = s.setup ∧
    (fetchRaster s).lastVMax = s.lastVMax ∧ (fetchRaster s).web = s.web ∧ (fetchRaster s).ce = s.ce ∧
    (fetchRaster s).tmap = s.tmap ∧ (fetchRaster s).ps = s.ps ∧ (fetchRaster s).spb = s.spb ∧ (fetchRaster s).nc = s.nc ∧
    (fetchRaster s).hc = s.hc ∧ (fetchRaster s).wd = s.wd ∧ (fetchRaster s).tc = s.tc ∧ (fetchRaster s).rc = s.rc ∧
    (fetchRaster s).su = s.su := by
  unfold fetchRaster
  dsimp only
  (repeat' split) <;> simp

@[simp] theorem abandonLine_frame (s : State) :
    (abandonLine s).pending = s.pending ∧ (abandonLine s).clock = s.clock ∧ (abandonLine s).power = s.power ∧
    (abandonLine s).ka = s.ka ∧ (abandonLine s).regs = s.regs ∧ (abandonLine s).setup = s.setup ∧
    (abandonLine s).lastVMax = s.lastVMax ∧ (abandonLine s).web = s.web ∧ (abandonLine s).ports = s.ports ∧
    (abandonLine s).ce = s.ce ∧ (abandonLine s).tmap = s.tmap ∧ (abandonLine s).nc = s.nc ∧ (abandonLine s).hc = s.hc ∧
    (abandonLine s).wd = s.wd ∧ (abandonLine s).tc = s.tc ∧ (abandonLine s).rc = s.rc ∧ (abandonLine s).su = s.su := by
  unfold abandonLine
  split <;> simp

@[simp] theorem endJob_frame (s : State) :
    (endJob s).pending = s.pending ∧ (endJob s).clock = s.clock ∧ (endJob s).power = s.power ∧ (endJob s).ka = s.ka ∧
    (endJob s).regs = s.regs ∧ (endJob s).setup = s.setup ∧ (endJob s).lastVMax = s.lastVMax ∧ (endJob s).web = s.web ∧
    (endJob s).tmap = s.tmap ∧ (endJob s).nc = s.nc ∧ (endJob s).hc = s.hc ∧ (endJob s).wd = s.wd ∧ (endJob s).tc = s.tc ∧
    (endJob s).rc = s.rc := by
  unfold endJob
  split <;> simp

@[simp] theorem setPrintEnd_frame (s : State) :
    (setPrintEnd s).pending = s.pending ∧ (setPrintEnd s).clock = s.clock ∧ (setPrintEnd s).power = s.power ∧
    (setPrintEnd s).ka = s.ka ∧ (setPrintEnd s).regs = s.regs ∧ (setPrintEnd s).setup = s.setup ∧
    (setPrintEnd s).lastVMax = s.lastVMax ∧ (setPrintEnd s).web = s.web ∧ (setPrintEnd s).ports = s.ports ∧
    (setPrintEnd s).ce = s.ce ∧ (setPrintEnd s).ps = s.ps ∧ (setPrintEnd s).spb = s.spb ∧ (setPrintEnd s).nc = s.nc ∧
    (setPrintEnd s).pe = s.pe ∧ (setPrintEnd s).hc = s.hc ∧ (setPrintEnd s).wd = s.wd ∧ (setPrintEnd s).tc = s.tc ∧
    (setPrintEnd s).rc = s.rc ∧ (setPrintEnd s).su = s.su := by
  unfold setPrintEnd
  split <;> simp

@[simp] theorem endPrint_frame (s : State) :
    (endPrint s).pending = s.pending ∧ (endPrint s).clock = s.clock ∧ (endPrint s).power = s.power ∧ (endPrint s).ka = s.ka ∧
    (endPrint s).regs = s.regs ∧ (endPrint s).setup = s.setup ∧ (endPrint s).lastVMax = s.lastVMax ∧ (endPrint s).web = s.web ∧
    (endPrint s).ce = s.ce ∧ (endPrint s).ps = s.ps ∧ (endPrint s).spb = s.spb ∧ (endPrint s).nc = s.nc ∧
    (endPrint s).pe = s.pe ∧ (endPrint s).hc = s.hc ∧ (endPrint s).wd = s.wd ∧ (endPrint s).tc = s.tc ∧ (endPrint s).rc = s.rc ∧
    (endPrint s).su = s.su := by
  unfold endPrint
  dsimp only
  (repeat' split) <;> simp

@[simp] theorem setSplice_frame (s : State) (a : Unwind) (f : SpliceRecord → SpliceRecord) :
    (setSplice a f s).pending = s.pending ∧ (setSplice a f s).clock = s.clock ∧ (setSplice a f s).power = s.power ∧
    (setSplice a f s).ka = s.ka ∧ (setSplice a f s).regs = s.regs ∧ (setSplice a f s).setup = s.setup ∧
    (setSplice a f s).lastVMax = s.lastVMax ∧ (setSplice a f s).web = s.web ∧ (setSplice a f s).ports = s.ports ∧
    (setSplice a f s).ce = s.ce ∧ (setSplice a f s).tmap = s.tmap ∧ (setSplice a f s).ps = s.ps ∧
    (setSplice a f s).spb = s.spb ∧ (setSplice a f s).nc = s.nc ∧ (setSplice a f s).pe = s.pe ∧ (setSplice a f s).hc = s.hc ∧
    (setSplice a f s).wd = s.wd ∧ (setSplice a f s).tc = s.tc ∧ (setSplice a f s).su = s.su := by
  cases a <;> simp [setSplice]

@[simp] theorem beginSplice_frame (s : State) (a : Unwind) (cause : SpliceCause) (card : Option CardRef) :
    (beginSplice a cause card s).pending = s.pending ∧ (beginSplice a cause card s).clock = s.clock ∧
    (beginSplice a cause card s).power = s.power ∧ (beginSplice a cause card s).ka = s.ka ∧
    (beginSplice a cause card s).regs = s.regs ∧ (beginSplice a cause card s).setup = s.setup ∧
    (beginSplice a cause card s).lastVMax = s.lastVMax ∧ (beginSplice a cause card s).web = s.web ∧
    (beginSplice a cause card s).ce = s.ce ∧ (beginSplice a cause card s).tmap = s.tmap ∧
    (beginSplice a cause card s).ps = s.ps ∧ (beginSplice a cause card s).spb = s.spb ∧ (beginSplice a cause card s).nc = s.nc ∧
    (beginSplice a cause card s).pe = s.pe ∧ (beginSplice a cause card s).hc = s.hc ∧ (beginSplice a cause card s).wd = s.wd ∧
    (beginSplice a cause card s).tc = s.tc := by simp [beginSplice]

@[simp] theorem tryPending_frame (s : State) (a : Unwind) :
    (tryPending a s).pending = s.pending ∧ (tryPending a s).clock = s.clock ∧ (tryPending a s).power = s.power ∧
    (tryPending a s).ka = s.ka ∧ (tryPending a s).regs = s.regs ∧ (tryPending a s).setup = s.setup ∧
    (tryPending a s).lastVMax = s.lastVMax ∧ (tryPending a s).web = s.web ∧ (tryPending a s).ce = s.ce ∧
    (tryPending a s).tmap = s.tmap ∧ (tryPending a s).ps = s.ps ∧ (tryPending a s).spb = s.spb ∧ (tryPending a s).nc = s.nc ∧
    (tryPending a s).pe = s.pe ∧ (tryPending a s).hc = s.hc ∧ (tryPending a s).wd = s.wd ∧ (tryPending a s).tc = s.tc := by
  unfold tryPending
  (repeat' split) <;> simp

@[simp] theorem autoRequest_frame (s : State) (a : Unwind) (cause : SpliceCause) :
    (autoRequest a cause s).pending = s.pending ∧ (autoRequest a cause s).clock = s.clock ∧
    (autoRequest a cause s).power = s.power ∧ (autoRequest a cause s).ka = s.ka ∧ (autoRequest a cause s).regs = s.regs ∧
    (autoRequest a cause s).setup = s.setup ∧ (autoRequest a cause s).lastVMax = s.lastVMax ∧
    (autoRequest a cause s).web = s.web ∧ (autoRequest a cause s).ce = s.ce ∧ (autoRequest a cause s).tmap = s.tmap ∧
    (autoRequest a cause s).ps = s.ps ∧ (autoRequest a cause s).spb = s.spb ∧ (autoRequest a cause s).nc = s.nc ∧
    (autoRequest a cause s).pe = s.pe ∧ (autoRequest a cause s).hc = s.hc ∧ (autoRequest a cause s).wd = s.wd ∧
    (autoRequest a cause s).tc = s.tc := by
  unfold autoRequest
  dsimp only
  (repeat' split) <;> simp

@[simp] theorem testCount_frame (s : State) (a : Unwind) :
    (testCount a s).pending = s.pending ∧ (testCount a s).clock = s.clock ∧ (testCount a s).power = s.power ∧
    (testCount a s).ka = s.ka ∧ (testCount a s).regs = s.regs ∧ (testCount a s).setup = s.setup ∧
    (testCount a s).lastVMax = s.lastVMax ∧ (testCount a s).web = s.web ∧ (testCount a s).ports = s.ports ∧
    (testCount a s).ce = s.ce ∧ (testCount a s).tmap = s.tmap ∧ (testCount a s).ps = s.ps ∧ (testCount a s).spb = s.spb ∧
    (testCount a s).nc = s.nc ∧ (testCount a s).pe = s.pe ∧ (testCount a s).hc = s.hc ∧ (testCount a s).wd = s.wd ∧
    (testCount a s).tc = s.tc ∧ (testCount a s).su = s.su := by
  unfold testCount
  split <;> simp

@[simp] theorem clearCounter_frame (s : State) (a : Unwind) :
    (clearCounter a s).pending = s.pending ∧ (clearCounter a s).clock = s.clock ∧ (clearCounter a s).power = s.power ∧
    (clearCounter a s).regs = s.regs ∧ (clearCounter a s).setup = s.setup ∧ (clearCounter a s).lastVMax = s.lastVMax ∧
    (clearCounter a s).web = s.web ∧ (clearCounter a s).ports = s.ports ∧ (clearCounter a s).ce = s.ce ∧
    (clearCounter a s).tmap = s.tmap ∧ (clearCounter a s).ps = s.ps ∧ (clearCounter a s).spb = s.spb ∧
    (clearCounter a s).nc = s.nc ∧ (clearCounter a s).pe = s.pe ∧ (clearCounter a s).hc = s.hc ∧ (clearCounter a s).wd = s.wd ∧
    (clearCounter a s).tc = s.tc ∧ (clearCounter a s).rc = s.rc ∧ (clearCounter a s).su = s.su := by
  cases a <;> simp [clearCounter]

@[simp] theorem makeJoint_frame (s : State) (a : Unwind) :
    ((makeJoint a s).2).pending = s.pending ∧ ((makeJoint a s).2).clock = s.clock ∧ ((makeJoint a s).2).power = s.power ∧
    ((makeJoint a s).2).ka = s.ka ∧ ((makeJoint a s).2).regs = s.regs ∧ ((makeJoint a s).2).setup = s.setup ∧
    ((makeJoint a s).2).lastVMax = s.lastVMax ∧ ((makeJoint a s).2).web = s.web ∧ ((makeJoint a s).2).ports = s.ports ∧
    ((makeJoint a s).2).ce = s.ce ∧ ((makeJoint a s).2).ps = s.ps ∧ ((makeJoint a s).2).spb = s.spb ∧
    ((makeJoint a s).2).nc = s.nc ∧ ((makeJoint a s).2).pe = s.pe ∧ ((makeJoint a s).2).hc = s.hc ∧
    ((makeJoint a s).2).wd = s.wd ∧ ((makeJoint a s).2).tc = s.tc ∧ ((makeJoint a s).2).su = s.su := by
  cases a <;> simp [makeJoint]

@[simp] theorem completeSplice_frame (s : State) (a : Unwind) :
    (completeSplice a s).pending = s.pending ∧ (completeSplice a s).clock = s.clock ∧ (completeSplice a s).power = s.power ∧
    (completeSplice a s).regs = s.regs ∧ (completeSplice a s).setup = s.setup ∧ (completeSplice a s).lastVMax = s.lastVMax ∧
    (completeSplice a s).web = s.web ∧ (completeSplice a s).ps = s.ps ∧ (completeSplice a s).spb = s.spb ∧
    (completeSplice a s).nc = s.nc ∧ (completeSplice a s).pe = s.pe ∧ (completeSplice a s).hc = s.hc ∧
    (completeSplice a s).wd = s.wd := by
  unfold completeSplice
  dsimp only
  split <;> simp

@[simp] theorem withdrawSplice_frame (s : State) (a : Unwind) :
    (withdrawSplice a s).pending = s.pending ∧ (withdrawSplice a s).clock = s.clock ∧ (withdrawSplice a s).power = s.power ∧
    (withdrawSplice a s).ka = s.ka ∧ (withdrawSplice a s).regs = s.regs ∧ (withdrawSplice a s).setup = s.setup ∧
    (withdrawSplice a s).lastVMax = s.lastVMax ∧ (withdrawSplice a s).web = s.web ∧ (withdrawSplice a s).tmap = s.tmap ∧
    (withdrawSplice a s).ps = s.ps ∧ (withdrawSplice a s).spb = s.spb ∧ (withdrawSplice a s).nc = s.nc ∧
    (withdrawSplice a s).pe = s.pe ∧ (withdrawSplice a s).hc = s.hc ∧ (withdrawSplice a s).wd = s.wd ∧
    (withdrawSplice a s).tc = s.tc := by
  unfold withdrawSplice
  dsimp only
  (repeat' split) <;> simp

@[simp] theorem haltMap_frame (s : State) :
    (haltMap s).pending = s.pending ∧ (haltMap s).clock = s.clock ∧ (haltMap s).power = s.power ∧ (haltMap s).ka = s.ka ∧
    (haltMap s).regs = s.regs ∧ (haltMap s).setup = s.setup ∧ (haltMap s).lastVMax = s.lastVMax ∧ (haltMap s).web = s.web ∧
    (haltMap s).ps = s.ps ∧ (haltMap s).spb = s.spb ∧ (haltMap s).nc = s.nc ∧ (haltMap s).pe = s.pe ∧ (haltMap s).hc = s.hc ∧
    (haltMap s).wd = s.wd ∧ (haltMap s).rc = s.rc := by
  unfold haltMap
  refine ⟨foldl_keeps (·.pending) _ (fun s x => by simp) _ _,
    foldl_keeps (·.clock) _ (fun s x => by simp) _ _,
    foldl_keeps (·.power) _ (fun s x => by simp) _ _,
    foldl_keeps (·.ka) _ (fun s x => by simp) _ _,
    foldl_keeps (·.regs) _ (fun s x => by simp) _ _,
    foldl_keeps (·.setup) _ (fun s x => by simp) _ _,
    foldl_keeps (·.lastVMax) _ (fun s x => by simp) _ _,
    foldl_keeps (·.web) _ (fun s x => by simp) _ _,
    foldl_keeps (·.ps) _ (fun s x => by simp) _ _,
    foldl_keeps (·.spb) _ (fun s x => by simp) _ _,
    foldl_keeps (·.nc) _ (fun s x => by simp) _ _,
    foldl_keeps (·.pe) _ (fun s x => by simp) _ _,
    foldl_keeps (·.hc) _ (fun s x => by simp) _ _,
    foldl_keeps (·.wd) _ (fun s x => by simp) _ _,
    foldl_keeps (·.rc) _ (fun s x => by simp) _ _⟩

@[simp] theorem haltPrint_frame (s : State) :
    (haltPrint s).pending = s.pending ∧ (haltPrint s).clock = s.clock ∧ (haltPrint s).power = s.power ∧
    (haltPrint s).ka = s.ka ∧ (haltPrint s).regs = s.regs ∧ (haltPrint s).setup = s.setup ∧
    (haltPrint s).lastVMax = s.lastVMax ∧ (haltPrint s).web = s.web ∧ (haltPrint s).tmap = s.tmap ∧ (haltPrint s).nc = s.nc ∧
    (haltPrint s).hc = s.hc ∧ (haltPrint s).wd = s.wd ∧ (haltPrint s).tc = s.tc ∧ (haltPrint s).rc = s.rc := by simp [haltPrint]

@[simp] theorem takeHalt_frame (s : State) (cause : HaltCause) :
    (takeHalt cause s).pending = s.pending ∧ (takeHalt cause s).clock = s.clock ∧ (takeHalt cause s).power = s.power ∧
    (takeHalt cause s).ka = s.ka ∧ (takeHalt cause s).regs = s.regs ∧ (takeHalt cause s).setup = s.setup ∧
    (takeHalt cause s).lastVMax = s.lastVMax ∧ (takeHalt cause s).web = s.web ∧ (takeHalt cause s).nc = s.nc := by simp [takeHalt]

@[simp] theorem haltLine_frame (s : State) (cause : HaltCause) :
    (haltLine cause s).pending = s.pending ∧ (haltLine cause s).clock = s.clock ∧ (haltLine cause s).power = s.power ∧
    (haltLine cause s).ka = s.ka ∧ (haltLine cause s).regs = s.regs ∧ (haltLine cause s).setup = s.setup ∧
    (haltLine cause s).lastVMax = s.lastVMax ∧ (haltLine cause s).web = s.web ∧ (haltLine cause s).nc = s.nc := by
  unfold haltLine
  split <;> simp

end Sys2Proof.Machine
end

