-- ==== Sys2Proof/Laws/Commands.lean ====
section
/-! SUPPORT. What each command's own operations leave as it was: one lemma per operation, a conjunction over the fields of State that it
does not reach. What the held lookup and the frames of a reset can do. -/

namespace Sys2Proof.Machine

@[simp] theorem failPatch_frame (s : State) (rc : ResultCode) (fields : List (Nat × List Byte)) :
    (failPatch rc fields s).pending = s.pending ∧ (failPatch rc fields s).clock = s.clock ∧
    (failPatch rc fields s).power = s.power ∧ (failPatch rc fields s).ka = s.ka ∧ (failPatch rc fields s).regs = s.regs ∧
    (failPatch rc fields s).setup = s.setup ∧ (failPatch rc fields s).lastVMax = s.lastVMax ∧
    (failPatch rc fields s).web = s.web ∧ (failPatch rc fields s).tmap = s.tmap ∧ (failPatch rc fields s).ps = s.ps ∧
    (failPatch rc fields s).nc = s.nc ∧ (failPatch rc fields s).pe = s.pe ∧ (failPatch rc fields s).hc = s.hc ∧
    (failPatch rc fields s).wd = s.wd ∧ (failPatch rc fields s).tc = s.tc ∧ (failPatch rc fields s).rc = s.rc := by simp [failPatch]

@[simp] theorem patchCard_frame (s : State) (c : CurrentCard) :
    (patchCard c s).pending = s.pending ∧ (patchCard c s).clock = s.clock ∧ (patchCard c s).power = s.power ∧
    (patchCard c s).ka = s.ka ∧ (patchCard c s).regs = s.regs ∧ (patchCard c s).setup = s.setup ∧
    (patchCard c s).lastVMax = s.lastVMax ∧ (patchCard c s).web = s.web ∧ (patchCard c s).tmap = s.tmap ∧
    (patchCard c s).ps = s.ps ∧ (patchCard c s).nc = s.nc ∧ (patchCard c s).pe = s.pe ∧ (patchCard c s).hc = s.hc ∧
    (patchCard c s).wd = s.wd ∧ (patchCard c s).tc = s.tc ∧ (patchCard c s).rc = s.rc := by
  unfold patchCard
  dsimp only
  (repeat' split) <;> simp

@[simp] theorem listReadFails_frame (s : State) :
    (listReadFails s).pending = s.pending ∧ (listReadFails s).clock = s.clock ∧ (listReadFails s).power = s.power ∧
    (listReadFails s).ka = s.ka ∧ (listReadFails s).regs = s.regs ∧ (listReadFails s).setup = s.setup ∧
    (listReadFails s).lastVMax = s.lastVMax ∧ (listReadFails s).web = s.web ∧ (listReadFails s).tmap = s.tmap ∧
    (listReadFails s).ps = s.ps ∧ (listReadFails s).nc = s.nc ∧ (listReadFails s).pe = s.pe ∧ (listReadFails s).hc = s.hc ∧
    (listReadFails s).wd = s.wd ∧ (listReadFails s).tc = s.tc ∧ (listReadFails s).rc = s.rc := by
  unfold listReadFails onListRead
  (repeat' split) <;> simp

@[simp] theorem advanceEdit_frame (s : State) :
    (advanceEdit s).pending = s.pending ∧ (advanceEdit s).clock = s.clock ∧ (advanceEdit s).power = s.power ∧
    (advanceEdit s).ka = s.ka ∧ (advanceEdit s).regs = s.regs ∧ (advanceEdit s).setup = s.setup ∧
    (advanceEdit s).lastVMax = s.lastVMax ∧ (advanceEdit s).web = s.web ∧ (advanceEdit s).tmap = s.tmap ∧
    (advanceEdit s).ps = s.ps ∧ (advanceEdit s).nc = s.nc ∧ (advanceEdit s).pe = s.pe ∧ (advanceEdit s).hc = s.hc ∧
    (advanceEdit s).wd = s.wd ∧ (advanceEdit s).tc = s.tc ∧ (advanceEdit s).rc = s.rc := by
  unfold advanceEdit
  (repeat' split) <;> simp

@[simp] theorem arriveEntry_frame (s : State) (id node cell : Nat) (v : CellValue) :
    (arriveEntry id node cell v s).pending = s.pending ∧ (arriveEntry id node cell v s).clock = s.clock ∧
    (arriveEntry id node cell v s).power = s.power ∧ (arriveEntry id node cell v s).ka = s.ka ∧
    (arriveEntry id node cell v s).regs = s.regs ∧ (arriveEntry id node cell v s).setup = s.setup ∧
    (arriveEntry id node cell v s).lastVMax = s.lastVMax ∧ (arriveEntry id node cell v s).web = s.web ∧
    (arriveEntry id node cell v s).ports = s.ports ∧ (arriveEntry id node cell v s).ce = s.ce ∧
    (arriveEntry id node cell v s).tmap = s.tmap ∧ (arriveEntry id node cell v s).nc = s.nc ∧
    (arriveEntry id node cell v s).pe = s.pe ∧ (arriveEntry id node cell v s).hc = s.hc ∧
    (arriveEntry id node cell v s).wd = s.wd ∧ (arriveEntry id node cell v s).tc = s.tc ∧
    (arriveEntry id node cell v s).rc = s.rc ∧ (arriveEntry id node cell v s).su = s.su := by
  unfold arriveEntry
  dsimp only
  split <;> simp

@[simp] theorem applyEdit_frame (s : State) (p : PatchJob) (e : Edit) (h : ProfileHeader) :
    (applyEdit p e h s).pending = s.pending ∧ (applyEdit p e h s).clock = s.clock ∧ (applyEdit p e h s).power = s.power ∧
    (applyEdit p e h s).ka = s.ka ∧ (applyEdit p e h s).regs = s.regs ∧ (applyEdit p e h s).setup = s.setup ∧
    (applyEdit p e h s).lastVMax = s.lastVMax ∧ (applyEdit p e h s).web = s.web ∧ (applyEdit p e h s).tmap = s.tmap ∧
    (applyEdit p e h s).nc = s.nc ∧ (applyEdit p e h s).pe = s.pe ∧ (applyEdit p e h s).hc = s.hc ∧
    (applyEdit p e h s).wd = s.wd ∧ (applyEdit p e h s).tc = s.tc ∧ (applyEdit p e h s).rc = s.rc := by
  unfold applyEdit
  dsimp only
  (repeat' split) <;> simp

@[simp] theorem reofferPatch_frame (s : State) :
    (reofferPatch s).pending = s.pending ∧ (reofferPatch s).clock = s.clock ∧ (reofferPatch s).power = s.power ∧
    (reofferPatch s).ka = s.ka ∧ (reofferPatch s).regs = s.regs ∧ (reofferPatch s).setup = s.setup ∧
    (reofferPatch s).lastVMax = s.lastVMax ∧ (reofferPatch s).web = s.web ∧ (reofferPatch s).ports = s.ports ∧
    (reofferPatch s).tmap = s.tmap ∧ (reofferPatch s).ps = s.ps ∧ (reofferPatch s).nc = s.nc ∧ (reofferPatch s).pe = s.pe ∧
    (reofferPatch s).hc = s.hc ∧ (reofferPatch s).wd = s.wd ∧ (reofferPatch s).tc = s.tc ∧ (reofferPatch s).rc = s.rc ∧
    (reofferPatch s).su = s.su := by
  unfold reofferPatch
  (repeat' split) <;> simp

@[simp] theorem flagParity_frame (s : State) (id : Nat) :
    (flagParity id s).pending = s.pending ∧ (flagParity id s).clock = s.clock ∧ (flagParity id s).power = s.power ∧
    (flagParity id s).ka = s.ka ∧ (flagParity id s).regs = s.regs ∧ (flagParity id s).setup = s.setup ∧
    (flagParity id s).lastVMax = s.lastVMax ∧ (flagParity id s).web = s.web ∧ (flagParity id s).ports = s.ports ∧
    (flagParity id s).ce = s.ce ∧ (flagParity id s).ps = s.ps ∧ (flagParity id s).spb = s.spb ∧ (flagParity id s).nc = s.nc ∧
    (flagParity id s).pe = s.pe ∧ (flagParity id s).hc = s.hc ∧ (flagParity id s).wd = s.wd ∧ (flagParity id s).tc = s.tc ∧
    (flagParity id s).rc = s.rc ∧ (flagParity id s).su = s.su := by
  unfold flagParity
  (repeat' split) <;> simp

@[simp] theorem noteParity_frame (s : State) (id node cell : Nat) (src : ParitySource) (marks : Byte) :
    (noteParity id node cell src marks s).pending = s.pending ∧ (noteParity id node cell src marks s).clock = s.clock ∧
    (noteParity id node cell src marks s).power = s.power ∧ (noteParity id node cell src marks s).ka = s.ka ∧
    (noteParity id node cell src marks s).regs = s.regs ∧ (noteParity id node cell src marks s).setup = s.setup ∧
    (noteParity id node cell src marks s).lastVMax = s.lastVMax ∧ (noteParity id node cell src marks s).web = s.web ∧
    (noteParity id node cell src marks s).ce = s.ce ∧ (noteParity id node cell src marks s).spb = s.spb ∧
    (noteParity id node cell src marks s).nc = s.nc ∧ (noteParity id node cell src marks s).pe = s.pe ∧
    (noteParity id node cell src marks s).hc = s.hc ∧ (noteParity id node cell src marks s).wd = s.wd ∧
    (noteParity id node cell src marks s).tc = s.tc ∧ (noteParity id node cell src marks s).rc = s.rc := by
  unfold noteParity
  split <;> simp

@[simp] theorem parityHalt_frame (s : State) (marks : Byte) :
    (parityHalt marks s).pending = s.pending ∧ (parityHalt marks s).clock = s.clock ∧ (parityHalt marks s).power = s.power ∧
    (parityHalt marks s).ka = s.ka ∧ (parityHalt marks s).regs = s.regs ∧ (parityHalt marks s).setup = s.setup ∧
    (parityHalt marks s).lastVMax = s.lastVMax ∧ (parityHalt marks s).web = s.web ∧ (parityHalt marks s).nc = s.nc := by
  unfold parityHalt
  split <;> simp

@[simp] theorem createEntry_frame (s : State) (id node cell k : Nat) (c : StoreCell) :
    (createEntry id node cell k c s).pending = s.pending ∧ (createEntry id node cell k c s).clock = s.clock ∧
    (createEntry id node cell k c s).power = s.power ∧ (createEntry id node cell k c s).ka = s.ka ∧
    (createEntry id node cell k c s).regs = s.regs ∧ (createEntry id node cell k c s).setup = s.setup ∧
    (createEntry id node cell k c s).lastVMax = s.lastVMax ∧ (createEntry id node cell k c s).web = s.web ∧
    (createEntry id node cell k c s).nc = s.nc := by
  unfold createEntry
  (repeat' split) <;> simp

@[simp] theorem acceptLoad_frame (s : State) (c : CurrentCard) :
    (acceptLoad c s).pending = s.pending ∧ (acceptLoad c s).clock = s.clock ∧ (acceptLoad c s).power = s.power ∧
    (acceptLoad c s).ka = s.ka ∧ (acceptLoad c s).regs = s.regs ∧ (acceptLoad c s).setup = s.setup ∧
    (acceptLoad c s).lastVMax = s.lastVMax ∧ (acceptLoad c s).web = s.web ∧ (acceptLoad c s).tmap = s.tmap ∧
    (acceptLoad c s).spb = s.spb ∧ (acceptLoad c s).nc = s.nc ∧ (acceptLoad c s).pe = s.pe ∧ (acceptLoad c s).hc = s.hc ∧
    (acceptLoad c s).wd = s.wd ∧ (acceptLoad c s).tc = s.tc ∧ (acceptLoad c s).rc = s.rc := by
  unfold acceptLoad
  dsimp only
  (repeat' split) <;> simp

@[simp] theorem dispatchLoad_frame (s : State) (c : CurrentCard) :
    (dispatchLoad c s).pending = s.pending ∧ (dispatchLoad c s).clock = s.clock ∧ (dispatchLoad c s).power = s.power ∧
    (dispatchLoad c s).ka = s.ka ∧ (dispatchLoad c s).regs = s.regs ∧ (dispatchLoad c s).setup = s.setup ∧
    (dispatchLoad c s).lastVMax = s.lastVMax ∧ (dispatchLoad c s).web = s.web ∧ (dispatchLoad c s).tmap = s.tmap ∧
    (dispatchLoad c s).spb = s.spb ∧ (dispatchLoad c s).nc = s.nc ∧ (dispatchLoad c s).pe = s.pe ∧
    (dispatchLoad c s).hc = s.hc ∧ (dispatchLoad c s).wd = s.wd ∧ (dispatchLoad c s).tc = s.tc ∧ (dispatchLoad c s).rc = s.rc := by
  unfold dispatchLoad
  split <;> simp

@[simp] theorem stopLoader_frame (s : State) :
    (stopLoader s).pending = s.pending ∧ (stopLoader s).clock = s.clock ∧ (stopLoader s).power = s.power ∧
    (stopLoader s).ka = s.ka ∧ (stopLoader s).regs = s.regs ∧ (stopLoader s).setup = s.setup ∧
    (stopLoader s).lastVMax = s.lastVMax ∧ (stopLoader s).web = s.web ∧ (stopLoader s).ports = s.ports ∧
    (stopLoader s).ce = s.ce ∧ (stopLoader s).tmap = s.tmap ∧ (stopLoader s).spb = s.spb ∧ (stopLoader s).nc = s.nc ∧
    (stopLoader s).pe = s.pe ∧ (stopLoader s).hc = s.hc ∧ (stopLoader s).wd = s.wd ∧ (stopLoader s).tc = s.tc ∧
    (stopLoader s).rc = s.rc ∧ (stopLoader s).su = s.su := by simp [stopLoader]

@[simp] theorem loadReadFails_frame (s : State) :
    (loadReadFails s).pending = s.pending ∧ (loadReadFails s).clock = s.clock ∧ (loadReadFails s).power = s.power ∧
    (loadReadFails s).ka = s.ka ∧ (loadReadFails s).regs = s.regs ∧ (loadReadFails s).setup = s.setup ∧
    (loadReadFails s).lastVMax = s.lastVMax ∧ (loadReadFails s).web = s.web ∧ (loadReadFails s).tmap = s.tmap ∧
    (loadReadFails s).nc = s.nc ∧ (loadReadFails s).hc = s.hc ∧ (loadReadFails s).wd = s.wd ∧ (loadReadFails s).rc = s.rc := by
  unfold loadReadFails onLoadRead
  (repeat' split) <;> simp

@[simp] theorem loadDone_frame (s : State) (j : LoadJob) (h : ProfileHeader) :
    (loadDone j h s).pending = s.pending ∧ (loadDone j h s).clock = s.clock ∧ (loadDone j h s).power = s.power ∧
    (loadDone j h s).ka = s.ka ∧ (loadDone j h s).regs = s.regs ∧ (loadDone j h s).setup = s.setup ∧
    (loadDone j h s).lastVMax = s.lastVMax ∧ (loadDone j h s).web = s.web ∧ (loadDone j h s).tmap = s.tmap ∧
    (loadDone j h s).spb = s.spb ∧ (loadDone j h s).nc = s.nc ∧ (loadDone j h s).hc = s.hc ∧ (loadDone j h s).wd = s.wd ∧
    (loadDone j h s).tc = s.tc ∧ (loadDone j h s).rc = s.rc := by simp [loadDone]

@[simp] theorem advanceLoad_frame (s : State) :
    (advanceLoad s).pending = s.pending ∧ (advanceLoad s).clock = s.clock ∧ (advanceLoad s).power = s.power ∧
    (advanceLoad s).ka = s.ka ∧ (advanceLoad s).regs = s.regs ∧ (advanceLoad s).setup = s.setup ∧
    (advanceLoad s).lastVMax = s.lastVMax ∧ (advanceLoad s).web = s.web ∧ (advanceLoad s).tmap = s.tmap ∧
    (advanceLoad s).spb = s.spb ∧ (advanceLoad s).nc = s.nc ∧ (advanceLoad s).hc = s.hc ∧ (advanceLoad s).wd = s.wd ∧
    (advanceLoad s).tc = s.tc ∧ (advanceLoad s).rc = s.rc := by
  unfold advanceLoad
  dsimp only
  (repeat' split) <;> simp

@[simp] theorem abortLoad_frame (s : State) (id : Nat) :
    (abortLoad id s).pending = s.pending ∧ (abortLoad id s).clock = s.clock ∧ (abortLoad id s).power = s.power ∧
    (abortLoad id s).ka = s.ka ∧ (abortLoad id s).regs = s.regs ∧ (abortLoad id s).setup = s.setup ∧
    (abortLoad id s).lastVMax = s.lastVMax ∧ (abortLoad id s).web = s.web ∧ (abortLoad id s).tmap = s.tmap ∧
    (abortLoad id s).spb = s.spb ∧ (abortLoad id s).nc = s.nc ∧ (abortLoad id s).pe = s.pe ∧ (abortLoad id s).hc = s.hc ∧
    (abortLoad id s).wd = s.wd ∧ (abortLoad id s).tc = s.tc ∧ (abortLoad id s).rc = s.rc := by
  unfold abortLoad
  (repeat' split) <;> simp

@[simp] theorem dropCard_frame (s : State) (c : CurrentCard) :
    (dropCard c s).pending = s.pending ∧ (dropCard c s).clock = s.clock ∧ (dropCard c s).power = s.power ∧
    (dropCard c s).ka = s.ka ∧ (dropCard c s).regs = s.regs ∧ (dropCard c s).setup = s.setup ∧
    (dropCard c s).lastVMax = s.lastVMax ∧ (dropCard c s).web = s.web ∧ (dropCard c s).tmap = s.tmap ∧
    (dropCard c s).nc = s.nc ∧ (dropCard c s).hc = s.hc ∧ (dropCard c s).wd = s.wd ∧ (dropCard c s).rc = s.rc := by
  unfold dropCard
  dsimp only
  (repeat' split) <;> simp

@[simp] theorem enqueuePrint_frame (s : State) (q : QueuedPrint) :
    (enqueuePrint q s).pending = s.pending ∧ (enqueuePrint q s).clock = s.clock ∧ (enqueuePrint q s).power = s.power ∧
    (enqueuePrint q s).ka = s.ka ∧ (enqueuePrint q s).regs = s.regs ∧ (enqueuePrint q s).setup = s.setup ∧
    (enqueuePrint q s).lastVMax = s.lastVMax ∧ (enqueuePrint q s).web = s.web ∧ (enqueuePrint q s).tmap = s.tmap ∧
    (enqueuePrint q s).spb = s.spb ∧ (enqueuePrint q s).nc = s.nc ∧ (enqueuePrint q s).hc = s.hc ∧
    (enqueuePrint q s).wd = s.wd ∧ (enqueuePrint q s).rc = s.rc ∧ (enqueuePrint q s).su = s.su := by
  unfold enqueuePrint
  dsimp only
  split <;> simp

@[simp] theorem printCard_frame (s : State) (c : CurrentCard) :
    (printCard c s).pending = s.pending ∧ (printCard c s).clock = s.clock ∧ (printCard c s).power = s.power ∧
    (printCard c s).ka = s.ka ∧ (printCard c s).regs = s.regs ∧ (printCard c s).setup = s.setup ∧
    (printCard c s).lastVMax = s.lastVMax ∧ (printCard c s).web = s.web ∧ (printCard c s).tmap = s.tmap ∧
    (printCard c s).spb = s.spb ∧ (printCard c s).nc = s.nc ∧ (printCard c s).hc = s.hc ∧ (printCard c s).wd = s.wd ∧
    (printCard c s).rc = s.rc := by
  unfold printCard
  dsimp only
  (repeat' split) <;> simp

@[simp] theorem startPrint_frame (s : State) (q : QueuedPrint) (c : Settings) (h : ProfileHeader) :
    (startPrint q c h s).pending = s.pending ∧ (startPrint q c h s).clock = s.clock ∧ (startPrint q c h s).power = s.power ∧
    (startPrint q c h s).ka = s.ka ∧ (startPrint q c h s).regs = s.regs ∧ (startPrint q c h s).setup = s.setup ∧
    (startPrint q c h s).lastVMax = s.lastVMax ∧ (startPrint q c h s).web = s.web ∧ (startPrint q c h s).ps = s.ps ∧
    (startPrint q c h s).spb = s.spb ∧ (startPrint q c h s).nc = s.nc ∧ (startPrint q c h s).hc = s.hc ∧
    (startPrint q c h s).wd = s.wd ∧ (startPrint q c h s).tc = s.tc ∧ (startPrint q c h s).rc = s.rc := by simp [startPrint]

@[simp] theorem rasterFails_frame (s : State) (kind : ReadFailure) :
    (rasterFails kind s).pending = s.pending ∧ (rasterFails kind s).clock = s.clock ∧ (rasterFails kind s).power = s.power ∧
    (rasterFails kind s).ka = s.ka ∧ (rasterFails kind s).regs = s.regs ∧ (rasterFails kind s).setup = s.setup ∧
    (rasterFails kind s).lastVMax = s.lastVMax ∧ (rasterFails kind s).web = s.web ∧ (rasterFails kind s).nc = s.nc ∧
    (rasterFails kind s).hc = s.hc ∧ (rasterFails kind s).wd = s.wd ∧ (rasterFails kind s).tc = s.tc ∧
    (rasterFails kind s).rc = s.rc := by
  unfold rasterFails
  (repeat' split) <;> simp

@[simp] theorem serveCorner_frame (s : State) (h : ProfileHeader) (value : CellValue) :
    (serveCorner h value s).pending = s.pending ∧ (serveCorner h value s).clock = s.clock ∧
    (serveCorner h value s).power = s.power ∧ (serveCorner h value s).ka = s.ka ∧ (serveCorner h value s).regs = s.regs ∧
    (serveCorner h value s).setup = s.setup ∧ (serveCorner h value s).lastVMax = s.lastVMax ∧
    (serveCorner h value s).web = s.web ∧ (serveCorner h value s).ports = s.ports ∧ (serveCorner h value s).ce = s.ce ∧
    (serveCorner h value s).tmap = s.tmap ∧ (serveCorner h value s).ps = s.ps ∧ (serveCorner h value s).spb = s.spb ∧
    (serveCorner h value s).nc = s.nc ∧ (serveCorner h value s).hc = s.hc ∧ (serveCorner h value s).wd = s.wd ∧
    (serveCorner h value s).tc = s.tc ∧ (serveCorner h value s).rc = s.rc ∧ (serveCorner h value s).su = s.su := by simp [serveCorner]

@[simp] theorem askFill_frame (s : State) (r : FillRequest) :
    (askFill r s).pending = s.pending ∧ (askFill r s).clock = s.clock ∧ (askFill r s).power = s.power ∧ (askFill r s).ka = s.ka ∧
    (askFill r s).regs = s.regs ∧ (askFill r s).setup = s.setup ∧ (askFill r s).lastVMax = s.lastVMax ∧ (askFill r s).web = s.web ∧
    (askFill r s).ports = s.ports ∧ (askFill r s).ce = s.ce ∧ (askFill r s).tmap = s.tmap ∧ (askFill r s).spb = s.spb ∧ (askFill r s).nc
    = s.nc ∧ (askFill r s).hc = s.hc ∧ (askFill r s).wd = s.wd ∧ (askFill r s).tc = s.tc ∧ (askFill r s).rc = s.rc ∧ (askFill r s).su =
    s.su := by simp [askFill]

@[simp] theorem lookupCell_frame (s : State) (h : ProfileHeader) (r : FillRequest) :
    (lookupCell h r s).pending = s.pending ∧ (lookupCell h r s).clock = s.clock ∧ (lookupCell h r s).power = s.power ∧ (lookupCell h r
    s).ka = s.ka ∧ (lookupCell h r s).regs = s.regs ∧ (lookupCell h r s).setup = s.setup ∧ (lookupCell h r s).lastVMax = s.lastVMax ∧
    (lookupCell h r s).web = s.web ∧ (lookupCell h r s).ports = s.ports ∧ (lookupCell h r s).ce = s.ce ∧ (lookupCell h r s).tmap =
    s.tmap ∧ (lookupCell h r s).spb = s.spb ∧ (lookupCell h r s).hc = s.hc ∧ (lookupCell h r s).wd = s.wd ∧ (lookupCell h r s).tc = s.tc
    ∧ (lookupCell h r s).rc = s.rc ∧ (lookupCell h r s).su = s.su := by
  unfold lookupCell
  (repeat' split) <;> simp

/-- A reset sends the two frames of a halt unless the part was up and HALTED (R122, R123). -/
theorem resetFrames_cases (b a : State) :
    (b.power.mainOn = true → b.wd.state = .halted → resetFrames b a = a) ∧
      (b.power.mainOn = false ∨ b.wd.state ≠ .halted → resetFrames b a = sendFrame (sendFrame a)) := by
  unfold resetFrames
  constructor
  · intro h1 h2
    simp [h1, h2]
  · intro h
    have : (b.power.mainOn && b.wd.state == .halted) = false := by
      rcases h with h | h <;> simp [h]
    simp [this]

@[simp] theorem resetFrames_frame (b s : State) :
    (resetFrames b s).pending = s.pending ∧ (resetFrames b s).clock = s.clock ∧ (resetFrames b s).power = s.power ∧
    (resetFrames b s).ka = s.ka ∧ (resetFrames b s).regs = s.regs ∧ (resetFrames b s).setup = s.setup ∧
    (resetFrames b s).lastVMax = s.lastVMax ∧ (resetFrames b s).web = s.web ∧ (resetFrames b s).ce = s.ce ∧
    (resetFrames b s).tmap = s.tmap ∧ (resetFrames b s).ps = s.ps ∧ (resetFrames b s).spb = s.spb ∧ (resetFrames b s).nc = s.nc ∧
    (resetFrames b s).pe = s.pe ∧ (resetFrames b s).hc = s.hc ∧ (resetFrames b s).wd = s.wd ∧ (resetFrames b s).tc = s.tc ∧
    (resetFrames b s).rc = s.rc ∧ (resetFrames b s).su = s.su := by
  unfold resetFrames
  split <;> simp

/-- The next lookup is the corner in hand of the running computation, through the header of the job's profile (R73). -/
theorem nextLookup_eq_some {s : State} {h : ProfileHeader} {r : FillRequest} (e : nextLookup s = some (h, r)) :
    ∃ j c, s.pe.job = some j ∧ j.comp = some c ∧ c.filling = false ∧ c.column < j.card.width ∧
      (profileOf s j.card.profileId).header = some h ∧ r = ⟨j.card.profileId, cornerNode h.grid c.corner (pixelInput c),
        h.base + cornerNode h.grid c.corner (pixelInput c), h.channels⟩ := by
  unfold nextLookup at e
  split at e
  · cases e
  · rename_i j ej
    split at e
    · rename_i c h' ec eh
      dsimp only at e
      split at e
      · cases e
      · rename_i hc
        cases e
        simp only [Bool.or_eq_true, decide_eq_true_eq, not_or] at hc
        exact ⟨j, c, ej, ec, by simpa using hc.1, by omega, eh, rfl⟩
    · cases e

/-- The lookup held behind a fill asks for its own fill where it misses the buffer and the cache, and nothing else changes. -/
theorem heldLookup_cases (s : State) : heldLookup s = s ∨ ∃ h r, nextLookup s = some (h, r) ∧ visibleEntry s r.cell = none ∧
    cacheHolds s r.cell = none ∧ heldLookup s = askFill r s := by
  unfold heldLookup
  split
  · rename_i h r e
    split
    · rename_i m
      simp only [Bool.and_eq_true, Option.isNone_iff_eq_none] at m
      exact .inr ⟨h, r, e, m.1, m.2, rfl⟩
    · exact .inl rfl
  · exact .inl rfl

@[simp] theorem heldLookup_frame (s : State) :
    (heldLookup s).pending = s.pending ∧ (heldLookup s).clock = s.clock ∧ (heldLookup s).power = s.power ∧ (heldLookup s).ka = s.ka ∧
    (heldLookup s).regs = s.regs ∧ (heldLookup s).setup = s.setup ∧ (heldLookup s).lastVMax = s.lastVMax ∧ (heldLookup s).web = s.web ∧
    (heldLookup s).ports = s.ports ∧ (heldLookup s).ce = s.ce ∧ (heldLookup s).tmap = s.tmap ∧ (heldLookup s).spb = s.spb ∧ (heldLookup
    s).nc = s.nc ∧ (heldLookup s).hc = s.hc ∧ (heldLookup s).wd = s.wd ∧ (heldLookup s).tc = s.tc ∧ (heldLookup s).rc = s.rc ∧
    (heldLookup s).su = s.su := by
  unfold heldLookup
  (repeat' split) <;> simp

@[simp] theorem fillCorner_frame (s : State) (r : FillRequest) (c : StoreCell) :
    (fillCorner r c s).pending = s.pending ∧ (fillCorner r c s).clock = s.clock ∧ (fillCorner r c s).power = s.power ∧
    (fillCorner r c s).ka = s.ka ∧ (fillCorner r c s).regs = s.regs ∧ (fillCorner r c s).setup = s.setup ∧
    (fillCorner r c s).lastVMax = s.lastVMax ∧ (fillCorner r c s).web = s.web ∧ (fillCorner r c s).ports = s.ports ∧
    (fillCorner r c s).ce = s.ce ∧ (fillCorner r c s).tmap = s.tmap ∧ (fillCorner r c s).ps = s.ps ∧
    (fillCorner r c s).spb = s.spb ∧ (fillCorner r c s).hc = s.hc ∧ (fillCorner r c s).wd = s.wd ∧
    (fillCorner r c s).tc = s.tc ∧ (fillCorner r c s).rc = s.rc ∧ (fillCorner r c s).su = s.su := by
  unfold fillCorner
  split <;> simp

@[simp] theorem serveFill_frame (s : State) (r : FillRequest) (live : Bool) (c : StoreCell) :
    (serveFill r live c s).pending = s.pending ∧ (serveFill r live c s).clock = s.clock ∧
    (serveFill r live c s).power = s.power ∧ (serveFill r live c s).ka = s.ka ∧ (serveFill r live c s).regs = s.regs ∧
    (serveFill r live c s).setup = s.setup ∧ (serveFill r live c s).lastVMax = s.lastVMax ∧ (serveFill r live c s).web = s.web := by
  unfold serveFill
  dsimp only
  (repeat' split) <;> simp

@[simp] theorem sendLine_frame (s : State) (c : Settings) (j : PrintJob) (l : LineSlot) :
    (sendLine c j l s).pending = s.pending ∧ (sendLine c j l s).clock = s.clock ∧ (sendLine c j l s).power = s.power ∧
    (sendLine c j l s).ka = s.ka ∧ (sendLine c j l s).regs = s.regs ∧ (sendLine c j l s).setup = s.setup ∧
    (sendLine c j l s).lastVMax = s.lastVMax ∧ (sendLine c j l s).web = s.web ∧ (sendLine c j l s).ce = s.ce ∧
    (sendLine c j l s).ps = s.ps ∧ (sendLine c j l s).spb = s.spb ∧ (sendLine c j l s).nc = s.nc ∧
    (sendLine c j l s).hc = s.hc ∧ (sendLine c j l s).wd = s.wd ∧ (sendLine c j l s).tc = s.tc ∧ (sendLine c j l s).rc = s.rc ∧
    (sendLine c j l s).su = s.su := by simp [sendLine]

@[simp] theorem dueLine_frame (s : State) (c : Settings) (j : PrintJob) (n : Nat) :
    (dueLine c j n s).pending = s.pending ∧ (dueLine c j n s).clock = s.clock ∧ (dueLine c j n s).power = s.power ∧
    (dueLine c j n s).ka = s.ka ∧ (dueLine c j n s).regs = s.regs ∧ (dueLine c j n s).setup = s.setup ∧
    (dueLine c j n s).lastVMax = s.lastVMax ∧ (dueLine c j n s).web = s.web ∧ (dueLine c j n s).ce = s.ce ∧
    (dueLine c j n s).ps = s.ps ∧ (dueLine c j n s).spb = s.spb ∧ (dueLine c j n s).nc = s.nc ∧ (dueLine c j n s).hc = s.hc ∧
    (dueLine c j n s).wd = s.wd ∧ (dueLine c j n s).tc = s.tc ∧ (dueLine c j n s).rc = s.rc ∧ (dueLine c j n s).su = s.su := by
  unfold dueLine
  (repeat' split) <;> simp

@[simp] theorem finishPrint_frame (s : State) :
    (finishPrint s).pending = s.pending ∧ (finishPrint s).clock = s.clock ∧ (finishPrint s).power = s.power ∧
    (finishPrint s).ka = s.ka ∧ (finishPrint s).regs = s.regs ∧ (finishPrint s).setup = s.setup ∧
    (finishPrint s).lastVMax = s.lastVMax ∧ (finishPrint s).web = s.web ∧ (finishPrint s).nc = s.nc ∧
    (finishPrint s).hc = s.hc ∧ (finishPrint s).wd = s.wd ∧ (finishPrint s).tc = s.tc ∧ (finishPrint s).rc = s.rc := by
  unfold finishPrint
  dsimp only
  split <;> simp

@[simp] theorem comparePos_frame (s : State) :
    (comparePos s).pending = s.pending ∧ (comparePos s).clock = s.clock ∧ (comparePos s).power = s.power ∧
    (comparePos s).ka = s.ka ∧ (comparePos s).regs = s.regs ∧ (comparePos s).setup = s.setup ∧
    (comparePos s).lastVMax = s.lastVMax ∧ (comparePos s).web = s.web ∧ (comparePos s).ports = s.ports ∧
    (comparePos s).ce = s.ce ∧ (comparePos s).ps = s.ps ∧ (comparePos s).spb = s.spb ∧ (comparePos s).nc = s.nc ∧
    (comparePos s).hc = s.hc ∧ (comparePos s).wd = s.wd ∧ (comparePos s).tc = s.tc ∧ (comparePos s).su = s.su := by simp [comparePos]

@[simp] theorem countPaper_frame (s : State) (travel : Nat) :
    (countPaper travel s).pending = s.pending ∧ (countPaper travel s).clock = s.clock ∧ (countPaper travel s).power = s.power ∧
    (countPaper travel s).regs = s.regs ∧ (countPaper travel s).setup = s.setup ∧ (countPaper travel s).lastVMax = s.lastVMax ∧
    (countPaper travel s).web = s.web ∧ (countPaper travel s).ports = s.ports ∧ (countPaper travel s).ce = s.ce ∧
    (countPaper travel s).tmap = s.tmap ∧ (countPaper travel s).ps = s.ps ∧ (countPaper travel s).spb = s.spb ∧
    (countPaper travel s).nc = s.nc ∧ (countPaper travel s).pe = s.pe ∧ (countPaper travel s).hc = s.hc ∧
    (countPaper travel s).wd = s.wd ∧ (countPaper travel s).tc = s.tc ∧ (countPaper travel s).su = s.su := by
  unfold countPaper
  split <;> simp

@[simp] theorem handoff_frame (s : State) (g : Segment) :
    (handoff g s).pending = s.pending ∧ (handoff g s).clock = s.clock ∧ (handoff g s).power = s.power ∧
    (handoff g s).ka = s.ka ∧ (handoff g s).regs = s.regs ∧ (handoff g s).setup = s.setup ∧
    (handoff g s).lastVMax = s.lastVMax ∧ (handoff g s).web = s.web ∧ (handoff g s).ports = s.ports ∧ (handoff g s).ce = s.ce ∧
    (handoff g s).tmap = s.tmap ∧ (handoff g s).ps = s.ps ∧ (handoff g s).spb = s.spb ∧ (handoff g s).nc = s.nc ∧
    (handoff g s).pe = s.pe ∧ (handoff g s).hc = s.hc ∧ (handoff g s).wd = s.wd ∧ (handoff g s).rc = s.rc ∧
    (handoff g s).su = s.su := by
  unfold handoff
  (repeat' split) <;> simp

@[simp] theorem spoilAtNip_frame (s : State) :
    (spoilAtNip s).pending = s.pending ∧ (spoilAtNip s).clock = s.clock ∧ (spoilAtNip s).power = s.power ∧
    (spoilAtNip s).ka = s.ka ∧ (spoilAtNip s).regs = s.regs ∧ (spoilAtNip s).setup = s.setup ∧
    (spoilAtNip s).lastVMax = s.lastVMax ∧ (spoilAtNip s).web = s.web ∧ (spoilAtNip s).ports = s.ports ∧
    (spoilAtNip s).ce = s.ce ∧ (spoilAtNip s).ps = s.ps ∧ (spoilAtNip s).spb = s.spb ∧ (spoilAtNip s).nc = s.nc ∧
    (spoilAtNip s).pe = s.pe ∧ (spoilAtNip s).hc = s.hc ∧ (spoilAtNip s).wd = s.wd ∧ (spoilAtNip s).tc = s.tc ∧
    (spoilAtNip s).rc = s.rc ∧ (spoilAtNip s).su = s.su := by
  unfold spoilAtNip
  (repeat' split) <;> simp

@[simp] theorem noteZones_frame (s : State) (met : Bool) :
    (noteZones met s).pending = s.pending ∧ (noteZones met s).clock = s.clock ∧ (noteZones met s).power = s.power ∧
    (noteZones met s).ka = s.ka ∧ (noteZones met s).regs = s.regs ∧ (noteZones met s).setup = s.setup ∧
    (noteZones met s).lastVMax = s.lastVMax ∧ (noteZones met s).web = s.web ∧ (noteZones met s).ce = s.ce ∧
    (noteZones met s).tmap = s.tmap ∧ (noteZones met s).ps = s.ps ∧ (noteZones met s).spb = s.spb ∧
    (noteZones met s).nc = s.nc ∧ (noteZones met s).pe = s.pe ∧ (noteZones met s).hc = s.hc ∧ (noteZones met s).wd = s.wd ∧
    (noteZones met s).tc = s.tc ∧ (noteZones met s).rc = s.rc := by
  unfold noteZones
  split <;> simp

@[simp] theorem touchIfMoved_frame (s : State) (before : List Zone) :
    (touchIfMoved before s).pending = s.pending ∧ (touchIfMoved before s).clock = s.clock ∧
    (touchIfMoved before s).power = s.power ∧ (touchIfMoved before s).ka = s.ka ∧ (touchIfMoved before s).regs = s.regs ∧
    (touchIfMoved before s).setup = s.setup ∧ (touchIfMoved before s).lastVMax = s.lastVMax ∧
    (touchIfMoved before s).web = s.web ∧ (touchIfMoved before s).ports = s.ports ∧ (touchIfMoved before s).ce = s.ce ∧
    (touchIfMoved before s).tmap = s.tmap ∧ (touchIfMoved before s).ps = s.ps ∧ (touchIfMoved before s).spb = s.spb ∧
    (touchIfMoved before s).nc = s.nc ∧ (touchIfMoved before s).hc = s.hc ∧ (touchIfMoved before s).wd = s.wd ∧
    (touchIfMoved before s).tc = s.tc ∧ (touchIfMoved before s).rc = s.rc ∧ (touchIfMoved before s).su = s.su := by
  unfold touchIfMoved
  split <;> simp

@[simp] theorem tripHalts_frame (s : State) (c : Settings) (n : Nat) :
    (tripHalts c n s).pending = s.pending ∧ (tripHalts c n s).clock = s.clock ∧ (tripHalts c n s).power = s.power ∧
    (tripHalts c n s).ka = s.ka ∧ (tripHalts c n s).regs = s.regs ∧ (tripHalts c n s).setup = s.setup ∧
    (tripHalts c n s).lastVMax = s.lastVMax ∧ (tripHalts c n s).web = s.web ∧ (tripHalts c n s).nc = s.nc := by
  unfold tripHalts
  split
  · exact ⟨(foldl_keeps (·.pending) _ (fun s x => by simp) _ _).trans (by simp),
    (foldl_keeps (·.clock) _ (fun s x => by simp) _ _).trans (by simp),
    (foldl_keeps (·.power) _ (fun s x => by simp) _ _).trans (by simp),
    (foldl_keeps (·.ka) _ (fun s x => by simp) _ _).trans (by simp),
    (foldl_keeps (·.regs) _ (fun s x => by simp) _ _).trans (by simp),
    (foldl_keeps (·.setup) _ (fun s x => by simp) _ _).trans (by simp),
    (foldl_keeps (·.lastVMax) _ (fun s x => by simp) _ _).trans (by simp),
    (foldl_keeps (·.web) _ (fun s x => by simp) _ _).trans (by simp),
    (foldl_keeps (·.nc) _ (fun s x => by simp) _ _).trans (by simp)⟩
  · simp

@[simp] theorem heatCard_frame (s : State) (k : CurrentCard) :
    (heatCard k s).pending = s.pending ∧ (heatCard k s).clock = s.clock ∧ (heatCard k s).power = s.power ∧
    (heatCard k s).ka = s.ka ∧ (heatCard k s).regs = s.regs ∧ (heatCard k s).setup = s.setup ∧
    (heatCard k s).lastVMax = s.lastVMax ∧ (heatCard k s).web = s.web ∧ (heatCard k s).tmap = s.tmap ∧
    (heatCard k s).ps = s.ps ∧ (heatCard k s).spb = s.spb ∧ (heatCard k s).nc = s.nc ∧ (heatCard k s).wd = s.wd ∧
    (heatCard k s).tc = s.tc ∧ (heatCard k s).rc = s.rc := by
  unfold heatCard
  (repeat' split) <;> simp

@[simp] theorem driveDone_frame (s : State) (c : CurrentCard) (more : List (Nat × List Byte)) :
    (driveDone c more s).pending = s.pending ∧ (driveDone c more s).clock = s.clock ∧ (driveDone c more s).power = s.power ∧
    (driveDone c more s).ka = s.ka ∧ (driveDone c more s).regs = s.regs ∧ (driveDone c more s).setup = s.setup ∧
    (driveDone c more s).lastVMax = s.lastVMax ∧ (driveDone c more s).web = s.web ∧ (driveDone c more s).tmap = s.tmap ∧
    (driveDone c more s).ps = s.ps ∧ (driveDone c more s).spb = s.spb ∧ (driveDone c more s).nc = s.nc ∧
    (driveDone c more s).pe = s.pe ∧ (driveDone c more s).hc = s.hc ∧ (driveDone c more s).wd = s.wd ∧
    (driveDone c more s).tc = s.tc ∧ (driveDone c more s).rc = s.rc := by simp [driveDone]

@[simp] theorem driveWrong_frame (s : State) (c : CurrentCard) (more : List (Nat × List Byte)) :
    (driveWrong c more s).pending = s.pending ∧ (driveWrong c more s).clock = s.clock ∧ (driveWrong c more s).power = s.power ∧
    (driveWrong c more s).ka = s.ka ∧ (driveWrong c more s).regs = s.regs ∧ (driveWrong c more s).setup = s.setup ∧
    (driveWrong c more s).lastVMax = s.lastVMax ∧ (driveWrong c more s).web = s.web ∧ (driveWrong c more s).tmap = s.tmap ∧
    (driveWrong c more s).ps = s.ps ∧ (driveWrong c more s).spb = s.spb ∧ (driveWrong c more s).nc = s.nc ∧
    (driveWrong c more s).pe = s.pe ∧ (driveWrong c more s).hc = s.hc ∧ (driveWrong c more s).wd = s.wd ∧
    (driveWrong c more s).tc = s.tc ∧ (driveWrong c more s).rc = s.rc := by simp [driveWrong]

@[simp] theorem startCard_frame (s : State) (c : CurrentCard) :
    (startCard c s).pending = s.pending ∧ (startCard c s).clock = s.clock ∧ (startCard c s).power = s.power ∧
    (startCard c s).ka = s.ka ∧ (startCard c s).regs = s.regs ∧ (startCard c s).setup = s.setup ∧
    (startCard c s).lastVMax = s.lastVMax ∧ (startCard c s).web = s.web ∧ (startCard c s).tmap = s.tmap ∧
    (startCard c s).ps = s.ps ∧ (startCard c s).spb = s.spb ∧ (startCard c s).nc = s.nc ∧ (startCard c s).hc = s.hc ∧
    (startCard c s).tc = s.tc ∧ (startCard c s).rc = s.rc := by
  unfold startCard
  (repeat' split) <;> simp

@[simp] theorem speedCard_frame (s : State) (c : CurrentCard) :
    (speedCard c s).pending = s.pending ∧ (speedCard c s).clock = s.clock ∧ (speedCard c s).power = s.power ∧
    (speedCard c s).ka = s.ka ∧ (speedCard c s).regs = s.regs ∧ (speedCard c s).setup = s.setup ∧
    (speedCard c s).lastVMax = s.lastVMax ∧ (speedCard c s).web = s.web ∧ (speedCard c s).tmap = s.tmap ∧
    (speedCard c s).ps = s.ps ∧ (speedCard c s).spb = s.spb ∧ (speedCard c s).nc = s.nc ∧ (speedCard c s).pe = s.pe ∧
    (speedCard c s).hc = s.hc ∧ (speedCard c s).tc = s.tc ∧ (speedCard c s).rc = s.rc := by
  unfold speedCard
  (repeat' split) <;> simp

@[simp] theorem stopCard_frame (s : State) (c : CurrentCard) :
    (stopCard c s).pending = s.pending ∧ (stopCard c s).clock = s.clock ∧ (stopCard c s).power = s.power ∧
    (stopCard c s).ka = s.ka ∧ (stopCard c s).regs = s.regs ∧ (stopCard c s).setup = s.setup ∧
    (stopCard c s).lastVMax = s.lastVMax ∧ (stopCard c s).web = s.web ∧ (stopCard c s).tmap = s.tmap ∧
    (stopCard c s).ps = s.ps ∧ (stopCard c s).spb = s.spb ∧ (stopCard c s).nc = s.nc ∧ (stopCard c s).hc = s.hc ∧
    (stopCard c s).tc = s.tc ∧ (stopCard c s).rc = s.rc := by
  unfold stopCard
  split <;> simp

@[simp] theorem flushQueue_frame (s : State) :
    (flushQueue s).pending = s.pending ∧ (flushQueue s).clock = s.clock ∧ (flushQueue s).power = s.power ∧
    (flushQueue s).ka = s.ka ∧ (flushQueue s).regs = s.regs ∧ (flushQueue s).setup = s.setup ∧
    (flushQueue s).lastVMax = s.lastVMax ∧ (flushQueue s).web = s.web ∧ (flushQueue s).tmap = s.tmap ∧
    (flushQueue s).nc = s.nc ∧ (flushQueue s).hc = s.hc ∧ (flushQueue s).wd = s.wd ∧ (flushQueue s).rc = s.rc := by
  unfold flushQueue
  exact ⟨(foldl_keeps (·.pending) _ (fun s x => by simp) _ _).trans (by simp),
    (foldl_keeps (·.clock) _ (fun s x => by simp) _ _).trans (by simp),
    (foldl_keeps (·.power) _ (fun s x => by simp) _ _).trans (by simp),
    (foldl_keeps (·.ka) _ (fun s x => by simp) _ _).trans (by simp),
    (foldl_keeps (·.regs) _ (fun s x => by simp) _ _).trans (by simp),
    (foldl_keeps (·.setup) _ (fun s x => by simp) _ _).trans (by simp),
    (foldl_keeps (·.lastVMax) _ (fun s x => by simp) _ _).trans (by simp),
    (foldl_keeps (·.web) _ (fun s x => by simp) _ _).trans (by simp),
    (foldl_keeps (·.tmap) _ (fun s x => by simp) _ _).trans (by simp),
    (foldl_keeps (·.nc) _ (fun s x => by simp) _ _).trans (by simp),
    (foldl_keeps (·.hc) _ (fun s x => by simp) _ _).trans (by simp),
    (foldl_keeps (·.wd) _ (fun s x => by simp) _ _).trans (by simp),
    (foldl_keeps (·.rc) _ (fun s x => by simp) _ _).trans (by simp)⟩

@[simp] theorem clearHalt_frame (s : State) :
    (clearHalt s).pending = s.pending ∧ (clearHalt s).clock = s.clock ∧ (clearHalt s).power = s.power ∧
    (clearHalt s).ka = s.ka ∧ (clearHalt s).regs = s.regs ∧ (clearHalt s).setup = s.setup ∧
    (clearHalt s).lastVMax = s.lastVMax ∧ (clearHalt s).web = s.web ∧ (clearHalt s).ce = s.ce ∧ (clearHalt s).tmap = s.tmap ∧
    (clearHalt s).ps = s.ps ∧ (clearHalt s).spb = s.spb ∧ (clearHalt s).nc = s.nc ∧ (clearHalt s).pe = s.pe ∧
    (clearHalt s).hc = s.hc := by simp [clearHalt]

@[simp] theorem clearCard_frame (s : State) (c : CurrentCard) :
    (clearCard c s).pending = s.pending ∧ (clearCard c s).clock = s.clock ∧ (clearCard c s).power = s.power ∧
    (clearCard c s).ka = s.ka ∧ (clearCard c s).regs = s.regs ∧ (clearCard c s).setup = s.setup ∧
    (clearCard c s).lastVMax = s.lastVMax ∧ (clearCard c s).web = s.web ∧ (clearCard c s).tmap = s.tmap ∧
    (clearCard c s).nc = s.nc ∧ (clearCard c s).hc = s.hc := by
  unfold clearCard
  (repeat' split) <;> simp

@[simp] theorem readAxis_frame (s : State) (frame : Option (List TensionReading)) (a : Axis) :
    (readAxis frame s a).pending = s.pending ∧ (readAxis frame s a).clock = s.clock ∧ (readAxis frame s a).power = s.power ∧
    (readAxis frame s a).ka = s.ka ∧ (readAxis frame s a).regs = s.regs ∧ (readAxis frame s a).setup = s.setup ∧
    (readAxis frame s a).lastVMax = s.lastVMax ∧ (readAxis frame s a).web = s.web ∧ (readAxis frame s a).nc = s.nc := by
  unfold readAxis
  dsimp only
  split <;> simp

@[simp] theorem computeAxes_frame (s : State) (frame : Option (List TensionReading)) :
    (computeAxes frame s).pending = s.pending ∧ (computeAxes frame s).clock = s.clock ∧ (computeAxes frame s).power = s.power ∧
    (computeAxes frame s).ka = s.ka ∧ (computeAxes frame s).regs = s.regs ∧ (computeAxes frame s).setup = s.setup ∧
    (computeAxes frame s).lastVMax = s.lastVMax ∧ (computeAxes frame s).web = s.web ∧ (computeAxes frame s).ports = s.ports ∧
    (computeAxes frame s).ce = s.ce ∧ (computeAxes frame s).tmap = s.tmap ∧ (computeAxes frame s).ps = s.ps ∧
    (computeAxes frame s).spb = s.spb ∧ (computeAxes frame s).nc = s.nc ∧ (computeAxes frame s).pe = s.pe ∧
    (computeAxes frame s).hc = s.hc ∧ (computeAxes frame s).wd = s.wd ∧ (computeAxes frame s).rc = s.rc ∧
    (computeAxes frame s).su = s.su := by
  unfold computeAxes
  exact ⟨(foldl_keeps (·.pending) _ (fun s x => by simp) _ _).trans (by simp),
    (foldl_keeps (·.clock) _ (fun s x => by simp) _ _).trans (by simp),
    (foldl_keeps (·.power) _ (fun s x => by simp) _ _).trans (by simp),
    (foldl_keeps (·.ka) _ (fun s x => by simp) _ _).trans (by simp),
    (foldl_keeps (·.regs) _ (fun s x => by simp) _ _).trans (by simp),
    (foldl_keeps (·.setup) _ (fun s x => by simp) _ _).trans (by simp),
    (foldl_keeps (·.lastVMax) _ (fun s x => by simp) _ _).trans (by simp),
    (foldl_keeps (·.web) _ (fun s x => by simp) _ _).trans (by simp),
    (foldl_keeps (·.ports) _ (fun s x => by simp) _ _).trans (by simp),
    (foldl_keeps (·.ce) _ (fun s x => by simp) _ _).trans (by simp),
    (foldl_keeps (·.tmap) _ (fun s x => by simp) _ _).trans (by simp),
    (foldl_keeps (·.ps) _ (fun s x => by simp) _ _).trans (by simp),
    (foldl_keeps (·.spb) _ (fun s x => by simp) _ _).trans (by simp),
    (foldl_keeps (·.nc) _ (fun s x => by simp) _ _).trans (by simp),
    (foldl_keeps (·.pe) _ (fun s x => by simp) _ _).trans (by simp),
    (foldl_keeps (·.hc) _ (fun s x => by simp) _ _).trans (by simp),
    (foldl_keeps (·.wd) _ (fun s x => by simp) _ _).trans (by simp),
    (foldl_keeps (·.rc) _ (fun s x => by simp) _ _).trans (by simp),
    (foldl_keeps (·.su) _ (fun s x => by simp) _ _).trans (by simp)⟩

@[simp] theorem checkDeviations_frame (s : State) (frame : Option (List TensionReading)) :
    (checkDeviations frame s).pending = s.pending ∧ (checkDeviations frame s).clock = s.clock ∧
    (checkDeviations frame s).power = s.power ∧ (checkDeviations frame s).ka = s.ka ∧ (checkDeviations frame s).regs = s.regs ∧
    (checkDeviations frame s).setup = s.setup ∧ (checkDeviations frame s).lastVMax = s.lastVMax ∧
    (checkDeviations frame s).web = s.web ∧ (checkDeviations frame s).ports = s.ports ∧ (checkDeviations frame s).ce = s.ce ∧
    (checkDeviations frame s).ps = s.ps ∧ (checkDeviations frame s).spb = s.spb ∧ (checkDeviations frame s).nc = s.nc ∧
    (checkDeviations frame s).pe = s.pe ∧ (checkDeviations frame s).hc = s.hc ∧ (checkDeviations frame s).wd = s.wd ∧
    (checkDeviations frame s).tc = s.tc ∧ (checkDeviations frame s).rc = s.rc ∧ (checkDeviations frame s).su = s.su := by
  unfold checkDeviations
  split <;> simp

@[simp] theorem fabricCard_frame (s : State) (c : CurrentCard) :
    (fabricCard c s).pending = s.pending ∧ (fabricCard c s).clock = s.clock ∧ (fabricCard c s).power = s.power ∧
    (fabricCard c s).ka = s.ka ∧ (fabricCard c s).regs = s.regs ∧ (fabricCard c s).setup = s.setup ∧
    (fabricCard c s).lastVMax = s.lastVMax ∧ (fabricCard c s).web = s.web ∧ (fabricCard c s).tmap = s.tmap ∧
    (fabricCard c s).ps = s.ps ∧ (fabricCard c s).spb = s.spb ∧ (fabricCard c s).nc = s.nc ∧ (fabricCard c s).pe = s.pe ∧
    (fabricCard c s).hc = s.hc ∧ (fabricCard c s).wd = s.wd ∧ (fabricCard c s).rc = s.rc := by
  unfold fabricCard
  dsimp only
  (repeat' split) <;> simp

@[simp] theorem spliceCard_frame (s : State) (c : CurrentCard) :
    (spliceCard c s).pending = s.pending ∧ (spliceCard c s).clock = s.clock ∧ (spliceCard c s).power = s.power ∧
    (spliceCard c s).ka = s.ka ∧ (spliceCard c s).regs = s.regs ∧ (spliceCard c s).setup = s.setup ∧
    (spliceCard c s).lastVMax = s.lastVMax ∧ (spliceCard c s).web = s.web ∧ (spliceCard c s).tmap = s.tmap ∧
    (spliceCard c s).ps = s.ps ∧ (spliceCard c s).spb = s.spb ∧ (spliceCard c s).nc = s.nc ∧ (spliceCard c s).pe = s.pe ∧
    (spliceCard c s).hc = s.hc ∧ (spliceCard c s).wd = s.wd ∧ (spliceCard c s).tc = s.tc := by
  unfold spliceCard
  (repeat' split) <;> simp

@[simp] theorem ackActive_frame (s : State) (a : Unwind) :
    (ackActive a s).pending = s.pending ∧ (ackActive a s).clock = s.clock ∧ (ackActive a s).power = s.power ∧
    (ackActive a s).ka = s.ka ∧ (ackActive a s).regs = s.regs ∧ (ackActive a s).setup = s.setup ∧
    (ackActive a s).lastVMax = s.lastVMax ∧ (ackActive a s).web = s.web ∧ (ackActive a s).ce = s.ce ∧
    (ackActive a s).tmap = s.tmap ∧ (ackActive a s).ps = s.ps ∧ (ackActive a s).spb = s.spb ∧ (ackActive a s).nc = s.nc ∧
    (ackActive a s).pe = s.pe ∧ (ackActive a s).hc = s.hc ∧ (ackActive a s).wd = s.wd := by
  unfold ackActive
  dsimp only
  split <;> simp

@[simp] theorem ackInactive_frame (s : State) (a : Unwind) :
    (ackInactive a s).pending = s.pending ∧ (ackInactive a s).clock = s.clock ∧ (ackInactive a s).power = s.power ∧
    (ackInactive a s).regs = s.regs ∧ (ackInactive a s).setup = s.setup ∧ (ackInactive a s).lastVMax = s.lastVMax ∧
    (ackInactive a s).web = s.web ∧ (ackInactive a s).ps = s.ps ∧ (ackInactive a s).spb = s.spb ∧ (ackInactive a s).nc = s.nc ∧
    (ackInactive a s).pe = s.pe ∧ (ackInactive a s).hc = s.hc ∧ (ackInactive a s).wd = s.wd := by
  unfold ackInactive
  split <;> simp

@[simp] theorem inputEdge_frame (s : State) (i : LineInput) (active : Bool) :
    (inputEdge i active s).pending = s.pending ∧ (inputEdge i active s).clock = s.clock ∧
    (inputEdge i active s).power = s.power ∧ (inputEdge i active s).regs = s.regs ∧ (inputEdge i active s).setup = s.setup ∧
    (inputEdge i active s).lastVMax = s.lastVMax ∧ (inputEdge i active s).web = s.web ∧ (inputEdge i active s).nc = s.nc := by
  unfold inputEdge
  (repeat' split) <;> simp

@[simp] theorem chainNotReady_frame (s : State) :
    (chainNotReady s).pending = s.pending ∧ (chainNotReady s).clock = s.clock ∧ (chainNotReady s).power = s.power ∧
    (chainNotReady s).ka = s.ka ∧ (chainNotReady s).regs = s.regs ∧ (chainNotReady s).setup = s.setup ∧
    (chainNotReady s).lastVMax = s.lastVMax ∧ (chainNotReady s).web = s.web ∧ (chainNotReady s).tmap = s.tmap ∧
    (chainNotReady s).ps = s.ps ∧ (chainNotReady s).spb = s.spb ∧ (chainNotReady s).nc = s.nc ∧ (chainNotReady s).pe = s.pe ∧
    (chainNotReady s).hc = s.hc ∧ (chainNotReady s).wd = s.wd ∧ (chainNotReady s).tc = s.tc ∧ (chainNotReady s).rc = s.rc ∧
    (chainNotReady s).su = s.su := by
  unfold chainNotReady
  split <;> simp

@[simp] theorem noteLink_frame (s : State) (link : Nat) :
    (noteLink link s).pending = s.pending ∧ (noteLink link s).clock = s.clock ∧ (noteLink link s).power = s.power ∧
    (noteLink link s).ka = s.ka ∧ (noteLink link s).regs = s.regs ∧ (noteLink link s).setup = s.setup ∧
    (noteLink link s).lastVMax = s.lastVMax ∧ (noteLink link s).web = s.web ∧ (noteLink link s).tmap = s.tmap ∧
    (noteLink link s).ps = s.ps ∧ (noteLink link s).spb = s.spb ∧ (noteLink link s).nc = s.nc ∧ (noteLink link s).pe = s.pe ∧
    (noteLink link s).hc = s.hc ∧ (noteLink link s).wd = s.wd ∧ (noteLink link s).tc = s.tc ∧ (noteLink link s).rc = s.rc := by
  unfold noteLink
  (repeat' split) <;> simp

@[simp] theorem readNamed_frame (s : State) (link : Nat) :
    (readNamed link s).pending = s.pending ∧ (readNamed link s).clock = s.clock ∧ (readNamed link s).power = s.power ∧
    (readNamed link s).ka = s.ka ∧ (readNamed link s).regs = s.regs ∧ (readNamed link s).setup = s.setup ∧
    (readNamed link s).lastVMax = s.lastVMax ∧ (readNamed link s).web = s.web ∧ (readNamed link s).ce = s.ce ∧
    (readNamed link s).tmap = s.tmap ∧ (readNamed link s).ps = s.ps ∧ (readNamed link s).spb = s.spb ∧
    (readNamed link s).nc = s.nc ∧ (readNamed link s).pe = s.pe ∧ (readNamed link s).hc = s.hc ∧ (readNamed link s).wd = s.wd ∧
    (readNamed link s).tc = s.tc ∧ (readNamed link s).rc = s.rc ∧ (readNamed link s).su = s.su := by
  unfold readNamed
  split <;> simp

@[simp] theorem takeCard_frame (s : State) (addr : Nat) (card : List Byte) :
    (takeCard addr card s).pending = s.pending ∧ (takeCard addr card s).clock = s.clock ∧
    (takeCard addr card s).power = s.power ∧ (takeCard addr card s).ka = s.ka ∧ (takeCard addr card s).regs = s.regs ∧
    (takeCard addr card s).setup = s.setup ∧ (takeCard addr card s).lastVMax = s.lastVMax ∧ (takeCard addr card s).web = s.web ∧
    (takeCard addr card s).tmap = s.tmap ∧ (takeCard addr card s).ps = s.ps ∧ (takeCard addr card s).spb = s.spb ∧
    (takeCard addr card s).nc = s.nc ∧ (takeCard addr card s).pe = s.pe ∧ (takeCard addr card s).hc = s.hc ∧
    (takeCard addr card s).wd = s.wd ∧ (takeCard addr card s).tc = s.tc ∧ (takeCard addr card s).rc = s.rc := by
  unfold takeCard
  dsimp only
  split <;> simp

@[simp] theorem chainReadFault_frame (s : State) (addr : Nat) :
    (chainReadFault addr s).pending = s.pending ∧ (chainReadFault addr s).clock = s.clock ∧
    (chainReadFault addr s).power = s.power ∧ (chainReadFault addr s).ka = s.ka ∧ (chainReadFault addr s).regs = s.regs ∧
    (chainReadFault addr s).setup = s.setup ∧ (chainReadFault addr s).lastVMax = s.lastVMax ∧
    (chainReadFault addr s).web = s.web ∧ (chainReadFault addr s).tmap = s.tmap ∧ (chainReadFault addr s).ps = s.ps ∧
    (chainReadFault addr s).spb = s.spb ∧ (chainReadFault addr s).nc = s.nc ∧ (chainReadFault addr s).pe = s.pe ∧
    (chainReadFault addr s).hc = s.hc ∧ (chainReadFault addr s).wd = s.wd ∧ (chainReadFault addr s).tc = s.tc ∧
    (chainReadFault addr s).rc = s.rc := by
  unfold chainReadFault
  split <;> simp

@[simp] theorem fenceCard_frame (s : State) (c : CurrentCard) :
    (fenceCard c s).pending = s.pending ∧ (fenceCard c s).clock = s.clock ∧ (fenceCard c s).power = s.power ∧
    (fenceCard c s).ka = s.ka ∧ (fenceCard c s).regs = s.regs ∧ (fenceCard c s).setup = s.setup ∧
    (fenceCard c s).lastVMax = s.lastVMax ∧ (fenceCard c s).web = s.web ∧ (fenceCard c s).tmap = s.tmap ∧
    (fenceCard c s).ps = s.ps ∧ (fenceCard c s).spb = s.spb ∧ (fenceCard c s).nc = s.nc ∧ (fenceCard c s).pe = s.pe ∧
    (fenceCard c s).hc = s.hc ∧ (fenceCard c s).wd = s.wd ∧ (fenceCard c s).tc = s.tc ∧ (fenceCard c s).rc = s.rc := by
  unfold fenceCard
  split <;> simp

@[simp] theorem reoffer_frame (s : State) (c : CurrentCard) :
    (reoffer c s).pending = s.pending ∧ (reoffer c s).clock = s.clock ∧ (reoffer c s).power = s.power ∧
    (reoffer c s).ka = s.ka ∧ (reoffer c s).regs = s.regs ∧ (reoffer c s).setup = s.setup ∧
    (reoffer c s).lastVMax = s.lastVMax ∧ (reoffer c s).web = s.web ∧ (reoffer c s).tmap = s.tmap ∧ (reoffer c s).nc = s.nc ∧
    (reoffer c s).hc = s.hc ∧ (reoffer c s).wd = s.wd ∧ (reoffer c s).rc = s.rc := by
  unfold reoffer
  split <;> simp

@[simp] theorem setupInputs_frame (s : State) (c : Settings) :
    (setupInputs c s).pending = s.pending ∧ (setupInputs c s).clock = s.clock ∧ (setupInputs c s).power = s.power ∧
    (setupInputs c s).ka = s.ka ∧ (setupInputs c s).regs = s.regs ∧ (setupInputs c s).setup = s.setup ∧
    (setupInputs c s).lastVMax = s.lastVMax ∧ (setupInputs c s).web = s.web ∧ (setupInputs c s).ports = s.ports ∧
    (setupInputs c s).ce = s.ce ∧ (setupInputs c s).tmap = s.tmap ∧ (setupInputs c s).ps = s.ps ∧
    (setupInputs c s).spb = s.spb ∧ (setupInputs c s).nc = s.nc ∧ (setupInputs c s).pe = s.pe ∧ (setupInputs c s).hc = s.hc ∧
    (setupInputs c s).wd = s.wd ∧ (setupInputs c s).tc = s.tc ∧ (setupInputs c s).rc = s.rc := by simp [setupInputs]

@[simp] theorem takeSettings_frame (s : State) (c : Settings) :
    (takeSettings c s).pending = s.pending ∧ (takeSettings c s).clock = s.clock ∧ (takeSettings c s).power = s.power ∧
    (takeSettings c s).ka = s.ka ∧ (takeSettings c s).regs = s.regs ∧ (takeSettings c s).lastVMax = s.lastVMax ∧
    (takeSettings c s).web = s.web ∧ (takeSettings c s).ports = s.ports ∧ (takeSettings c s).ce = s.ce ∧
    (takeSettings c s).tmap = s.tmap ∧ (takeSettings c s).ps = s.ps ∧ (takeSettings c s).spb = s.spb ∧
    (takeSettings c s).nc = s.nc ∧ (takeSettings c s).wd = s.wd := by simp [takeSettings]

@[simp] theorem polarityEdge_frame (s : State) (before : State) (i : LineInput) :
    (polarityEdge before s i).pending = s.pending ∧ (polarityEdge before s i).clock = s.clock ∧
    (polarityEdge before s i).power = s.power ∧ (polarityEdge before s i).regs = s.regs ∧
    (polarityEdge before s i).setup = s.setup ∧ (polarityEdge before s i).lastVMax = s.lastVMax ∧
    (polarityEdge before s i).web = s.web ∧ (polarityEdge before s i).nc = s.nc := by
  unfold polarityEdge
  split <;> simp

@[simp] theorem polarityEdges_frame (s : State) (before : State) :
    (polarityEdges before s).pending = s.pending ∧ (polarityEdges before s).clock = s.clock ∧
    (polarityEdges before s).power = s.power ∧ (polarityEdges before s).regs = s.regs ∧
    (polarityEdges before s).setup = s.setup ∧ (polarityEdges before s).lastVMax = s.lastVMax ∧
    (polarityEdges before s).web = s.web ∧ (polarityEdges before s).nc = s.nc := by
  unfold polarityEdges
  exact ⟨(foldl_keeps (·.pending) _ (fun s x => by simp) _ _).trans (by simp),
    (foldl_keeps (·.clock) _ (fun s x => by simp) _ _).trans (by simp),
    (foldl_keeps (·.power) _ (fun s x => by simp) _ _).trans (by simp),
    (foldl_keeps (·.regs) _ (fun s x => by simp) _ _).trans (by simp),
    (foldl_keeps (·.setup) _ (fun s x => by simp) _ _).trans (by simp),
    (foldl_keeps (·.lastVMax) _ (fun s x => by simp) _ _).trans (by simp),
    (foldl_keeps (·.web) _ (fun s x => by simp) _ _).trans (by simp),
    (foldl_keeps (·.nc) _ (fun s x => by simp) _ _).trans (by simp)⟩

@[simp] theorem applySetup_frame (s : State) (c : Settings) :
    (applySetup c s).pending = s.pending ∧ (applySetup c s).clock = s.clock ∧ (applySetup c s).power = s.power ∧
    (applySetup c s).regs = s.regs ∧ (applySetup c s).lastVMax = s.lastVMax ∧ (applySetup c s).web = s.web ∧
    (applySetup c s).nc = s.nc := by simp [applySetup]

@[simp] theorem setupCard_frame (s : State) (k : CurrentCard) :
    (setupCard k s).pending = s.pending ∧ (setupCard k s).clock = s.clock ∧ (setupCard k s).power = s.power ∧
    (setupCard k s).regs = s.regs ∧ (setupCard k s).lastVMax = s.lastVMax ∧ (setupCard k s).web = s.web ∧
    (setupCard k s).nc = s.nc := by
  unfold setupCard
  dsimp only
  (repeat' split) <;> simp

@[simp] theorem raiseLost_frame (s : State) :
    (raiseLost s).pending = s.pending ∧ (raiseLost s).clock = s.clock ∧ (raiseLost s).power = s.power ∧
    (raiseLost s).regs = s.regs ∧ (raiseLost s).setup = s.setup ∧ (raiseLost s).lastVMax = s.lastVMax ∧
    (raiseLost s).web = s.web ∧ (raiseLost s).ce = s.ce ∧ (raiseLost s).tmap = s.tmap ∧ (raiseLost s).ps = s.ps ∧
    (raiseLost s).spb = s.spb ∧ (raiseLost s).nc = s.nc ∧ (raiseLost s).pe = s.pe ∧ (raiseLost s).hc = s.hc ∧
    (raiseLost s).wd = s.wd ∧ (raiseLost s).tc = s.tc ∧ (raiseLost s).rc = s.rc := by
  unfold raiseLost
  split <;> simp

@[simp] theorem stopPatch_frame (s : State) :
    (stopPatch s).pending = s.pending ∧ (stopPatch s).clock = s.clock ∧ (stopPatch s).power = s.power ∧
    (stopPatch s).ka = s.ka ∧ (stopPatch s).regs = s.regs ∧ (stopPatch s).setup = s.setup ∧
    (stopPatch s).lastVMax = s.lastVMax ∧ (stopPatch s).web = s.web ∧ (stopPatch s).ports = s.ports ∧ (stopPatch s).ce = s.ce ∧
    (stopPatch s).tmap = s.tmap ∧ (stopPatch s).nc = s.nc ∧ (stopPatch s).pe = s.pe ∧ (stopPatch s).hc = s.hc ∧
    (stopPatch s).wd = s.wd ∧ (stopPatch s).tc = s.tc ∧ (stopPatch s).rc = s.rc ∧ (stopPatch s).su = s.su := by simp [stopPatch]

@[simp] theorem orphanMap_frame (s : State) :
    (orphanMap s).pending = s.pending ∧ (orphanMap s).clock = s.clock ∧ (orphanMap s).power = s.power ∧
    (orphanMap s).ka = s.ka ∧ (orphanMap s).regs = s.regs ∧ (orphanMap s).setup = s.setup ∧
    (orphanMap s).lastVMax = s.lastVMax ∧ (orphanMap s).web = s.web ∧ (orphanMap s).nc = s.nc ∧ (orphanMap s).hc = s.hc ∧
    (orphanMap s).wd = s.wd ∧ (orphanMap s).tc = s.tc ∧ (orphanMap s).rc = s.rc := by simp [orphanMap]

@[simp] theorem discardQueue_frame (s : State) :
    (discardQueue s).pending = s.pending ∧ (discardQueue s).clock = s.clock ∧ (discardQueue s).power = s.power ∧
    (discardQueue s).ka = s.ka ∧ (discardQueue s).regs = s.regs ∧ (discardQueue s).setup = s.setup ∧
    (discardQueue s).lastVMax = s.lastVMax ∧ (discardQueue s).web = s.web ∧ (discardQueue s).tmap = s.tmap ∧
    (discardQueue s).nc = s.nc ∧ (discardQueue s).hc = s.hc ∧ (discardQueue s).wd = s.wd ∧ (discardQueue s).tc = s.tc ∧
    (discardQueue s).rc = s.rc := by
  unfold discardQueue
  exact ⟨(foldl_keeps (·.pending) _ (fun s x => by simp) _ _).trans (by simp),
    (foldl_keeps (·.clock) _ (fun s x => by simp) _ _).trans (by simp),
    (foldl_keeps (·.power) _ (fun s x => by simp) _ _).trans (by simp),
    (foldl_keeps (·.ka) _ (fun s x => by simp) _ _).trans (by simp),
    (foldl_keeps (·.regs) _ (fun s x => by simp) _ _).trans (by simp),
    (foldl_keeps (·.setup) _ (fun s x => by simp) _ _).trans (by simp),
    (foldl_keeps (·.lastVMax) _ (fun s x => by simp) _ _).trans (by simp),
    (foldl_keeps (·.web) _ (fun s x => by simp) _ _).trans (by simp),
    (foldl_keeps (·.tmap) _ (fun s x => by simp) _ _).trans (by simp),
    (foldl_keeps (·.nc) _ (fun s x => by simp) _ _).trans (by simp),
    (foldl_keeps (·.hc) _ (fun s x => by simp) _ _).trans (by simp),
    (foldl_keeps (·.wd) _ (fun s x => by simp) _ _).trans (by simp),
    (foldl_keeps (·.tc) _ (fun s x => by simp) _ _).trans (by simp),
    (foldl_keeps (·.rc) _ (fun s x => by simp) _ _).trans (by simp)⟩

@[simp] theorem freeIfUnready_frame (s : State) (id : Nat) :
    (freeIfUnready id s).pending = s.pending ∧ (freeIfUnready id s).clock = s.clock ∧ (freeIfUnready id s).power = s.power ∧
    (freeIfUnready id s).ka = s.ka ∧ (freeIfUnready id s).regs = s.regs ∧ (freeIfUnready id s).setup = s.setup ∧
    (freeIfUnready id s).lastVMax = s.lastVMax ∧ (freeIfUnready id s).web = s.web ∧ (freeIfUnready id s).tmap = s.tmap ∧
    (freeIfUnready id s).nc = s.nc ∧ (freeIfUnready id s).pe = s.pe ∧ (freeIfUnready id s).hc = s.hc ∧
    (freeIfUnready id s).wd = s.wd ∧ (freeIfUnready id s).tc = s.tc ∧ (freeIfUnready id s).rc = s.rc := by
  unfold freeIfUnready
  dsimp only
  split <;> simp

@[simp] theorem freeUnready_frame (s : State) :
    (freeUnready s).pending = s.pending ∧ (freeUnready s).clock = s.clock ∧ (freeUnready s).power = s.power ∧
    (freeUnready s).ka = s.ka ∧ (freeUnready s).regs = s.regs ∧ (freeUnready s).setup = s.setup ∧
    (freeUnready s).lastVMax = s.lastVMax ∧ (freeUnready s).web = s.web ∧ (freeUnready s).tmap = s.tmap ∧
    (freeUnready s).nc = s.nc ∧ (freeUnready s).pe = s.pe ∧ (freeUnready s).hc = s.hc ∧ (freeUnready s).wd = s.wd ∧
    (freeUnready s).tc = s.tc ∧ (freeUnready s).rc = s.rc := by
  unfold freeUnready
  exact ⟨(foldl_keeps (·.pending) _ (fun s x => by simp) _ _).trans (by simp),
    (foldl_keeps (·.clock) _ (fun s x => by simp) _ _).trans (by simp),
    (foldl_keeps (·.power) _ (fun s x => by simp) _ _).trans (by simp),
    (foldl_keeps (·.ka) _ (fun s x => by simp) _ _).trans (by simp),
    (foldl_keeps (·.regs) _ (fun s x => by simp) _ _).trans (by simp),
    (foldl_keeps (·.setup) _ (fun s x => by simp) _ _).trans (by simp),
    (foldl_keeps (·.lastVMax) _ (fun s x => by simp) _ _).trans (by simp),
    (foldl_keeps (·.web) _ (fun s x => by simp) _ _).trans (by simp),
    (foldl_keeps (·.tmap) _ (fun s x => by simp) _ _).trans (by simp),
    (foldl_keeps (·.nc) _ (fun s x => by simp) _ _).trans (by simp),
    (foldl_keeps (·.pe) _ (fun s x => by simp) _ _).trans (by simp),
    (foldl_keeps (·.hc) _ (fun s x => by simp) _ _).trans (by simp),
    (foldl_keeps (·.wd) _ (fun s x => by simp) _ _).trans (by simp),
    (foldl_keeps (·.tc) _ (fun s x => by simp) _ _).trans (by simp),
    (foldl_keeps (·.rc) _ (fun s x => by simp) _ _).trans (by simp)⟩

@[simp] theorem recountFabrics_frame (s : State) :
    (recountFabrics s).pending = s.pending ∧ (recountFabrics s).clock = s.clock ∧ (recountFabrics s).power = s.power ∧
    (recountFabrics s).ka = s.ka ∧ (recountFabrics s).regs = s.regs ∧ (recountFabrics s).setup = s.setup ∧
    (recountFabrics s).lastVMax = s.lastVMax ∧ (recountFabrics s).web = s.web ∧ (recountFabrics s).ports = s.ports ∧
    (recountFabrics s).ce = s.ce ∧ (recountFabrics s).tmap = s.tmap ∧ (recountFabrics s).ps = s.ps ∧
    (recountFabrics s).spb = s.spb ∧ (recountFabrics s).nc = s.nc ∧ (recountFabrics s).pe = s.pe ∧
    (recountFabrics s).hc = s.hc ∧ (recountFabrics s).wd = s.wd ∧ (recountFabrics s).rc = s.rc ∧ (recountFabrics s).su = s.su := by simp [recountFabrics]

@[simp] theorem forgetSpliceCards_frame (s : State) :
    (forgetSpliceCards s).pending = s.pending ∧ (forgetSpliceCards s).clock = s.clock ∧ (forgetSpliceCards s).power = s.power ∧
    (forgetSpliceCards s).ka = s.ka ∧ (forgetSpliceCards s).regs = s.regs ∧ (forgetSpliceCards s).setup = s.setup ∧
    (forgetSpliceCards s).lastVMax = s.lastVMax ∧ (forgetSpliceCards s).web = s.web ∧ (forgetSpliceCards s).ports = s.ports ∧
    (forgetSpliceCards s).ce = s.ce ∧ (forgetSpliceCards s).tmap = s.tmap ∧ (forgetSpliceCards s).ps = s.ps ∧
    (forgetSpliceCards s).spb = s.spb ∧ (forgetSpliceCards s).nc = s.nc ∧ (forgetSpliceCards s).pe = s.pe ∧
    (forgetSpliceCards s).hc = s.hc ∧ (forgetSpliceCards s).wd = s.wd ∧ (forgetSpliceCards s).tc = s.tc ∧
    (forgetSpliceCards s).su = s.su := by simp [forgetSpliceCards]

@[simp] theorem linkDown_frame (s : State) :
    (linkDown s).pending = s.pending ∧ (linkDown s).clock = s.clock ∧ (linkDown s).power = s.power ∧ (linkDown s).ka = s.ka ∧
    (linkDown s).setup = s.setup ∧ (linkDown s).lastVMax = s.lastVMax ∧ (linkDown s).web = s.web ∧ (linkDown s).nc = s.nc ∧
    (linkDown s).hc = s.hc := by simp [linkDown]

end Sys2Proof.Machine
end

