-- ==== Sys2Proof/Laws/Ops.lean ====
section
/-! SUPPORT. What the shared operations do, said once each: the supply's gate, the dispatch of a card, events, faults, and the writes
that make a card final. -/

namespace Sys2Proof.Machine

/-! ## The supply and the dispatch -/

/-- While the main supply is present a command answers the state its effect gives. -/
theorem whenOn_on {s : State} {f : State → State} (h : s.power.mainOn = true) : whenOn s f = .next (f s) := by simp [whenOn, h]

/-- While the main supply is absent a command changes nothing. -/
theorem whenOn_off {s : State} {f : State → State} (h : s.power.mainOn = false) : whenOn s f = .next s := by simp [whenOn, h]

/-- A card that the engine is dispatching is acted on by the command of its kind. -/
theorem onDispatch_dispatching {k : CardKind} {s : State} {c : CurrentCard} {f : CurrentCard → State → State}
    (hon : s.power.mainOn = true) (hd : s.ce.state = .dispatching) (hc : s.ce.current = some c)
    (hk : CardKind.ofByte c.ref.kind = some k) : onDispatch k s f = .next (f c s) := by
  simp [onDispatch, whenOn, hon, hd, hc, hk]

/-- A command of a card kind changes nothing unless the engine is dispatching a card of that kind. -/
theorem onDispatch_else {k : CardKind} {s : State} {f : CurrentCard → State → State}
    (h : s.ce.state ≠ .dispatching ∨ ∀ c, s.ce.current = some c → CardKind.ofByte c.ref.kind ≠ some k) :
    onDispatch k s f = .next s := by
  cases hc : s.ce.current with
  | none => simp [onDispatch, whenOn, hc]
  | some c =>
    have hn : (s.ce.state == .dispatching && CardKind.ofByte c.ref.kind == some k) = false := by
      rcases h with h | h
      · simp [h]
      · simp [h c hc]
    simp [onDispatch, whenOn, hc, hn]

/-! ## Events (R172) -/

/-- A raise sets the event's mark and keeps every other part of the Status Unit. -/
@[simp] theorem raiseEvent_su (e : Event) (s : State) :
    (raiseEvent e s).su = { s.su with events := s.su.events ||| e.mask } := by
  unfold raiseEvent signalRise
  split <;> rfl

/-- A raise signals the interrupt exactly where the summary rises (R173). -/
theorem raiseEvent_ports (e : Event) (s : State) :
    (raiseEvent e s).ports = s.ports ∨
      ((raiseEvent e s).ports = .interrupt :: s.ports ∧ irqSummary s = false ∧ irqSummary (raiseEvent e s) = true) := by
  unfold raiseEvent signalRise
  split
  · rename_i h
    simp only [Bool.and_eq_true, Bool.not_eq_true'] at h
    exact Or.inr ⟨rfl, h.2, h.1⟩
  · exact Or.inl rfl

/-! ## Faults (R174) -/

/-- A fault offered: the number rises, and the queue is as the table of R174 gives. -/
theorem offerFault_queue (f : FaultInfo) (s : State) :
    (offerFault f s).su.faults = queueAfter s.su.faults ⟨f, s.su.faultSeq, s.web.pos⟩ ∧
    (offerFault f s).su.faultSeq = s.su.faultSeq + 1 ∧ (offerFault f s).su.refresh = s.su.refresh ∧
    (offerFault f s).su.haltCause = s.su.haltCause ∧ (offerFault f s).su.inputs = s.su.inputs := by
  unfold offerFault
  dsimp only
  split <;> simp

/-- The queue never passes 32 entries. -/
theorem queueAfter_length (q : List FaultEntry) (e : FaultEntry) (h : q.length ≤ 32) : (queueAfter q e).length ≤ 32 := by
  unfold queueAfter
  split
  · simp; omega
  · split
    · exact h
    · rename_i last hl
      have : q ≠ [] := by rintro rfl; simp at hl
      have h1 : 0 < q.length := List.length_pos_iff.mpr this
      split <;> simp <;> omega

/-- A fault is never left out of an empty queue, and no fault empties it. -/
theorem queueAfter_ne_nil (q : List FaultEntry) (e : FaultEntry) : queueAfter q e ≠ [] := by
  unfold queueAfter
  split
  · simp
  · split
    · rename_i hl
      rw [List.getLast?_eq_none_iff] at hl
      subst hl
      simp_all
    · split <;> simp

/-! ## Host memory -/

/-- What the part wrote last stands, whatever left it since at other ports. -/
theorem writtenByte_skip {o : PortOut} {l : List PortOut} (a : Nat) (h : ∀ cells, o ≠ .hostWrite cells) :
    writtenByte (o :: l) a = writtenByte l a := by
  cases o <;> first | rfl | exact absurd rfl (h _)

/-- A raise writes nothing into host memory. -/
@[simp] theorem hostByte_raiseEvent (e : Event) (s : State) (a : Nat) : hostByte (raiseEvent e s) a = hostByte s a := by
  unfold hostByte
  rcases raiseEvent_ports e s with h | ⟨h, -⟩ <;> rw [h]
  exact writtenByte_skip a (by intro _; simp)

/-- A header write leaves the state and the result code in the card (R165). -/
theorem hostByte_writeHeader (addr : Nat) (st : CardState) (rc : ResultCode) (s : State) :
    hostByte (writeHeader addr st rc s) (addr + 8) = some st.code ∧ hostByte (writeHeader addr st rc s) (addr + 11) = some rc.code := by
  constructor <;> simp [hostByte, writeHeader, postWrite, emit, writtenByte]

/-- A stalled FENCE's count writes nothing into host memory. -/
@[simp] theorem hostByte_noteFinal (s : State) (a : Nat) : hostByte (noteFinal s) a = hostByte s a := by
  unfold hostByte; simp

/-- The final write of a card leaves its final state and result code in its header (R166). -/
theorem hostByte_finalWrite (c : CardRef) (fields : List (Nat × List Byte)) (st : CardState) (rc : ResultCode) (s : State) :
    hostByte (finalWrite c fields st rc s) (c.addr + 8) = some st.code ∧
    hostByte (finalWrite c fields st rc s) (c.addr + 11) = some rc.code := by
  unfold finalWrite finishCard
  dsimp only
  simp only [hostByte_raiseEvent, hostByte_noteFinal]
  exact hostByte_writeHeader _ _ _ _

/-- The final write of a card raises CARD_FINAL and takes its take out of the outstanding set (R166). -/
theorem finalWrite_outstanding (c : CardRef) (fields : List (Nat × List Byte)) (st : CardState) (rc : ResultCode) (s : State) :
    (finalWrite c fields st rc s).ce.outstanding = s.ce.outstanding.filter (fun r => r.take != c.take) ∧
    (finalWrite c fields st rc s).su.events = s.su.events ||| Event.cardFinal.mask := by
  unfold finalWrite finishCard noteFinal
  dsimp only
  constructor
  · simp only [raiseEvent_frame]
    split <;> simp [writeHeader, postWrite, emit]
  · simp only [raiseEvent_su]
    split <;> simp [writeHeader, postWrite, emit]

/-! ## The halt (R123) -/

/-- A cause taken in HALTED is a later cause: the fault alone (R124). -/
theorem haltLine_halted {s : State} (cause : HaltCause) (h : s.wd.state = .halted) :
    haltLine cause s = offerFault (.laterHalt cause) s := by simp [haltLine, h]

/-- A cause taken in any other state halts the line (R122). -/
theorem haltLine_running {s : State} (cause : HaltCause) (h : s.wd.state ≠ .halted) : haltLine cause s = takeHalt cause s := by
  simp [haltLine, h]

/-- A halt leaves the drive HALTED with its three speeds at 0 and the measured speed as it was (R123). -/
theorem takeHalt_wd (cause : HaltCause) (s : State) : (takeHalt cause s).wd = ⟨.halted, 0, 0, 0, s.wd.measured, false⟩ := by
  unfold takeHalt
  simp

/-- Every entry leaves the map at a halt, and the joints stay (R16). -/
theorem haltMap_tmap (s : State) : (haltMap s).tmap.joints = s.tmap.joints ∧
    ∀ g ∈ (haltMap s).tmap.segs, g ∈ s.tmap.segs ∧ ∀ h ∈ s.tmap.segs, g.start ≠ h.start := by
  unfold haltMap
  suffices H : ∀ (l : List Segment) (t : State),
      (l.foldl (fun s g => removeSeg g (reportStrip (if g.flags.orphan then g else spoilSeg .halt g) (none, none) s)) t).tmap
        = ⟨t.tmap.segs.filter (fun g => l.all (fun h => g.start != h.start)), t.tmap.joints⟩ by
    rw [H]
    refine ⟨rfl, fun g hg => ?_⟩
    simp only [List.mem_filter, List.all_eq_true, bne_iff_ne] at hg
    exact hg
  intro l
  induction l with
  | nil => intro t; simp
  | cons x xs ih =>
    intro t
    rw [List.foldl_cons, ih]
    simp only [removeSeg, raiseEvent_frame, releaseFabric_frame, reportStrip_frame, List.filter_filter, List.all_cons]
    congr 1
    apply List.filter_congr
    intro g _
    rw [Bool.and_comm]

/-- A halt leaves no SEGMENT entry in the map (R16). -/
theorem haltMap_empty (s : State) : (haltMap s).tmap.segs = [] := by
  rw [List.eq_nil_iff_forall_not_mem]
  intro g hg
  have h := (haltMap_tmap s).2 g hg
  exact h.2 g h.1 rfl

/-- A fabric joint goes behind every joint due no later and before the first that is due later (R150; log entry 50). -/
theorem insertDue_splits (j : FabricJoint) (l : List FabricJoint) : ∃ pre post, l = pre ++ post ∧ insertDue j l = pre ++ j :: post ∧
    (∀ k ∈ pre, k.due ≤ j.due) ∧ ∀ k, post.head? = some k → j.due < k.due := by
  induction l with
  | nil => exact ⟨[], [], rfl, rfl, by simp, by simp⟩
  | cons x xs ih =>
    by_cases h : j.due < x.due
    · exact ⟨[], x :: xs, rfl, by simp [insertDue, h], by simp, by simpa using h⟩
    · obtain ⟨pre, post, h1, h2, h3, h4⟩ := ih
      refine ⟨x :: pre, post, by simp [h1], by simp [insertDue, h, h2], ?_, h4⟩
      intro k hk
      rcases List.mem_cons.mp hk with rfl | hk
      · omega
      · exact h3 k hk

end Sys2Proof.Machine
end

