-- ==== Sys2Proof/Laws/Cards.lean ====
section
/-! SUPPORT. What the checks of a card name and what its final write leaves in host memory and in the Card Engine, said once: the first
check that fails, the bytes of a posted write, the final write of any card, and the end of the current card's dispatch. -/

namespace Sys2Proof.Machine

/-! ## Checks -/

/-- A list of checks names the offset of its first one that fails, every check before it having passed. -/
theorem firstError_eq_some {l : List (Nat × Bool)} {off : Nat} : firstError l = some off ↔
    ∃ i : Nat, l[i]? = some (off, false) ∧ ∀ k : Nat, k < i → ∀ x : Nat × Bool, l[k]? = some x → x.2 = true := by
  induction l with
  | nil => simp [firstError]
  | cons c cs ih =>
    obtain ⟨o, b⟩ := c
    cases b with
    | false =>
      simp only [firstError, List.find?_cons, Bool.not_false, Option.map_some, Option.some.injEq]
      constructor
      · rintro rfl; exact ⟨0, rfl, fun k hk => absurd hk (Nat.not_lt_zero k)⟩
      · rintro ⟨i, hi, hk⟩
        cases i with
        | zero => simp at hi; exact hi
        | succ i => exact absurd (hk 0 (Nat.succ_pos i) _ rfl) (by simp)
    | true =>
      rw [show firstError ((o, true) :: cs) = firstError cs from rfl, ih]
      constructor
      · rintro ⟨i, hi, hk⟩
        refine ⟨i + 1, hi, fun k h x hx => ?_⟩
        cases k with
        | zero => simp at hx; rw [← hx]
        | succ k => exact hk k (Nat.lt_of_succ_lt_succ h) x hx
      · rintro ⟨i, hi, hk⟩
        cases i with
        | zero => simp at hi
        | succ i => exact ⟨i, hi, fun k h x hx => hk (k + 1) (Nat.succ_lt_succ h) x hx⟩

/-! ## Posted writes -/

/-- An area keeps its length whatever fields are laid into it. -/
theorem overlay_length (base : List Byte) (off : Nat) (bs : List Byte) : (overlay base off bs).length = base.length := by
  simp [overlay]
  omega

/-- An area has its length. -/
theorem area_length (n : Nat) (fields : List (Nat × List Byte)) : (area n fields).length = n := by
  unfold area
  suffices H : ∀ (l : List (Nat × List Byte)) (acc : List Byte),
      (l.foldl (fun acc f => overlay acc f.1 f.2) acc).length = acc.length by simp [H]
  intro l
  induction l with
  | nil => intro acc; rfl
  | cons x xs ih => intro acc; rw [List.foldl_cons, ih, overlay_length]

/-- Cells placed one after another: the byte found at an address is the one the row holds there. -/
theorem cellsAt_find (l : List Byte) (addr a : Nat) :
    ((cellsAt addr l).reverse.find? (fun c => c.1 == a)).map (·.2) = if addr ≤ a then l[a - addr]? else none := by
  induction l generalizing addr with
  | nil => simp [cellsAt]
  | cons b bs ih =>
    rw [cellsAt, List.reverse_cons, List.find?_append, Option.map_or, ih]
    by_cases h1 : addr + 1 ≤ a
    · have h3 : a - addr = (a - (addr + 1)) + 1 := by omega
      have h4 : addr ≠ a := by omega
      have h5 : addr ≤ a := by omega
      simp [h1, h3, h4, h5]
    · by_cases h2 : addr = a
      · subst h2; simp
      · have h5 : ¬ addr ≤ a := by omega
        simp [h1, h2, h5]

/-- A posted write of a row of bytes leaves that row in host memory and every other byte as it was. -/
theorem hostByte_postWrite_cellsAt (addr : Nat) (l : List Byte) (s : State) (a : Nat) :
    hostByte (postWrite (cellsAt addr l) s) a = if addr ≤ a ∧ a < addr + l.length then l[a - addr]? else hostByte s a := by
  have h := cellsAt_find l addr a
  unfold hostByte postWrite emit
  simp only [writtenByte]
  split
  · rename_i c hc
    rw [hc] at h
    simp only [Option.map_some] at h
    by_cases h1 : addr ≤ a
    · rw [if_pos h1] at h
      have h2 : a - addr < l.length := by
        rcases Nat.lt_or_ge (a - addr) l.length with h3 | h3
        · exact h3
        · rw [List.getElem?_eq_none h3] at h; cases h
      rw [if_pos ⟨h1, by omega⟩, h]
    · rw [if_neg h1] at h; cases h
  · rename_i hc
    rw [hc] at h
    simp only [Option.map_none] at h
    rw [if_neg]
    rintro ⟨h1, h2⟩
    rw [if_pos h1, List.getElem?_eq_getElem (by omega)] at h
    cases h

/-- A header write reaches the state and the result code alone (R165). -/
theorem hostByte_writeHeader_else (addr : Nat) (st : CardState) (rc : ResultCode) (s : State) (a : Nat) (h8 : a ≠ addr + 8)
    (h11 : a ≠ addr + 11) : hostByte (writeHeader addr st rc s) a = hostByte s a := by
  simp [hostByte, writeHeader, postWrite, emit, writtenByte, Ne.symm h8, Ne.symm h11]

/-- What a final write leaves at any byte of host memory (R166). -/
theorem hostByte_finalWrite_all (c : CardRef) (fields : List (Nat × List Byte)) (st : CardState) (rc : ResultCode) (s : State)
    (a : Nat) (h8 : a ≠ c.addr + 8) (h11 : a ≠ c.addr + 11) :
    hostByte (finalWrite c fields st rc s) a =
      if c.addr + 128 ≤ a ∧ a < c.addr + 256 then (area 128 (fields.map fun f => (f.1 - 128, f.2)))[a - (c.addr + 128)]?
      else hostByte s a := by
  have key : hostByte (finalWrite c fields st rc s) a =
      hostByte (postWrite (cellsAt (c.addr + 128) (area 128 (fields.map fun f => (f.1 - 128, f.2)))) s) a := by
    unfold finalWrite finishCard
    dsimp only
    simp only [hostByte_raiseEvent, hostByte_noteFinal]
    exact hostByte_writeHeader_else _ _ _ _ _ h8 h11
  rw [key, hostByte_postWrite_cellsAt, area_length]

/-- A final write: results, header, the outstanding set, CARD_FINAL, and nothing else in host memory (R166). -/
theorem finalWrite_written (c : CardRef) (fields : List (Nat × List Byte)) (st : CardState) (rc : ResultCode) (s : State) :
    WrittenFinal c st rc fields s (finalWrite c fields st rc s) := by
  have ho := finalWrite_outstanding c fields st rc s
  refine ⟨⟨(hostByte_finalWrite c fields st rc s).1, (hostByte_finalWrite c fields st rc s).2, ?_, ?_⟩, ?_, ?_⟩
  · unfold hasEvent
    rw [ho.2]
    simp only [bne_iff_ne, ne_eq]
    intro h
    have := congrArg (fun w => w.getLsbD 0) h
    simp [Event.mask, Event.bit] at this
  · intro r hr
    rw [ho.1] at hr
    simpa using (List.mem_filter.mp hr).2
  · intro i b hb
    have hi : i < 128 := by
      rcases Nat.lt_or_ge i 128 with h | h
      · exact h
      · rw [List.getElem?_eq_none (by rw [area_length]; exact h)] at hb; cases hb
    rw [hostByte_finalWrite_all _ _ _ _ _ _ (by omega) (by omega), if_pos ⟨by omega, by omega⟩]
    rw [show c.addr + 128 + i - (c.addr + 128) = i by omega]
    exact hb
  · intro a ha
    unfold FinalBytes at ha
    push Not at ha
    rw [hostByte_finalWrite_all _ _ _ _ _ _ ha.1 ha.2.1, if_neg]
    rintro ⟨h1, h2⟩
    have := ha.2.2 h1
    omega

/-- Whether a final write is made while the engine is not STALLED, it changes the Card Engine's outstanding set alone (R166). -/
theorem finalWrite_ce {c : CardRef} {fields : List (Nat × List Byte)} {st : CardState} {rc : ResultCode} {s : State}
    (h : s.ce.state ≠ .stalled) : (finalWrite c fields st rc s).ce = { s.ce with outstanding := without c s.ce.outstanding } := by
  have hb : (s.ce.state == EngineState.stalled) = false := by simpa using h
  unfold finalWrite finishCard noteFinal
  simp [writeHeader, postWrite, emit, hb, without]

/-- The current card's kind, as the engine's updates name it. -/
theorem currentIs_eq (s : State) (k : CardKind) :
    currentIs s k = ((s.ce.current.bind fun c => CardKind.ofByte c.ref.kind) == some k) := by
  unfold currentIs
  cases s.ce.current <;> simp

/-- The Card Engine after an event that offers a stalled card of a kind again (R164). -/
theorem offerTo_ce (k : CardKind) (s : State) : (offerTo k s).ce = offeredAgain k s.ce := by
  unfold offerTo offeredAgain
  rw [← currentIs_eq]
  cases s.ce.state == .stalled && currentIs s k <;> simp

/-- The Card Engine after any final write, the engine STALLED or not (R164, R166, R168). -/
theorem finalWrite_engine (c : CardRef) (fields : List (Nat × List Byte)) (st : CardState) (rc : ResultCode) (s : State) :
    (finalWrite c fields st rc s).ce = engineFinal c s.ce := by
  have h : ∀ t : State, (noteFinal t).ce = { offeredAgain .fence t.ce with
      fenceCount := if t.ce.state = .stalled ∧ (t.ce.current.bind fun c => CardKind.ofByte c.ref.kind) = some .fence then
        t.ce.fenceCount + 1 else t.ce.fenceCount } := by
    intro t
    have hk : (t.ce.state = .stalled ∧ (t.ce.current.bind fun c => CardKind.ofByte c.ref.kind) = some .fence) ↔
        (t.ce.state == .stalled && currentIs t .fence) = true := by simp [currentIs_eq]
    unfold noteFinal offeredAgain
    rw [← currentIs_eq, if_congr hk rfl rfl]
    cases t.ce.state == .stalled && currentIs t .fence <;> simp
  unfold finalWrite finishCard engineFinal
  simp [h, writeHeader, postWrite, emit, offeredAgain, without]

/-- A start test leaves the Print Engine but for what it keeps: the hold reason and the verdict of a NO_WAIT card's first test (R63,
R66). -/
theorem touchStart_hold (s : State) : SamePrintButHold s (touchStart s) := by
  refine ⟨by simp, ?_⟩
  unfold SameButHold touchStart noteFirst setHold
  (repeat' split) <;> rfl

/-- The Status Unit after a final write: CARD_FINAL is raised (R166). -/
theorem finalWrite_su (c : CardRef) (fields : List (Nat × List Byte)) (st : CardState) (rc : ResultCode) (s : State) :
    (finalWrite c fields st rc s).su = raised [.cardFinal] s.su := by
  unfold finalWrite finishCard noteFinal raised
  dsimp only
  simp only [raiseEvent_su]
  split <;> simp [writeHeader, postWrite, emit]

/-- A final write adds its two writes to those of the trace, the header last. -/
theorem finalWrite_writes (c : CardRef) (fields : List (Nat × List Byte)) (st : CardState) (rc : ResultCode) (s : State) :
    writesOf (finalWrite c fields st rc s).ports = finalWrites c st rc fields ++ writesOf s.ports := by
  have h : ∀ s : State, writesOf (noteFinal s).ports = writesOf s.ports := fun s => by unfold noteFinal; split <;> rfl
  have g : ∀ s : State, writesOf (raiseEvent .cardFinal s).ports = writesOf s.ports := fun s => by
    unfold raiseEvent signalRise; split <;> rfl
  unfold finalWrite finishCard
  rw [g, h]
  rfl

/-- The end of a dispatch writes nothing into host memory. -/
@[simp] theorem hostByte_endDispatch (s : State) (a : Nat) : hostByte (endDispatch s) a = hostByte s a := by
  unfold endDispatch beginChainRead emit hostByte
  dsimp only
  split <;> simp [writtenByte]

/-- The end of a dispatch (R163, R159). -/
theorem endDispatch_ce (s : State) : (endDispatch s).ce = engineAfter s s.ce.outstanding := by
  unfold endDispatch beginChainRead emit engineAfter
  dsimp only
  cases s.regs.run <;> simp

/-- The current card is written final and its dispatch ends (R163, R166). -/
theorem finishCurrent_final {c : CurrentCard} {fields : List (Nat × List Byte)} {st : CardState} {rc : ResultCode} {s : State}
    (hc : s.ce.current = some c) (hs : s.ce.state ≠ .stalled) :
    DispatchFinal c st rc fields s (finishCurrent fields st rc s) ∧ (finishCurrent fields st rc s).su = raised [.cardFinal] s.su := by
  have hf : finishCurrent fields st rc s = endDispatch (finalWrite c.ref fields st rc s) := by simp [finishCurrent, hc]
  have hw := finalWrite_written c.ref fields st rc s
  have hce := endDispatch_ce (finalWrite c.ref fields st rc s)
  rw [hf]
  refine ⟨⟨⟨⟨?_, ?_, ?_, ?_⟩, ?_, ?_⟩, ?_⟩, ?_⟩
  · simpa using hw.1.1
  · simpa using hw.1.2.1
  · have := hw.1.2.2.1
    unfold hasEvent at this ⊢
    simpa using this
  · rw [hce]
    exact hw.1.2.2.2
  · intro i b hb
    simpa using hw.2.1 i b hb
  · intro a ha
    simpa using hw.2.2 a ha
  · rw [hce]
    simp [engineAfter, finalWrite_ce hs]
  · have := finalWrite_su c.ref fields st rc s
    simpa using this

/-- A card that fails at its dispatch changes nothing else in the part (R165). -/
theorem failCurrent_fails {c : CurrentCard} {fields : List (Nat × List Byte)} {rc : ResultCode} {s : State}
    (hc : s.ce.current = some c) (hs : s.ce.state ≠ .stalled) : FailsCard c rc fields s (failCurrent rc fields s) := by
  refine ⟨(finishCurrent_final hc hs).1, (finishCurrent_final hc hs).2, ?_, ?_, ?_, ?_⟩ <;>
    simp [failCurrent, SameBase, SameStore, SamePrint, SameLine]

/-- A card that stalls changes nothing else in the part (R164). -/
theorem stallCurrent_stalls {s : State} (hs : s.ce.state ≠ .stalled) : StallsCard s (stallCurrent s) := by
  have hb : (s.ce.state == EngineState.stalled) = false := by simpa using hs
  unfold StallsCard stallCurrent raised OnlyWrites
  simp [hb, SameBase, SameStore, SamePrint, SameLine]
  intro a
  rfl

end Sys2Proof.Machine
end

