-- ==== Sys2Proof/Laws/Store.lean ====
section
/-! SUPPORT. The store's memory: a cell that is written reads back and every other cell stands, and every operation on it keeps its
canonical form. What a pump of the store port may change, and which edits of a list are in error. -/

namespace Sys2Proof.Machine

/-- Every listed address lies above a bound. -/
def storeAbove (b : Nat) (m : StoreMemory) : Prop := ∀ p ∈ m, b < p.1

theorem storeRead_above {m : StoreMemory} {b a : Nat} (h : storeAbove b m) (ha : a ≤ b) : storeRead m a = unwrittenCell := by
  induction m with
  | nil => rfl
  | cons p rest ih =>
    have hp : b < p.1 := h p (by simp)
    have hr : storeAbove b rest := fun q hq => h q (by simp [hq])
    obtain ⟨k, c⟩ := p
    have : k ≠ a := by simp at hp; omega
    simp [storeRead, this, ih hr]

theorem storeWf_cons {k : Nat} {c : StoreCell} {m : StoreMemory} :
    storeWf ((k, c) :: m) = true ↔ c ≠ unwrittenCell ∧ storeAbove k m ∧ storeWf m = true := by
  induction m generalizing k c with
  | nil => simp [storeWf, storeAbove]
  | cons p rest ih =>
    obtain ⟨k', c'⟩ := p
    simp only [storeWf, Bool.and_eq_true, bne_iff_ne, ne_eq, decide_eq_true_eq, ih, storeAbove, List.mem_cons]
    constructor
    · rintro ⟨⟨h1, h2⟩, h3, h4, h5⟩
      refine ⟨h1, ?_, h3, h4, h5⟩
      rintro q (rfl | hq)
      · exact h2
      · exact Nat.lt_trans h2 (h4 q hq)
    · rintro ⟨h1, h2, h3, h4, h5⟩
      exact ⟨⟨h1, h2 (k', c') (Or.inl rfl)⟩, h3, h4, h5⟩

theorem storeAbove_write {m : StoreMemory} {b a : Nat} {c : StoreCell} (h : storeAbove b m) (ha : b < a) :
    storeAbove b (storeWrite m a c) := by
  induction m with
  | nil =>
    unfold storeWrite
    split
    · exact h
    · intro q hq; simp at hq; subst hq; exact ha
  | cons p rest ih =>
    obtain ⟨k, d⟩ := p
    have hk : b < k := h (k, d) (by simp)
    have hr : storeAbove b rest := fun q hq => h q (by simp [hq])
    unfold storeWrite
    split
    · split
      · exact h
      · intro q hq
        simp only [List.mem_cons] at hq
        rcases hq with rfl | rfl | hq
        · exact ha
        · exact hk
        · exact hr q hq
    · split
      · split
        · exact hr
        · intro q hq
          simp only [List.mem_cons] at hq
          rcases hq with rfl | hq
          · exact ha
          · exact hr q hq
      · intro q hq
        simp only [List.mem_cons] at hq
        rcases hq with rfl | hq
        · exact hk
        · exact ih hr q hq

/-- A write keeps the canonical form. -/
theorem storeWrite_wf {m : StoreMemory} (a : Nat) (c : StoreCell) (h : storeWf m = true) : storeWf (storeWrite m a c) = true := by
  induction m with
  | nil =>
    unfold storeWrite
    split
    · rfl
    · simp [storeWf, *]
  | cons p rest ih =>
    obtain ⟨k, d⟩ := p
    have h' := storeWf_cons.mp h
    unfold storeWrite
    split
    · split
      · exact h
      · rename_i hlt hne
        refine storeWf_cons.mpr ⟨hne, ?_, h⟩
        intro q hq
        simp only [List.mem_cons] at hq
        rcases hq with rfl | hq
        · exact hlt
        · exact Nat.lt_trans hlt (h'.2.1 q hq)
    · split
      · split
        · exact h'.2.2
        · rename_i heq hne
          exact storeWf_cons.mpr ⟨hne, heq ▸ h'.2.1, h'.2.2⟩
      · exact storeWf_cons.mpr ⟨h'.1, storeAbove_write h'.2.1 (by omega), ih h'.2.2⟩

/-- A cell that is written reads back, and every other cell stands. -/
theorem storeRead_storeWrite {m : StoreMemory} (a b : Nat) (c : StoreCell) (h : storeWf m = true) :
    storeRead (storeWrite m a c) b = if b = a then c else storeRead m b := by
  induction m with
  | nil =>
    unfold storeWrite
    by_cases hc : c = unwrittenCell
    · subst hc; split <;> simp [storeRead]
    · by_cases hb : b = a
      · simp [hc, hb, storeRead]
      · simp [hc, storeRead, Ne.symm hb, hb]
  | cons p rest ih =>
    obtain ⟨k, d⟩ := p
    have h' := storeWf_cons.mp h
    unfold storeWrite
    by_cases hlt : a < k
    · have habove : storeAbove a ((k, d) :: rest) := by
        intro q hq
        simp only [List.mem_cons] at hq
        rcases hq with rfl | hq
        · exact hlt
        · exact Nat.lt_trans hlt (h'.2.1 q hq)
      by_cases hc : c = unwrittenCell
      · simp only [hlt, if_true, hc]
        by_cases hb : b = a
        · rw [hb, storeRead_above habove (Nat.le_refl a)]; simp
        · simp [hb]
      · by_cases hb : b = a
        · simp [hlt, hc, hb, storeRead]
        · simp [hlt, hc, hb, storeRead, Ne.symm hb]
    · by_cases heq : a = k
      · subst heq
        by_cases hc : c = unwrittenCell
        · simp only [Nat.lt_irrefl, if_false, if_true, hc]
          by_cases hb : b = a
          · subst hb; simp [storeRead_above h'.2.1 (Nat.le_refl b)]
          · simp [hb, storeRead, Ne.symm hb]
        · by_cases hb : b = a
          · simp [hc, hb, storeRead]
          · simp [hc, hb, storeRead, Ne.symm hb]
      · simp only [hlt, heq, if_false, storeRead, ih h'.2.2]
        by_cases hk : k = b
        · subst hk; simp [Ne.symm heq]
        · simp [hk]

/-- The store after reset has the canonical form. -/
theorem reset_storeWf : storeWf State.reset.ps.mem = true := rfl

/-- A cell write reads back with fresh parity, and every other cell stands. -/
theorem writeCell_read (s : State) (cell a : Nat) (v : CellValue) (h : storeWf s.ps.mem = true) :
    storeRead (writeCell cell v s).ps.mem a = if a = cell then freshCell v else storeRead s.ps.mem a := by
  unfold writeCell cacheInvalidate
  dsimp only
  split <;> exact storeRead_storeWrite _ _ _ h

/-- A cell write keeps the canonical form. -/
theorem writeCell_wf (s : State) (cell : Nat) (v : CellValue) (h : storeWf s.ps.mem = true) :
    storeWf (writeCell cell v s).ps.mem = true := by
  unfold writeCell cacheInvalidate
  dsimp only
  split <;> exact storeWrite_wf _ _ h

/-- A cell read keeps the canonical form. -/
theorem readCell_wf (s : State) (cell : Nat) (d : CellDamage) (h : storeWf s.ps.mem = true) :
    storeWf (readCell cell d s).2.ps.mem = true := storeWrite_wf _ _ h

/-- No line of the node cache holds a cell once it is written (R53). -/
theorem writeCell_uncached (s : State) (cell : Nat) (v : CellValue) : cacheHolds (writeCell cell v s) cell = none := by
  have key : ∀ (l : List (Option CacheLine)) (n : Nat), nth (modifyNth l n (fun _ => none)) n none = none := by
    intro l
    induction l with
    | nil => intro n; simp [modifyNth, nth]
    | cons x xs ih =>
      intro n
      cases n with
      | zero => simp [modifyNth, nth]
      | succ n => simpa [modifyNth, nth] using ih n
  unfold writeCell cacheInvalidate
  dsimp only
  split
  · simp [cacheHolds, key]
  · rename_i h
    simpa [cacheHolds] using h

/-! ## The store port and the edits of a list -/

/-- A pump of the port grants by R39 from the arbiter as it stands, with the requests that the shadow requester and the loader then
hold; a request that either holds already stands. -/
theorem pumpPort_arb (s : State) : ∃ sr lr, (pumpPort s).ps.arb = grant { s.ps.arb with shadowReq := sr, loaderReq := lr } ∧
    (∀ r, s.ps.arb.shadowReq = some r → sr = some r) ∧ ∀ r, s.ps.arb.loaderReq = some r → lr = some r := by
  have h1 : ∃ sr, (requestShadow s).ps.arb = { s.ps.arb with shadowReq := sr } ∧ ∀ r, s.ps.arb.shadowReq = some r → sr = some r := by
    unfold requestShadow
    split
    · exact ⟨s.ps.arb.shadowReq, rfl, fun _ h => h⟩
    · rename_i h
      exact ⟨nextShadowRequest s, rfl, fun r hr => by simp [hr] at h⟩
  have h2 : ∀ s : State, ∃ lr, (requestLoad s).ps.arb = { s.ps.arb with loaderReq := lr } ∧ ∀ r, s.ps.arb.loaderReq = some r → lr = some r := by
    intro s
    unfold requestLoad
    split
    · exact ⟨s.ps.arb.loaderReq, rfl, fun _ h => h⟩
    · rename_i h
      (repeat' split) <;> exact ⟨_, rfl, fun r hr => by simp [hr] at h⟩
  obtain ⟨sr, e1, k1⟩ := h1
  obtain ⟨lr, e2, k2⟩ := h2 (requestShadow s)
  exact ⟨sr, lr, by simp [pumpPort, setArb, e2, e1], k1, fun r hr => k2 r (by simp [e1, hr])⟩

/-- Against a record that is not seen EMPTY an edit is in error where its profile cannot take it, and otherwise by an empty mask (R42). -/
theorem editInError_eq (r : ProfileRecord) (e : Edit) :
    (stateSeen r = .empty → editInError r e = (e.mask == 0)) ∧
      ∀ h, stateSeen r ≠ .empty → r.header = some h → editInError r e = !editOk h e := by
  unfold editInError
  refine ⟨fun h => by rw [h], fun h h1 h2 => ?_⟩
  rw [h2]
  split <;> simp_all

end Sys2Proof.Machine
end

