-- ==== Sys2Proof/Tests/Slice0.lean ====
section
/-! SUPPORT. The model's own tests: terms that `Instr.wellFormed` refuses, the spec's worked figures, and for every statement a state
and operands that meet its hypotheses. -/

namespace Sys2Proof.Tests

-- One theorem after another: kernel evaluations that wait for each other would each hold a thread.
set_option Elab.async false

open Sys2Proof.Machine

/-! ## Terms that are refused -/

theorem test_wellFormed_chainRead_length : Instr.wellFormed (.chainReadComplete 0 (List.replicate 127 0)) = false := by decide +kernel
theorem test_wellFormed_registerWrite_behaved : Instr.wellFormed (.registerWrite 16 0) = false := by decide
theorem test_wellFormed_raster_partPixel : Instr.wellFormed (.rasterReadComplete [1, 2]) = false := by decide
theorem test_wellFormed_block_partRecord : Instr.wellFormed (.loadReadComplete (List.replicate 12 0)) = false := by decide
theorem test_wellFormed_block_empty : Instr.wellFormed (.loadReadComplete []) = false := by decide
theorem test_wellFormed_edits_partEdit : Instr.wellFormed (.editListReadComplete (List.replicate 20 0)) = false := by decide
theorem test_wellFormed_freeing_zero : Instr.wellFormed (.freeing 0) = false := by decide
theorem test_wellFormed_freeing_seventeen : Instr.wellFormed (.freeing 17) = false := by decide
theorem test_wellFormed_barReport_six : Instr.wellFormed (.barReport 6 true 1 0) = false := by decide
theorem test_wellFormed_barSilent_six : Instr.wellFormed (.barSilent 6) = false := by decide
theorem test_wellFormed_zoneFrame_four : Instr.wellFormed (.zoneFrame true (List.replicate 4 ⟨true, 0⟩)) = false := by decide
theorem test_wellFormed_tensionFrame_eight : Instr.wellFormed (.tensionFrame true (List.replicate 8 ⟨true, 0⟩)) = false := by decide
theorem test_wellFormed_onTimeEnd_eight : Instr.wellFormed (.heaterOnTimeEnd 8) = false := by decide
theorem test_wellFormed_position_zero : Instr.wellFormed (.positionUpdate 0) = false := by decide
theorem test_wellFormed_backTravel_zero : Instr.wellFormed (.backTravel 0) = false := by decide
theorem test_wellFormed_accepts : Instr.wellFormed (.barReport 5 true 1 0) = true := by decide

/-- The table gives no row bits, so no word spells a command. -/
theorem test_decode_none : decodeTableWord 8 1 = none := by decide

/-! ## Worked figures of the spec -/

/-- Chapter 5, WORKED CASE: ZONE 3 and the quick reference. -/
theorem test_plan_dose : planDose 2000 1400 4000 167 = 143712 ∧ planDose 1400 1400 4000 167 = 0 := by decide
def profile5 : ProfileHeader := ⟨17, 4, 0, 4913, 1400, 140000, 3277, 5325, 8⟩
theorem test_gain : [143712, 95808, 240000, 128000, 0].map (gainOf profile5) = [3990, 5325, 3277, 4480, 5325] := by decide
theorem test_window : (windowLo 167 8, windowHi 167 8 300) = (155, 181) ∧ (windowLo 127 4, windowHi 127 4 400) = (123, 132) := by decide

/-- Chapter 5, ONE SEGMENT THROUGH THE WRAP. -/
theorem test_deviation : (deviation 142800 143712, deviation 144000 143712, deviation 126000 143712, deviation 138000 143712) =
    (-6, 2, -123, -39) := by decide

/-- Chapter 4, QUICK REFERENCE: LENGTH COMPENSATION. -/
theorem test_length : [0, 5000, 20000, 50000].map (fun e => (stepOf e, linesOut 1000 (stepOf e))) =
    [(1048576, 1000), (1043359, 1006), (1028015, 1021), (998643, 1051)] := by decide

/-- Chapter 4, QUICK REFERENCE: GRID POSITIONS. -/
theorem test_grid : (gridPosition 17 128, gridNode 17 128, gridWeight 17 128) = (129, 8, 1) ∧
    (gridPosition 33 255, gridNode 33 255, gridWeight 33 255) = (512, 31, 16) := by decide

/-- Chapter 4, WORKED CASE: ONE PIXEL, ONE CHANNEL. -/
def pixel : Nat → Nat := fun a => if a = 0 then 100 else if a = 1 then 37 else 255
theorem test_corners : [1, 5, 3, 7].map (fun k => (cornerNode 17 k pixel, cornerWeight 17 k pixel)) =
    [(1784, 2112), (2073, 704), (1801, 960), (2090, 320)] := by decide
theorem test_laydown : laydown 499200 3990 = 119 ∧ laydown 520320 3990 = 124 := by decide
theorem test_column_zone : columnZone 1600 8 4096 = 3 := by decide

/-- Chapter 6, QUICK REFERENCE: ZONE DUTY. -/
def heated (t : Int) : Zone := ⟨.inBand, 2000, 30, 40, 2, t, 0, none, 0, 10, 0, 9000, 0, 0, false, false⟩
def dutyOf (stopped : Bool) (t : Int) : Nat × Nat := ((computeDuty stopped 200 (heated t)).duty, (computeDuty stopped 200 (heated t)).integ)
theorem test_duty_running : [1700, 1985, 2050, 2300].map (dutyOf false) = [(1000, 9600), (601, 9030), (431, 8900), (0, 8400)] := by decide
theorem test_duty_stopped : [1985, 2300].map (dutyOf true) = [(200, 9000), (0, 8400)] := by decide

/-- Chapter 6, A ZONE TRIPS AND IS REARMED: a period outside the band, the third, and the trip. -/
def hot (out integ : Nat) : Zone := ⟨.inBand, 2200, 30, 40, 2, 2200, 0, none, 0, 10, out, integ, 562, 562, false, true⟩
theorem test_out_of_band : let z := zonePeriod false 200 2400 (.good 2240) (hot 0 9000)
    (z.state, z.out, z.integ, z.duty) = (.inBand, 1, 8920, 457) := by decide +kernel
theorem test_third_out : let z := zonePeriod false 200 2400 (.good 2310) (hot 2 8770)
    (z.state, z.out, z.integ, z.duty) = (.above, 0, 8550, 259) := by decide +kernel
theorem test_trip : let z := zonePeriod false 200 2400 (.good 2410) (hot 2 8770)
    (z.state, z.latch, z.integ, z.duty, z.heater) = (.tripped, true, 0, 0, false) := by decide +kernel
theorem test_rearm : let z := heatZone 2400 ⟨2200, 30, 40, 2⟩ { hot 0 0 with state := .tripped, latch := true, tMeas := 2260 }
    (z.state, z.latch, z.settle) = (.above, false, 0) := by decide +kernel
theorem test_no_rearm : let z := heatZone 2400 ⟨2200, 30, 40, 2⟩ { hot 0 0 with state := .tripped, latch := true, tMeas := 2320 }
    (z.state, z.latch) = (.tripped, true) := by decide +kernel

/-- Chapter 8, QUICK REFERENCE: TENSION LOOP. -/
def pulled (t : Nat) : AxisRecord := ⟨.active, 500, 24, 3, .setup, t, 0, none, 30000, 0⟩
theorem test_torque : [400, 488, 520, 1800].map (fun t => (computeAxis (.valid t) (pulled t)).torque) = [510, 473, 460, 0] := by decide

/-- Chapter 8, A FABRIC HANDOFF AND A DEVIATION. -/
theorem test_handoff : handoffAxis ⟨40, 300, 600, 15, 24, 3⟩ 2 31 500 ⟨.active, 400, 20, 2, .setup, 400, 0, none, 28000, 437⟩ =
    ⟨.active, 500, 24, 3, .fabric 2 31, 400, 0, none, 28000, 437⟩ := by decide

/-- Chapter 2, FIRST-FIT OVER A SEQUENCE OF LOADS AND DROPS, steps 5, 6, 10, 11 and 12. -/
theorem test_release_alone : release 4913 729 [⟨15468, 17300⟩] = [⟨4913, 729⟩, ⟨15468, 17300⟩] := by decide
theorem test_first_fit_passes : allocate 4913 [⟨4913, 729⟩, ⟨15468, 17300⟩] = some (15468, [⟨4913, 729⟩, ⟨20381, 12387⟩]) := by decide
theorem test_release_joins : release 5642 4913 [⟨4913, 729⟩, ⟨20381, 12387⟩] = [⟨4913, 5642⟩, ⟨20381, 12387⟩] := by decide
theorem test_no_room : allocate 35937 [⟨9826, 729⟩, ⟨20381, 12387⟩] = none := by decide

/-- Chapter 2, RESERVED GRANTS AT A LINE BOUNDARY: the drain, the loader's write, and the fill. -/
def waitingD : Option ShadowRequest := some (.drain 1 10 0)
def waitingW : Option LoadRequest := some ⟨2, 20, 0⟩
def waitingF : Option FillRequest := some ⟨3, 0, 30, 4⟩
theorem test_grant_drain : grant ⟨none, waitingF, waitingD, waitingW, true, true⟩ =
    ⟨some (.shadow (.drain 1 10 0) true), waitingF, none, waitingW, false, true⟩ := by decide
theorem test_grant_loader : grant ⟨none, waitingF, none, waitingW, false, true⟩ =
    ⟨some (.loader ⟨2, 20, 0⟩ true), waitingF, none, none, false, false⟩ := by decide
theorem test_grant_fill : grant ⟨none, waitingF, none, waitingW, false, false⟩ =
    ⟨some (.fill ⟨3, 0, 30, 4⟩ true), none, none, waitingW, false, false⟩ := by decide

/-- Chapter 3, TWO EDITS ACROSS A LINE BOUNDARY: cyan 130 over 120, 64, 30, 10. -/
theorem test_merge_edit : keepChannels (mergeEdit 0x0A1E4078 ⟨1784, 1, 130⟩) 4 = 0x0A1E4082 := by decide
theorem test_cache_line : 12339 % 256 = 51 ∧ 12339 / 256 = 48 := by decide

/-! ## States -/

/-- Settings of chapter 9's worked example, with 4 zones, 4 bars, v_max 400 and a ramp rate of 150 (chapter 7). -/
def g0 : Settings :=
  ⟨8000, 3000, 2000, 6000, 100, 500, 16, 4, 4, 400, 150, 400, 20, 2, 1, 10, 5, 12000, 0, 2400, 200, 0, true, true, true⟩

def axis0 : AxisRecord := ⟨.active, 400, 20, 2, .setup, 400, 0, none, 26400, 412⟩
def zone0 : Zone := ⟨.inBand, 2000, 30, 40, 2, 2000, 0, none, 0, 10, 0, 3000, 187, 187, false, true⟩
def header0 : ProfileHeader := ⟨9, 4, 0, 729, 1400, 140000, 3277, 5325, 6⟩
def ready0 : ProfileRecord := ⟨.ready, some header0, 0, 7, 0, false⟩
def input0 : InputRecord := ⟨true, false, some true, false⟩

/-- A line that has been set up and cleared: IDLE, axes ACTIVE, inputs inactive, zones in band, a READY profile and a line book. -/
def up : State := { State.reset with
  setup := some g0
  regs := ⟨true, 10, 0x100000, 1⟩
  wd := ⟨.idle, 0, 0, 0, 0, false⟩
  tc := ⟨List.replicate 4 axis0, List.replicate 8 ⟨none, 0⟩, none⟩
  hc := ⟨List.replicate 4 zone0 ++ List.replicate 4 resetZone, none, 0⟩
  ps := { State.reset.ps with records := ready0 :: List.replicate 15 emptyRecord, free := [⟨729, 32039⟩] }
  pe := { State.reset.pe with bars := List.replicate 6 ⟨true, 8, false⟩ }
  ka := ⟨⟨11999, 0⟩, true, ⟨5, 0⟩, true, ⟨9, 0⟩, false, false⟩
  su := { State.reset.su with events := 0, haltCause := none, inputs := List.replicate 8 input0 } }

/-- An entry printed or printing at 120 mm/s with tolerance 6. -/
def strip (start : Nat) (endAt : Option Nat) : Segment :=
  ⟨some ⟨9, 0x9000, 11, 8⟩, 11, start, endAt, 300, 1, none, 120, 114, 127, 1400, 6, none, 0, [3277, 3277, 3277, 3277],
    [160000, 160000, 160000, 160000], [false, false, false, false], [0, 0, 0, 0], [0, 0, 0, 0], 0, 0, none, none, 0, 0,
    ⟨false, false, false, false, false, false, false⟩, none, false, false, false⟩

/-- The line RUNNING at 120 mm/s with one strip printed behind the station. -/
def going : State := { up with
  wd := ⟨.running, 120, 120, 120, 118, false⟩
  web := ⟨10000300, 0⟩
  tmap := ⟨[strip 10000000 (some 10000300)], []⟩ }

def q0 : QueuedPrint := ⟨⟨5, 0x5000, 12, 8⟩, false, 0x400000, 64, 2, 3, 1, 0, 0⟩
def job0 : PrintJob := ⟨q0, 10000000, 1048576, 3, 0, 0, [], [], none, 0, 0⟩

/-- The line RUNNING with a job printing its three lines. -/
def printing : State := { up with
  wd := ⟨.running, 120, 120, 120, 118, false⟩
  web := ⟨10000000, 0⟩
  tmap := ⟨[strip 10000000 none], []⟩
  ps := { up.ps with records := { ready0 with refs := 1 } :: List.replicate 15 emptyRecord }
  pe := { up.pe with state := .printing, job := some job0, read := some ⟨0, true⟩ } }

/-- The printing line with its job changed. -/
def withJob (f : PrintJob → PrintJob) : State := setJob f printing

/-- A HALTED line with the cause ESTOP. -/
def halted : State := { up with
  wd := ⟨.halted, 0, 0, 0, 0, false⟩
  tc := { up.tc with axes := up.tc.axes.map axisOff }
  su := { up.su with haltCause := some .estop } }

/-- A card of a kind with body fields. -/
def card (kind : Byte) (noWait : Bool) (fields : List (Nat × List Byte)) : CurrentCard := ⟨⟨1, 0x2000, 7, kind⟩, noWait, area 128 fields⟩

/-- A line with a card in dispatch, the only outstanding one. -/
def holding (c : CurrentCard) (s : State) : State :=
  { s with ce := { s.ce with state := .dispatching, current := some c, outstanding := [c.ref] } }

/-- The state after a command. -/
def next (i : Instr) (s : State) : State :=
  match exec i s with
  | .next t => t
  | _ => s

/-! ## Results of single commands -/

/-- R1's example: 300 µm of back-travel and an increment of 1000 µm. -/
theorem test_back_travel_first : (next (.positionUpdate 1000) { up with web := ⟨5000, 300⟩ }).web = ⟨5700, 0⟩ := by decide +kernel
theorem test_pos_stops : (next (.positionUpdate 9) { up with web := ⟨2 ^ 48 - 3, 0⟩ }).web = ⟨2 ^ 48 - 1, 0⟩ := by decide +kernel

/-- Chapter 7's drain: SPEED 100 at 146 mm/s in a window from 120. -/
def draining (v : Nat) : State := { going with
  wd := ⟨.draining, 100, 146, v, 0, true⟩, tmap := ⟨[{ strip 0 none with lo := 120, hi := 146 }], []⟩ }
theorem test_ramp_steps : (next .rampPeriod (draining 146)).wd.running = 131 ∧ (next .rampPeriod (draining 131)).wd.running = 120 := by
  decide +kernel
theorem test_ramp_down : (next .rampPeriod { draining 120 with tmap := ⟨[], []⟩ }).wd = ⟨.rampdown, 0, 0, 105, 0, false⟩ := by
  decide +kernel

/-- Chapter 9: the paper joint at 38,840,000 of a splice that completes at 30,840,000. -/
def handed : State := { up with
  web := ⟨30840000, 0⟩
  rc := { up.rc with pu := ⟨.handedOver, some .count, none, none, true, false, false, 0, 5000, 1800, 5000⟩ }
  su := { up.su with inputs := modifyNth up.su.inputs 6 fun _ => ⟨true, true, some false, false⟩ } }
theorem test_splice_joint : (next (.inputFilterExpiry .paperSpliceAck) handed).tmap.joints = [⟨38840000, false⟩] := by decide +kernel
theorem test_splice_counter : (next (.inputFilterExpiry .paperSpliceAck) handed).ka.pu = ⟨0, 0⟩ := by decide +kernel

/-- Chapter 1: C asks behind B's end with J at 20,400,000, and again once J lies below the start. -/
theorem test_clearance : clearanceBlocked { up with tmap := ⟨[], [⟨20400000, false⟩]⟩ } g0 15600000 4800000 = true ∧
    clearanceBlocked { up with tmap := ⟨[], [⟨20400000, false⟩]⟩ } g0 20400100 4800000 = false := by decide +kernel

/-- Chapter 4, LATE LINES: the second late line passes a limit of 1. -/
theorem test_late : ((lateSeg 1 (strip 0 none)).spoil, (lateSeg 1 (lateSeg 1 (strip 0 none))).spoil) = (none, some .late) := by decide

/-- R174: a fault at a full queue makes the last entry OVERFLOW with 2 lost. -/
theorem test_overflow : ((queueAfter (List.replicate 32 ⟨.linkReset, 0, 0⟩) ⟨.barSilent 1, 5, 9⟩).getLast?.map (·.info)) =
    some (.overflow 2) := by decide +kernel

/-- Chapter 7, HALT, A LATER CAUSE: a halt keeps its first cause. -/
theorem test_later_halt : (next (.inputFilterExpiry .fabricBreak) { halted with su := { halted.su with
    inputs := modifyNth halted.su.inputs 1 fun _ => ⟨false, true, some true, false⟩ } }).su.faults.map (·.info) =
    [.laterHalt .fabricBreak] := by decide +kernel

/-- R105: a window start takes the duty as the on-time. -/
theorem test_window_start : ((next .heaterWindow { up with clock := 1000 }).hc.windowStart,
    (next .heaterWindow { up with clock := 1000 }).hc.zones.head?.map (·.onTime)) = (1000, some 187) := by decide +kernel

/-- The machine runs from reset: a step on the empty queue idles, and on a command runs it. -/
theorem test_idle_step : step State.reset = .next { State.reset with clock := 1 } := rfl

/-! ## Witnesses: a state and operands that meet the hypotheses of each statement, clause by clause -/

/-- The engine DISPATCHING a card of its kind. -/
theorem dispatching_holding {k : CardKind} {c : CurrentCard} {s : State} (h : s.power.mainOn = true)
    (hk : CardKind.ofByte c.ref.kind = some k) : Dispatching k c (holding c s) := ⟨h, rfl, rfl, hk⟩

/-- The engine and a card that is no PATCH card in hand agree. -/
theorem engineLaw_holding (c : CurrentCard) {s : State} (h : s.spb.patch = none) : EngineLaw (holding c s) :=
  ⟨by simp [holding], fun p hp => by rw [show (holding c s).spb.patch = none from h] at hp; cases hp⟩

/-- No load of a profile is in hand where the loader is IDLE. -/
theorem noLoad_of {id : Nat} {s : State} (h : s.ps.arb.loaderReq = none) (k : s.ps.loader = none) : NoLoadFor id s :=
  ⟨by simp [h], by simp [k]⟩

/-- The engine in a state, with the recheck mark and the current card as given. -/
def engine (st : EngineState) (recheck : Bool) (s : State) : State := { s with ce := { s.ce with state := st, recheck := recheck } }

theorem witness_WhatLeavesTheStateAlone : up.pending = [] ∧ up.ce.state ≠ .dispatching ∧
    { up with power := ⟨false, false, false⟩ }.power.mainOn = false ∧ Instr.softReset ≠ .keepAlivePowerOnReset := by decide +kernel

theorem witness_SoftwareResetValues : up.power.mainOn = true ∧ up.wd.state ≠ .halted ∧ State.reset.wd.state = .halted ∧
    State.reset.power.mainOn = true := by decide +kernel
/-- R122, R123: a software reset of a running line halts it, with a frame of reference 0 at once. -/
theorem test_reset_halts : (next .softReset printing).ports.head? = some (.driveFrame 0 [0, 0, 0, 0]) := by decide +kernel

theorem witness_LinkResetValues : printing.power.mainOn = true ∧ printing.pe.job = some job0 ∧
    (strip 10000000 none).start = job0.start := by decide +kernel

/-- Line 0 computing at the printing line through a profile in a state, with a PENDING entry of that profile. -/
def pendingAt (st : ProfileState) : State := { printing with
  ps := { printing.ps with records := { ready0 with state := st, refs := 1 } :: List.replicate 15 emptyRecord }
  pe := { printing.pe with job := some { job0 with comp := some ⟨0, 7, [], 0, 0, false, [], []⟩ } }
  spb := ⟨[⟨1, 5, 5, 7, false⟩], none, 0⟩ }
/-- The records and free extents of a line with one READY profile of 729 cells cover the store exactly once. -/
theorem covers_up {s : State} (hf : s.ps.free = [⟨729, 32039⟩]) (hp : s.power = up.power) (r : ProfileRecord) (hh : r.header = some header0)
    (hr : s.ps.records = r :: List.replicate 15 emptyRecord) (a : Nat) :
    covers s a = if a < storeCells s.power.store64k then 1 else 0 := by
  have hc : storeCells s.power.store64k = 32768 := by rw [hp]; rfl
  rw [hc]
  simp only [covers, hf, hr, List.filter_cons, List.filter_nil, List.replicate, hh, emptyRecord, Option.any_some, Option.any_none,
    header0]
  by_cases h1 : a < 729 <;> by_cases h2 : a < 32768 <;> simp [h1, h2]
  · omega
  · rw [if_pos (by omega)]; rfl
theorem storeLaws_pendingAt {st : ProfileState} (hst : st = .ready ∨ st = .retiring) : StoreLaws (pendingAt st) := by
  obtain rfl | rfl := hst
  all_goals
    refine ⟨⟨by decide, by decide, ?_, ?_, by decide +kernel⟩, ⟨by decide, by decide, ?_, by decide, ?_, ?_, by decide, by decide, ?_⟩,
      ⟨by decide, by decide, by decide, ⟨[], _, rfl, by decide, by decide⟩, by decide⟩, ⟨?_, ?_, ?_⟩,
      ⟨by simp [pendingAt, printing, up, FreeList, extentsFrom], covers_up rfl rfl _ rfl rfl, by decide +kernel, ?_⟩⟩
    · intro id h1 h2; interval_cases id <;> decide +kernel
    · intro id h1 h2; interval_cases id <;> decide +kernel
    · intro c h; cases h
    · intro j h; cases h; decide +kernel
    · intro j h; cases h
    · intro c h; cases h; decide
    · intro p h; cases h
    · rintro id cell ⟨node, k, h | h⟩ <;> cases h
    · intro id node cell k h; cases h
    · simp only [pendingAt]; simp [ready0, header0, emptyRecord]
theorem witness_LinkResetValues_store : StoreLaws (pendingAt .ready) ∧ StoreLaws (pendingAt .retiring) ∧
    (pendingAt .retiring).ps.records[0]? = some { ready0 with state := .retiring, refs := 1 } ∧ ready0.header ≠ none ∧
    (pendingAt .ready).spb.entries.any (fun e => e.id == 0 + 1 && !e.visible) = true ∧
    drainGranted (next .linkReset (pendingAt .retiring)) (0 + 1) = true ∧
    drainGranted (next .linkReset { pendingAt .retiring with spb := ⟨[], none, 0⟩ }) (0 + 1) = false :=
  ⟨storeLaws_pendingAt (.inl rfl), storeLaws_pendingAt (.inr rfl), rfl, by decide, by decide +kernel, by decide +kernel,
    by decide +kernel⟩

/-- A keep-alive domain that has just been reset. -/
def lostKa : State := { up with ka := ⟨⟨0, 0⟩, false, ⟨0, 0⟩, false, ⟨0, 0⟩, true, true⟩ }
theorem witness_KeepAliveLossRule : lostKa.power.mainOn = true ∧ lostKa.ka.fuValid = false ∧ lostKa.ka.puValid = false ∧
    lostKa.web.pos < (next (.positionUpdate 1) lostKa).web.pos ∧ rollValid lostKa .fu = false ∧ lostKa.ka.restarted = true := by
  decide +kernel
theorem witness_KeepAliveLossRule_runs : exec (.drumTravelIncrement 1) lostKa = .next (next (.drumTravelIncrement 1) lostKa) ∧
    exec (.positionUpdate 1) lostKa = .next (next (.positionUpdate 1) lostKa) := ⟨rfl, rfl⟩

theorem witness_RegisterWrites_stopped : up.power.mainOn = true ∧ up.ce.state = .stopped ∧ up.regs.bookBase ≠ 0 ∧
    up.regs.run = true ∧ (0x1000#64 >>> 12) <<< 12 ≠ 0 ∧ (0xFFF#64 >>> 12) <<< 12 = 0 ∧
    { up with regs := ⟨false, 0, 0, 0⟩ }.regs.bookBase = 0 := by decide +kernel
def watching : State := { up with ce := { up.ce with state := .watching, watchOn := true } }
theorem witness_RegisterWrites_others : watching.ce.state = .watching ∧ watching.ce.watchOn = true ∧
    (engine .reading false up).ce.state = .reading ∧ (engine .stalled false up).ce.state = .stalled := by decide +kernel

def faulty (n : Nat) : State := { up with su := { up.su with faults := List.replicate n ⟨.linkReset, 3, 4⟩, events := 4 } }
theorem witness_EventsAndTheInterrupt : (faulty 2).power.mainOn = true ∧ (4#32).getLsbD 2 = true ∧
    2 ≤ (faulty 2).su.faults.length := by decide +kernel
theorem witness_FaultQueueRule_short : up.su.faults = [] ∧ 1 ≤ (faulty 1).su.faults.length ∧ (faulty 31).su.faults.length ≤ 31 ∧
    (4#32).getLsbD 2 = true ∧ (3#32).getLsbD 2 = false := by decide +kernel
theorem witness_FaultQueueRule_full : (faulty 32).su.faults = List.replicate 31 ⟨.linkReset, 3, 4⟩ ++ [⟨.linkReset, 3, 4⟩] ∧
    (List.replicate 31 (⟨.linkReset, 3, 4⟩ : FaultEntry)).length = 31 := by decide +kernel
theorem witness_FaultQueueRule_overflow : ({ up with su := { up.su with faults := List.replicate 31 ⟨.linkReset, 3, 4⟩ ++
    [⟨.overflow 65535, 3, 4⟩] } } : State).su.faults = List.replicate 31 ⟨.linkReset, 3, 4⟩ ++ [⟨.overflow 65535, 3, 4⟩] := rfl

theorem witness_ChainReadTakesAPostedCard : (engine .reading false up).power.mainOn = true ∧ up.ce.stale = 0 ∧ up.regs.run = true ∧
    (0x100#64) ≠ 0 ∧ (0x100#64).toNat % 256 = 0 ∧ byteAt (area 128 [(8, [1])]) 8 = 1 ∧
    CardKind.ofByte (byteAt (area 128 [(9, [10])]) 9) = some .fence ∧ CardKind.ofByte (byteAt (area 128 [(9, [11])]) 9) = none := by
  decide +kernel
theorem witness_ChainReadsWithoutACard : (engine .reading true up).ce.state = .reading ∧ (engine .reading true up).ce.recheck = true ∧
    (engine .reading false up).ce.recheck = false ∧ (0x1FF#64).toNat % 256 ≠ 0 ∧ byteAt [] 8 ≠ 1 ∧ (0x100#64).toNat % 256 = 0 ∧
    { up with ce := { up.ce with stale := 1 } }.ce.stale = 0 + 1 ∧ { up with regs := ⟨false, 0, 0, 0⟩ }.regs.run = false ∧
    (0x100#64) ≠ 0 ∧ up.ce.state ≠ .reading := by decide +kernel
/-- R159: a read that ends after RUN was cleared has run to its completion. -/
theorem test_read_runs_on : (next (.chainReadComplete 0x100 []) { engine .reading false up with regs := ⟨false, 0, 0, 0⟩ }).ports =
    [.hostRead 0x100 128] := by decide +kernel

/-- A FENCE card with another card outstanding before it. -/
def fence (noWait : Bool) : CurrentCard := card 10 noWait []
def fenced (noWait : Bool) : State :=
  { holding (fence noWait) up with ce := { (holding (fence noWait) up).ce with outstanding := [⟨0, 0x900, 3, 9⟩, (fence noWait).ref] } }
theorem witness_FenceWaitsForOlderCards : Dispatching .fence (fence false) (holding (fence false) up) ∧
    (holding (fence false) up).ce.outstanding.head?.map (·.take) = some (fence false).ref.take ∧
    (fenced true).ce.outstanding = [⟨0, 0x900, 3, 9⟩] ++ (fence true).ref :: [] ∧
    (∀ r ∈ [(⟨0, 0x900, 3, 9⟩ : CardRef)], r.take ≠ (fence true).ref.take) :=
  ⟨dispatching_holding rfl rfl, by decide +kernel⟩
theorem witness_FenceWaitsForOlderCards_waits : Dispatching .fence (fence false) (fenced false) ∧
    Dispatching .fence (fence true) (fenced true) := ⟨⟨rfl, rfl, rfl, rfl⟩, ⟨rfl, rfl, rfl, rfl⟩⟩

/-- A line stalled on a card that is to be offered again. -/
def stalled (c : CurrentCard) (s : State) : State :=
  { holding c s with ce := { (holding c s).ce with state := .stalled, offerDue := true } }
def patchJob (ph : PatchPhase) (node : Nat) (noWait : Bool) : PatchJob :=
  ⟨⟨1, 0x2000, 7, 6⟩, noWait, 1, 1, 0x3000, ph, [⟨node, 1, 130⟩], 0, false⟩
def shadowed (visible : Bool) (p : Option PatchJob) (s : State) : State :=
  { s with spb := ⟨[⟨1, 5, 5, 7, visible⟩], p, 0⟩ }
theorem witness_StalledCardIsOfferedAgain : (stalled (fence false) up).ce.state = .stalled ∧
    (stalled (fence false) up).ce.offerDue = true ∧ (stalled (fence false) up).ce.current = some (fence false) ∧
    up.ce.current = none ∧ (stalled (card 8 false []) up).pe.queue.length < 4 ∧ (stalled (card 5 false []) up).ps.loader = none ∧
    (card 5 false []).noWait = false ∧ CardKind.ofByte (card 5 false []).ref.kind = some .load := by decide +kernel
theorem witness_StalledCardIsOfferedAgain_patch :
    (patchJob .waiting 5 false).edits[(patchJob .waiting 5 false).cursor]? = some ⟨5, 1, 130⟩ ∧
    (profileOf up 1).header = some header0 ∧ editRoute (shadowed true none up).spb.entries 5 = .wait ∧
    editRoute (shadowed true none up).spb.entries 6 ≠ .wait ∧ editRoute (shadowed false none up).spb.entries 5 = .merge := by
  decide +kernel

def setupBody (lUp : Nat) : List (Nat × List Byte) :=
  [(16, le 2 lUp), (18, le 2 3000), (20, le 2 2000), (22, le 2 6000), (24, le 2 100), (26, le 2 500), (28, le 2 16), (30, [4]), (31, [4]),
    (32, le 2 400), (34, le 2 150), (36, le 2 400), (38, [20]), (39, [2]), (40, [1]), (41, [10]), (42, [5]), (44, le 4 12000),
    (52, le 2 2400), (54, le 2 200), (57, [7])]
theorem test_parse_setup : parseSettings (area 128 (setupBody 8000)) = g0 := by decide +kernel
theorem witness_SetupTakesEffectAtOnce : Dispatching .setup (card 1 false (setupBody 500)) (holding (card 1 false (setupBody 500)) up) ∧
    EngineLaw (holding (card 1 false (setupBody 500)) up) ∧ up.wd.state = .idle ∧ up.pe.queue = [] ∧ up.tmap.segs = [] ∧
    setupError up.power up.hc.zones (parseSettings (card 1 false (setupBody 500)).image) = none ∧
    (∀ i ∈ allInputs, (inputOf up i).active = ((inputOf up i).level ==
      some ((parseSettings (card 1 false (setupBody 500)).image).polarities.getLsbD (inputIndex i)))) :=
  ⟨dispatching_holding rfl rfl, engineLaw_holding _ rfl, by decide +kernel⟩
theorem witness_SettingsRefusals : Dispatching .setup (card 1 false (setupBody 499)) (holding (card 1 false (setupBody 499)) up) ∧
    setupError up.power up.hc.zones (parseSettings (card 1 false (setupBody 499)).image) = some 16 ∧ going.wd.state ≠ .idle ∧
    State.reset.setup = none ∧ heatError 4 2400 (area 128 [(16, le 2 2301)]) = some 16 :=
  ⟨dispatching_holding rfl rfl, by decide +kernel⟩

/-- R165: of two fields out of range the one of the lower offset is named; R108: a zone's band stands before the next zone's setpoint. -/
theorem test_first_offset : setupError up.power up.hc.zones { g0 with lUp := 499, pitch := 19 } = some 16 ∧
    setupError up.power up.hc.zones { g0 with pitch := 19, tTrip := 2451 } = some 24 ∧
    heatError 4 2400 (area 128 [(16, le 2 1000), (18, le 2 9), (22, le 2 999)]) = some 18 := by decide +kernel

def heatBody (sp : Nat) : List (Nat × List Byte) :=
  (List.range 4).flatMap fun z => [(16 + 6 * z, le 2 sp), (18 + 6 * z, le 2 10), (20 + 6 * z, [40]), (21 + 6 * z, [2])]
theorem witness_HeatCardSetsTheZones : Dispatching .heat (card 2 false (heatBody 1000)) (holding (card 2 false (heatBody 1000)) up) ∧
    up.setup = some g0 ∧ heatError g0.zones g0.tTrip (card 2 false (heatBody 1000)).image = none ∧
    heatError g0.zones g0.tTrip (card 2 false (heatBody 2300)).image = none ∧
    heatError g0.zones g0.tTrip (card 2 false (heatBody 0)).image = none ∧ up.hc.zones[0]? = some zone0 ∧ zone0.latch = false ∧
    zone0.state.isBand = true := ⟨dispatching_holding rfl rfl, by decide +kernel⟩
theorem witness_HeatCardSetsTheZones_latched : ({ hot 0 0 with state := .tripped, latch := true, tMeas := 2299 } : Zone).latch = true ∧
    (2299 : Int) < (g0.tTrip : Int) - 100 ∧ (g0.tTrip : Int) - 100 ≤ 2300 := by decide

theorem witness_LoopsOfOnePeriod : (pulled 488).state = .active ∧ (pulled 488).tMeas = 488 ∧ axisOff (pulled 488) ≠ pulled 488 ∧
    (axisOff (pulled 488)).state ≠ .active ∧ (200 : Int) < 601 := by decide
theorem witness_ZoneThroughAHeatPeriod : (hot 2 0).state = .inBand ∧ (hot 2 0).latch = false ∧ (2200 : Int) < 2400 ∧
    ({ hot 0 0 with state := .fault, good := 9 } : Zone).good + 1 = 10 ∧ 2 ≤ ({ hot 0 0 with bad := 2 } : Zone).bad ∧
    ({ hot 0 0 with state := .settling, settle := 9 } : Zone).settle + 1 = 10 ∧ (2200 : Int) - 30 ≤ 2170 ∧
    (2230 : Int) ≤ 2200 + 30 ∧ (2200 : Int) + 30 < 2231 := by decide
/-- A zone in FAULT after 9 good readings, which the next one may recover. -/
def recovering : Zone := { hot 0 0 with state := .fault, good := 9 }
theorem witness_ZoneThroughAHeatPeriod_recovers : recovering.state = .fault ∧ recovering.good + 1 = 10 ∧ recovering.latch = false ∧
    recovering.sp ≠ 0 ∧ (2200 : Int) < 2400 ∧ (2400 : Int) ≤ 2400 := by decide
theorem test_recovery : [2169, 2170, 2231].map (fun t => (judgeBand (goodReading t recovering) t).state) = [.below, .settling, .above] ∧
    (judgeBand (goodReading 2200 recovering) 2200).settle = 1 ∧
    (zonePeriod false 200 2400 (.good 2400) recovering).state = .tripped := by decide +kernel
def overheated : State := { going with
  hc := ⟨{ zone0 with sp := 2200 } :: going.hc.zones.drop 1, some (⟨true, 2400⟩ :: List.replicate 7 ⟨true, 2000⟩), 0⟩ }
theorem witness_HeatPeriodAtThePart : going.power.mainOn = true ∧ State.reset.setup = none ∧ going.setup = some g0 ∧
    trippedZones going.hc.zones (zonesPeriod going g0) = 0 ∧ g0.haltOnTrip = true ∧
    0 < trippedZones overheated.hc.zones (zonesPeriod overheated g0) ∧
    periodAlarm overheated g0 (zonesPeriod overheated g0) = true ∧ overheated.wd.state ≠ .halted := by decide +kernel
/-- A zone one good reading short of IN_BAND, and a trip that comes in HALTED. -/
def nearlyInBand : State := { going with
  hc := ⟨{ zone0 with state := .settling, settle := 9 } :: going.hc.zones.drop 1, some (List.replicate 8 ⟨true, 2000⟩), 0⟩ }
def overheatedHalted : State := { halted with hc := overheated.hc }
theorem witness_HeatPeriodAtThePart_inBand : nearlyInBand.power.mainOn = true ∧ nearlyInBand.setup = some g0 ∧
    exec .heatPeriod nearlyInBand = .next (next .heatPeriod nearlyInBand) ∧ zonesCondition nearlyInBand = false ∧
    zonesCondition (next .heatPeriod nearlyInBand) = true ∧ zonesCondition going = true := ⟨rfl, rfl, rfl, by decide +kernel⟩
theorem witness_HeatPeriodAtThePart_halted : overheatedHalted.power.mainOn = true ∧ overheatedHalted.setup = some g0 ∧
    overheatedHalted.wd.state = .halted ∧ 0 < trippedZones overheatedHalted.hc.zones (zonesPeriod overheatedHalted g0) := by
  decide +kernel
theorem test_zones_in_band : hasEvent (next .heatPeriod nearlyInBand) .zonesInBand = true ∧
    (next .heatPeriod overheatedHalted).su.faults.map (·.info) = [.zoneTrip 0 2400 2400, .laterHalt .trip] := by decide +kernel
theorem witness_DeliveredDoseOfAStrip : let g : Segment := { strip 0 (some 9) with leadNip := true, trailNip := true }
    g.leadNip = true ∧ g.leadExit = false ∧ g.trailNip = true ∧ g.dLead[0]? = some 0 ∧ g.dTrail[3]? = some 0 ∧
    [zone0][0]? = some zone0 ∧ (strip 0 none).leadNip = false ∧ (strip 0 none).trailNip = false := by decide +kernel
theorem witness_SensorAndBarReports : up.power.mainOn = true ∧ up.pe.bars[3]? = some ⟨true, 8, false⟩ ∧ up.setup = some g0 ∧ 3 < g0.bars ∧
    g0.bars ≤ 4 ∧ up.pe.bars[4]? = some ⟨true, 8, false⟩ := by decide +kernel
/-- R75: before any line is sent a report of any sequence number gives the room it names, and then less the lines after it. -/
theorem test_bar_room : ((next (.barReport 0 true 8 3) up).pe.bars[0]?).map (·.room) = some 8 ∧
    ((next (.barReport 0 true 8 3) { up with pe := { up.pe with seq := 6, sent := 6 } }).pe.bars[0]?).map (·.room) = some 6 := by
  decide +kernel
theorem witness_HeaterWindows : up.power.mainOn = true ∧ up.hc.zones[3]? = some zone0 ∧ 3 < zonesInUse up ∧ zonesInUse up ≤ 4 ∧
    zone0.onTime < 1000 ∧ up.hc.zones[4]? = some resetZone := by decide +kernel

def driveCard (action flush speed : Nat) : CurrentCard := card 3 false [(16, le 1 action), (17, le 1 flush), (18, le 2 speed)]
theorem witness_StartSpeedAndStop_start : Dispatching .drive (driveCard 1 0 10) (holding (driveCard 1 0 10) up) ∧
    leRead (driveCard 1 0 10).image 16 1 = 1 ∧ up.wd.state = .idle ∧ up.setup = some g0 ∧ (inputOf up .guard).countsActive = false ∧
    10 ≤ leRead (driveCard 1 0 10).image 18 2 ∧ leRead (driveCard 1 0 401).image 18 2 = g0.vMax + 1 ∧
    leRead (driveCard 0 0 0).image 16 1 = 0 ∧ 5 < leRead (driveCard 6 0 0).image 16 1 :=
  ⟨dispatching_holding rfl rfl, by decide +kernel⟩
theorem witness_StartSpeedAndStop_going : Dispatching .drive (driveCard 2 0 400) (holding (driveCard 2 0 400) going) ∧
    Dispatching .drive (driveCard 3 0 0) (holding (driveCard 3 0 0) halted) ∧ going.wd.state = .running ∧
    leRead (driveCard 2 0 400).image 16 1 = 2 ∧ leRead (driveCard 2 0 400).image 18 2 = g0.vMax ∧
    leRead (driveCard 3 0 0).image 16 1 = 3 ∧ halted.wd.state = .halted ∧ up.wd.state = .idle :=
  ⟨dispatching_holding rfl rfl, dispatching_holding rfl rfl, by decide +kernel⟩
theorem witness_HaltCard : Dispatching .drive (driveCard 4 0 0) (holding (driveCard 4 0 0) going) ∧
    EngineLaw (holding (driveCard 4 0 0) going) ∧ Dispatching .drive (driveCard 4 0 0) (holding (driveCard 4 0 0) halted) ∧
    EngineLaw (holding (driveCard 4 0 0) halted) ∧ leRead (driveCard 4 0 0).image 16 1 = 4 ∧
    (holding (driveCard 4 0 0) going).wd.state ≠ .halted ∧ (holding (driveCard 4 0 0) halted).wd.state = .halted :=
  ⟨dispatching_holding rfl rfl, engineLaw_holding _ rfl, dispatching_holding rfl rfl, engineLaw_holding _ rfl, by decide +kernel⟩
theorem witness_HaltReportsTheStrip : going.tmap.segs = [strip 10000000 (some 10000300)] ∧
    (strip 10000000 (some 10000300)).card = some ⟨9, 0x9000, 11, 8⟩ ∧ (strip 10000000 none).endAt = none ∧
    { strip 0 none with card := none, fabricId := some 8 }.fabricId = some 8 ∧ going.tc.fabrics[8 - 1]? = some ⟨none, 0⟩ := by
  decide +kernel
/-- Two strips in the map, each with a card of its own. -/
def twoStrips : State := { going with
  tmap := ⟨[strip 10000000 (some 10000300), { strip 10000300 none with card := some ⟨10, 0x9100, 12, 8⟩ }], []⟩ }
theorem witness_HaltReportsTheStrip_two : twoStrips.tmap.segs = [] ++ strip 10000000 (some 10000300) ::
      [{ strip 10000300 none with card := some ⟨10, 0x9100, 12, 8⟩ }] ∧ (strip 10000000 (some 10000300)).flags.orphan = false ∧
    (∀ h ∈ [{ strip 10000300 none with card := some ⟨10, 0x9100, 12, 8⟩ }], ∀ k, h.card = some k →
      k.addr + 256 ≤ 0x9000 ∨ 0x9000 + 256 ≤ k.addr) := by
  refine ⟨rfl, rfl, ?_⟩
  intro h hm k hk; simp only [List.mem_singleton] at hm; subst hm; cases hk; decide
theorem test_halt_two : [0x9008, 0x90C7, 0x9108, 0x91C7].map (hostByte (haltMap twoStrips)) = [some 7, some 1, some 7, some 1] := by
  decide +kernel
theorem witness_ClearEndsAHalt : Dispatching .drive (driveCard 5 1 0) (holding (driveCard 5 1 0) halted) ∧
    EngineLaw (holding (driveCard 5 1 0) halted) ∧ leRead (driveCard 5 1 0).image 16 1 = 5 ∧ halted.wd.state = .halted ∧
    halted.setup ≠ none ∧ (inputOf halted .paperBreak).countsActive = false ∧ (inputOf halted .fabricBreak).countsActive = false ∧
    (inputOf halted .estop).countsActive = false ∧ leRead (driveCard 5 1 0).image 17 1 = 1 ∧
    leRead (driveCard 5 2 0).image 17 1 = 2 ∧ leRead (driveCard 5 0 0).image 17 1 = 0 ∧ halted.rc.pu.pending = none ∧
    halted.rc.fu.pending = none ∧ State.reset.setup = none ∧ (inputOf State.reset .estop).countsActive = true :=
  ⟨dispatching_holding rfl rfl, engineLaw_holding _ rfl, by decide +kernel⟩
theorem witness_RampPeriodMovesTheSpeed : going.power.mainOn = true ∧ going.wd.state = .running ∧ up.wd.state = .idle ∧
    halted.wd.state = .halted ∧ (draining 146).wd.state = .draining ∧ (draining 146).tmap.segs ≠ [] ∧
    { going with wd := ⟨.rampdown, 0, 0, 15, 0, false⟩ }.wd.running ≠ 0 ∧
    (next .rampPeriod { going with wd := ⟨.rampdown, 0, 0, 15, 0, false⟩ }).wd.running = 0 := by decide +kernel
theorem witness_FiguresOfThePlan : going.setup = some g0 ∧ (lineWindow going).1 ≤ 120 ∧ 120 ≤ (lineWindow going).2 ∧
    (500 ≤ 500 ∧ 10 ≤ 10 ∧ 500 ≤ 500) ∧ header0.gMin ≤ header0.gMax ∧ header0.gMin < gainOf header0 150000 ∧
    gainOf header0 150000 < header0.gMax ∧ (∀ a, pixel a ≤ 255) ∧ 255 * 4096 ≤ 255 * 4096 ∧ 0 < stepOf 50000 ∧
    [106900, 150000, 200000].map (fun d => (header0.dRef * 4096 + d / 2) / d) = [5364, 3823, 2867] ∧
    (vMin ≤ 400 ∧ 400 ≤ g0.vMax ∧ header0.tol < 100) :=
  ⟨by decide +kernel, by decide +kernel, by decide +kernel, by decide, by decide, by decide, by decide,
    fun a => by unfold pixel; split <;> (try split) <;> decide, by decide, by decide, by decide, by decide⟩
theorem witness_FiguresOfThePlan_columns : 0 < g0.width ∧ 15 < g0.width ∧ 0 < g0.zones := by decide
theorem witness_TravelReports : up.power.mainOn = true ∧ up.setup = some g0 ∧ State.reset.setup = none := by decide +kernel

/-- Tension frames in the order PU, FU, PR, FR. -/
def frameOf (l : List TensionReading) (s : State) : State := { s with tc := { s.tc with frame := some l } }
def goodFrame : List TensionReading := List.replicate 4 ⟨true, 400⟩
theorem witness_TensionPeriodRuns : going.power.mainOn = true ∧ (frameOf goodFrame going).tc.axes.length = 4 ∧
    (∀ a ∈ [Axis.pu, .fu, .pr, .fr], classifyAxis (frameOf goodFrame going).tc.frame a = .valid 400) ∧
    (∀ a ∈ [Axis.pu, .fu, .pr, .fr], classifyAxis going.tc.frame a = .invalid .missing ∧ (axisOf going a).invalid ≠ 1) := by
  decide +kernel
/-- A strip at the nip whose fabric 1 has figures and whose card has a T_plan. -/
def fabricFigs : FabricFigures := ⟨10, 100, 600, 15, 24, 3⟩
/-- A HALTED line with a PU splice pending and two queued cards, the last references of a RETIRING profile, of which the first has
fabric 1. -/
def flushing : State := { halted with
  pe := { halted.pe with queue := [{ q0 with fabricId := 1, tPlan := 415 }, { q0 with card := ⟨6, 0x6000, 13, 8⟩ }] }
  ps := { halted.ps with records := { ready0 with state := .retiring, refs := 2 } :: List.replicate 15 emptyRecord }
  tc := { halted.tc with fabrics := ⟨some fabricFigs, 1⟩ :: List.replicate 7 ⟨none, 0⟩ }
  rc := { halted.rc with pu := { resetSplice with pending := some .count } } }
theorem witness_ClearEndsAHalt_flush : Dispatching .drive (driveCard 5 1 0) (holding (driveCard 5 1 0) flushing) ∧
    EngineLaw (holding (driveCard 5 1 0) flushing) ∧ leRead (driveCard 5 1 0).image 17 1 = 1 ∧ flushing.wd.state = .halted ∧
    Apart ((driveCard 5 1 0).ref :: flushing.pe.queue.map (·.card)) ∧ flushing.tc.fabrics[0]? = some ⟨some fabricFigs, 1⟩ ∧
    (∀ q ∈ flushing.pe.queue, 1 ≤ q.profileId) ∧
    flushing.ps.records[0]? = some { ready0 with state := .retiring, refs := 2 } ∧
    2 = (flushing.pe.queue.filter (fun q => q.profileId == 0 + 1)).length ∧ NoLoadFor (0 + 1) flushing ∧
    (profileOf halted q0.profileId).state ≠ .retiring :=
  ⟨dispatching_holding rfl rfl, engineLaw_holding _ rfl, by decide +kernel, rfl, by unfold Apart; decide, rfl, by decide, rfl,
    by decide, noLoad_of rfl rfl, by decide +kernel⟩
theorem witness_ClearEndsAHalt_pending : (spliceOf (holding (driveCard 5 1 0) flushing) .pu).pending = some .count ∧
    (spliceOf flushing .pu).state = .idle ∧ jointRoom flushing .pu = true ∧ flushing.tc.axes.length = 4 ∧
    (spliceOf flushing .fu).pending = none := by decide +kernel
/-- R62, R125: the flushed cards are FAILED ABORTED, their fabric and profile references released, and the RETIRING profile freed. -/
theorem test_flush : let t := next .clear (holding (driveCard 5 1 0) flushing)
    [0x5008, 0x500B, 0x6008, 0x600B, 0x2008, 0x200B, 0x2086].map (hostByte t) = [5, 11, 5, 11, 4, 0, 2].map some ∧
    t.ps.records[0]? = some emptyRecord ∧ (t.tc.fabrics.map (·.refs)).head? = some 0 ∧ t.pe.queue = [] ∧ t.rc.pu.state = .wait := by
  decide +kernel
def wrapped : State := { going with
  web := ⟨13000000, 0⟩
  tmap := ⟨[{ strip 10000000 none with fabricId := some 1, tPlan := some 415, leadNip := true, runCount := 3 }], []⟩
  tc := { going.tc with fabrics := ⟨some fabricFigs, 1⟩ :: List.replicate 7 ⟨none, 0⟩ } }
theorem witness_TensionPeriodRuns_strip : (wrapped.tmap.segs[0]?).map (fun g => (g.leadNip, g.fabricId, g.tPlan)) =
    some (true, some 1, some 415) ∧ (fabricOf wrapped 1).figures = some fabricFigs ∧
    classifyAxis (frameOf goodFrame wrapped).tc.frame .fu = .valid 400 ∧ ((400 : Int) - 415).natAbs = fabricFigs.devLimit := by
  decide +kernel
theorem test_deviation_run : (next .tensionPeriod (frameOf (List.replicate 4 ⟨true, 399⟩) wrapped)).tmap.segs.map
    (fun g => (g.tensionMax, g.runCount, g.flags.tensionDev)) = [(16, 4, true)] := by decide +kernel

/-- A line whose PR stand has given one invalid reading. -/
def oneInvalid (s : State) : State := { s with tc := { s.tc with
  axes := modifyNth s.tc.axes 2 fun a => { a with invalid := 1 }
  frame := some (modifyNth goodFrame 2 fun _ => ⟨true, 4001⟩) } }
theorem witness_LostTensionSensor : (oneInvalid going).power.mainOn = true ∧ (oneInvalid going).tc.axes.length = 4 ∧
    classifyAxis (oneInvalid going).tc.frame .pr = .invalid .range ∧ (axisOf (oneInvalid going) .pr).invalid = 1 ∧
    going.wd.state ≠ .halted ∧ (oneInvalid halted).wd.state = .halted ∧
    (∀ b ∈ [Axis.pu, .fu, .fr], classifyAxis (oneInvalid halted).tc.frame b = .valid 400) ∧
    goodFrame[Axis.fr.place]? = some ⟨true, 400⟩ := by decide +kernel

/-- A handover at PU, on a line that runs. -/
def handedAxis : State := { going with
  tc := { going.tc with axes := modifyNth going.tc.axes 0 fun a => { a with state := .handedOver } }
  rc := { going.rc with pu := ⟨.handedOver, some .count, none, none, true, false, false, 0, 5000, 1800, 5000⟩ } }
theorem witness_HandedOverTorqueIsHeld : exec .tensionPeriod (frameOf goodFrame handedAxis) =
    .next (next .tensionPeriod (frameOf goodFrame handedAxis)) ∧ (axisOf (frameOf goodFrame handedAxis) .pu).state = .handedOver ∧
    (axisOf (next .tensionPeriod (frameOf goodFrame handedAxis)) .pu).state = .handedOver := ⟨rfl, by decide +kernel⟩

def fabricCard (id op cs tMin tMax dev : Nat) : CurrentCard :=
  card 4 false [(16, le 1 id), (17, le 1 op), (18, le 2 cs), (20, le 2 tMin), (22, le 2 tMax), (24, le 2 dev), (26, [24]), (27, [3])]
theorem witness_FabricCard : Dispatching .fabric (fabricCard 8 1 200 20 1000 500) (holding (fabricCard 8 1 200 20 1000 500) up) ∧
    leRead (fabricCard 8 1 200 20 1000 500).image 16 1 = 8 ∧ leRead (fabricCard 8 1 200 20 1000 500).image 17 1 = 1 ∧
    up.tc.fabrics[8 - 1]? = some ⟨none, 0⟩ ∧ wrapped.tc.fabrics[1 - 1]? = some ⟨some fabricFigs, 1⟩ ∧
    leRead (fabricCard 9 1 0 0 0 0).image 16 1 = 9 ∧ leRead (fabricCard 1 3 0 0 0 0).image 17 1 = 3 ∧
    leRead (fabricCard 1 1 201 20 1000 500).image 18 2 = 201 := ⟨dispatching_holding rfl rfl, by decide +kernel⟩
theorem test_fabric_fields : [(200, 20, 1000, 500), (201, 19, 1000, 0), (0, 19, 1000, 0), (0, 30, 29, 0), (0, 30, 1001, 0), (0, 30, 40, 501)].map
    (fun (a, b, c, d) => fabricError ⟨a, b, c, d, 0, 0⟩) = [none, some 18, some 20, some 20, some 22, some 24] := by decide +kernel

def spliceCard (a : Nat) : CurrentCard := card 9 false [(16, le 1 a)]
theorem witness_SpliceCard : Dispatching .splice (spliceCard 2) (holding (spliceCard 2) up) ∧
    leRead (spliceCard 2).image 16 1 = 2 ∧ leRead (spliceCard 3).image 16 1 = 3 ∧ (axisOf up .fu).state = .active ∧
    (spliceOf up .fu).state = .idle ∧ up.rc.joints.length < 2 ∧ (axisOf halted (unwindAxis .pu)).state ≠ .active ∧
    ({ up with rc := { up.rc with joints := [⟨1, false⟩, ⟨2, false⟩] } } : State).rc.joints.length = 2 :=
  ⟨dispatching_holding rfl rfl, by decide +kernel⟩

/-- The paper counter at the roll length with its request due. -/
def counting (s : State) : State := { s with rc := { s.rc with fu := { s.rc.fu with countDue := true } }
                                             ka := { s.ka with fu := ⟨12000, 0⟩ }
                                             setup := some { g0 with fuRoll := 12000 } }
theorem witness_AutomaticSpliceRequests : (counting up).power.mainOn = true ∧ (spliceOf (counting up) .fu).countDue = true ∧
    rollValid (counting up) .fu = true ∧ 0 < rollLength (counting up) .fu ∧
    rollLength (counting up) .fu ≤ (rollCounter (counting up) .fu).metres ∧ (spliceOf (counting up) .fu).fired = false ∧
    (spliceOf (counting up) .fu).state = .idle ∧ (axisOf (counting up) .fu).state = .active ∧ jointRoom (counting up) .fu = true ∧
    (axisOf (counting halted) .fu).state ≠ .active ∧ (spliceOf up .fu).countDue = false := by decide +kernel
/-- An input whose raw level has turned, its filter running. -/
def turned (n : Nat) (level activeHigh : Bool) (s : State) : State :=
  { s with su := { s.su with inputs := modifyNth s.su.inputs n fun _ => ⟨!level, true, some level, activeHigh⟩ } }
theorem witness_AutomaticSpliceRequests_rollEnd : (turned 4 true false up).su.inputs.length = 8 ∧
    inputOf (turned 4 true false up) .paperRollEnd = ⟨false, true, some true, false⟩ ∧
    inputOf (turned 4 true true up) .paperRollEnd = ⟨false, true, some true, true⟩ ∧
    (spliceOf (turned 4 true false up) .pu).state = .idle ∧ (axisOf (turned 4 true false up) .pu).state = .active ∧
    jointRoom (turned 4 true false up) .pu = true ∧ (axisOf (turned 4 true false halted) .pu).state ≠ .active := by decide +kernel

def waiting (c : Option CardRef) (s : State) : State :=
  { s with rc := { s.rc with pu := ⟨.wait, some .card, c, none, false, false, true, 0, 10000, 0, 5000⟩ } }
theorem witness_SpliceLimits : (waiting (some ⟨4, 0x4000, 9, 9⟩) up).power.mainOn = true ∧
    (spliceOf (waiting (some ⟨4, 0x4000, 9, 9⟩) up) .pu).state = .wait ∧
    (spliceOf (waiting (some ⟨4, 0x4000, 9, 9⟩) up) .pu).cause = some .card ∧ up.ce.state ≠ .stalled ∧
    (spliceOf handedAxis .pu).state = .handedOver ∧ handedAxis.wd.state ≠ .halted ∧ (spliceOf up .pu).state ≠ .wait ∧
    (spliceOf (stalled (fence false) (waiting (some ⟨4, 0x4000, 9, 9⟩) up)) .pu).state = .wait := by
  decide +kernel
/-- R168: the final write of a splice that timed out is counted by the stalled FENCE and offers it again. -/
theorem test_stalled_fence : let t := next (.spliceTimeout .pu) (stalled (fence false) (waiting (some ⟨4, 0x4000, 9, 9⟩) up))
    (t.ce.fenceCount, t.ce.offerDue, t.ce.state) = (1, true, .stalled) := by decide +kernel
/-- A handover whose splice holds a card. -/
def handedCard : State := { handedAxis with rc := { handedAxis.rc with pu := { handedAxis.rc.pu with card := some ⟨4, 0x4000, 9, 9⟩ } } }
theorem witness_SpliceLimits_card : handedCard.power.mainOn = true ∧ (spliceOf handedCard .pu).state = .handedOver ∧
    handedCard.wd.state ≠ .halted ∧ (spliceOf handedCard .pu).card = some ⟨4, 0x4000, 9, 9⟩ ∧
    (spliceOf handedCard .fu).card = none := by decide +kernel
theorem witness_HaltCard_splice : Dispatching .drive (driveCard 4 0 0) (holding (driveCard 4 0 0) (waiting (some ⟨4, 0x4000, 9, 9⟩) going)) ∧
    EngineLaw (holding (driveCard 4 0 0) (waiting (some ⟨4, 0x4000, 9, 9⟩) going)) ∧
    (spliceOf (waiting (some ⟨4, 0x4000, 9, 9⟩) going) .pu).state ≠ .idle ∧
    (spliceOf (waiting (some ⟨4, 0x4000, 9, 9⟩) going) .pu).card = some ⟨4, 0x4000, 9, 9⟩ ∧
    (spliceOf (waiting (some ⟨4, 0x4000, 9, 9⟩) going) .fu).card = none ∧ Apart [⟨4, 0x4000, 9, 9⟩, (driveCard 4 0 0).ref] :=
  ⟨dispatching_holding rfl rfl, engineLaw_holding _ rfl, by decide +kernel, rfl, rfl, by unfold Apart; decide⟩
/-- R152: a halt writes the held card of a splice FAILED HALTED. -/
theorem test_halted_splice : [0x4008, 0x400B].map (hostByte (next (.handoverLimit .pu) handedCard)) = [some 5, some 12] ∧
    [0x4008, 0x400B, 0x200B].map (hostByte (next .halt (holding (driveCard 4 0 0) (waiting (some ⟨4, 0x4000, 9, 9⟩) going)))) =
      [some 5, some 12, some 0] := by decide +kernel

theorem witness_InputFilterAndHaltEdges : State.reset.power.mainOn = true ∧ State.reset.su.inputs.length = 8 ∧
    (inputOf State.reset .estop).raw = false ∧ (inputOf State.reset .estop).filtering = true ∧
    (inputOf State.reset .estop).level = none ∧ (inputOf up .estop).filtering = false := by decide +kernel
theorem witness_InputFilterAndHaltEdges_edge : (turned 3 true false going).su.inputs.length = 8 ∧
    inputOf (turned 3 true false going) .guard = ⟨false, true, some true, false⟩ ∧ going.wd.state ≠ .idle ∧
    haltOnGuard going = true ∧ inputOf (turned 2 true true going) .estop = ⟨false, true, some true, true⟩ ∧
    (turned 0 true false halted).wd.state = .halted ∧ (turned 3 true false up).wd.state = .idle := by decide +kernel

theorem witness_SpliceAcknowledgeEdges : (turned 6 true false (waiting none going)).su.inputs.length = 8 ∧
    (turned 6 true false (waiting none going)).tc.axes.length = 4 ∧
    inputOf (turned 6 true false (waiting none going)) .paperSpliceAck = ⟨false, true, some true, false⟩ ∧
    (spliceOf (waiting none going) .pu).state = .wait ∧ (axisOf (waiting none going) .pu).state = .active ∧
    (spliceOf (turned 6 true false going) .pu).state ≠ .wait := by decide +kernel
theorem witness_SpliceAcknowledgeEdges_completes : (turned 6 true true handedAxis).su.inputs.length = 8 ∧
    inputOf (turned 6 true true handedAxis) .paperSpliceAck = ⟨false, true, some true, true⟩ ∧
    (spliceOf handedAxis .pu).state = .handedOver ∧ (axisOf handedAxis .pu).state = .handedOver ∧
    handedAxis.tmap.joints.length < 2 ∧ (spliceOf (turned 6 true true going) .pu).state ≠ .handedOver := by decide +kernel
/-- A paper splice that ends where a joint stands, and one that finds two joints. -/
def colliding (l : List Joint) : State := turned 6 true true { handedAxis with
  tmap := ⟨handedAxis.tmap.segs, l⟩, rc := { handedAxis.rc with pu := { handedAxis.rc.pu with card := some ⟨4, 0x4000, 9, 9⟩ } } }
theorem witness_SpliceAcknowledgeEdges_collision : (∃ k ∈ (colliding [⟨18000300, false⟩]).tmap.joints,
      k.at_ = (colliding [⟨18000300, false⟩]).web.pos + g0.lUp * 1000) ∧ (colliding [⟨18000300, false⟩]).setup = some g0 ∧
    2 ≤ (colliding [⟨18000200, false⟩, ⟨18000300, false⟩]).tmap.joints.length ∧
    (spliceOf (colliding [⟨18000300, false⟩]) .pu).card = some ⟨4, 0x4000, 9, 9⟩ := by decide +kernel
/-- R11: the later of two joints at one coordinate lies 1 µm behind. -/
theorem test_joint_collision :
    (next (.inputFilterExpiry .paperSpliceAck) (colliding [⟨18000300, false⟩])).tmap.joints.map (·.at_) = [18000300, 18000301] ∧
    (List.range 6).map (fun i => hostByte (next (.inputFilterExpiry .paperSpliceAck) (colliding [⟨18000300, false⟩])) (0x4088 + i)) =
      (le 6 18000301).map some := by decide +kernel

/-- The ended strip of `going` with its lead at the nip, then at the exit. -/
def nipped : Segment := { strip 10000000 (some 10000300) with leadNip := true }
def outbound : Segment := { nipped with leadExit := true, trailNip := true }
def atPos (p : Nat) (l : List Segment) : State := { going with web := ⟨p, 0⟩, tmap := ⟨l, []⟩ }
theorem witness_MilestonesAndJoints : (atPos 13000000 [strip 10000000 (some 10000300)]).power.mainOn = true ∧
    (atPos 13000000 [strip 10000000 (some 10000300)]).setup = some g0 ∧
    (atPos 13000000 [strip 10000000 (some 10000300)]).tmap.segs = [] ++ strip 10000000 (some 10000300) :: [] ∧
    (strip 10000000 (some 10000300)).endAt = some 10000300 ∧ 10000000 ≤ 10000300 ∧
    10000000 + g0.lPn * 1000 ≤ (atPos 13000000 [strip 10000000 (some 10000300)]).web.pos ∧
    nipped.leadNip = true ∧ nipped.trailNip = false ∧ 10000300 + g0.lPn * 1000 ≤ (atPos 13000300 [nipped]).web.pos ∧
    10000300 + g0.lPn * 1000 ≤ 10000000 + (g0.lPn + g0.lW) * 1000 ∧ nipped.leadExit = false ∧
    10000000 + (g0.lPn + g0.lW) * 1000 ≤ (atPos 15000000 [{ nipped with trailNip := true }]).web.pos ∧
    going.web.pos < 10000000 + g0.lPn * 1000 := by decide +kernel
/-- Joints that the position has reached, with a splice of each axis pending. -/
def joined : State := { going with
  web := ⟨15000100, 0⟩
  tmap := ⟨[{ strip 12000100 none with leadNip := true }], [⟨10000100, true⟩]⟩
  rc := ⟨{ resetSplice with pending := some .count }, { resetSplice with pending := some .rollEnd }, [⟨15000000, true⟩]⟩ }
theorem witness_MilestonesAndJoints_joints : joined.power.mainOn = true ∧ joined.tmap.joints = ⟨10000100, true⟩ :: [] ∧
    joined.rc.joints = ⟨15000000, true⟩ :: [] ∧ joined.rc.pu.pending = some .count ∧ joined.rc.fu.pending = some .rollEnd ∧
    (axisOf joined .pu).state = .active ∧ (axisOf joined .fu).state = .active ∧ joined.setup = some g0 ∧
    joined.tmap.segs = [] ++ { strip 12000100 none with leadNip := true } :: [] ∧ 12000100 ≤ joined.web.pos - g0.lPn * 1000 ∧
    joined.web.pos - g0.lPn * 1000 < extentEnd { strip 12000100 none with leadNip := true } ∧ up.rc.joints = [] ∧
    up.tmap.joints = [] := by decide +kernel
/-- A fabric joint that is not yet due before one that is, as a SETUP that lowers L_fn leaves them. -/
def outOfOrder : State := { joined with rc := { joined.rc with joints := [⟨20000000, false⟩, ⟨15000000, true⟩] } }
theorem witness_MilestonesAndJoints_order : outOfOrder.rc.joints = [⟨20000000, false⟩] ++ ⟨15000000, true⟩ :: [] ∧
    (∀ k ∈ [(⟨20000000, false⟩ : FabricJoint)], k.reached = false) ∧ outOfOrder.rc.fu.pending = some .rollEnd ∧
    [(⟨20000000, false⟩ : FabricJoint)].length + ([] : List FabricJoint).length < 2 := by decide +kernel
theorem test_joint_past_one : (next .fabricJointDue outOfOrder).rc.joints = [⟨20000000, false⟩] := by decide +kernel
theorem test_joints_leave : (next .jointLeavesWrap joined).tmap.joints = [] ∧ (next .fabricJointDue joined).rc.joints = [] ∧
    (next .fabricJointDue joined).tmap.segs.map (·.spoil) = [some .fabricJoint] := by decide +kernel

theorem witness_TrailExitReportsTheStrip : (atPos 15000300 [outbound]).power.mainOn = true ∧
    (atPos 15000300 [outbound]).setup = some g0 ∧ (atPos 15000300 [outbound]).tmap.segs = outbound :: [] ∧
    outbound.endAt = some 10000300 ∧ outbound.leadNip = true ∧ outbound.leadExit = true ∧ outbound.trailNip = true ∧
    10000300 + (g0.lPn + g0.lW) * 1000 ≤ (atPos 15000300 [outbound]).web.pos ∧ going.ce.state ≠ .stalled ∧
    outbound.card = some ⟨9, 0x9000, 11, 8⟩ ∧ { outbound with fabricId := some 1 }.fabricId = some 1 ∧
    wrapped.tc.fabrics[1 - 1]? = some ⟨some fabricFigs, 1⟩ := by decide +kernel
theorem test_trail_exit : (next .trailExit (atPos 15000300 [outbound])).tmap.segs = [] ∧
    hostByte (next .trailExit (atPos 15000300 [outbound])) 0x9008 = some 6 ∧
    hostByte (next .trailExit (atPos 15000299 [outbound])) 0x9008 = none := by decide +kernel
theorem witness_TrailExit_waits : (atPos 15000300 [{ outbound with leadExit := false }]).tmap.segs =
      { outbound with leadExit := false } :: [] ∧ 10000000 < 10000300 ∧ 15000299 < 10000300 + (g0.lPn + g0.lW) * 1000 ∧
    ({ nipped with trailNip := false } : Segment).trailNip = false ∧ (strip 0 none).endAt = none := by decide +kernel
/-- R10: a short strip that has passed waits for the one before it. -/
theorem test_trail_order : nextFor (atPos 16000000 [{ outbound with leadExit := false, endAt := some 12000000 }, { outbound with
    start := 12000000, endAt := some 12000300 }]) .trailExit = none := by decide +kernel
theorem witness_TrailExit_judgement : worst [(0, 5), (1, -7), (2, 7)] = some (1, -7) ∧ deviation (2 ^ 32 - 1) 1 = 32767 ∧
    deviation 0 1 = -1000 := by decide
/-- R93: of zones 1 and 3, both 1 % off, the lower zone is taken; zone 0 is excluded. -/
theorem test_worst_zone : worst (deviations [9, 99000, 100000, 101000] (List.replicate 4 100000) [true, false, false, false]) =
    some (1, -10) := by decide +kernel

theorem witness_FreeExtentsAndThePortOrder : FreeList [⟨9826, 729⟩, ⟨20381, 12387⟩] ∧
    allocate 729 [⟨9826, 729⟩, ⟨20381, 12387⟩] = some (9826, [⟨20381, 12387⟩]) ∧
    (∀ e ∈ [(⟨9826, 729⟩ : Extent), ⟨20381, 12387⟩], e.base + e.len ≤ 4913 ∨ 4913 + 4913 ≤ e.base) :=
  ⟨by simp [FreeList, extentsFrom], by decide, by decide⟩
theorem witness_PortOrder : (⟨none, waitingF, waitingD, waitingW, true, true⟩ : Arbiter).busy = none ∧
    waitingD.isSome = true ∧ waitingW.isSome = true ∧ waitingF.isSome = true ∧
    grant ⟨none, none, waitingD, waitingW, false, false⟩ = ⟨some (.shadow (.drain 1 10 0) true), none, none, waitingW, false, false⟩ := by
  decide +kernel

/-- A state with the store port's arbiter as given. -/
def atPort (a : Arbiter) (s : State) : State := { s with ps := { s.ps with arb := a } }
/-- A printing line whose first line is computing. -/
def computingLine : State := withJob fun j => { j with comp := some ⟨0, 7, [100, 37, 255, 0, 0, 0], 0, 0, false, [0, 0, 0, 0], []⟩ }
theorem witness_PortOrder_pump : computing computingLine = true ∧ computing printing = false ∧
    (pumpPort (atPort ⟨none, none, waitingD, waitingW, true, false⟩ computingLine)).ps.arb.busy =
      some (.shadow (.drain 1 10 0) true) ∧
    (pumpPort (atPort ⟨none, none, none, waitingW, false, true⟩ computingLine)).ps.arb.busy = some (.loader ⟨2, 20, 0⟩ true) ∧
    (atPort ⟨none, waitingF, waitingD, waitingW, false, false⟩ computingLine).ps.arb.fillReq = waitingF := by decide +kernel
/-- R39: without a credit a request waits behind a fill, and gets a free port at once where no fill waits, also while a line computes. -/
theorem test_port_granted : [(none, computingLine), (waitingF, computingLine), (none, printing)].map (fun x =>
      (pumpPort (atPort ⟨none, x.1, waitingD, waitingW, false, false⟩ x.2)).ps.arb.busy) =
    [some (.shadow (.drain 1 10 0) true), some (.fill ⟨3, 0, 30, 4⟩ true), some (.shadow (.drain 1 10 0) true)] := by decide +kernel

def loadCard (id grid chan src : Nat) (noWait : Bool) : CurrentCard := card 5 noWait [(16, le 1 id), (17, le 1 grid), (18, le 1 chan),
  (19, [6]), (20, le 2 1400), (22, le 2 3277), (24, le 2 5325), (26, le 4 140000), (32, le 8 src)]
def loading (n : Nat) (rd : Bool) (s : State) : State := { s with ps := { s.ps with
  records := modifyNth s.ps.records 1 fun _ => ⟨.loading, some { header0 with base := 729 }, 0, 0, 0, false⟩
  free := [⟨1458, 31310⟩]
  loader := some ⟨⟨2, 0x3000, 8, 5⟩, 2, 0x10000, n, [], rd⟩ } }
theorem witness_LoadCard : Dispatching .load (loadCard 16 9 4 8 false) (holding (loadCard 16 9 4 8 false) up) ∧
    up.ps.loader = none ∧ loadError (loadCard 16 9 4 8 false).image = none ∧ up.ps.records[16 - 1]? = some emptyRecord ∧
    allocate (leRead (loadCard 16 9 4 8 false).image 17 1 ^ 3) up.ps.free = some (729, [⟨1458, 31310⟩]) ∧
    allocate (leRead (loadCard 16 33 4 8 false).image 17 1 ^ 3) up.ps.free = none ∧
    up.ps.records[1 - 1]? = some ready0 ∧ loadError (loadCard 17 9 4 8 false).image = some 16 ∧
    loadError (loadCard 1 9 4 12 false).image = some 32 ∧ (loading 0 true up).ps.loader.isSome = true :=
  ⟨dispatching_holding rfl rfl, by decide +kernel⟩
theorem witness_LoaderReads : (loading 704 true up).power.mainOn = true ∧ (loading 704 true up).ps.stale = 0 ∧
    (loading 704 true up).ps.loader.map (·.reading) = some true ∧
    (profileOf (loading 704 true up) 2).header = some { header0 with base := 729 } ∧ PortQuiet { loading 704 true up with
      ps := { (loading 704 true up).ps with loader := none } } ∧ 704 < header0.nodes ∧ up.ps.loader = none ∧
    Loose 2 (loading 704 true up) := by
  refine ⟨rfl, rfl, rfl, rfl, ⟨rfl, rfl, rfl, rfl, by decide +kernel, rfl, rfl⟩, by decide,
    rfl, ⟨by decide +kernel, rfl, rfl, rfl, by decide +kernel⟩⟩
/-- A LOADING profile that a queued card names, before and while the loader's write of it holds the port. -/
def namedLoading (busy : Option PortAccess) (rd : Bool) : State :=
  let s := loading 3 rd up
  { s with
    ps := { s.ps with records := modifyNth s.ps.records 1 (fun r => { r with refs := 1 }), arb := ⟨busy, none, none, none, false, false⟩ }
    pe := { s.pe with queue := [{ q0 with profileId := 2 }] } }
theorem witness_LoaderReads_queued : (namedLoading none true).spb.patch = none ∧
    (namedLoading none true).ps.loader.map (fun j => (j.id, j.reading)) = some (2, true) ∧
    ((namedLoading none true).ps.records[2 - 1]?).map (fun r => (r.state, r.refs)) = some (.loading, 1) ∧
    (∀ q ∈ (namedLoading none true).pe.queue, 1 ≤ q.profileId) ∧ ((namedLoading none true).pe.queue.map (·.card.take)).Nodup ∧
    Apart (⟨2, 0x3000, 8, 5⟩ :: (namedLoading none true).pe.queue.map (·.card)) :=
  ⟨rfl, rfl, rfl, by decide, by decide, by unfold Apart; decide⟩
theorem witness_LoaderReads_computing : let s := loading 704 true computingLine
    computing s = true ∧ s.ps.arb = ⟨none, none, none, none, false, false⟩ ∧ s.spb.patch = none ∧ s.spb.entries = [] ∧
    s.ps.loader.map (fun j => (j.id, j.cursor, j.reading)) = some (2, 704, true) ∧
    (profileOf s 2).header = some { header0 with base := 729 } := by decide +kernel
/-- R39: the loader's first write of a block takes a quiet port at once, also while a line computes. -/
theorem test_loader_granted : [loading 704 true computingLine, loading 704 true printing].map (fun s =>
      (next (.loadReadComplete (List.replicate 200 1)) s).ps.arb.busy.isSome) = [true, true] := by decide +kernel
theorem test_load_error : (next .loadReadError (namedLoading none true)).ps.records[1]? = some emptyRecord ∧
    [0x3008, 0x300B, 0x5008, 0x500B].map (hostByte (next .loadReadError (namedLoading none true))) =
      [some 5, some 13, some 5, some 7] := by decide +kernel
/-- The loader's write of a record holds the port. -/
def writing (n : Nat) (buffer : List CellValue) : State := { loading n false up with ps := { (loading n false up).ps with
  loader := some ⟨⟨2, 0x3000, 8, 5⟩, 2, 0x10000, n, buffer, false⟩
  arb := ⟨some (.loader ⟨2, 729 + n, 0xFF⟩ true), none, none, none, false, false⟩ } }
theorem witness_LoaderWrites : (writing 728 [0xFF]).power.mainOn = true ∧ StoreCanonical (writing 728 [0xFF]) ∧
    (writing 728 [0xFF]).ps.arb.busy = some (.loader ⟨2, 1457, 0xFF⟩ true) ∧ 728 + 1 = header0.nodes ∧
    (writing 63 [0xFF]).ps.loader.map (fun j => (j.cursor + 1 ≠ header0.nodes, j.buffer.drop 1)) =
      some (63 + 1 ≠ header0.nodes, []) ∧ [(0xFF : CellValue), 1].drop 1 ≠ [] ∧
    (∀ r live, up.ps.arb.busy ≠ some (.loader r live)) :=
  ⟨rfl, by unfold StoreCanonical; decide +kernel, rfl, rfl, rfl, by decide, fun r live => by rw [show up.ps.arb.busy = none from rfl]; simp⟩
theorem test_loader_last : (next .loaderWriteComplete (writing 728 [0xFF])).ps.loader = none ∧
    ((next .loaderWriteComplete (writing 728 [0xFF])).ps.records[1]?).map (·.state) = some .ready ∧
    storeRead (next .loaderWriteComplete (writing 728 [0xFF])).ps.mem 1457 = freshCell 0xFF ∧
    hostByte (next .loaderWriteComplete (writing 728 [0xFF])) 0x3008 = some 4 := by decide +kernel

def dropCard (id : Nat) : CurrentCard := card 7 false [(16, le 1 id)]
theorem loose_holding (c : CurrentCard) {id : Nat} {s : State} (h : Loose id s) : Loose id (holding c s) := h
theorem witness_DropAndFreeing : Dispatching .drop (dropCard 1) (holding (dropCard 1) up) ∧
    leRead (dropCard 1).image 16 1 = 1 ∧ up.ps.records[1 - 1]? = some ready0 ∧ ready0.state = .ready ∧ ready0.freeing = false ∧
    ready0.refs = 0 ∧ ready0.header = some header0 ∧ Loose 1 (holding (dropCard 1) up) ∧
    leRead (dropCard 17).image 16 1 = 17 ∧ up.ps.records[16 - 1]? = some emptyRecord ∧
    printing.ps.records[1 - 1]? = some { ready0 with refs := 1 } :=
  ⟨dispatching_holding rfl rfl, by decide +kernel, rfl, rfl, rfl, rfl, rfl,
    ⟨by decide +kernel, rfl, rfl, rfl, by decide +kernel⟩, by decide +kernel, rfl, rfl⟩
theorem witness_DropAndFreeing_loading : Dispatching .drop (dropCard 2) (holding (dropCard 2) (loading 3 true up)) ∧
    Loose 2 (holding (dropCard 2) (loading 3 true up)) ∧ ((loading 3 true up).ps.records[2 - 1]?).map (·.state) = some .loading ∧
    0x2000 + 256 ≤ 0x3000 :=
  ⟨dispatching_holding rfl rfl, ⟨by decide +kernel, rfl, rfl, rfl,
    by decide +kernel⟩, rfl, by decide⟩
def draggedWrite : Option PortAccess := some (.loader ⟨2, 732, 0xFF⟩ true)
theorem witness_DropAndFreeing_granted : Dispatching .drop (dropCard 2) (holding (dropCard 2) (namedLoading draggedWrite false)) ∧
    loadWriteGranted (namedLoading draggedWrite false) 2 = true ∧
    ((namedLoading draggedWrite false).ps.records[2 - 1]?).map (fun r => (r.state, r.freeing, r.header)) =
      some (.loading, false, some { header0 with base := 729 }) ∧ (namedLoading draggedWrite false).spb.patch = none ∧
    Apart ((dropCard 2).ref :: ⟨2, 0x3000, 8, 5⟩ :: (namedLoading draggedWrite false).pe.queue.map (·.card)) :=
  ⟨dispatching_holding rfl rfl, by decide +kernel, rfl, rfl, by unfold Apart; decide⟩
/-- R32, R33, R35: the aborted load's card and the queued card fail, and the record waits for the loader's granted write. -/
theorem test_drop_granted : let t := next .drop (holding (dropCard 2) (namedLoading draggedWrite false))
    (t.ps.records[1]?).map (fun r => (r.refs, r.freeing)) = some (0, true) ∧
    [0x300B, 0x500B, 0x200B].map (hostByte t) = [some 11, some 7, some 0] := by decide +kernel
/-- A profile that waits to be freed, while its drain write holds the port or afterwards. -/
def waitsFreed (busy : Option PortAccess) (freeing : Bool) : State := { up with ps := { up.ps with
  records := modifyNth up.ps.records 0 fun r => { r with freeing := freeing }
  arb := ⟨busy, none, none, none, false, false⟩ } }
theorem witness_DropAndFreeing_freeing : (waitsFreed none true).power.mainOn = true ∧
    (waitsFreed none true).ps.records[1 - 1]? = some { ready0 with freeing := true } ∧
    drainGranted (waitsFreed none true) 1 = false ∧ loadWriteGranted (waitsFreed none true) 1 = false ∧
    drainGranted (waitsFreed (some (.shadow (.drain 1 5 7) true)) false) 1 = true ∧
    (waitsFreed (some (.shadow (.drain 1 5 7) true)) false).ps.records[1 - 1]? = some ready0 ∧
    (waitsFreed (some (.shadow (.drain 1 5 7) true)) false).spb.patch = none := by decide +kernel

def patchCard1 (id count addr : Nat) : CurrentCard := card 6 false [(16, le 1 id), (18, le 2 count), (24, le 8 addr)]
theorem witness_PatchCardAndItsList : Dispatching .patch (patchCard1 1 128 8) (holding (patchCard1 1 128 8) up) ∧
    up.spb.patch = none ∧ patchError (patchCard1 1 128 8).image = none ∧ leRead (patchCard1 1 128 8).image 16 1 = 1 ∧
    up.ps.records[1 - 1]? = some ready0 ∧ up.ps.records[2 - 1]? = some emptyRecord ∧
    patchError (patchCard1 1 129 8).image = some 18 := ⟨dispatching_holding rfl rfl, by decide +kernel⟩
/-- A PATCH card in hand in a phase. -/
def inHand (p : PatchJob) (s : State) : State := shadowed false (some p) (holding (patchCard1 1 1 0x3000) s)
def listOf (node : Nat) : List Byte := area 16 [(0, le 4 node), (4, [1]), (8, [130])]
theorem witness_PatchCardAndItsList_read :
    Dispatching .patch (patchCard1 1 1 0x3000) (inHand { patchJob .reading 5 false with edits := [] } up) ∧
    (inHand { patchJob .reading 5 false with edits := [] } up).spb.stale = 0 ∧ stateSeen (profileOf up 1) = .ready ∧
    (profileOf up 1).header = some header0 ∧ (∀ e ∈ parseEdits (listOf 728) 1, editOk header0 e = true) ∧
    (parseEdits (listOf 729) 1)[0]? = some ⟨729, 1, 130⟩ ∧ editOk header0 ⟨729, 1, 130⟩ = false ∧
    stateSeen (profileOf up 2) = .empty := ⟨⟨rfl, rfl, rfl, rfl⟩, by decide +kernel⟩

/-- A PATCH card in READING whose profile has been freed. -/
def freedInReading : State :=
  let s := inHand { patchJob .reading 5 false with edits := [] } up
  { s with ps := { s.ps with records := List.replicate 16 emptyRecord } }
theorem witness_PatchCardAndItsList_emptied : Dispatching .patch (patchCard1 1 1 0x3000) freedInReading ∧
    freedInReading.spb.stale = 0 ∧ stateSeen (profileOf freedInReading 1) = .empty ∧
    (∀ e ∈ parseEdits (listOf 729) 1, e.mask ≠ 0) ∧ ((parseEdits (area 16 []) 1)[0]?).map (·.mask) = some 0 :=
  ⟨⟨rfl, rfl, rfl, rfl⟩, by decide +kernel⟩
/-- R42: check 4 comes before check 5, so that an empty mask is BAD_FIELD although the profile is gone. -/
theorem test_check_order : [listOf 729, area 16 []].map (fun l => hostByte (next (.editListReadComplete l) freedInReading) 0x200B) =
    [some 4, some 2] := by decide +kernel

/-- A PATCH card that is applying edits to a RETIRING profile with one reference left, and the job that holds it in ENDING. -/
def retiringPatch (s : State) : State :=
  let s := inHand (patchJob .applying 5 false) s
  { s with ps := { s.ps with records := { ready0 with state := .retiring, refs := 1 } :: List.replicate 15 emptyRecord } }
def endingPatch : State :=
  let s := retiringPatch (withJob fun j => { j with comp := some ⟨0, 7, [], 2, 0, false, [], []⟩ })
  { s with pe := { s.pe with state := .ending } }
theorem witness_PatchCardAndItsList_freed : (retiringPatch up).ce.current = some (patchCard1 1 1 0x3000) ∧
    (retiringPatch up).spb.patch = some (patchJob .applying 5 false) ∧ (patchCard1 1 1 0x3000).ref = (patchJob .applying 5 false).card ∧
    (retiringPatch up).ps.records[1 - 1]? = some { ready0 with state := .retiring, refs := 1 } ∧
    drainGranted (retiringPatch up) 1 = false ∧ loadWriteGranted (retiringPatch up) 1 = false ∧ endingPatch.pe.state = .ending ∧
    endingPatch.power.mainOn = true ∧ endingPatch.pe.job.map (fun j => (j.card.profileId, j.card.width)) = some (1, 2) := by
  decide +kernel
theorem test_patch_freed : hostByte (next .lineBoundary endingPatch) 0x200B = some 4 ∧
    ((next .lineBoundary endingPatch).ps.records[0]?).map (fun r => (r.refs, r.freeing)) = some (0, true) := by decide +kernel

theorem witness_EditsAndDrains_merges : Dispatching .patch (patchCard1 1 1 0x3000) (inHand (patchJob .applying 5 false) up) ∧
    (patchJob .applying 5 false).edits[0]? = some ⟨5, 1, 130⟩ ∧ up.ps.records[1 - 1]? = some ready0 ∧
    (inHand (patchJob .applying 5 false) up).spb.entries.find? (fun x => x.cell == header0.base + 5) = some ⟨1, 5, 5, 7, false⟩ ∧
    (shadowed true none up).spb.entries.find? (fun x => x.cell == 5) = some ⟨1, 5, 5, 7, true⟩ ∧
    (inHand (patchJob .applying 6 false) up).spb.entries.find? (fun x => x.cell == header0.base + 6) = none ∧
    cacheHolds up 6 = none ∧ up.spb.patch = none := ⟨⟨rfl, rfl, rfl, rfl⟩, by decide +kernel⟩
def lined (s : State) : State := { s with nc := { s.nc with lines := modifyNth s.nc.lines 6 fun _ => some ⟨0, 77⟩ } }
theorem witness_EditsAndDrains_line : cacheHolds (lined up) 6 = some 77 ∧ cacheHolds (lined up) (256 + 6) = none ∧
    Dispatching .patch (patchCard1 1 1 0x3000) (inHand (patchJob .applying 6 true) (lined up)) :=
  ⟨by decide +kernel, by decide +kernel, ⟨rfl, rfl, rfl, rfl⟩⟩
/-- A creation read of node 6 holds the port. -/
def creating : State := { inHand { patchJob .applying 6 false with creating := true } up with
  ps := { up.ps with arb := ⟨some (.shadow (.creation 1 6 6 4) true), none, none, none, false, false⟩
                     mem := [(6, freshCell 0x0A1E4078)] } }
theorem witness_EditsAndDrains_creation : creating.power.mainOn = true ∧ StoreCanonical creating ∧
    creating.ps.arb.busy = some (.shadow (.creation 1 6 6 4) true) ∧ Dispatching .patch (patchCard1 1 1 0x3000) creating ∧
    creating.ps.records[1 - 1]? = some ready0 ∧ badChannels (damaged (storeRead creating.ps.mem 6) ⟨0, 0⟩) 4 = 0 ∧
    badChannels (damaged (storeRead creating.ps.mem 6) ⟨1, 0⟩) 4 ≠ 0 ∧ haltOnParity creating = true ∧
    creating.wd.state ≠ .halted :=
  ⟨rfl, by unfold StoreCanonical; decide +kernel, rfl, ⟨rfl, rfl, rfl, rfl⟩, rfl, by decide +kernel, by decide +kernel, rfl, by decide⟩
theorem witness_EditsAndDrains_computing : let s := inHand (patchJob .applying 6 false) computingLine
    Dispatching .patch (patchCard1 1 1 0x3000) s ∧ computing s = true ∧ s.ps.arb = ⟨none, none, none, none, false, false⟩ ∧
    s.ps.loader = none ∧ (∀ x ∈ s.spb.entries, x.visible = false) ∧ cacheHolds s 6 = none :=
  ⟨⟨rfl, rfl, rfl, rfl⟩, by decide +kernel⟩
def drainBusy : State := { shadowed true none up with
  ps := { up.ps with arb := ⟨some (.shadow (.drain 1 5 7) true), none, none, none, false, false⟩ } }
theorem witness_EditsAndDrains_drain : drainBusy.power.mainOn = true ∧ StoreCanonical drainBusy ∧
    drainBusy.ps.arb.busy = some (.shadow (.drain 1 5 7) true) := ⟨rfl, by unfold StoreCanonical; decide +kernel, rfl⟩
theorem test_creation : ((next (.creationReadComplete ⟨0, 0⟩) creating).spb.entries.map (·.value)) = [7, 0x0A1E4082] ∧
    hostByte (next (.creationReadComplete ⟨0, 0⟩) creating) 0x2008 = some 4 := by decide +kernel
theorem test_drain : storeRead (next .drainWriteComplete drainBusy).ps.mem 5 = freshCell 7 ∧
    (next .drainWriteComplete drainBusy).spb.entries = [] := by decide +kernel
theorem witness_CacheIsCleanAfterEveryWrite : (lined drainBusy).power.mainOn = true ∧
    (lined drainBusy).ps.arb.busy = some (.shadow (.drain 1 5 7) true) ∧
    exec .lookup up = .next up ∧ StoreCanonical up ∧ Instr.lookup ≠ .loaderWriteComplete ∧ Instr.lookup ≠ .drainWriteComplete :=
  ⟨rfl, rfl, rfl, by unfold StoreCanonical; decide +kernel, by decide, by decide⟩

def printCard (width fabric tPlan : Nat) (noWait : Bool) : CurrentCard := card 8 noWait [(16, le 8 0x400000), (24, le 4 48), (28, le 2 width),
  (30, le 2 3), (32, [1]), (33, le 1 fabric), (34, le 2 tPlan)]
theorem witness_PrintCard : Dispatching .print (printCard 16 1 20 false) (holding (printCard 16 1 20 false) wrapped) ∧
    wrapped.setup = some g0 ∧ printError g0.width (parsePrint (printCard 16 1 20 false)) = none ∧
    wrapped.ps.records[1 - 1]? = some ready0 ∧ header0.channels = g0.bars ∧
    (fabricOf wrapped (parsePrint (printCard 16 1 20 false)).fabricId).figures ≠ none ∧ wrapped.pe.queue.length < 4 ∧
    printError g0.width (parsePrint (printCard 17 0 0 false)) = some 24 ∧ State.reset.setup = none ∧
    (fabricOf up 1).figures = none ∧ up.ps.records[2 - 1]? = some emptyRecord ∧
    4 ≤ ({ up.pe with queue := List.replicate 4 q0 } : PrintEngine).queue.length := ⟨dispatching_holding rfl rfl, by decide +kernel⟩

/-- A RUNNING line with a card at the head of the queue. -/
def queued (q : QueuedPrint) : State := { going with pe := { going.pe with queue := [q] } }
theorem witness_PrintStart : (queued q0).power.mainOn = true ∧ (queued q0).pe.state = .idle ∧ (queued q0).pe.queue = q0 :: [] ∧
    startTest (queued q0) q0 = none ∧ (queued q0).setup = some g0 ∧ (profileOf (queued q0) 1).header = some header0 ∧
    (queued q0).pe.read = none ∧ 0 < q0.lines ∧ (queued q0).ce.state ≠ .stalled ∧ up.pe.queue = [] ∧
    startTest { up with pe := { up.pe with queue := [q0] } } q0 = some ⟨true, false, false, false, false, false⟩ := by decide +kernel
/-- A NO_WAIT card at the head, with and without the verdict of its first test. -/
def hasty (verdict : Option (Nat × HoldReason)) (s : State) : State :=
  { s with pe := { s.pe with queue := [{ q0 with noWait := true }], firstTest := verdict } }
def notRunning : HoldReason := { HoldReason.none with drive := true }
theorem witness_PrintStart_noWait : (hasty none up).pe.queue = { q0 with noWait := true } :: [] ∧ (hasty none up).pe.state = .idle ∧
    (hasty none up).pe.firstTest = none ∧ startTest (hasty none up) { q0 with noWait := true } = some notRunning ∧
    (hasty (some (5, notRunning)) going).pe.firstTest = some (q0.card.take, notRunning) ∧
    startTest (hasty none going) { q0 with noWait := true } = none := by decide +kernel
theorem witness_PrintStart_verdict : exec (.drumEncoderReport 0) (hasty (some (5, notRunning)) going) =
    .next (next (.drumEncoderReport 0) (hasty (some (5, notRunning)) going)) ∧
    (next (.drumEncoderReport 0) (hasty (some (5, notRunning)) going)).pe.queue.head? = some { q0 with noWait := true } :=
  ⟨rfl, by decide +kernel⟩
/-- A full map and a joint in the planned extent, with all else met, and a discarded read still in flight. -/
def crowded : State := { queued q0 with tmap := ⟨List.replicate 62 (strip 10000000 (some 10000300)), []⟩ }
def jointAhead : State := { queued q0 with tmap := ⟨going.tmap.segs, [⟨10000400, false⟩]⟩ }
def readInFlight : State := { queued q0 with pe := { (queued q0).pe with read := some ⟨4, false⟩ } }
theorem witness_PrintStart_room : crowded.wd.state = .running ∧ stateSeen (profileOf crowded q0.profileId) = .ready ∧
    zonesCondition crowded = true ∧ (∀ b ∈ crowded.pe.bars.take g0.bars, b.ready = true) ∧ 62 ≤ crowded.tmap.segs.length ∧
    startTest crowded q0 = some { HoldReason.none with room := true } ∧ jointAhead.tmap.segs.length < 62 ∧
    startCoordinate jointAhead ≤ 10000400 ∧ startTest jointAhead q0 = some { HoldReason.none with clearance := true } := by
  decide +kernel
theorem witness_PrintStart_read : readInFlight.power.mainOn = true ∧ readInFlight.pe.state = .idle ∧
    readInFlight.pe.queue = q0 :: [] ∧ startTest readInFlight q0 = none ∧ readInFlight.pe.read = some ⟨4, false⟩ := by decide +kernel
/-- R66: a NO_WAIT card whose first test failed is NOT_READY though the line now runs. -/
theorem test_first_verdict : hostByte (next .printStart (hasty (some (5, notRunning)) going)) 0x500B = some 4 ∧
    hostByte (next .printStart (hasty (some (5, notRunning)) going)) 0x5080 = some 1 ∧
    (next .printStart (hasty none going)).pe.state = .printing := by decide +kernel
theorem test_print_start : (next .printStart (queued q0)).tmap.segs.map (fun g => (g.start, g.planned, g.lo, g.hi, g.gains)) =
    [(10000000, 300, 114, 127, [3277, 3277, 3277, 3277]), (10000300, 300, 114, 127, [5325, 5325, 5325, 5325])] ∧
    (next .printStart (queued q0)).tmap.segs.map (·.dPlan) =
      [[160000, 160000, 160000, 160000], [100000, 100000, 100000, 100000]] := by decide +kernel

def row : List Byte := [100, 37, 255, 0, 0, 0]
theorem witness_RasterReads : printing.power.mainOn = true ∧ printing.pe.read = some ⟨0, true⟩ ∧ printing.pe.state = .printing ∧
    printing.pe.job = some job0 ∧ sourceLine job0.acc ≤ 0 ∧ (job0.window ++ [(0, row)]).length < 4 ∧ 0 + 1 < job0.card.lines ∧
    (profileOf printing job0.card.profileId).state ≠ .retiring ∧ up.pe.job = none ∧ up.pe.read = none ∧
    printing.ps.records[1 - 1]? = some { ready0 with refs := 1 } ∧ printing.spb.entries = [] := by decide +kernel
theorem test_raster : (next (.rasterReadComplete row) printing).pe.read = some ⟨1, true⟩ ∧
    (next (.rasterReadComplete row) printing).ports.head? = some (.hostRead (0x400000 + 64) 6) := by decide +kernel

/-- A read left from an earlier job, a read below the window, and the line printing through a RETIRING profile. -/
def staleRead : State := { printing with pe := { printing.pe with read := some ⟨2, false⟩ } }
def passedRead : State := withJob fun j => { j with cursor := 2, acc := 2097152, window := [(1, row), (2, row)] }
def retiringPrint (f : PrintJob → PrintJob) (s : State) : State := let s := setJob f s; { s with ps := { s.ps with
  records := { ready0 with state := .retiring, refs := 1 } :: List.replicate 15 emptyRecord } }
theorem witness_RasterReads_passed : staleRead.pe.read = some ⟨2, false⟩ ∧ staleRead.pe.job = some job0 ∧ staleRead.power.mainOn = true ∧
    passedRead.pe.read = some ⟨0, true⟩ ∧ passedRead.pe.job.map (fun j => (sourceLine j.acc, j.window)) =
      some (2, [(1, row), (2, row)]) ∧ 0 < 2 ∧ 3 * (job0.card.width) = 6 := by decide +kernel
/-- R70: an error on a read that the window has passed is ignored. -/
theorem test_passed_read : (next .rasterReadError passedRead).su.faults = [] ∧
    (next .rasterReadError passedRead).pe.job.map (·.window) = some [(2, row)] ∧
    (next .rasterReadError staleRead).pe.read = some ⟨0, true⟩ := by decide +kernel
theorem witness_RasterReads_ends : 0 < pitchOf printing ∧ NotFreed 1 printing ∧ printing.spb.patch = none ∧
    (next .rasterReadError printing).tmap.segs.find? (fun g => g.start == job0.start) =
      some { strip 10000000 (some 10000100) with spoil := some .raster } ∧
    (retiringPrint id printing).ps.records[1 - 1]? = some { ready0 with state := .retiring, refs := 1 } ∧
    ready0.header = some header0 ∧ NoLoadFor 1 (retiringPrint id printing) ∧ (retiringPrint id printing).pe.state = .printing ∧
    (∀ e ∈ (pendingAt .ready).spb.entries, 1 ≤ e.id) :=
  ⟨by decide +kernel, .inl (by decide +kernel), rfl, by decide +kernel, rfl, rfl, noLoad_of rfl rfl, rfl, by decide⟩

/-- The printing line with its first source line fetched, and with its first computation at a corner of a column. -/
def fetched : State := withJob fun j => { j with window := [(0, row), (1, row), (2, row)] }
def comp0 (column corner : Nat) (filling : Bool) : Computation := ⟨0, 7, row, column, corner, filling, [0, 0, 0, 0], []⟩
def atCorner (column corner : Nat) (filling : Bool) : State := withJob fun j => { j with comp := some (comp0 column corner filling) }
theorem witness_LineComputation : fetched.power.mainOn = true ∧ fetched.pe.state = .printing ∧
    (fetched.pe.job.bind fun j => j.window.find? (fun l => l.1 == sourceLine j.acc)) = some (0, row) ∧
    (profileOf fetched 1).header = some header0 ∧ fetched.pe.job.map (fun j => (j.comp, j.slots.length, j.cursor, j.reached)) =
      some (none, 0, 0, 0) := by decide +kernel
theorem witness_LineComputation_lookup : (atCorner 0 0 false).pe.job = some { job0 with comp := some (comp0 0 0 false) } ∧
    (comp0 1 7 false).column < job0.card.width ∧ (comp0 0 0 false).filling = false ∧ PortQuiet (atCorner 0 0 false) ∧
    cacheHolds (atCorner 0 0 false) (0 + cornerNode 9 0 (pixelInput (comp0 0 0 false))) = none :=
  ⟨rfl, by decide, rfl, ⟨rfl, rfl, rfl, rfl, by decide +kernel, rfl, rfl⟩, by decide +kernel⟩
theorem witness_LineComputation_gain : (atCorner 0 0 false).setup = some g0 ∧
    (atCorner 0 0 false).tmap.segs.find? (fun e => e.start == job0.start) = some (strip 10000000 none) ∧
    (strip 10000000 none).gains[columnZone 15 g0.zones g0.width]? = some 3277 := by decide +kernel
/-- A fill holds the port for the computation's lookup. -/
def filling : State := { atCorner 0 7 true with ps := { printing.ps with
  arb := ⟨some (.fill ⟨1, 100, 100, 4⟩ true), none, none, none, false, false⟩, mem := [(100, freshCell 0x04030201)] } }
theorem witness_LineComputation_fill : filling.power.mainOn = true ∧ StoreCanonical filling ∧
    filling.ps.arb.busy = some (.fill ⟨1, 100, 100, 4⟩ true) ∧ filling.ps.records[1 - 1]? = some { ready0 with refs := 1 } ∧
    filling.nc.lines.length = 256 ∧ badChannels (damaged (storeRead filling.ps.mem 100) ⟨0, 0⟩) 4 = 0 ∧
    badChannels (damaged (storeRead filling.ps.mem 100) ⟨0, 1⟩) 4 ≠ 0 ∧ haltOnParity filling = true ∧
    filling.wd.state ≠ .halted ∧ (comp0 0 7 true).corner = 7 :=
  ⟨rfl, by unfold StoreCanonical; decide +kernel, rfl, rfl, by decide +kernel, by decide +kernel, by decide +kernel, rfl, by decide, rfl⟩

/-- Chapter 2, RESERVED GRANTS AT A LINE BOUNDARY: F1 holds the port and the loader's W2 waits, both credits clear. -/
def secondWrite : State := atPort { filling.ps.arb with loaderReq := waitingW } filling
theorem witness_LineComputation_order : secondWrite.ps.arb.fillReq = none ∧ secondWrite.ps.arb.loaderReq = waitingW ∧
    HeldFill (next (.lookupFillComplete ⟨0, 0⟩) secondWrite) job0 (comp0 1 0 false) ⟨1, 0, 0, 4⟩ :=
  ⟨rfl, rfl, by decide, ⟨header0, by decide +kernel, by decide +kernel⟩, by decide +kernel, by decide +kernel⟩
/-- F1 completes with F2's lookup held behind it, and F2 is granted before W2. -/
theorem test_reserved_grants : (next (.lookupFillComplete ⟨0, 0⟩) secondWrite).ps.arb =
    ⟨some (.fill ⟨1, 0, 0, 4⟩ true), none, none, waitingW, false, false⟩ := by decide +kernel
/-- Chapter 3, TWO EDITS ACROSS A LINE BOUNDARY, steps 2 and 3: the next lookup hits the cache, so that no fill waits at the fill's end. -/
def nextCached : State := atPort { filling.ps.arb with shadowReq := some (.creation 1 40 40 4) }
  { filling with nc := { filling.nc with lines := modifyNth filling.nc.lines 0 fun _ => some ⟨0, 77⟩ } }
theorem test_creation_read_granted : (next (.lookupFillComplete ⟨0, 0⟩) nextCached).ps.arb =
    ⟨some (.shadow (.creation 1 40 40 4) true), none, none, none, false, false⟩ := by decide +kernel

/-- The fill of a computation that was abandoned. -/
def orphanFill : State := { printing with ps := { filling.ps with
  arb := ⟨some (.fill ⟨1, 100, 100, 4⟩ false), none, none, none, false, false⟩ } }
theorem witness_LineComputation_abandoned : orphanFill.power.mainOn = true ∧ StoreCanonical orphanFill ∧
    orphanFill.ps.arb.busy = some (.fill ⟨1, 100, 100, 4⟩ false) ∧ orphanFill.nc.lines.length = 256 ∧
    badChannels (damaged (storeRead orphanFill.ps.mem 100) ⟨0, 0⟩) 4 = 0 ∧
    badChannels (damaged (storeRead orphanFill.ps.mem 100) ⟨0, 1⟩) 4 ≠ 0 ∧ haltOnParity orphanFill = true ∧
    haltOnParity { orphanFill with setup := some { g0 with haltOnParity := false } } = false :=
  ⟨rfl, by unfold StoreCanonical; decide +kernel, rfl, by decide +kernel, by decide +kernel, by decide +kernel, rfl, rfl⟩
theorem test_abandoned_fill : cacheHolds (next (.lookupFillComplete ⟨0, 0⟩) orphanFill) 100 = some 0x04030201 ∧
    (next (.lookupFillComplete ⟨0, 0⟩) orphanFill).nc.fills = 0 := by decide +kernel

/-- The computation of line 0 is done; the line is the first of three, and the last to fall due. -/
def computed (f : PrintJob → PrintJob) : State := withJob fun j => f { j with comp := some { comp0 2 0 false with cols := [[1, 2, 3, 4], [5, 6, 7, 8]] } }
theorem witness_LineBoundary : (computed id).power.mainOn = true ∧ (computed id).pe.state = .printing ∧
    (computed id).pe.job.map (fun j => j.comp.map (fun c => (c.filling, decide (j.card.width ≤ c.column)))) =
      some (some (false, true)) ∧ (computed id).spb.entries = [] ∧ PortQuiet (computed id) ∧
    { computed id with pe := { (computed id).pe with state := .ending } }.pe.state = .ending :=
  ⟨rfl, rfl, by decide +kernel, rfl, ⟨rfl, rfl, rfl, rfl, by decide +kernel, rfl, rfl⟩, rfl⟩
theorem test_line_boundary : (next .lineBoundary (computed id)).pe.job.map (fun j => (j.cursor, j.acc, j.slots)) =
    some (1, 1048576, [⟨0, 7, [[5, 6, 7, 8], [1, 2, 3, 4]]⟩]) ∧
    (next .lineBoundary (computed fun j => { j with reached := 1 })).pe.job.map (fun j => (j.cursor, j.slots)) = some (1, []) := by
  decide +kernel
/-- A line boundary with the store port and the entries as given, in a state of the engine, through a profile. -/
def boundary (st : PrintState) (r : ProfileRecord) (entries : List ShadowEntry) (arb : Arbiter) : State := let s := computed id; { s with
  pe := { s.pe with state := st }, spb := ⟨entries, none, 0⟩
  ps := { s.ps with records := r :: List.replicate 15 emptyRecord, arb := arb } }
def freePort : Arbiter := ⟨none, none, none, none, false, false⟩
theorem witness_LineBoundary_credits :
    (boundary .printing ready0 [⟨1, 5, 5, 7, false⟩] freePort).pe.job.map (fun j => j.comp.map (fun c => (c.filling, j.card.width - c.column))) =
      some (some (false, 0)) ∧ (boundary .printing ready0 [] { freePort with busy := some (.fill ⟨1, 5, 5, 4⟩ true) }).ps.arb.busy =
      some (.fill ⟨1, 5, 5, 4⟩ true) ∧ (boundary .printing ready0 [] { freePort with shadowReq := waitingD }).ps.arb.shadowReq = waitingD ∧
    (boundary .printing ready0 [] { freePort with loaderReq := waitingW }).spb = ⟨[], none, 0⟩ ∧
    (∀ e ∈ [(⟨1, 5, 5, 7, false⟩ : ShadowEntry)], 1 ≤ e.id) := by decide +kernel
/-- R39: at a boundary the first grant of a free port takes one of the two credits. -/
theorem test_boundary_credits : [(⟨[⟨1, 5, 5, 7, false⟩], freePort⟩ : List ShadowEntry × Arbiter), ⟨[], { freePort with loaderReq := waitingW }⟩,
      ⟨[], { freePort with busy := some (.fill ⟨1, 5, 5, 4⟩ true) }⟩].map (fun x =>
        let t := next .lineBoundary (boundary .printing ready0 x.1 x.2); (t.ps.arb.shadowCredit, t.ps.arb.loaderCredit)) =
    [(false, true), (true, false), (true, true)] := by decide +kernel
theorem witness_LineBoundary_ending : NotFreed 1 (boundary .ending { ready0 with refs := 1 } [⟨1, 5, 5, 7, false⟩] freePort) ∧
    (boundary .ending { ready0 with state := .retiring, refs := 1 } [⟨1, 5, 5, 7, false⟩] freePort).ps.records[1 - 1]? =
      some { ready0 with state := .retiring, refs := 1 } ∧
    NoLoadFor 1 (boundary .ending { ready0 with state := .retiring, refs := 1 } [⟨1, 5, 5, 7, false⟩] freePort) :=
  ⟨.inl (by decide +kernel), rfl, noLoad_of rfl rfl⟩
/-- R48: the boundary of an ENDING job makes its entries VISIBLE. -/
theorem test_boundary_ending : let t := next .lineBoundary (boundary .ending { ready0 with refs := 1 } [⟨1, 5, 5, 7, false⟩] freePort)
    (t.spb.entries.map (·.visible), t.ps.records.head?.map (fun r => (r.version, r.refs)), t.pe.state) = ([true], some (8, 0), .idle) := by
  decide +kernel
def due (fallen : Nat) (slots : List LineSlot) : State :=
  withJob fun j => { j with fallen := fallen, reached := fallen + 1, cursor := fallen + 1, slots := slots }
theorem witness_LineDue : (due 0 [⟨0, 7, [[5, 6, 7, 8], [1, 2, 3, 4]]⟩]).power.mainOn = true ∧ (due 0 []).pe.state = .printing ∧
    (due 0 []).setup = some g0 ∧ (due 0 []).pe.job.map (fun j => (j.fallen, j.reached, j.nOut)) = some (0, 1, 3) ∧
    (due 2 []).pe.job.map (fun j => (j.fallen + 1, j.reached, j.nOut)) = some (3, 3, 3) ∧
    (∀ b ∈ printing.pe.bars.take g0.bars, b.ready = true ∧ 1 ≤ b.room) ∧
    (profileOf (due 2 []) job0.card.profileId).state ≠ .retiring ∧ (computed id).pe.job.map (fun j => (j.reached, j.fallen)) = some (0, 0) := by
  decide +kernel
theorem test_line_due : (next .lineDue (due 0 [⟨0, 7, [[5, 6, 7, 8], [1, 2, 3, 4]]⟩])).pe.seq = 1 ∧
    (next .lineDue (due 0 [⟨0, 7, [[5, 6, 7, 8], [1, 2, 3, 4]]⟩])).ports.head? = some (.headLine 0
      ([[5, 1], [6, 2], [7, 3], [8, 4]].map fun l => l ++ List.replicate 14 0)) ∧
    (next .lineDue (due 0 [])).tmap.segs.map (fun g => (g.late, g.flags.late, g.spoil)) = [(1, true, none)] ∧
    (next .lineDue (due 2 [])).tmap.segs.map (·.endAt) = [some 10000300] ∧
    hostByte (next .lineDue (due 2 [])) 0x9008 = some 3 := by decide +kernel

/-- The last line sent, or late with its computation still running, or through a RETIRING profile. -/
theorem witness_LineDue_last :
    (due 2 [⟨2, 7, [[5, 6, 7, 8], [1, 2, 3, 4]]⟩]).pe.job.bind (fun j => j.slots.find? (fun l => l.line == j.fallen)) =
      some ⟨2, 7, [[5, 6, 7, 8], [1, 2, 3, 4]]⟩ ∧ (due 2 []).pe.job.map (fun j => (j.comp, j.slots)) = some (none, []) ∧
    (setJob (fun j => { j with comp := some (comp0 0 0 false) }) (due 2 [])).pe.job.bind (·.comp) = some (comp0 0 0 false) ∧
    NotFreed 1 (due 2 []) ∧ 0 < g0.pitch ∧ (strip 10000000 none).card = some ⟨9, 0x9000, 11, 8⟩ ∧
    (next .lineDue (due 2 [])).tmap.segs.find? (fun g => g.start == job0.start) =
      some { strip 10000000 (some 10000300) with late := 1, flags := { (strip 0 none).flags with late := true } } ∧
    (retiringPrint id (due 2 [])).ps.records[1 - 1]? = some { ready0 with state := .retiring, refs := 1 } ∧
    NoLoadFor 1 (retiringPrint id (due 2 [])) :=
  ⟨by decide +kernel, by decide +kernel, by decide +kernel, .inl (by decide +kernel), by decide, rfl, by decide +kernel, rfl,
    noLoad_of rfl rfl⟩
/-- R79, R179: the end after 3 lines, of 3 planned, with no line sent and one late, in the first-stage results. -/
theorem test_printed_card : ([(134, 3), (137, 3), (144, 2), (189, 3), (192, 2), (199, 1)].map fun x =>
      (List.range x.2).map fun i => hostByte (next .lineDue (due 2 [])) (0x9000 + x.1 + i)) =
    [[3, 0, 0], [3, 0, 0], [120, 0], [0, 0, 0], [1, 0], [0]].map fun l => l.map some := by decide +kernel
theorem test_last_line_sent : (next .lineDue (due 2 [⟨2, 7, [[5, 6, 7, 8], [1, 2, 3, 4]]⟩])).tmap.segs.map (fun g => (g.emitted, g.endAt)) =
    [(1, some 10000300)] ∧ (next .lineDue (retiringPrint id (due 2 []))).ps.records[0]? = some emptyRecord := by decide +kernel

theorem witness_StatusPageWrite : up.power.mainOn = true ∧ up.regs.bookBase ≠ 0 ∧ State.reset.regs.bookBase = 0 ∧
    up.ps.records.length = 16 ∧ up.hc.zones[3]? = some zone0 ∧ 3 < zonesInUse up ∧ zonesInUse up ≤ 4 ∧ up.setup ≠ none := by
  decide +kernel
theorem witness_StatusPageWrite_sections : up.su.inputs.length = 8 ∧ up.su.inputs[7]? = some input0 ∧ up.tc.axes.length = 4 ∧
    up.tc.axes[3]? = some axis0 ∧ wrapped.tc.fabrics[0]? = some ⟨some fabricFigs, 1⟩ ∧
    (shadowed true none up).spb.entries[0]? = some ⟨1, 5, 5, 7, true⟩ ∧ (shadowed true none up).spb.entries.length ≤ 1 := by
  decide +kernel
/-- Chapter 12: the counters and requests of the shadow buffer's section, the due coordinates and the roll counters of the splices'. -/
theorem test_page_sections : let t := next .statusPageWrite { joined with spb := ⟨[], none, 0⟩ }
    ([(50, 1), (896, 2), (1345, 2), (1630, 7), (1642, 2), (1644, 5)].map fun x =>
      (List.range x.2).map fun i => hostByte t (0x101000 + x.1 + i)) =
    [[1], [255, 255], [144, 1], le 6 15000000 ++ [255], [1, 0], le 4 11999 ++ [1]].map fun l => l.map some := by decide +kernel

/-- The laws at reset, and a step from there: the hypotheses of the statements about every step. -/
theorem witness_Steps : StoreCanonical State.reset ∧ FaultsAgree State.reset ∧ WithinLimits State.reset ∧ HaltAgrees State.reset ∧
    step State.reset = .next { State.reset with clock := 1 } := by
  refine ⟨by unfold StoreCanonical; decide, ?_, ?_, ?_, rfl⟩
  · unfold FaultsAgree; decide
  · unfold WithinLimits; decide +kernel
  · unfold HaltAgrees; decide
theorem witness_Steps_store : StoreLaws (pendingAt .ready) ∧
    step { pendingAt .ready with pending := [.lookup] } = .next (next .lookup (pendingAt .ready)) :=
  ⟨storeLaws_pendingAt (.inl rfl), rfl⟩
theorem going_records : ∀ r ∈ going.ps.records, ∀ h, r.header = some h → h.tol < 100 := by
  rw [show going.ps.records = ready0 :: List.replicate 15 emptyRecord from rfl]
  simp [ready0, header0, emptyRecord]
theorem witness_Steps_speed : SpeedLaw going ∧ step { going with pending := [.rampPeriod] } = .next (next .rampPeriod going) :=
  ⟨⟨by simp [going, strip, InWindow], by simp [going], fun _ => ⟨g0, rfl, by decide, by decide⟩, fun _ => ⟨g0, rfl, by decide, by decide⟩,
    by simp [going], going_records⟩, rfl⟩
theorem witness_Steps_heat : HeatLaw going ∧ step { going with pending := [.heaterWindow] } = .next (next .heaterWindow going) :=
  ⟨⟨by simp [going, up, zone0, resetZone], by simp [going], by simp [going]⟩, rfl⟩
theorem witness_Steps_card : EngineLaw (holding (dropCard 1) up) ∧
    step { holding (dropCard 1) up with pending := [.drop] } = .next (next .drop (holding (dropCard 1) up)) :=
  ⟨engineLaw_holding _ rfl, rfl⟩
theorem witness_EveryCommandAnswers : ∃ t, step { up with pending := [.softReset] } = .next t := ⟨_, rfl⟩

end Sys2Proof.Tests
end

section
/-! PROOFS. Which operations leave the store's memory as it was, and what a write to the store leaves in the node cache (R53). -/

namespace Sys2Proof.Machine

/-! ## Lines of the node cache -/

theorem modifyNth_getElem?_ne {α : Type} {l : List α} {n m : Nat} {f : α → α} (h : m ≠ n) : (modifyNth l n f)[m]? = l[m]? := by
  induction l generalizing n m with
  | nil => simp [modifyNth]
  | cons x xs ih =>
    cases n with
    | zero => cases m with
      | zero => exact absurd rfl h
      | succ m => rfl
    | succ n => cases m with
      | zero => rfl
      | succ m => exact ih (by omega)

/-- What a cell holds in the cache depends on the cache alone. -/
theorem cacheHolds_congr {s t : State} (h : t.nc = s.nc) (cell : Nat) : cacheHolds t cell = cacheHolds s cell := by
  simp only [cacheHolds, h]

/-- What an invalidation leaves of the cache depends on the cache alone. -/
theorem cacheInvalidate_nc_congr {s t : State} (h : t.nc = s.nc) (cell : Nat) :
    (cacheInvalidate cell t).nc = (cacheInvalidate cell s).nc := by
  unfold cacheInvalidate
  rw [cacheHolds_congr h]
  split <;> simp [h]

/-- A cell write leaves the cache as the invalidation of its cell does (R53). -/
theorem writeCell_nc (s : State) (cell : Nat) (v : CellValue) : (writeCell cell v s).nc = (cacheInvalidate cell s).nc := by
  unfold writeCell
  refine cacheInvalidate_nc_congr ?_ cell
  rfl

/-- Lines at another index stand through an invalidation, whatever they hold (R53). -/
theorem cacheInvalidate_other (s : State) {cell n : Nat} (h : n ≠ cell % 256) :
    (cacheInvalidate cell s).nc.lines[n]? = s.nc.lines[n]? := by
  unfold cacheInvalidate
  split
  · exact modifyNth_getElem?_ne h
  · rfl

/-- A cell that no line holds is no cause to change a line (R53). -/
theorem cacheInvalidate_uncached {s : State} {cell : Nat} (h : cacheHolds s cell = none) : cacheInvalidate cell s = s := by
  simp [cacheInvalidate, h]

/-! ## A read of an undamaged cell -/

theorem damaged_zero (c : StoreCell) : damaged c ⟨0, 0⟩ = c := by simp [damaged]

/-- A cell written back as it reads leaves a canonical store as it was. -/
theorem storeWrite_storeRead {m : StoreMemory} (a : Nat) (h : storeWf m = true) : storeWrite m a (storeRead m a) = m := by
  induction m with
  | nil => simp [storeRead, storeWrite]
  | cons p rest ih =>
    obtain ⟨k, d⟩ := p
    obtain ⟨hd, habove, hrest⟩ := storeWf_cons.mp h
    unfold storeWrite
    rcases Nat.lt_trichotomy a k with hlt | rfl | hgt
    · have hr : storeRead ((k, d) :: rest) a = unwrittenCell := by
        rw [storeRead, if_neg (by omega), storeRead_above habove (by omega)]
      rw [if_pos hlt, if_pos hr]
    · have hr : storeRead ((a, d) :: rest) a = d := if_pos rfl
      rw [if_neg (by omega), if_pos rfl, hr, if_neg hd]
    · have hr : storeRead ((k, d) :: rest) a = storeRead rest a := if_neg (by omega)
      rw [if_neg (by omega), if_neg (by omega), hr, ih hrest]

/-- A read of an undamaged cell writes nothing. -/
theorem readCell_undamaged {s : State} (cell : Nat) (h : StoreCanonical s) : (readCell cell ⟨0, 0⟩ s).2.ps.mem = s.ps.mem := by
  simp only [readCell, damaged_zero]
  exact storeWrite_storeRead cell h

/-! ## Operations that leave the store's memory -/

@[simp] theorem portDone_mem (s : State) : (portDone s).ps.mem = s.ps.mem := rfl

@[simp] theorem setLoader_mem (s : State) (j : Option LoadJob) : (setLoader j s).ps.mem = s.ps.mem := rfl

@[simp] theorem readBlock_mem (s : State) (j : LoadJob) : (readBlock j s).ps.mem = s.ps.mem := rfl

@[simp] theorem stopLoader_mem (s : State) : (stopLoader s).ps.mem = s.ps.mem := rfl

@[simp] theorem stopPatch_mem (s : State) : (stopPatch s).ps.mem = s.ps.mem := rfl

@[simp] theorem requestShadow_mem (s : State) : (requestShadow s).ps.mem = s.ps.mem := by
  unfold requestShadow
  split <;> simp

@[simp] theorem requestLoad_mem (s : State) : (requestLoad s).ps.mem = s.ps.mem := by
  unfold requestLoad
  (repeat' split) <;> simp

@[simp] theorem pumpPort_mem (s : State) : (pumpPort s).ps.mem = s.ps.mem := by simp [pumpPort]

@[simp] theorem bumpVersions_mem (s : State) (ids : List Nat) : (bumpVersions ids s).ps.mem = s.ps.mem :=
  foldl_keeps (·.ps.mem) _ (fun s id => by simp) ids s

@[simp] theorem visibilityStep_mem (s : State) : (visibilityStep s).ps.mem = s.ps.mem := by simp [visibilityStep]

@[simp] theorem parityError_mem (s : State) (id node cell : Nat) (src : ParitySource) (marks : Byte) :
    (parityError id node cell src marks s).ps.mem = s.ps.mem := by simp [parityError]

@[simp] theorem completeFree_mem (s : State) (id : Nat) : (completeFree id s).ps.mem = s.ps.mem := by
  unfold completeFree
  split <;> simp

@[simp] theorem discardEntries_mem (s : State) (id : Nat) : (discardEntries id s).ps.mem = s.ps.mem := by
  unfold discardEntries
  dsimp only
  (repeat' split) <;> simp

@[simp] theorem freeRecord_mem (s : State) (id : Nat) : (freeRecord id s).ps.mem = s.ps.mem := by
  unfold freeRecord
  dsimp only
  split <;> simp

@[simp] theorem releaseProfile_mem (s : State) (id : Nat) : (releaseProfile id s).ps.mem = s.ps.mem := by
  unfold releaseProfile
  dsimp only
  split <;> simp

@[simp] theorem failQueued_mem (s : State) (rc : ResultCode) (fields : List (Nat × List Byte)) (q : QueuedPrint) :
    (failQueued rc fields q s).ps.mem = s.ps.mem := by simp [failQueued]

@[simp] theorem failQueuedOf_mem (s : State) (id : Nat) : (failQueuedOf id s).ps.mem = s.ps.mem :=
  foldl_keeps (·.ps.mem) _ (fun s q => by simp) _ s

@[simp] theorem flushQueue_mem (s : State) : (flushQueue s).ps.mem = s.ps.mem :=
  foldl_keeps (·.ps.mem) _ (fun s q => by simp) _ s

@[simp] theorem discardQueue_mem (s : State) : (discardQueue s).ps.mem = s.ps.mem :=
  foldl_keeps (·.ps.mem) _ (fun s q => by simp) _ _

@[simp] theorem abandonLine_mem (s : State) : (abandonLine s).ps.mem = s.ps.mem := by
  unfold abandonLine
  split <;> simp

@[simp] theorem endJob_mem (s : State) : (endJob s).ps.mem = s.ps.mem := by
  unfold endJob
  split <;> simp

/-! ## The halt, the parity errors and the edits -/

@[simp] theorem haltPrint_mem (s : State) : (haltPrint s).ps.mem = s.ps.mem := by simp [haltPrint]

@[simp] theorem takeHalt_mem (s : State) (cause : HaltCause) : (takeHalt cause s).ps.mem = s.ps.mem := by simp [takeHalt]

@[simp] theorem haltLine_mem (s : State) (cause : HaltCause) : (haltLine cause s).ps.mem = s.ps.mem := by
  unfold haltLine
  split <;> simp

@[simp] theorem noteParity_mem (s : State) (id node cell : Nat) (src : ParitySource) (marks : Byte) :
    (noteParity id node cell src marks s).ps.mem = s.ps.mem := by
  unfold noteParity
  split <;> simp

@[simp] theorem parityHalt_mem (s : State) (marks : Byte) : (parityHalt marks s).ps.mem = s.ps.mem := by
  unfold parityHalt
  split <;> simp

@[simp] theorem arriveEntry_mem (s : State) (id node cell : Nat) (v : CellValue) :
    (arriveEntry id node cell v s).ps.mem = s.ps.mem := by
  unfold arriveEntry
  dsimp only
  split <;> simp

@[simp] theorem applyEdit_mem (s : State) (p : PatchJob) (e : Edit) (h : ProfileHeader) :
    (applyEdit p e h s).ps.mem = s.ps.mem := by
  unfold applyEdit
  dsimp only
  (repeat' split) <;> simp

@[simp] theorem createEntry_mem (s : State) (id node cell k : Nat) (c : StoreCell) :
    (createEntry id node cell k c s).ps.mem = s.ps.mem := by
  unfold createEntry
  (repeat' split) <;> simp

/-! ## Lookups and the print -/

@[simp] theorem askFill_mem (s : State) (r : FillRequest) : (askFill r s).ps.mem = s.ps.mem := rfl

@[simp] theorem lookupCell_mem (s : State) (h : ProfileHeader) (r : FillRequest) : (lookupCell h r s).ps.mem = s.ps.mem := by
  unfold lookupCell
  split <;> simp

@[simp] theorem heldLookup_mem (s : State) : (heldLookup s).ps.mem = s.ps.mem := by
  rcases heldLookup_cases s with e | ⟨h, r, -, -, -, e⟩ <;> rw [e]
  exact askFill_mem s r

@[simp] theorem serveFill_mem (s : State) (r : FillRequest) (live : Bool) (c : StoreCell) :
    (serveFill r live c s).ps.mem = s.ps.mem := by
  unfold serveFill
  dsimp only
  (repeat' split) <;> simp

@[simp] theorem rasterFails_mem (s : State) (kind : ReadFailure) : (rasterFails kind s).ps.mem = s.ps.mem := by
  unfold rasterFails
  (repeat' split) <;> simp

@[simp] theorem finishPrint_mem (s : State) : (finishPrint s).ps.mem = s.ps.mem := by
  unfold finishPrint
  dsimp only
  split <;> simp

@[simp] theorem enqueuePrint_mem (s : State) (q : QueuedPrint) : (enqueuePrint q s).ps.mem = s.ps.mem := by
  unfold enqueuePrint
  dsimp only
  split <;> simp

@[simp] theorem printCard_mem (s : State) (c : CurrentCard) : (printCard c s).ps.mem = s.ps.mem := by
  unfold printCard
  dsimp only
  (repeat' split) <;> simp

/-! ## The loader and the freeing of records -/

@[simp] theorem acceptLoad_mem (s : State) (c : CurrentCard) : (acceptLoad c s).ps.mem = s.ps.mem := by
  unfold acceptLoad
  dsimp only
  (repeat' split) <;> simp

@[simp] theorem dispatchLoad_mem (s : State) (c : CurrentCard) : (dispatchLoad c s).ps.mem = s.ps.mem := by
  unfold dispatchLoad
  split <;> simp

@[simp] theorem loadDone_mem (s : State) (j : LoadJob) (h : ProfileHeader) : (loadDone j h s).ps.mem = s.ps.mem := by
  simp [loadDone]

@[simp] theorem advanceLoad_mem (s : State) : (advanceLoad s).ps.mem = s.ps.mem := by
  unfold advanceLoad
  dsimp only
  (repeat' split) <;> simp

theorem onLoadRead_mem {s : State} {f : LoadJob → State → State} (hf : ∀ j s, (f j s).ps.mem = s.ps.mem) :
    (onLoadRead s f).ps.mem = s.ps.mem := by
  unfold onLoadRead
  (repeat' split) <;> simp [hf]

@[simp] theorem loadReadFails_mem (s : State) : (loadReadFails s).ps.mem = s.ps.mem := onLoadRead_mem fun j s => by simp

@[simp] theorem abortLoad_mem (s : State) (id : Nat) : (abortLoad id s).ps.mem = s.ps.mem := by
  unfold abortLoad
  (repeat' split) <;> simp

@[simp] theorem dropCard_mem (s : State) (c : CurrentCard) : (dropCard c s).ps.mem = s.ps.mem := by
  unfold dropCard
  dsimp only
  (repeat' split) <;> simp

@[simp] theorem freeIfUnready_mem (s : State) (id : Nat) : (freeIfUnready id s).ps.mem = s.ps.mem := by
  unfold freeIfUnready
  dsimp only
  split <;> simp

@[simp] theorem freeUnready_mem (s : State) : (freeUnready s).ps.mem = s.ps.mem := by
  unfold freeUnready
  exact foldl_keeps (·.ps.mem) _ (fun s i => by simp) _ s

@[simp] theorem orphanMap_mem (s : State) : (orphanMap s).ps.mem = s.ps.mem := by simp [orphanMap]

@[simp] theorem linkDown_mem (s : State) : (linkDown s).ps.mem = s.ps.mem := by simp [linkDown]

/-! ## The line: heat, tension, inputs and settings -/

@[simp] theorem tripHalts_mem (s : State) (c : Settings) (n : Nat) : (tripHalts c n s).ps.mem = s.ps.mem := by
  unfold tripHalts
  split
  · exact foldl_keeps (·.ps.mem) _ (fun s _ => by simp) _ s
  · rfl

@[simp] theorem readAxis_mem (s : State) (frame : Option (List TensionReading)) (a : Axis) :
    (readAxis frame s a).ps.mem = s.ps.mem := by
  unfold readAxis
  dsimp only
  split <;> simp

@[simp] theorem foldl_offerFault_ps (l : List FaultInfo) (s : State) : (l.foldl (fun s f => offerFault f s) s).ps = s.ps :=
  foldl_keeps (·.ps) _ (fun s f => by simp) l s

@[simp] theorem foldl_readAxis_mem (frame : Option (List TensionReading)) (l : List Axis) (s : State) :
    (l.foldl (readAxis frame) s).ps.mem = s.ps.mem :=
  foldl_keeps (·.ps.mem) _ (fun s a => by simp) l s

@[simp] theorem inputEdge_mem (s : State) (i : LineInput) (active : Bool) : (inputEdge i active s).ps.mem = s.ps.mem := by
  unfold inputEdge
  (repeat' split) <;> simp

@[simp] theorem polarityEdge_mem (s before : State) (i : LineInput) : (polarityEdge before s i).ps.mem = s.ps.mem := by
  unfold polarityEdge
  split <;> simp

@[simp] theorem polarityEdges_mem (s before : State) : (polarityEdges before s).ps.mem = s.ps.mem :=
  foldl_keeps (·.ps.mem) _ (fun s i => by simp) _ s

@[simp] theorem setupCard_mem (s : State) (k : CurrentCard) : (setupCard k s).ps.mem = s.ps.mem := by
  unfold setupCard
  dsimp only
  (repeat' split) <;> simp [applySetup]

@[simp] theorem clearCard_mem (s : State) (c : CurrentCard) : (clearCard c s).ps.mem = s.ps.mem := by
  unfold clearCard
  dsimp only
  (repeat' split) <;> simp

@[simp] theorem reoffer_mem (s : State) (c : CurrentCard) : (reoffer c s).ps.mem = s.ps.mem := by
  unfold reoffer
  split <;> simp

/-! ## Commands -/

/-- A command whose effect leaves the store's memory leaves it, whether or not the supply is present. -/
theorem whenOn_mem {s t : State} {f : State → State} (h : whenOn s f = .next t) (hf : (f s).ps.mem = s.ps.mem) :
    t.ps.mem = s.ps.mem := by
  cases hon : s.power.mainOn with
  | true => rw [whenOn_on hon] at h; cases h; exact hf
  | false => rw [whenOn_off hon] at h; cases h; rfl

theorem onDispatch_mem {k : CardKind} {s t : State} {f : CurrentCard → State → State} (h : onDispatch k s f = .next t)
    (hf : ∀ c, (f c s).ps.mem = s.ps.mem) : t.ps.mem = s.ps.mem := by
  refine whenOn_mem h ?_
  (repeat' split) <;> simp [hf]

theorem onDrive_mem {n : Nat} {s t : State} {f : CurrentCard → State → State} (h : onDrive n s f = .next t)
    (hf : ∀ c, (f c s).ps.mem = s.ps.mem) : t.ps.mem = s.ps.mem := by
  refine onDispatch_mem h fun c => ?_
  (repeat' split) <;> simp [hf]

theorem controlWrite_mem (run : Bool) (interval : BitVec 8) (s : State) : (controlWrite run interval s).ps.mem = s.ps.mem := by
  unfold controlWrite
  dsimp only
  (repeat' split) <;> simp

theorem onChainRead_mem (link : Option (BitVec 64)) {s : State} {f : State → State} (hf : ∀ s, (f s).ps.mem = s.ps.mem) :
    (onChainRead link s f).ps.mem = s.ps.mem := by
  unfold onChainRead
  dsimp only
  (repeat' split) <;> simp [hf]

theorem chainReadFails_mem (link : Option (BitVec 64)) (s : State) : (chainReadFails link s).ps.mem = s.ps.mem := by
  refine onChainRead_mem link fun s => ?_
  dsimp only
  (repeat' split) <;> simp

theorem onListRead_mem {s : State} {f : PatchJob → State → State} (hf : ∀ p s, (f p s).ps.mem = s.ps.mem) :
    (onListRead s f).ps.mem = s.ps.mem := by
  unfold onListRead
  (repeat' split) <;> simp [hf]

theorem discardOldest_mem (s : State) : (discardOldest s).ps.mem = s.ps.mem := by
  unfold discardOldest
  (repeat' split) <;> simp

theorem execHeatPeriod_mem {s t : State} (h : execHeatPeriod s = .next t) : t.ps.mem = s.ps.mem := by
  refine whenOn_mem h ?_
  cases s.setup with
  | none => rfl
  | some c =>
    dsimp only
    split <;> simp

theorem execTensionPeriod_mem {s t : State} (h : execTensionPeriod s = .next t) : t.ps.mem = s.ps.mem :=
  whenOn_mem h (by simp)

/-- A lookup fill of an undamaged cell leaves a canonical store as it was. -/
theorem execLookupFillComplete_mem {s t : State} (hs : StoreCanonical s) (h : execLookupFillComplete ⟨0, 0⟩ s = .next t) :
    t.ps.mem = s.ps.mem := by
  refine whenOn_mem h ?_
  split
  · rename_i r live _
    have hread : (readCell r.cell ⟨0, 0⟩ (portDone s)).2.ps.mem = s.ps.mem := readCell_undamaged r.cell hs
    dsimp only
    split <;> simpa using hread
  · rfl

/-- A creation read of an undamaged cell leaves a canonical store as it was. -/
theorem execCreationReadComplete_mem {s t : State} (hs : StoreCanonical s) (h : execCreationReadComplete ⟨0, 0⟩ s = .next t) :
    t.ps.mem = s.ps.mem := by
  refine whenOn_mem h ?_
  split
  · rename_i id node cell k live _
    have hread : (readCell cell ⟨0, 0⟩ (portDone s)).2.ps.mem = s.ps.mem := readCell_undamaged cell hs
    dsimp only
    split <;> simpa using hread
  · rfl

/-- No command writes the store but the loader's and the drain's, a read that meets damage, and main power-on reset (R53). -/
theorem exec_mem {i : Instr} {s t : State} (h : exec i s = .next t) (hs : StoreCanonical s) (hload : i ≠ .loaderWriteComplete)
    (hdrain : i ≠ .drainWriteComplete) (hread : ∀ d, i = .lookupFillComplete d ∨ i = .creationReadComplete d → d = ⟨0, 0⟩)
    (hpower : ∀ z st, i ≠ .mainPowerOnReset z st) : t.ps.mem = s.ps.mem := by
  unfold exec at h
  cases i with
  | loaderWriteComplete => exact absurd rfl hload
  | drainWriteComplete => exact absurd rfl hdrain
  | mainPowerOnReset z st => exact absurd rfl (hpower z st)
  | lookupFillComplete d =>
    cases hread d (.inl rfl)
    exact execLookupFillComplete_mem hs h
  | creationReadComplete d =>
    cases hread d (.inr rfl)
    exact execCreationReadComplete_mem hs h
  -- Resets, supplies and registers.
  | softReset =>
    have hmem : (resetFrames s (softReset s)).ps.mem = (softReset s).ps.mem := by simp only [resetFrames_frame]
    exact whenOn_mem h hmem
  | keepAlivePowerOnReset | mainSupplyLoss => cases h; rfl
  | linkReset => exact whenOn_mem h (by simp)
  | runSet | runClear | watchInterval => exact whenOn_mem h (controlWrite_mem _ _ s)
  | registerWrite => exact whenOn_mem h rfl
  | irqEnable => exact whenOn_mem h (by simp)
  | eventAck => exact whenOn_mem h (by dsimp only; split <;> simp [discardOldest_mem])
  | bookBase => exact whenOn_mem h (by dsimp only; (repeat' split) <;> simp)
  | wake | watchTimerExpiry | statusPageWrite => exact whenOn_mem h (by split <;> simp)
  -- The chain of cards.
  | chainReadComplete link => exact whenOn_mem h (onChainRead_mem link fun s => by dsimp only; split <;> simp)
  | cardReadError link | chainReadTimeout link => exact whenOn_mem h (chainReadFails_mem link s)
  | cardReoffer => exact whenOn_mem h (by split <;> simp)
  | setup | heat | fabric | drop | load | print | splice | fence => exact onDispatch_mem h fun c => by simp
  | patch => exact onDispatch_mem h fun c => by split <;> simp
  | start | speed | stop | halt | clear => exact onDrive_mem h fun c => by simp
  -- The web and the line.
  | positionUpdate => exact whenOn_mem h (by simp)
  | backTravel | drumEncoderReport | heaterWindow => exact whenOn_mem h rfl
  | tensionFrame | zoneFrame | heaterOnTimeEnd | rawLevelChange => exact whenOn_mem h (by split <;> simp)
  | leadAtNip | trailAtNip | leadExit | trailExit | jointLeavesWrap | fabricJointDue => exact whenOn_mem h (by split <;> simp)
  | rollCountRequest | drumTravelIncrement | handoverLimit => exact whenOn_mem h (by split <;> simp)
  | spliceTimeout | rampPeriod | inputFilterExpiry => exact whenOn_mem h (by dsimp only; (repeat' split) <;> simp)
  | heatPeriod => exact execHeatPeriod_mem h
  | tensionPeriod => exact execTensionPeriod_mem h
  -- The Print Engine, the Profile Store and the Shadow Patch Buffer.
  | barReport | barSilent | freeing | lookup => exact whenOn_mem h (by split <;> simp)
  | printStart | rasterReadComplete | editApply => exact whenOn_mem h (by (repeat' split) <;> simp)
  | lineComputationBegin | lineBoundary | lineDue => exact whenOn_mem h (by dsimp only; (repeat' split) <;> simp)
  | rasterReadError | rasterReadTimeout | loadReadError | loadReadTimeout | patchReadError | editListReadTimeout =>
    exact whenOn_mem h (by simp)
  | loadReadComplete => exact whenOn_mem h (onLoadRead_mem fun j s => by simp)
  | editListReadComplete => exact whenOn_mem h (onListRead_mem fun p s => by dsimp only; (repeat' split) <;> simp)

/-! ## The two writes (R53) -/

/-- A completed loader write leaves the store and the cache as the write of its cell does, whether or not its load still runs. -/
theorem loaderWriteComplete_writes {s : State} {id cell : Nat} {v : CellValue} {live : Bool} (hon : s.power.mainOn = true)
    (hb : s.ps.arb.busy = some (.loader ⟨id, cell, v⟩ live)) : ∃ t, exec .loaderWriteComplete s = .next t ∧
      t.nc = (writeCell cell v s).nc ∧ t.ps.mem = (writeCell cell v s).ps.mem := by
  unfold exec execLoaderWriteComplete
  refine ⟨_, whenOn_on hon, ?_⟩
  rw [hb]
  cases live <;> simp

/-- A completed drain write leaves the store and the cache as the write of its cell does, whether or not its entry still stands. -/
theorem drainWriteComplete_writes {s : State} {id cell : Nat} {v : CellValue} {live : Bool} (hon : s.power.mainOn = true)
    (hb : s.ps.arb.busy = some (.shadow (.drain id cell v) live)) : ∃ t, exec .drainWriteComplete s = .next t ∧
      t.nc = (writeCell cell v s).nc ∧ t.ps.mem = (writeCell cell v s).ps.mem := by
  unfold exec execDrainWriteComplete
  refine ⟨_, whenOn_on hon, ?_⟩
  rw [hb]
  cases live <;> simp

/-- A state with the store and the cache of a cell write is clean for that cell, and its lines for other cells stand (R53). -/
theorem clean_of_writeCell {s t : State} {cell : Nat} {v : CellValue} (hnc : t.nc = (writeCell cell v s).nc)
    (hmem : t.ps.mem = (writeCell cell v s).ps.mem) :
    cacheHolds t cell = none ∧ (∀ n, n ≠ cell % 256 → t.nc.lines[n]? = s.nc.lines[n]?) ∧
      (cacheHolds s cell = none → t.nc.lines = s.nc.lines) ∧ (StoreCanonical s → storeRead t.ps.mem cell = freshCell v) := by
  have hinv : t.nc = (cacheInvalidate cell s).nc := hnc.trans (writeCell_nc s cell v)
  refine ⟨?_, fun n hn => ?_, fun h => ?_, fun h => ?_⟩
  · rw [cacheHolds_congr hnc, writeCell_uncached]
  · rw [hinv, cacheInvalidate_other s hn]
  · rw [hinv, cacheInvalidate_uncached h]
  · rw [hmem, writeCell_read s cell cell v h, if_pos rfl]

/-- Settles O48: the two writes by what a cell write leaves, every other command by its case. -/
theorem cacheIsCleanAfterEveryWrite : Obligations.CacheIsCleanAfterEveryWrite := by
  refine ⟨fun s i cell v hon hi => ?_, fun i s t h hs hload hdrain hread hpower => exec_mem h hs hload hdrain hread hpower⟩
  rcases hi with ⟨rfl, id, live, hb⟩ | ⟨rfl, id, live, hb⟩
  · obtain ⟨t, h, hnc, hmem⟩ := loaderWriteComplete_writes hon hb
    exact ⟨t, h, clean_of_writeCell hnc hmem⟩
  · obtain ⟨t, h, hnc, hmem⟩ := drainWriteComplete_writes hon hb
    exact ⟨t, h, clean_of_writeCell hnc hmem⟩

end Sys2Proof.Machine
end

section
/-! PROOFS. The dispatch of a DRIVE card by its action, how such a card ends, and what START, SPEED and STOP do in each drive state
(R115 to R117). -/

namespace Sys2Proof.Machine

/-! ## The dispatch by the action (R178) -/

theorem within_eq_true {lo v hi : Nat} : within lo v hi = true ↔ lo ≤ v ∧ v ≤ hi := by simp [within]

theorem within_eq_false {lo v hi : Nat} : within lo v hi = false ↔ v < lo ∨ hi < v := by simp [within]; omega

theorem Dispatching.not_stalled {k : CardKind} {c : CurrentCard} {s : State} (h : Dispatching k c s) : s.ce.state ≠ .stalled := by
  obtain ⟨-, hd, -⟩ := h
  simp [hd]

/-- A listed action is acted on by the command of that action. -/
theorem onDrive_action {n : Nat} {c : CurrentCard} {s : State} {f : CurrentCard → State → State} (h : Dispatching .drive c s)
    (ha : driveAction c = n) (hn : 1 ≤ n ∧ n ≤ 5) : onDrive n s f = .next (f c s) := by
  subst ha
  obtain ⟨hon, hd, hc, hk⟩ := h
  rw [onDrive, onDispatch_dispatching hon hd hc hk]
  simp [within_eq_true.mpr hn]

/-- An action that is not listed fails whichever of the five commands takes the card (log entry 24). -/
theorem onDrive_unlisted {n : Nat} {c : CurrentCard} {s : State} {f : CurrentCard → State → State} (h : Dispatching .drive c s)
    (ha : driveAction c = 0 ∨ 5 < driveAction c) : onDrive n s f = .next (failField 16 s) := by
  obtain ⟨hon, hd, hc, hk⟩ := h
  have hw : within 1 (driveAction c) 5 = false := within_eq_false.mpr (by omega)
  rw [onDrive, onDispatch_dispatching hon hd hc hk]
  simp [hw]

/-- Each of the five commands is the dispatch of a DRIVE card by an action. -/
theorem exec_eq_onDrive {i : Instr} (hi : i ∈ [Instr.start, .speed, .stop, .halt, .clear]) (s : State) :
    ∃ n f, exec i s = onDrive n s f := by
  simp only [List.mem_cons, List.not_mem_nil, or_false] at hi
  rcases hi with rfl | rfl | rfl | rfl | rfl
  · exact ⟨1, startCard, rfl⟩
  · exact ⟨2, speedCard, rfl⟩
  · exact ⟨3, stopCard, rfl⟩
  · exact ⟨4, fun c s => driveDone c [] (haltLine .host s), rfl⟩
  · exact ⟨5, clearCard, rfl⟩

/-! ## How a DRIVE card ends -/

/-- A DRIVE card is DONE with the drive as given: its results name the action and that drive, and of the rest of the part only the Print
Engine may change, as far as `keeps` allows. -/
def DriveEnds (keeps : State → State → Prop) (action : Nat) (c : CurrentCard) (d : Drive) (s t : State) : Prop :=
  t.wd = d ∧
    DispatchFinal c .done .ok [(128, le 1 action), (129, [d.state.code]), (130, le 2 d.requested), (132, le 2 d.running)] s t ∧
    t.su = raised [.cardFinal] s.su ∧ SameBase s t ∧ SameStore s t ∧ keeps s t ∧ t.web = s.web ∧ t.hc = s.hc ∧ t.tc = s.tc ∧
    t.rc = s.rc

theorem failField_fails {k : CardKind} {c : CurrentCard} {s : State} (off : Nat) (h : Dispatching k c s) :
    FailsCard c .badField [(128, le 2 off)] s (failField off s) := by
  have hs := h.not_stalled
  obtain ⟨-, -, hc, -⟩ := h
  exact failCurrent_fails hc hs

theorem driveWrong_fails {k : CardKind} {c : CurrentCard} {s : State} (more : List (Nat × List Byte)) (h : Dispatching k c s) :
    FailsCard c .wrongState (driveResults (driveAction c) s ++ more) s (driveWrong c more s) := by
  have hs := h.not_stalled
  obtain ⟨-, -, hc, -⟩ := h
  exact failCurrent_fails hc hs

/-- The change of the drive reaches neither the engine nor host memory, so the card ends as from the state before it. -/
theorem driveDone_ends {k : CardKind} {c : CurrentCard} {s : State} (f : Drive → Drive) (h : Dispatching k c s) :
    DriveEnds SamePrint (driveAction c) c (f s.wd) s (driveDone c [] (setDrive f s)) := by
  have hs := h.not_stalled
  obtain ⟨-, -, hc, -⟩ := h
  obtain ⟨hfinal, hsu⟩ := finishCurrent_final (c := c) (st := .done) (rc := .ok) (s := setDrive f s)
    (fields := driveResults (driveAction c) (setDrive f s) ++ []) hc hs
  refine ⟨?_, hfinal, hsu, ?_⟩
  · simp [setDrive]
  · simp [SameBase, SameStore, SamePrint]

/-- What a command leaves of the Transit Map and the Print Engine, a start test after it leaves but for the hold. -/
theorem samePrintButHold_touchStart {s t : State} (h : SamePrint s t) : SamePrintButHold s (touchStart t) := by
  obtain ⟨hmap, hpe⟩ := h
  obtain ⟨htouch, hhold⟩ := touchStart_hold t
  unfold SamePrintButHold SameButHold at *
  exact ⟨htouch.trans hmap, hpe ▸ hhold⟩

/-- Nothing of how a card has ended is reached by a start test. -/
theorem dispatchFinal_touchStart {c : CurrentCard} {st : CardState} {rc : ResultCode} {results : List (Nat × List Byte)} {s t : State}
    (h : DispatchFinal c st rc results s t) : DispatchFinal c st rc results s (touchStart t) := by
  have hbyte : ∀ a, hostByte (touchStart t) a = hostByte t a := fun a => by simp [hostByte]
  simpa [DispatchFinal, WrittenFinal, CardFinal, HostHolds, OnlyWrites, hasEvent, hbyte] using h

theorem DriveEnds.after_touchStart {action : Nat} {c : CurrentCard} {d : Drive} {s t : State} (h : DriveEnds SamePrint action c d s t) :
    DriveEnds SamePrintButHold action c d s (touchStart t) := by
  obtain ⟨hwd, hfinal, hsu, hbase, hstore, hprint, hline⟩ := h
  refine ⟨?_, dispatchFinal_touchStart hfinal, ?_, ?_, ?_, samePrintButHold_touchStart hprint, ?_⟩
  · simpa using hwd
  · simpa using hsu
  · simpa [SameBase] using hbase
  · simpa [SameStore] using hstore
  · simpa using hline

theorem DriveEnds.butHold {action : Nat} {c : CurrentCard} {d : Drive} {s t : State} (h : DriveEnds SamePrint action c d s t) :
    DriveEnds SamePrintButHold action c d s t := by
  obtain ⟨hwd, hfinal, hsu, hbase, hstore, ⟨hmap, hpe⟩, hline⟩ := h
  exact ⟨hwd, hfinal, hsu, hbase, hstore, ⟨hmap, by simp [SameButHold, hpe]⟩, hline⟩

/-! ## START, SPEED and STOP -/

/-- The check of the speed that START and SPEED share: v_min to the v_max of the last SETUP (R115, R116). -/
theorem speedCheck_eq {α : Type} {s : State} {g : Settings} {v : Nat} {bad good : α} (h : s.setup = some g) :
    (if !within vMin v (vMaxOf s) then bad else good) = if 10 ≤ v ∧ v ≤ g.vMax then good else bad := by
  have hmax : vMaxOf s = g.vMax := by simp [vMaxOf, h]
  by_cases hv : 10 ≤ v ∧ v ≤ g.vMax
  · rw [hmax, if_pos hv, vMin, within_eq_true.mpr hv]
    rfl
  · rw [hmax, if_neg hv, vMin, within_eq_false.mpr (by omega)]
    rfl

theorem guardHolds_iff {s : State} :
    guardHolds s = true ↔ ∃ g, s.setup = some g ∧ g.haltOnGuard = true ∧ (inputOf s .guard).countsActive = true := by
  cases h : s.setup <;> simp [guardHolds, h]

theorem not_guardHolds {s : State} {g : Settings} (hg : s.setup = some g)
    (h : g.haltOnGuard = false ∨ (inputOf s .guard).countsActive = false) : guardHolds s = false := by
  rcases h with h | h <;> simp [guardHolds, hg, h]

theorem startCard_refused {c : CurrentCard} {s : State} (h : s.wd.state ≠ .idle ∨ s.setup = none ∨ guardHolds s = true) :
    startCard c s = driveWrong c [] s := by
  rcases h with h | h | h <;> simp [startCard, h]

/-- Where START is not refused it begins a run at a speed in range (R115). -/
theorem startCard_allowed {c : CurrentCard} {s : State} {g : Settings} (hidle : s.wd.state = .idle) (hg : s.setup = some g)
    (hguard : guardHolds s = false) : startCard c s = if 10 ≤ cardSpeed c ∧ cardSpeed c ≤ g.vMax then
      touchStart (driveDone c [] (setDrive (fun d => { d with state := .starting, requested := cardSpeed c }) s))
    else failField 18 s := by
  rw [startCard, if_neg (by simp [hidle, hg, hguard]), speedCheck_eq hg]

theorem speedCard_moving {c : CurrentCard} {s : State} {g : Settings} (hg : s.setup = some g)
    (h : s.wd.state = .starting ∨ s.wd.state = .running ∨ s.wd.state = .draining) :
    speedCard c s = if 10 ≤ cardSpeed c ∧ cardSpeed c ≤ g.vMax then
      driveDone c [] (setDrive (fun d => { d with requested := cardSpeed c }) s)
    else failField 18 s := by
  rw [← speedCheck_eq hg]
  rcases h with h | h | h <;> simp only [speedCard, h]

theorem speedCard_refused {c : CurrentCard} {s : State}
    (h : s.wd.state = .idle ∨ s.wd.state = .rampdown ∨ s.wd.state = .halted) : speedCard c s = driveWrong c [] s := by
  rcases h with h | h | h <;> simp [speedCard, h]

theorem stopCard_drains {c : CurrentCard} {s : State} (h : s.wd.state = .starting ∨ s.wd.state = .running) :
    stopCard c s = touchStart (driveDone c [] (setDrive (fun d => { d with state := .draining }) s)) := by
  rcases h with h | h <;> simp [stopCard, h]

theorem stopCard_no_effect {c : CurrentCard} {s : State} (h : ¬(s.wd.state = .starting ∨ s.wd.state = .running))
    (hh : s.wd.state ≠ .halted) : stopCard c s = driveDone c [] s := by
  cases hs : s.wd.state with
  | idle | draining | rampdown => simp [stopCard, hs]
  | starting | running => simp [hs] at h
  | halted => exact absurd hs hh

theorem stopCard_halted {c : CurrentCard} {s : State} (h : s.wd.state = .halted) : stopCard c s = driveWrong c [] s := by
  simp [stopCard, h]

section
variable {c : CurrentCard} {s : State}

/-- A command that only checks the speed takes effect at a speed in range and names the speed at any other (log entry 40). -/
theorem speedChecked {k : CardKind} {i : Instr} {vMax : Nat} {good : State} {effect : State → Prop} (hd : Dispatching k c s)
    (hexec : exec i s = .next (if 10 ≤ cardSpeed c ∧ cardSpeed c ≤ vMax then good else failField 18 s)) (hgood : effect good) :
    (10 ≤ cardSpeed c → cardSpeed c ≤ vMax → ∃ t, exec i s = .next t ∧ effect t) ∧
    (cardSpeed c < 10 ∨ vMax < cardSpeed c → ∃ t, exec i s = .next t ∧ FailsCard c .badField [(128, le 2 18)] s t) := by
  constructor
  · intro hlo hhi
    rw [if_pos ⟨hlo, hhi⟩] at hexec
    exact ⟨_, hexec, hgood⟩
  · intro hv
    rw [if_neg (by omega)] at hexec
    exact ⟨_, hexec, failField_fails 18 hd⟩

/-- START in IDLE, with settings and no guard that holds it back, begins a run or names the speed (R115; log entry 40). -/
theorem exec_start_allowed {g : Settings} (hd : Dispatching .drive c s) (ha : driveAction c = 1) (hidle : s.wd.state = .idle)
    (hg : s.setup = some g) (hguard : guardHolds s = false) :
    (10 ≤ cardSpeed c → cardSpeed c ≤ g.vMax → ∃ t, exec .start s = .next t ∧
      DriveEnds SamePrintButHold 1 c { s.wd with state := .starting, requested := cardSpeed c } s t) ∧
    (cardSpeed c < 10 ∨ g.vMax < cardSpeed c → ∃ t, exec .start s = .next t ∧ FailsCard c .badField [(128, le 2 18)] s t) := by
  have hexec : exec .start s = .next (startCard c s) := onDrive_action hd ha (by decide)
  rw [startCard_allowed hidle hg hguard] at hexec
  exact speedChecked hd hexec (ha ▸ driveDone_ends _ hd).after_touchStart

theorem exec_start_refused (hd : Dispatching .drive c s) (ha : driveAction c = 1)
    (h : s.wd.state ≠ .idle ∨ s.setup = none ∨ guardHolds s = true) :
    ∃ t, exec .start s = .next t ∧ FailsCard c .wrongState (driveResults 1 s) s t := by
  have hexec : exec .start s = .next (startCard c s) := onDrive_action hd ha (by decide)
  rw [startCard_refused h] at hexec
  exact ⟨_, hexec, ha ▸ driveWrong_fails [] hd⟩

/-- SPEED while the drive moves sets the requested speed alone, or names the speed (R116; log entry 40). -/
theorem exec_speed_moving {g : Settings} (hd : Dispatching .drive c s) (ha : driveAction c = 2) (hg : s.setup = some g)
    (hm : s.wd.state = .starting ∨ s.wd.state = .running ∨ s.wd.state = .draining) :
    (10 ≤ cardSpeed c → cardSpeed c ≤ g.vMax → ∃ t, exec .speed s = .next t ∧
      DriveEnds SamePrint 2 c { s.wd with requested := cardSpeed c } s t) ∧
    (cardSpeed c < 10 ∨ g.vMax < cardSpeed c → ∃ t, exec .speed s = .next t ∧ FailsCard c .badField [(128, le 2 18)] s t) := by
  have hexec : exec .speed s = .next (speedCard c s) := onDrive_action hd ha (by decide)
  rw [speedCard_moving hg hm] at hexec
  exact speedChecked hd hexec (ha ▸ driveDone_ends _ hd)

theorem exec_speed_refused (hd : Dispatching .drive c s) (ha : driveAction c = 2)
    (h : s.wd.state = .idle ∨ s.wd.state = .rampdown ∨ s.wd.state = .halted) :
    ∃ t, exec .speed s = .next t ∧ FailsCard c .wrongState (driveResults 2 s) s t := by
  have hexec : exec .speed s = .next (speedCard c s) := onDrive_action hd ha (by decide)
  rw [speedCard_refused h] at hexec
  exact ⟨_, hexec, ha ▸ driveWrong_fails [] hd⟩

/-- The state a STOP leaves outside HALTED (R117). -/
def stoppedState (d : DriveState) : DriveState := if d = .starting ∨ d = .running then .draining else d

/-- STOP outside HALTED drains a run that has started and is DONE without effect elsewhere (R117). -/
theorem exec_stop_done (hd : Dispatching .drive c s) (ha : driveAction c = 3) (hh : s.wd.state ≠ .halted) :
    ∃ t, exec .stop s = .next t ∧ DriveEnds SamePrintButHold 3 c { s.wd with state := stoppedState s.wd.state } s t := by
  have hexec : exec .stop s = .next (stopCard c s) := onDrive_action hd ha (by decide)
  unfold stoppedState
  by_cases h : s.wd.state = .starting ∨ s.wd.state = .running
  · rw [stopCard_drains h] at hexec
    rw [if_pos h]
    exact ⟨_, hexec, (ha ▸ driveDone_ends _ hd).after_touchStart⟩
  · rw [stopCard_no_effect h hh] at hexec
    rw [if_neg h]
    exact ⟨_, hexec, (ha ▸ driveDone_ends id hd).butHold⟩

theorem exec_stop_halted (hd : Dispatching .drive c s) (ha : driveAction c = 3) (hh : s.wd.state = .halted) :
    ∃ t, exec .stop s = .next t ∧ FailsCard c .wrongState (driveResults 3 s) s t := by
  have hexec : exec .stop s = .next (stopCard c s) := onDrive_action hd ha (by decide)
  rw [stopCard_halted hh] at hexec
  exact ⟨_, hexec, ha ▸ driveWrong_fails [] hd⟩

theorem exec_unlisted_action {i : Instr} (hd : Dispatching .drive c s) (ha : driveAction c = 0 ∨ 5 < driveAction c)
    (hi : i ∈ [Instr.start, .speed, .stop, .halt, .clear]) :
    ∃ t, exec i s = .next t ∧ FailsCard c .badField [(128, le 2 16)] s t := by
  obtain ⟨n, f, hexec⟩ := exec_eq_onDrive hi s
  exact ⟨_, hexec.trans (onDrive_unlisted hd ha), failField_fails 16 hd⟩

end

/-- Settles O24: each action by the drive state it finds. -/
theorem startSpeedAndStop : Obligations.StartSpeedAndStop := by
  refine ⟨fun c s hd => ⟨?start, ?startRefused, ?unlisted⟩, fun c s hd => ⟨?speed, ?speedRefused, ?stop, ?stopHalted⟩⟩
  case start =>
    intro g ha hidle hg hguard
    exact exec_start_allowed hd ha hidle hg (not_guardHolds hg hguard)
  case startRefused =>
    intro ha h
    exact exec_start_refused hd ha (h.imp_right (Or.imp_right guardHolds_iff.mpr))
  case unlisted => exact fun ha i hi => exec_unlisted_action hd ha hi
  case speed =>
    intro ha hm
    constructor
    · rintro ⟨g, hg, hlo, hhi⟩
      exact (exec_speed_moving hd ha hg hm).1 hlo hhi
    · exact fun g hg => (exec_speed_moving hd ha hg hm).2
  case speedRefused => exact fun ha h => exec_speed_refused hd ha h
  case stop =>
    intro ha hh
    obtain ⟨t, hexec, hwd, hends⟩ := exec_stop_done hd ha hh
    exact ⟨t, hexec, hwd, by rw [hwd]; exact hends⟩
  case stopHalted =>
    intro ha hh
    have h := exec_stop_halted hd ha hh
    rw [driveResults, hh] at h
    exact h

end Sys2Proof.Machine
end

section
/-! PROOFS. The checks of a FABRIC card in their order, the record it defines or deletes, and how such a card ends (R137, R138). -/

namespace Sys2Proof.Machine

/-! ## The record an operation changes -/

theorem modifyNth_getElem?_eq {α : Type} (l : List α) (n : Nat) (f : α → α) : (modifyNth l n f)[n]? = (l[n]?).map f := by
  induction l generalizing n with
  | nil => rfl
  | cons x xs ih =>
    cases n with
    | zero => rfl
    | succ n => exact ih n

theorem fabricOf_eq {s : State} {id : Nat} {r : FabricRecord} (h : s.tc.fabrics[id - 1]? = some r) : fabricOf s id = r := by
  simp [fabricOf, nth, h]

/-! ## The figures of a definition (R137, check 3) -/

/-- Figures that a DEFINE may give (chapter 12). -/
def FiguresInRange (f : FabricFigures) : Prop :=
  f.cs ≤ 200 ∧ 20 ≤ f.tMin ∧ f.tMin ≤ f.tMax ∧ f.tMax ≤ 1000 ∧ 1 ≤ f.devLimit ∧ f.devLimit ≤ 500

theorem firstError_nil : firstError [] = none := rfl

theorem firstError_cons (off : Nat) (ok : Bool) (l : List (Nat × Bool)) :
    firstError ((off, ok) :: l) = if ok = true then firstError l else some off := by
  cases ok <;> rfl

/-- The field of T_min is in error where T_min is out of range, or where it is above a T_max in range (log entry 23). -/
theorem tMinOk_iff (f : FabricFigures) : (within 20 f.tMin 1000 && (f.tMin ≤ f.tMax || !within 20 f.tMax 1000)) = true ↔
    ¬(f.tMin < 20 ∨ 1000 < f.tMin ∨ (20 ≤ f.tMax ∧ f.tMax ≤ 1000 ∧ f.tMax < f.tMin)) := by
  simp only [within, Bool.and_eq_true, Bool.or_eq_true, Bool.not_eq_true', Bool.and_eq_false_iff, decide_eq_true_eq,
    decide_eq_false_iff_not]
  omega

/-- Each figure is checked at its own offset, in the order of the offsets (log entry 23). -/
theorem fabricError_eq (f : FabricFigures) : fabricError f =
    if f.cs ≤ 200 then
      if ¬(f.tMin < 20 ∨ 1000 < f.tMin ∨ (20 ≤ f.tMax ∧ f.tMax ≤ 1000 ∧ f.tMax < f.tMin)) then
        if 20 ≤ f.tMax ∧ f.tMax ≤ 1000 then if 1 ≤ f.devLimit ∧ f.devLimit ≤ 500 then none else some 24
        else some 22
      else some 20
    else some 18 := by
  simp only [fabricError, firstError_cons, firstError_nil, tMinOk_iff, within_eq_true, decide_eq_true_eq]

theorem fabricError_inRange {f : FabricFigures} (h : FiguresInRange f) : fabricError f = none := by
  obtain ⟨hcs, hlo, hle, hhi, hdev⟩ := h
  rw [fabricError_eq, if_pos hcs, if_pos (by omega), if_pos (by omega), if_pos hdev]

/-- The offset that figures out of range are refused with: the first field in error. -/
def figuresOffset (f : FabricFigures) : Nat :=
  if 200 < f.cs then 18
  else if f.tMin < 20 ∨ 1000 < f.tMin ∨ (20 ≤ f.tMax ∧ f.tMax ≤ 1000 ∧ f.tMax < f.tMin) then 20
  else if f.tMax < 20 ∨ 1000 < f.tMax then 22 else 24

theorem fabricError_outOfRange {f : FabricFigures} (h : ¬ FiguresInRange f) : fabricError f = some (figuresOffset f) := by
  unfold FiguresInRange at h
  rw [fabricError_eq, figuresOffset]
  by_cases hcs : 200 < f.cs
  · rw [if_neg (by omega), if_pos hcs]
  rw [if_pos (by omega), if_neg hcs]
  by_cases hmin : f.tMin < 20 ∨ 1000 < f.tMin ∨ (20 ≤ f.tMax ∧ f.tMax ≤ 1000 ∧ f.tMax < f.tMin)
  · rw [if_neg (by omega), if_pos hmin]
  rw [if_pos hmin, if_neg hmin]
  by_cases hmax : f.tMax < 20 ∨ 1000 < f.tMax
  · rw [if_neg (by omega), if_pos hmax]
  · rw [if_pos (by omega), if_neg hmax, if_neg (by omega)]

/-! ## The checks of the card (R137) -/

/-- The fabric id of a FABRIC card (chapter 12). -/
def cardFabric (c : CurrentCard) : Nat := leRead c.image 16 1

/-- The operation of a FABRIC card: 1 DEFINE, 2 DELETE (chapter 12). -/
def fabricOp (c : CurrentCard) : Nat := leRead c.image 17 1

/-- The card is DONE with new figures, or none, in the record it names. -/
def fabricDone (c : CurrentCard) (r : FabricRecord) (figures : Option FabricFigures) (s : State) : State :=
  doneCurrent [(128, [fabricCode r]), (129, [fabricCode { r with figures := figures }])]
    (setFabric (cardFabric c) (fun r => { r with figures := figures }) s)

section
variable {c : CurrentCard} {s : State}

theorem exec_fabric (h : Dispatching .fabric c s) : exec .fabric s = .next (fabricCard c s) := by
  obtain ⟨hon, hdisp, hc, hk⟩ := h
  exact onDispatch_dispatching hon hdisp hc hk

theorem fabricCard_badId (h : cardFabric c = 0 ∨ 8 < cardFabric c) : fabricCard c s = failField 16 s := by
  have hid : within 1 (leRead c.image 16 1) 8 = false := within_eq_false.mpr (h.imp_left Nat.lt_one_iff.mpr)
  simp [fabricCard, hid]

theorem fabricCard_badOp (hid : 1 ≤ cardFabric c ∧ cardFabric c ≤ 8) (hop : fabricOp c = 0 ∨ 2 < fabricOp c) :
    fabricCard c s = failField 17 s := by
  have hi : within 1 (leRead c.image 16 1) 8 = true := within_eq_true.mpr hid
  have ho : within 1 (leRead c.image 17 1) 2 = false := within_eq_false.mpr (hop.imp_left Nat.lt_one_iff.mpr)
  simp [fabricCard, hi, ho]

/-- A card whose id and operation are listed acts by the record's references, and a DEFINE by its figures' checks. -/
theorem fabricCard_listed {r : FabricRecord} (hid : 1 ≤ cardFabric c ∧ cardFabric c ≤ 8) (hop : 1 ≤ fabricOp c ∧ fabricOp c ≤ 2)
    (hr : s.tc.fabrics[cardFabric c - 1]? = some r) : fabricCard c s =
      if 0 < r.refs then failCurrent .inUse [] s
      else if fabricOp c = 2 then fabricDone c r none s
      else (fabricError (fabricFigures c.image)).elim (fabricDone c r (some (fabricFigures c.image)) s) (failField · s) := by
  have hi : within 1 (leRead c.image 16 1) 8 = true := within_eq_true.mpr hid
  have ho : within 1 (leRead c.image 17 1) 2 = true := within_eq_true.mpr hop
  have hrec : fabricOf s (leRead c.image 16 1) = r := fabricOf_eq hr
  simp only [fabricCard, hi, ho, hrec, Bool.not_true, Bool.false_eq_true, if_false]
  cases fabricError (fabricFigures c.image) <;> rfl

/-! ## How a FABRIC card ends -/

/-- A FABRIC card is DONE with the record it names as given: its results name the record's state before and after, and of the rest of the
part nothing else changes but the Card Engine and the events (R137, R178). -/
def FabricEnds (c : CurrentCard) (before after : FabricRecord) (s t : State) : Prop :=
  t.tc.fabrics[cardFabric c - 1]? = some after ∧
    (∀ n, n ≠ cardFabric c - 1 → t.tc.fabrics[n]? = s.tc.fabrics[n]?) ∧ t.tc.axes = s.tc.axes ∧ t.tc.frame = s.tc.frame ∧
    DispatchFinal c .done .ok [(128, [fabricCode before]), (129, [fabricCode after])] s t ∧
    t.su = raised [.cardFinal] s.su ∧ SameBase s t ∧ SameStore s t ∧ SamePrint s t ∧ t.web = s.web ∧ t.hc = s.hc ∧
    t.wd = s.wd ∧ t.rc = s.rc

/-- The change of the record reaches neither the engine nor host memory, so the card ends as from the state before it. -/
theorem fabricDone_ends {k : CardKind} {r : FabricRecord} (figures : Option FabricFigures) (h : Dispatching k c s)
    (hr : s.tc.fabrics[cardFabric c - 1]? = some r) :
    FabricEnds c r { r with figures := figures } s (fabricDone c r figures s) := by
  have hs := h.not_stalled
  obtain ⟨-, -, hc, -⟩ := h
  obtain ⟨hfinal, hsu⟩ := finishCurrent_final (c := c) (st := .done) (rc := .ok)
    (s := setFabric (cardFabric c) (fun r => { r with figures := figures }) s)
    (fields := [(128, [fabricCode r]), (129, [fabricCode { r with figures := figures }])]) hc hs
  refine ⟨?_, fun n hn => ?_, ?_, ?_, hfinal, hsu, ?_⟩
  · simp [fabricDone, doneCurrent, setFabric, modifyNth_getElem?_eq, hr]
  · simp [fabricDone, doneCurrent, setFabric, modifyNth_getElem?_ne hn]
  · simp [fabricDone, doneCurrent]
  · simp [fabricDone, doneCurrent]
  · simp [fabricDone, doneCurrent, SameBase, SameStore, SamePrint]

/-! ## The outcomes of a card that names a fabric (R137) -/

section
variable {r : FabricRecord} (hd : Dispatching .fabric c s) (hid : 1 ≤ cardFabric c ∧ cardFabric c ≤ 8)
  (hr : s.tc.fabrics[cardFabric c - 1]? = some r)
include hd hid hr

theorem fabricCard_inUse (hop : 1 ≤ fabricOp c ∧ fabricOp c ≤ 2) (hrefs : 0 < r.refs) :
    FailsCard c .inUse [] s (fabricCard c s) := by
  have hs := hd.not_stalled
  obtain ⟨-, -, hc, -⟩ := hd
  rw [fabricCard_listed hid hop hr, if_pos hrefs]
  exact failCurrent_fails hc hs

theorem fabricCard_deletes (hop : fabricOp c = 2) (hrefs : r.refs = 0) :
    FabricEnds c r { r with figures := none } s (fabricCard c s) := by
  rw [fabricCard_listed hid (by omega) hr, if_neg (by omega), if_pos hop]
  exact fabricDone_ends none hd hr

theorem fabricCard_defines (hop : fabricOp c = 1) (hrefs : r.refs = 0) (hf : FiguresInRange (fabricFigures c.image)) :
    FabricEnds c r { r with figures := some (fabricFigures c.image) } s (fabricCard c s) := by
  rw [fabricCard_listed hid (by omega) hr, if_neg (by omega), if_neg (by omega), fabricError_inRange hf]
  exact fabricDone_ends _ hd hr

theorem fabricCard_badFigures (hop : fabricOp c = 1) (hrefs : r.refs = 0) (hf : ¬ FiguresInRange (fabricFigures c.image)) :
    FailsCard c .badField [(128, le 2 (figuresOffset (fabricFigures c.image)))] s (fabricCard c s) := by
  rw [fabricCard_listed hid (by omega) hr, if_neg (by omega), if_neg (by omega), fabricError_outOfRange hf]
  exact failField_fails _ hd

end

end

/-- Settles O34: the id, the operation, the references and the figures, each check refusing the card before the next. (`fabricCard` is the
model's own name for the card's effect.) -/
theorem fabricCardObligation : Obligations.FabricCard := by
  rintro c s _ _ _ hd rfl rfl rfl
  refine ⟨fabricCard c s, exec_fabric hd, ?badId, fun r hlo hhi hr => ⟨?badOp, ?inUse, ?done, ?badFigures⟩⟩
  case badId =>
    intro h
    rw [fabricCard_badId h]
    exact failField_fails 16 hd
  case badOp =>
    intro h _
    rw [fabricCard_badOp ⟨hlo, hhi⟩ h]
    exact failField_fails 17 hd
  case inUse => exact fun hlow hhigh => fabricCard_inUse hd ⟨hlo, hhi⟩ hr ⟨hlow, hhigh⟩
  case done =>
    rintro (hdelete | ⟨hdefine, hf⟩) hrefs
    · rw [hdelete]
      exact fabricCard_deletes hd ⟨hlo, hhi⟩ hr hdelete hrefs
    · rw [hdefine]
      exact fabricCard_defines hd ⟨hlo, hhi⟩ hr hdefine hrefs hf
  case badFigures => exact fabricCard_badFigures hd ⟨hlo, hhi⟩ hr

end Sys2Proof.Machine
end

section
/-! PROOFS. The order of a SPLICE card's checks, and the splice that a card begins (R145, R146). -/

namespace Sys2Proof.Machine

/-! ## The record of an unwind -/

@[simp] theorem spliceOf_setSplice_same (a : Unwind) (f : SpliceRecord → SpliceRecord) (s : State) :
    spliceOf (setSplice a f s) a = f (spliceOf s a) := by
  cases a <;> rfl

theorem spliceOf_setSplice_other {a b : Unwind} (h : b ≠ a) (f : SpliceRecord → SpliceRecord) (s : State) :
    spliceOf (setSplice a f s) b = spliceOf s b := by
  cases a with
  | pu =>
    cases b with
    | pu => exact absurd rfl h
    | fu => rfl
  | fu =>
    cases b with
    | pu => rfl
    | fu => exact absurd rfl h

@[simp] theorem setSplice_joints (a : Unwind) (f : SpliceRecord → SpliceRecord) (s : State) :
    (setSplice a f s).rc.joints = s.rc.joints := by
  cases a <;> rfl

/-- A splice record is read off the Roll Change Unit alone. -/
theorem spliceOf_congr {s t : State} (h : t.rc = s.rc) (a : Unwind) : spliceOf t a = spliceOf s a := by
  cases a <;> simp [spliceOf, h]

/-! ## A splice begins (R145, R148) -/

/-- The record of a splice once it has begun in a state. -/
def spliceBegun (cause : SpliceCause) (card : Option CardRef) (s : State) (r : SpliceRecord) : SpliceRecord :=
  { r with
    state := .wait, cause := some cause, card := card, pending := none, request := true, phaseStart := s.clock,
    limit := ((s.setup.map (·.spliceTimeout)).getD 0) * 1000, waited := 0,
    handover := ((s.setup.map (·.handoverLimit)).getD 0) * 1000 }

theorem beginSplice_eq (a : Unwind) (cause : SpliceCause) (card : Option CardRef) (s : State) :
    beginSplice a cause card s = raiseEvent .spliceActive (setSplice a (spliceBegun cause card s) s) := rfl

theorem beginSplice_rc (a : Unwind) (cause : SpliceCause) (card : Option CardRef) (s : State) :
    (beginSplice a cause card s).rc = (setSplice a (spliceBegun cause card s) s).rc := by
  simp [beginSplice_eq]

theorem beginSplice_su (a : Unwind) (cause : SpliceCause) (card : Option CardRef) (s : State) :
    (beginSplice a cause card s).su = raised [.spliceActive] s.su := by
  simp [beginSplice_eq, raised]

@[simp] theorem hostByte_beginSplice (a : Unwind) (cause : SpliceCause) (card : Option CardRef) (s : State) (n : Nat) :
    hostByte (beginSplice a cause card s) n = hostByte s n := by
  rw [beginSplice_eq, hostByte_raiseEvent]
  simp [hostByte]

/-! ## The checks of the card (R146) -/

/-- The axis byte of a SPLICE card (chapter 12). -/
def cardAxis (c : CurrentCard) : Nat := leRead c.image 16 1

theorem unwindOf_unlisted {n : Nat} (h : n = 0 ∨ 2 < n) : unwindOf n = none := by
  unfold unwindOf
  split
  · omega
  · omega
  · rfl

/-- The axis byte of an unwind. -/
def axisCode : Unwind → Nat
  | .pu => 1
  | .fu => 2

theorem unwindOf_axisCode (a : Unwind) : unwindOf (axisCode a) = some a := by
  cases a <;> rfl

/-- The joints of an unwind that joint room counts: the JOINT entries for PU, the fabric joints for FU (R145). -/
def jointCount (s : State) : Unwind → Nat
  | .pu => s.tmap.joints.length
  | .fu => s.rc.joints.length

theorem jointRoom_iff {s : State} {a : Unwind} : jointRoom s a = true ↔ jointCount s a < 2 := by
  cases a <;> simp [jointRoom, jointCount]

section
variable {c : CurrentCard} {s : State} {a : Unwind}

theorem exec_splice (h : Dispatching .splice c s) : exec .splice s = .next (spliceCard c s) := by
  obtain ⟨hon, hdisp, hc, hk⟩ := h
  exact onDispatch_dispatching hon hdisp hc hk

/-- A card in dispatch may be failed, whatever the code. -/
theorem Dispatching.fails {k : CardKind} (h : Dispatching k c s) (rc : ResultCode) (fields : List (Nat × List Byte)) :
    FailsCard c rc fields s (failCurrent rc fields s) := by
  have hs := h.not_stalled
  obtain ⟨-, -, hc, -⟩ := h
  exact failCurrent_fails hc hs

theorem spliceCard_badAxis (h : unwindOf (cardAxis c) = none) : spliceCard c s = failField 16 s := by
  unfold cardAxis at h
  simp [spliceCard, h]

/-- A card that names an unwind is checked for the state of its axis and its splice, then for joint room. -/
theorem spliceCard_listed (h : unwindOf (cardAxis c) = some a) : spliceCard c s =
    if (axisOf s (unwindAxis a)).state ≠ .active ∨ (spliceOf s a).state ≠ .idle then failCurrent .wrongState [] s
    else if jointCount s a < 2 then endDispatch (beginSplice a .card (some c.ref) s)
    else failCurrent .busy [] s := by
  unfold cardAxis at h
  have hcheck : (!unwindActive s a || (spliceOf s a).state != .idle) = true ↔
      (axisOf s (unwindAxis a)).state ≠ .active ∨ (spliceOf s a).state ≠ .idle := by simp [unwindActive]
  simp only [spliceCard, h, hcheck, ← jointRoom_iff]
  cases jointRoom s a <;> rfl

/-! ## The splice that a card begins (R146) -/

/-- A SPLICE card has begun a splice of an unwind and is held: no final write, and of the rest of the part only the engine's dispatch and
the event SPLICE_ACTIVE. -/
def SpliceHeld (c : CurrentCard) (a : Unwind) (s t : State) : Prop :=
  spliceOf t a = spliceBegun .card (some c.ref) s (spliceOf s a) ∧ (∀ b, b ≠ a → spliceOf t b = spliceOf s b) ∧
    t.rc.joints = s.rc.joints ∧ t.ce = engineAfter s s.ce.outstanding ∧ t.su = raised [.spliceActive] s.su ∧
    OnlyWrites s t (fun _ => False) ∧ SameBase s t ∧ SameStore s t ∧ SamePrint s t ∧ t.web = s.web ∧ t.hc = s.hc ∧
    t.wd = s.wd ∧ t.tc = s.tc

/-- The end of the dispatch reaches neither the splice record nor host memory. -/
theorem beginSplice_held (c : CurrentCard) (a : Unwind) (s : State) :
    SpliceHeld c a s (endDispatch (beginSplice a .card (some c.ref) s)) := by
  have hrc : (endDispatch (beginSplice a .card (some c.ref) s)).rc = (setSplice a (spliceBegun .card (some c.ref) s) s).rc := by
    simp [beginSplice_rc]
  refine ⟨?_, fun b hb => ?_, ?_, ?_, ?_, fun n _ => ?_, ?_⟩
  · rw [spliceOf_congr hrc, spliceOf_setSplice_same]
  · rw [spliceOf_congr hrc, spliceOf_setSplice_other hb]
  · rw [hrc, setSplice_joints]
  · simp [endDispatch_ce, engineAfter]
  · simp [beginSplice_su]
  · simp
  · simp [SameBase, SameStore, SamePrint]

/-! ## The outcomes of a card that names an unwind (R146) -/

theorem spliceCard_wrongState (hd : Dispatching .splice c s) (ha : unwindOf (cardAxis c) = some a)
    (h : (axisOf s (unwindAxis a)).state ≠ .active ∨ (spliceOf s a).state ≠ .idle) :
    FailsCard c .wrongState [] s (spliceCard c s) := by
  rw [spliceCard_listed ha, if_pos h]
  exact hd.fails _ _

theorem spliceCard_busy (hd : Dispatching .splice c s) (ha : unwindOf (cardAxis c) = some a)
    (hactive : (axisOf s (unwindAxis a)).state = .active) (hidle : (spliceOf s a).state = .idle) (hfull : 2 ≤ jointCount s a) :
    FailsCard c .busy [] s (spliceCard c s) := by
  rw [spliceCard_listed ha, if_neg (by simp [hactive, hidle]), if_neg (Nat.not_lt.mpr hfull)]
  exact hd.fails _ _

theorem spliceCard_begins (ha : unwindOf (cardAxis c) = some a) (hactive : (axisOf s (unwindAxis a)).state = .active)
    (hidle : (spliceOf s a).state = .idle) (hfree : jointCount s a < 2) : SpliceHeld c a s (spliceCard c s) := by
  rw [spliceCard_listed ha, if_neg (by simp [hactive, hidle]), if_pos hfree]
  exact beginSplice_held c a s

end

/-- Settles O35: the axis byte, then the states, then joint room, each check refusing the card before the next. (`spliceCard` is the
model's own name for the card's effect.) -/
theorem spliceCardObligation : Obligations.SpliceCard := by
  intro c s hd
  refine ⟨fun hbad => ⟨spliceCard c s, exec_splice hd, ?badAxis⟩, fun a hcode => ?listed⟩
  case badAxis =>
    rw [spliceCard_badAxis (unwindOf_unlisted hbad)]
    exact failField_fails 16 hd
  case listed =>
    have hlisted : unwindOf (cardAxis c) = some a := (congrArg unwindOf hcode).trans (unwindOf_axisCode a)
    refine ⟨fun hwrong => ⟨_, exec_splice hd, ?wrongState⟩, fun hactive hidle hfull => ⟨_, exec_splice hd, ?busy⟩,
      fun hactive hidle hfree => ⟨_, exec_splice hd, ?begins⟩⟩
    case wrongState => exact spliceCard_wrongState hd hlisted hwrong
    case busy => exact spliceCard_busy hd hlisted hactive hidle hfull
    case begins => exact spliceCard_begins hlisted hactive hidle hfree

end Sys2Proof.Machine
end

section
/-! PROOFS. The keep-alive domain: what a main power-on reset takes of the lost mark, the counter that counts while it is not valid, and
which operations leave the restarted mark (R150, R153, R154). -/

namespace Sys2Proof.Machine

/-! ## The lost mark (R154) -/

theorem raiseLost_lost (s : State) : (raiseLost s).ka.lost = false := by
  unfold raiseLost
  split
  · simp
  · rename_i h
    simpa using h

theorem raiseLost_events (s : State) :
    (raiseLost s).su.events = if s.ka.lost = true then s.su.events ||| Event.kaLost.mask else s.su.events := by
  unfold raiseLost
  split <;> simp

/-- The reset leaves no event, so the mark of KA_LOST is all that stands after it (R154, R172). -/
theorem execMainPowerOnReset_lost (zones8 store64k : Bool) (s : State) : ∃ t, execMainPowerOnReset zones8 store64k s = .next t ∧
    t.ka.lost = false ∧ t.su.events = if s.ka.lost = true then Event.kaLost.mask else 0 := by
  refine ⟨_, rfl, raiseLost_lost _, ?_⟩
  simp only [raiseLost_events, resetFrames_frame]
  exact if_congr Iff.rfl (BitVec.zero_or) rfl

/-! ## The roll counters (R147, R150, R153) -/

/-- A counter that is not valid asks for nothing. -/
theorem countAsks_invalid {s : State} {a : Unwind} (h : rollValid s a = false) : countAsks s a = false := by
  simp [countAsks, h]

theorem testCount_invalid {s : State} {a : Unwind} (h : rollValid s a = false) : testCount a s = s := by
  simp [testCount, countAsks_invalid h]

/-- Forward drum travel counts, and while the counter is not valid that is all it does to the counter and the splice (R153, R154). -/
theorem drumTravel_invalid {n : Nat} {s t : State} (hn : 0 < n) (hv : s.ka.fuValid = false)
    (h : execDrumTravelIncrement n s = .next t) (hon : s.power.mainOn = true) :
    t.ka.fu = advanceCounter n s.ka.fu ∧ t.rc.fu = s.rc.fu := by
  rw [execDrumTravelIncrement, whenOn_on hon, if_neg (by omega), testCount_invalid (by exact hv)] at h
  cases h
  exact ⟨rfl, rfl⟩

/-- What pos gains is counted, and while the counter is not valid that is all it does to the counter and the splice (R153, R154). -/
theorem countPaper_invalid {travel : Nat} {s : State} (ht : 0 < travel) (hv : s.ka.puValid = false) :
    countPaper travel s = { s with ka := { s.ka with pu := advanceCounter travel s.ka.pu } } := by
  rw [countPaper, if_neg (by omega), testCount_invalid (by exact hv)]

theorem comparePos_splices (s : State) : (comparePos s).rc.pu = s.rc.pu ∧ (comparePos s).rc.fu = s.rc.fu := by
  simp [comparePos]

theorem positionUpdate_invalid {n : Nat} {s t : State} (hv : s.ka.puValid = false) (h : execPositionUpdate n s = .next t)
    (hpos : s.web.pos < t.web.pos) :
    t.ka.pu = advanceCounter (t.web.pos - s.web.pos) s.ka.pu ∧ t.rc.pu = s.rc.pu := by
  cases hon : s.power.mainOn with
  | false =>
    rw [execPositionUpdate, whenOn_off hon] at h
    cases h
    exact absurd hpos (Nat.lt_irrefl _)
  | true =>
    rw [execPositionUpdate, whenOn_on hon] at h
    cases h
    have hgain : s.web.pos < (forward n s.web).pos := by simpa using hpos
    simp [countPaper_invalid (s := { s with web := forward n s.web }) (Nat.sub_pos_of_lt hgain) hv, comparePos_splices]

/-- The request that a counter's test found is dropped at its step where the counter is no longer valid (R147; log entry 63). -/
theorem rollCountRequest_invalid {a : Unwind} {s : State} (hv : rollValid s a = false) : execRollCountRequest a s = .next s := by
  cases hon : s.power.mainOn with
  | false => exact whenOn_off hon
  | true =>
    rw [execRollCountRequest, whenOn_on hon]
    simp [countAsks_invalid hv]

theorem completeSplice_ka (a : Unwind) (s : State) : (completeSplice a s).ka = (clearCounter a s).ka := by
  unfold completeSplice
  dsimp only
  cases a <;> split <;> simp [clearCounter]

/-- A completed splice clears its counter and makes it valid (R150). -/
theorem completeSplice_counter (a : Unwind) (s : State) :
    rollValid (completeSplice a s) a = true ∧ rollCounter (completeSplice a s) a = ⟨0, 0⟩ := by
  cases a <;> simp [rollValid, rollCounter, completeSplice_ka, clearCounter]

/-! ## The restarted mark (R154) -/

@[simp] theorem clearCounter_restarted (a : Unwind) (s : State) : (clearCounter a s).ka.restarted = s.ka.restarted := by
  cases a <;> rfl

@[simp] theorem completeSplice_restarted (a : Unwind) (s : State) : (completeSplice a s).ka.restarted = s.ka.restarted := by
  simp [completeSplice_ka]

@[simp] theorem countPaper_restarted (travel : Nat) (s : State) : (countPaper travel s).ka.restarted = s.ka.restarted := by
  unfold countPaper
  split <;> simp

@[simp] theorem ackInactive_restarted (a : Unwind) (s : State) : (ackInactive a s).ka.restarted = s.ka.restarted := by
  unfold ackInactive
  split <;> simp

@[simp] theorem inputEdge_restarted (i : LineInput) (active : Bool) (s : State) :
    (inputEdge i active s).ka.restarted = s.ka.restarted := by
  unfold inputEdge
  (repeat' split) <;> simp

@[simp] theorem polarityEdge_restarted (before s : State) (i : LineInput) :
    (polarityEdge before s i).ka.restarted = s.ka.restarted := by
  unfold polarityEdge
  split <;> simp

@[simp] theorem polarityEdges_restarted (before s : State) : (polarityEdges before s).ka.restarted = s.ka.restarted :=
  foldl_keeps (·.ka.restarted) _ (fun s i => by simp) _ s

@[simp] theorem setupCard_restarted (k : CurrentCard) (s : State) : (setupCard k s).ka.restarted = s.ka.restarted := by
  unfold setupCard
  dsimp only
  (repeat' split) <;> simp [applySetup]

@[simp] theorem raiseLost_restarted (s : State) : (raiseLost s).ka.restarted = s.ka.restarted := by
  unfold raiseLost
  split <;> simp

/-! ## The keep-alive domain over the commands (R153, R154) -/

/-- A view of the state that a command's effect keeps is kept, whether or not the supply is present. -/
theorem whenOn_keeps {α : Type} (view : State → α) {s t : State} {f : State → State} (h : whenOn s f = .next t)
    (hf : view (f s) = view s) : view t = view s := by
  cases hon : s.power.mainOn with
  | true =>
    rw [whenOn_on hon] at h
    cases h
    exact hf
  | false =>
    rw [whenOn_off hon] at h
    cases h
    rfl

/-- A view that a card's effect keeps is kept by the command of its kind, whether or not such a card is in dispatch. -/
theorem onDispatch_keeps {α : Type} (view : State → α) {k : CardKind} {s t : State} {f : CurrentCard → State → State}
    (h : onDispatch k s f = .next t) (hf : ∀ c, view (f c s) = view s) : view t = view s := by
  refine whenOn_keeps view h ?_
  (repeat' split) <;> simp [hf]

theorem controlWrite_ka (run : Bool) (interval : BitVec 8) (s : State) : (controlWrite run interval s).ka = s.ka := by
  unfold controlWrite
  dsimp only
  (repeat' split) <;> simp

theorem onDrive_keeps {α : Type} (view : State → α) {n : Nat} {s t : State} {f : CurrentCard → State → State}
    (h : onDrive n s f = .next t) (hf : ∀ c, view (f c s) = view s) (hfail : view (failField 16 s) = view s) : view t = view s := by
  refine onDispatch_keeps view h fun c => ?_
  (repeat' split) <;> simp [hf, hfail]

theorem onChainRead_ka (link : Option (BitVec 64)) {s : State} {f : State → State} (hf : ∀ s, (f s).ka = s.ka) :
    (onChainRead link s f).ka = s.ka := by
  unfold onChainRead
  dsimp only
  (repeat' split) <;> simp [hf]

theorem chainReadFails_ka (link : Option (BitVec 64)) (s : State) : (chainReadFails link s).ka = s.ka := by
  refine onChainRead_ka link fun s => ?_
  dsimp only
  (repeat' split) <;> simp

theorem onListRead_ka {s : State} {f : PatchJob → State → State} (hf : ∀ p s, (f p s).ka = s.ka) :
    (onListRead s f).ka = s.ka := by
  unfold onListRead
  (repeat' split) <;> simp [hf]

theorem onLoadRead_ka {s : State} {f : LoadJob → State → State} (hf : ∀ j s, (f j s).ka = s.ka) :
    (onLoadRead s f).ka = s.ka := by
  unfold onLoadRead
  (repeat' split) <;> simp [hf]

theorem discardOldest_ka (s : State) : (discardOldest s).ka = s.ka := by
  unfold discardOldest
  (repeat' split) <;> simp

theorem foldl_offerFault_ka (l : List FaultInfo) (s : State) : (l.foldl (fun s f => offerFault f s) s).ka = s.ka :=
  foldl_keeps (·.ka) _ (fun s f => by simp) l s

theorem foldl_readAxis_ka (frame : Option (List TensionReading)) (l : List Axis) (s : State) :
    (l.foldl (readAxis frame) s).ka = s.ka :=
  foldl_keeps (·.ka) _ (fun s a => by simp) l s

theorem execHeatPeriod_ka {s t : State} (h : execHeatPeriod s = .next t) : t.ka = s.ka := by
  refine whenOn_keeps (·.ka) h ?_
  cases s.setup with
  | none => rfl
  | some c =>
    dsimp only
    split <;> simp [foldl_offerFault_ka]

/-- The commands that reach the keep-alive domain: the two power-on resets, the travel that the counters count, and the line input and
SETUP, through which a splice completes (R149, R150, R153, R154). -/
def ReachesKeepAlive (i : Instr) : Prop :=
  i = .keepAlivePowerOnReset ∨ (∃ zones8 store64k, i = .mainPowerOnReset zones8 store64k) ∨ (∃ n, i = .positionUpdate n) ∨
    (∃ n, i = .drumTravelIncrement n) ∨ (∃ input, i = .inputFilterExpiry input) ∨ i = .setup

/-- Every other command leaves the keep-alive domain as it was. -/
theorem exec_ka {i : Instr} {s t : State} (h : exec i s = .next t) (hi : ¬ ReachesKeepAlive i) : t.ka = s.ka := by
  unfold exec at h
  cases i with
  | keepAlivePowerOnReset | mainPowerOnReset | positionUpdate | drumTravelIncrement | inputFilterExpiry | setup =>
    exact absurd (by simp [ReachesKeepAlive]) hi
  -- Resets, supplies and registers.
  | softReset =>
    have hka : (resetFrames s (softReset s)).ka = (softReset s).ka := by simp only [resetFrames_frame]
    exact whenOn_keeps (·.ka) h hka
  | mainSupplyLoss =>
    cases h
    rfl
  | linkReset => exact whenOn_keeps (·.ka) h (by simp)
  | runSet | runClear | watchInterval => exact whenOn_keeps (·.ka) h (controlWrite_ka _ _ s)
  | registerWrite => exact whenOn_keeps (·.ka) h rfl
  | irqEnable => exact whenOn_keeps (·.ka) h (by simp)
  | eventAck => exact whenOn_keeps (·.ka) h (by dsimp only; split <;> simp [discardOldest_ka])
  | bookBase => exact whenOn_keeps (·.ka) h (by dsimp only; (repeat' split) <;> simp)
  | wake | watchTimerExpiry | statusPageWrite => exact whenOn_keeps (·.ka) h (by split <;> simp)
  -- The chain of cards.
  | chainReadComplete link => exact whenOn_keeps (·.ka) h (onChainRead_ka link fun s => by dsimp only; split <;> simp)
  | cardReadError link | chainReadTimeout link => exact whenOn_keeps (·.ka) h (chainReadFails_ka link s)
  | cardReoffer => exact whenOn_keeps (·.ka) h (by split <;> simp)
  | heat | fabric | drop | load | print | splice | fence => exact onDispatch_keeps (·.ka) h fun c => by simp
  | patch => exact onDispatch_keeps (·.ka) h fun c => by split <;> simp
  | start | speed | stop | halt | clear => exact onDrive_keeps (·.ka) h (fun c => by simp) (by simp)
  -- The web and the line.
  | backTravel | drumEncoderReport | heaterWindow => exact whenOn_keeps (·.ka) h rfl
  | tensionFrame | zoneFrame | heaterOnTimeEnd | rawLevelChange => exact whenOn_keeps (·.ka) h (by split <;> simp)
  | leadAtNip | trailAtNip | leadExit | trailExit | jointLeavesWrap | fabricJointDue =>
    exact whenOn_keeps (·.ka) h (by split <;> simp)
  | rollCountRequest | handoverLimit => exact whenOn_keeps (·.ka) h (by split <;> simp)
  | spliceTimeout | rampPeriod => exact whenOn_keeps (·.ka) h (by dsimp only; (repeat' split) <;> simp)
  | heatPeriod => exact execHeatPeriod_ka h
  | tensionPeriod => exact whenOn_keeps (·.ka) h (by simp [foldl_readAxis_ka])
  -- The Print Engine, the Profile Store and the Shadow Patch Buffer.
  | barReport | barSilent | freeing | lookup => exact whenOn_keeps (·.ka) h (by split <;> simp)
  | printStart | rasterReadComplete | editApply => exact whenOn_keeps (·.ka) h (by (repeat' split) <;> simp)
  | lineComputationBegin | lineBoundary | lineDue => exact whenOn_keeps (·.ka) h (by dsimp only; (repeat' split) <;> simp)
  | loaderWriteComplete | drainWriteComplete => exact whenOn_keeps (·.ka) h (by (repeat' split) <;> simp)
  | lookupFillComplete | creationReadComplete =>
    refine whenOn_keeps (·.ka) h ?_
    split
    · dsimp only
      split <;> simp
    · rfl
  | rasterReadError | rasterReadTimeout | loadReadError | loadReadTimeout | patchReadError | editListReadTimeout =>
    exact whenOn_keeps (·.ka) h (by simp)
  | loadReadComplete => exact whenOn_keeps (·.ka) h (onLoadRead_ka fun j s => by simp)
  | editListReadComplete => exact whenOn_keeps (·.ka) h (onListRead_ka fun p s => by dsimp only; (repeat' split) <;> simp)

theorem execMainPowerOnReset_restarted {zones8 store64k : Bool} {s t : State}
    (h : execMainPowerOnReset zones8 store64k s = .next t) : t.ka.restarted = s.ka.restarted := by
  cases h
  simp only [raiseLost_restarted, resetFrames_frame]
  rfl

theorem execPositionUpdate_restarted {n : Nat} {s t : State} (h : execPositionUpdate n s = .next t) :
    t.ka.restarted = s.ka.restarted :=
  whenOn_keeps (·.ka.restarted) h (by simp)

theorem execDrumTravelIncrement_restarted {n : Int} {s t : State} (h : execDrumTravelIncrement n s = .next t) :
    t.ka.restarted = s.ka.restarted :=
  whenOn_keeps (·.ka.restarted) h (by split <;> simp)

theorem execInputFilterExpiry_restarted {i : LineInput} {s t : State} (h : execInputFilterExpiry i s = .next t) :
    t.ka.restarted = s.ka.restarted :=
  whenOn_keeps (·.ka.restarted) h (by dsimp only; (repeat' split) <;> simp)

theorem execSetup_restarted {s t : State} (h : execSetup s = .next t) : t.ka.restarted = s.ka.restarted :=
  onDispatch_keeps (·.ka.restarted) h fun k => by simp

/-- No command clears the restarted mark: of those that reach the keep-alive domain, the loss of its supply sets the mark and the others
keep it. -/
theorem exec_restarted {i : Instr} {s t : State} (h : exec i s = .next t) (hr : s.ka.restarted = true) :
    t.ka.restarted = true := by
  by_cases hi : ReachesKeepAlive i
  · rcases hi with rfl | ⟨_, _, rfl⟩ | ⟨_, rfl⟩ | ⟨_, rfl⟩ | ⟨_, rfl⟩ | rfl
    · cases h
      rfl
    · exact (execMainPowerOnReset_restarted h).trans hr
    · exact (execPositionUpdate_restarted h).trans hr
    · exact (execDrumTravelIncrement_restarted h).trans hr
    · exact (execInputFilterExpiry_restarted h).trans hr
    · exact (execSetup_restarted h).trans hr
  · rw [exec_ka h hi]
    exact hr

/-- Settles O7: the reset and the lost mark by their own rules, the counters by what a counter that is not valid does, and the restarted
mark over the commands. -/
theorem keepAliveLossRule : Obligations.KeepAliveLossRule :=
  ⟨fun _ => rfl, execMainPowerOnReset_lost, fun _ _ _ hn hv h hon => drumTravel_invalid hn hv h hon,
    fun _ _ _ hv h hpos => positionUpdate_invalid hv h hpos, fun _ _ hv => rollCountRequest_invalid hv, completeSplice_counter,
    fun _ _ _ h hr => exec_restarted h hr⟩

end Sys2Proof.Machine
end

section
/-! PROOFS. The fault queue: the rows of its table, what an acknowledge discards and signals, what the slot and the condition word show,
and what each reset leaves of it (R172 to R175). -/

namespace Sys2Proof.Machine

/-! ## Marks of a word (R172, R178) -/

/-- The only mark of an event in a word is the bit of the event's number. -/
theorem and_mask_ne_zero (w : BitVec 32) (e : Event) : (w &&& e.mask != 0) = w.getLsbD e.bit := by
  have hmask : e.mask = BitVec.twoPow 32 e.bit := (BitVec.twoPow_eq 32 e.bit).symm
  have hpow : ¬ BitVec.twoPow 32 e.bit = 0#32 := by cases e <;> decide
  rw [hmask, BitVec.and_twoPow]
  cases w.getLsbD e.bit <;> simp [hpow]

theorem hasEvent_eq_getLsbD (s : State) (e : Event) : hasEvent s e = s.su.events.getLsbD e.bit := and_mask_ne_zero _ e

theorem raiseEvent_hasEvent (e : Event) (s : State) : hasEvent (raiseEvent e s) e = true := by
  have hmask : e.mask.getLsbD e.bit = true := by cases e <;> decide
  rw [hasEvent_eq_getLsbD, raiseEvent_su, BitVec.getLsbD_or, hmask, Bool.or_true]

theorem markSet_lt (l : List Bool) : markSet l < 2 ^ l.length := by
  induction l with
  | nil => simp [markSet]
  | cons b bs ih => cases b <;> simp [markSet, Nat.pow_succ] <;> omega

theorem markSet_testBit (l : List Bool) (n : Nat) : (markSet l).testBit n = (l[n]?).getD false := by
  induction l generalizing n with
  | nil => simp [markSet]
  | cons b bs ih =>
    cases n with
    | zero => cases b <;> simp [markSet, Nat.testBit_zero]
    | succ n =>
      have hhalf : markSet (b :: bs) / 2 = markSet bs := by
        cases b <;> simp [markSet, Nat.add_mul_div_left]
      rw [Nat.testBit_succ, hhalf, ih, List.getElem?_cons_succ]

/-! ## The interrupt of a raise (R173) -/

theorem signalRise_ports (before : Bool) (s : State) : (signalRise before s).ports =
    if irqSummary s = true ∧ before = false then .interrupt :: s.ports else s.ports := by
  simp only [signalRise, Bool.and_eq_true, Bool.not_eq_true', apply_ite State.ports]
  rfl

theorem raiseEvent_ports_eq (e : Event) (s : State) : (raiseEvent e s).ports =
    if irqSummary (raiseEvent e s) = true ∧ irqSummary s = false then .interrupt :: s.ports else s.ports := by
  have hirq : irqSummary (raiseEvent e s) = irqSummary { s with su := { s.su with events := s.su.events ||| e.mask } } := by
    simp [irqSummary]
  rw [hirq, raiseEvent, signalRise_ports]

/-! ## The rows of the table (R174) -/

theorem queueAfter_short {q : List FaultEntry} (e : FaultEntry) (h : q.length ≤ 31) : queueAfter q e = q ++ [e] :=
  if_pos (by omega)

theorem queueAfter_full {q : List FaultEntry} {last : FaultEntry} (e : FaultEntry) (hq : q.length = 31)
    (hl : ∀ n, last.info ≠ .overflow n) : queueAfter (q ++ [last]) e = q ++ [⟨.overflow 2, last.seq, last.pos⟩] := by
  cases hinfo : last.info with
  | overflow n => exact absurd hinfo (hl n)
  | _ => simp [queueAfter, hq, hinfo]

theorem queueAfter_overflow {q : List FaultEntry} {last : FaultEntry} {n : Nat} (e : FaultEntry) (hq : q.length = 31)
    (hl : last.info = .overflow n) :
    queueAfter (q ++ [last]) e = q ++ [⟨.overflow (min 65535 (n + 1)), last.seq, last.pos⟩] := by
  simp [queueAfter, hq, hl]

/-- The first fault goes into the slot, which raises FAULT_PENDING. -/
theorem offerFault_hasEvent {s : State} (f : FaultInfo) (h : s.su.faults = []) :
    hasEvent (offerFault f s) .faultPending = true := by
  simp only [offerFault, h, List.isEmpty_nil, if_true]
  exact raiseEvent_hasEvent _ _

/-! ## The acknowledge (R172, R174) -/

/-- The part with the marks written as 1 cleared, before the fault queue is acted on. -/
def clearMarks (m : BitVec 32) (s : State) : State := { s with su := { s.su with events := s.su.events &&& ~~~m } }

theorem eventAck_exec (m : BitVec 32) {s : State} (hon : s.power.mainOn = true) : exec (.eventAck m) s =
    .next (if m.getLsbD 2 = true then discardOldest (clearMarks m s) else clearMarks m s) := by
  have hbit : (m &&& Event.faultPending.mask != 0) = m.getLsbD 2 := and_mask_ne_zero m .faultPending
  show execEventAck m s = _
  rw [execEventAck, whenOn_on hon, hbit]
  rfl

theorem irqSummary_clearMarks (m : BitVec 32) (s : State) :
    irqSummary (clearMarks m s) = false ↔ (s.su.events &&& ~~~m) &&& s.regs.irqEnable = 0 := by
  simp [irqSummary, clearMarks]

theorem hasEvent_clearMarks {m : BitVec 32} {e : Event} (s : State) (h : m.getLsbD e.bit = true) :
    hasEvent (clearMarks m s) e = false := by
  simp [hasEvent_eq_getLsbD, clearMarks, h]

theorem discardOldest_faults (s : State) : (discardOldest s).su.faults = s.su.faults.drop 1 := by
  unfold discardOldest
  split
  · simp [*]
  · dsimp only
    split <;> simp [*]

/-- Where no fault takes the place of the discarded one, nothing is raised. -/
theorem discardOldest_last {s : State} (h : s.su.faults.length < 2) :
    (discardOldest s).su.events = s.su.events ∧ (discardOldest s).ports = s.ports := by
  unfold discardOldest
  split
  · exact ⟨rfl, rfl⟩
  · rename_i rest hf
    have hrest : rest = [] := by simpa [hf] using h
    subst hrest
    exact ⟨rfl, rfl⟩

/-- A fault that takes the place of the discarded one raises FAULT_PENDING again. -/
theorem discardOldest_next {s : State} (h : 2 ≤ s.su.faults.length) : discardOldest s =
    raiseEvent .faultPending { s with su := { s.su with faults := s.su.faults.drop 1, pageDue := true } } := by
  match hf : s.su.faults, h with
  | _ :: _ :: _, _ => simp [discardOldest, hf]

theorem discardOldest_hasEvent {s : State} (h : hasEvent s .faultPending = false) :
    hasEvent (discardOldest s) .faultPending = true ↔ 2 ≤ s.su.faults.length := by
  rcases Nat.lt_or_ge s.su.faults.length 2 with hlast | hnext
  · have hkept : hasEvent (discardOldest s) .faultPending = hasEvent s .faultPending := by
      rw [hasEvent, (discardOldest_last hlast).1, hasEvent]
    simp [hkept, h, hlast]
  · simp [discardOldest_next hnext, raiseEvent_hasEvent, hnext]

theorem discardOldest_ports (s : State) : (discardOldest s).ports =
    if 2 ≤ s.su.faults.length ∧ irqSummary (discardOldest s) = true ∧ irqSummary s = false then .interrupt :: s.ports
    else s.ports := by
  rcases Nat.lt_or_ge s.su.faults.length 2 with hlast | hnext
  · rw [(discardOldest_last hlast).2, if_neg (by omega)]
  · rw [discardOldest_next hnext, raiseEvent_ports_eq]
    exact if_congr (by simp [hnext, irqSummary]) rfl rfl

/-- An acknowledge clears the marks, and that of FAULT_PENDING discards the oldest fault and raises the event for the next. -/
theorem eventAck_faults (m : BitVec 32) {s : State} (hon : s.power.mainOn = true) : ∃ t, exec (.eventAck m) s = .next t ∧
    (m.getLsbD 2 = false → t.su.faults = s.su.faults) ∧ (m.getLsbD 2 = true → t.su.faults = s.su.faults.drop 1) ∧
    (m.getLsbD 2 = true → (hasEvent t .faultPending = true ↔ 2 ≤ s.su.faults.length)) ∧
    t.ports = (if m.getLsbD 2 = true ∧ 2 ≤ s.su.faults.length ∧ irqSummary t = true ∧
        (s.su.events &&& ~~~m) &&& s.regs.irqEnable = 0 then .interrupt :: s.ports else s.ports) := by
  refine ⟨_, eventAck_exec m hon, ?_⟩
  cases hm : m.getLsbD 2 with
  | false => simp [clearMarks]
  | true =>
    refine ⟨by simp, fun _ => discardOldest_faults _, fun _ => discardOldest_hasEvent (hasEvent_clearMarks s hm), ?_⟩
    simp only [if_true, true_and, ← irqSummary_clearMarks]
    exact discardOldest_ports (clearMarks m s)

/-! ## The slot and the condition word (R174, chapter 12) -/

theorem faultSlot_nil {s : State} (h : s.su.faults = []) : faultSlot s = List.replicate 32 0 := by
  simp only [faultSlot, h]

theorem faultSlot_cons {s : State} {e : FaultEntry} {rest : List FaultEntry} (h : s.su.faults = e :: rest) :
    faultSlot s = faultBytes e := by
  simp only [faultSlot, h]

/-- The low byte of the condition word is a mark set of its own: the drive's code and the inputs stand above it. -/
theorem conditionWord_testBit (s : State) {n : Nat} (hn : n < 8) : (conditionWord s).testBit n =
    ([s.ce.state == .stalled, speedHeld s, zonesCondition s, !s.su.faults.isEmpty, lineStop s][n]?).getD false := by
  have hlow : ∀ a b c d e : Bool, markSet [a, b, c, d, e] < 2 ^ 8 := fun _ _ _ _ _ => (markSet_lt _).trans (by simp)
  have hsplit : ∀ a b c : Nat, a + 256 * b + 65536 * c = 2 ^ 8 * (b + 256 * c) + a := by omega
  rw [← markSet_testBit, conditionWord, hsplit, Nat.testBit_two_pow_mul_add _ (hlow ..), if_pos hn]

/-! ## What the parts of a link reset leave of the queue -/

theorem failPatchOf_faults (id : Nat) (s : State) :
    (failPatchOf id s).su.faults = s.su.faults ∧ (failPatchOf id s).su.faultSeq = s.su.faultSeq := by
  unfold failPatchOf failCurrent finishCurrent
  (repeat' split) <;> simp [finalWrite_su, raised]

theorem completeFree_faults (id : Nat) (s : State) :
    (completeFree id s).su.faults = s.su.faults ∧ (completeFree id s).su.faultSeq = s.su.faultSeq := by
  unfold completeFree
  split <;> simp

theorem freeRecord_faults (id : Nat) (s : State) :
    (freeRecord id s).su.faults = s.su.faults ∧ (freeRecord id s).su.faultSeq = s.su.faultSeq := by
  unfold freeRecord
  dsimp only
  split <;> simp [completeFree_faults, failPatchOf_faults]

theorem releaseProfile_faults (id : Nat) (s : State) :
    (releaseProfile id s).su.faults = s.su.faults ∧ (releaseProfile id s).su.faultSeq = s.su.faultSeq := by
  unfold releaseProfile
  dsimp only
  split <;> simp [freeRecord_faults]

theorem endJob_faults (s : State) : (endJob s).su.faults = s.su.faults ∧ (endJob s).su.faultSeq = s.su.faultSeq := by
  unfold endJob
  split <;> simp [releaseProfile_faults]

theorem discardQueue_faults (s : State) :
    (discardQueue s).su.faults = s.su.faults ∧ (discardQueue s).su.faultSeq = s.su.faultSeq := by
  unfold discardQueue
  exact ⟨(foldl_keeps (·.su.faults) _ (fun s q => by simp [releaseProfile_faults]) _ _).trans (by simp),
    (foldl_keeps (·.su.faultSeq) _ (fun s q => by simp [releaseProfile_faults]) _ _).trans (by simp)⟩

theorem freeIfUnready_faults (id : Nat) (s : State) :
    (freeIfUnready id s).su.faults = s.su.faults ∧ (freeIfUnready id s).su.faultSeq = s.su.faultSeq := by
  unfold freeIfUnready
  dsimp only
  split <;> simp [freeRecord_faults]

theorem freeUnready_faults (s : State) :
    (freeUnready s).su.faults = s.su.faults ∧ (freeUnready s).su.faultSeq = s.su.faultSeq := by
  unfold freeUnready
  exact ⟨foldl_keeps (·.su.faults) _ (fun s i => by simp [freeIfUnready_faults]) _ _,
    foldl_keeps (·.su.faultSeq) _ (fun s i => by simp [freeIfUnready_faults]) _ _⟩

/-- A link reset keeps the queue and the number that its own fault then takes (R174). -/
theorem linkDown_faults (s : State) : (linkDown s).su.faults = s.su.faults ∧ (linkDown s).su.faultSeq = s.su.faultSeq := by
  simp [linkDown, orphanMap, freeUnready_faults, discardQueue_faults, endJob_faults]

/-! ## The resets (R157, R170, R174) -/

theorem raiseLost_faults (s : State) :
    (raiseLost s).su.faults = s.su.faults ∧ (raiseLost s).su.faultSeq = s.su.faultSeq := by
  unfold raiseLost
  split <;> simp

theorem mainPowerOnReset_faults (zones8 store64k : Bool) (s : State) : ∃ t,
    exec (.mainPowerOnReset zones8 store64k) s = .next t ∧ t.su.faults = [] ∧ t.su.faultSeq = 0 := by
  have hempty : (powerOn zones8 store64k s).su.faults = [] ∧ (powerOn zones8 store64k s).su.faultSeq = 0 := ⟨rfl, rfl⟩
  refine ⟨_, rfl, ?_⟩
  simp [raiseLost_faults, hempty]

theorem softReset_faults {s : State} (hon : s.power.mainOn = true) : ∃ t,
    exec .softReset s = .next t ∧ t.su.faults = [] ∧ t.su.faultSeq = 0 := by
  have hempty : (softReset s).su.faults = [] ∧ (softReset s).su.faultSeq = 0 := ⟨rfl, rfl⟩
  refine ⟨_, whenOn_on (f := fun s => resetFrames s (softReset s)) hon, ?_⟩
  simp [hempty]

/-- The fault of a link reset is offered to the queue that the reset found. -/
theorem linkReset_faults {s : State} (hon : s.power.mainOn = true) : ∃ t, exec .linkReset s = .next t ∧
    t.su.faults = (offerFault .linkReset s).su.faults ∧ t.su.faultSeq = s.su.faultSeq + 1 := by
  refine ⟨_, whenOn_on (f := fun s => offerFault .linkReset (linkDown s)) hon, ?_⟩
  simp [offerFault_queue, linkDown_faults]

/-- Settles O10: the table by its rows, the acknowledge, the slot and the condition word, and the resets. -/
theorem faultQueueRule : Obligations.FaultQueueRule := by
  refine ⟨fun f s => ?_, fun m s hon => eventAck_faults m hon,
    fun s => ⟨faultSlot_nil, fun e rest => faultSlot_cons, conditionWord_testBit s (by decide)⟩,
    mainPowerOnReset_faults, fun s => softReset_faults, fun s => linkReset_faults, fun s => ⟨_, rfl, rfl⟩⟩
  obtain ⟨hqueue, hseq, -⟩ := offerFault_queue f s
  rw [hqueue]
  refine ⟨hseq, fun h => ⟨?_, offerFault_hasEvent f h⟩, fun _ h => queueAfter_short _ h, fun q last h hq hl => ?_,
    fun q last n h hq hl => ?_⟩
  · rw [h]
    exact queueAfter_short _ (by simp)
  · rw [h]
    exact queueAfter_full _ hq hl
  · rw [h]
    exact queueAfter_overflow _ hq hl

end Sys2Proof.Machine
end

section
/-! PROOFS. How a law passes the gates of a command, what the Status Unit becomes by reports alone, and what leaves the axes as they were. -/

namespace Sys2Proof.Machine

/-! ## Laws through the gates -/

/-- A law that the effect of a command keeps is kept by the command, whether or not the supply is present. -/
theorem whenOn_law (P : State → Prop) {s t : State} {f : State → State} (h : whenOn s f = .next t) (hs : P s)
    (hf : s.power.mainOn = true → P (f s)) : P t := by
  cases hon : s.power.mainOn with
  | true =>
    rw [whenOn_on hon] at h
    cases h
    exact hf hon
  | false =>
    rw [whenOn_off hon] at h
    cases h
    exact hs

/-- A law that the effect of a card in dispatch keeps is kept by the command of its kind. -/
theorem onDispatch_law (P : State → Prop) {k : CardKind} {s t : State} {f : CurrentCard → State → State}
    (h : onDispatch k s f = .next t) (hs : P s) (hf : ∀ c, Dispatching k c s → P (f c s)) : P t := by
  refine whenOn_law P h hs fun hon => ?_
  cases hc : s.ce.current with
  | none => exact hs
  | some c =>
    dsimp only
    split
    · rename_i hd
      simp only [Bool.and_eq_true, beq_iff_eq] at hd
      exact hf c ⟨hon, hd.1, hc, hd.2⟩
    · exact hs

theorem onDrive_law (P : State → Prop) {n : Nat} {s t : State} {f : CurrentCard → State → State} (h : onDrive n s f = .next t)
    (hs : P s) (hfail : ∀ c, Dispatching .drive c s → P (failField 16 s)) (hf : ∀ c, Dispatching .drive c s → P (f c s)) :
    P t := by
  refine onDispatch_law P h hs fun c hd => ?_
  (repeat' split)
  · exact hfail c hd
  · exact hf c hd
  · exact hs

/-- A law that an idle millisecond, the taking of a command from the queue and every command keep is kept by every step. -/
theorem step_law (P : State → Prop) (hclock : ∀ s n, P s → P { s with clock := n }) (hpending : ∀ s l, P s → P { s with pending := l })
    (hexec : ∀ i s t, P s → exec i s = .next t → P t) {s t : State} (hs : P s) (h : step s = .next t) : P t := by
  unfold step at h
  split at h
  · cases h
    exact hclock s _ hs
  · exact hexec _ _ _ (hpending s _ hs) h

theorem foldl_law {α : Type} (P : State → Prop) (f : State → α → State) (hf : ∀ s x, P s → P (f s x)) (l : List α) {s : State}
    (hs : P s) : P (l.foldl f s) := by
  induction l generalizing s with
  | nil => exact hs
  | cons x xs ih => exact ih (hf s x hs)

/-- The end of a chain read keeps a law that the engine's own changes, the read of a named card and the read's effect keep. -/
theorem onChainRead_law (P : State → Prop) (link : Option (BitVec 64)) {f : State → State} {s : State} (hs : P s)
    (hengine : ∀ g t, P t → P (setEngine g t)) (hnamed : ∀ l t, P t → P (readNamed l t)) (hf : ∀ t, P t → P (f t)) :
    P (onChainRead link s f) := by
  unfold onChainRead
  dsimp only
  split
  · exact hengine _ _ hs
  · split
    · exact hs
    · cases link with
      | none =>
        dsimp only
        split
        · exact hengine _ _ hs
        · exact hf _ hs
      | some l =>
        dsimp only
        split
        · exact hengine _ _ (hnamed _ _ hs)
        · exact hf _ (hnamed _ _ hs)

theorem onListRead_law (P : State → Prop) {f : PatchJob → State → State} {s : State} (hs : P s)
    (hstale : ∀ n, P { s with spb := { s.spb with stale := n } })
    (hf : ∀ p, s.spb.patch = some p → p.phase = .reading → P (f p s)) : P (onListRead s f) := by
  unfold onListRead
  split
  · exact hstale _
  · split
    · rename_i p hp
      split
      · rename_i hr
        exact hf p hp (by simpa using hr)
      · exact hs
    · exact hs

theorem onLoadRead_law (P : State → Prop) {f : LoadJob → State → State} {s : State} (hs : P s)
    (hstale : ∀ n, P { s with ps := { s.ps with stale := n } })
    (hf : ∀ j, s.ps.loader = some j → j.reading = true → P (f j s)) : P (onLoadRead s f) := by
  unfold onLoadRead
  split
  · exact hstale _
  · split
    · rename_i j hj
      split
      · rename_i hr
        exact hf j hj hr
      · exact hs
    · exact hs

/-! ## Reports: events and faults -/

/-- The Status Unit once a fault has been offered at a web position (R174). -/
def Status.withFault (f : FaultInfo) (pos : Nat) (u : Status) : Status :=
  let v := { u with faultSeq := u.faultSeq + 1, faults := queueAfter u.faults ⟨f, u.faultSeq, pos⟩ }
  if u.faults.isEmpty then { v with pageDue := true, events := v.events ||| Event.faultPending.mask } else v

/-- What the Status Unit becomes by events raised and faults offered, the event FAULT_PENDING with a fault alone. -/
inductive Reported (u : Status) : Status → Prop where
  | refl : Reported u u
  | raise {v : Status} (e : Event) (he : e ≠ .faultPending) (h : Reported u v) :
      Reported u { v with events := v.events ||| e.mask }
  | fault {v : Status} (f : FaultInfo) (pos : Nat) (h : Reported u v) : Reported u (v.withFault f pos)

theorem offerFault_su (f : FaultInfo) (s : State) : (offerFault f s).su = s.su.withFault f s.web.pos := by
  unfold offerFault Status.withFault
  dsimp only
  split <;> simp

section
variable {u : Status} {s : State}

@[simp] theorem reported_refl : Reported u u := .refl

@[simp] theorem reported_raise {w : BitVec 32} {q : List FaultEntry} {n : BitVec 16} {r : BitVec 32} {due : Bool} {cause : Option HaltCause}
    {inputs : List InputRecord} {e : Event} (he : e ≠ .faultPending) (hu : Reported u ⟨w, q, n, r, due, cause, inputs⟩) :
    Reported u ⟨w ||| e.mask, q, n, r, due, cause, inputs⟩ := .raise e he hu

theorem raiseEvent_reported {e : Event} (he : e ≠ .faultPending) (hu : Reported u s.su) : Reported u (raiseEvent e s).su := by
  rw [raiseEvent_su]
  exact .raise e he hu

@[simp] theorem offerFault_reported (f : FaultInfo) (hu : Reported u s.su) :
    Reported u (offerFault f s).su := by
  rw [offerFault_su]
  exact .fault f _ hu

@[simp] theorem finishCard_reported (c : CardRef) (st : CardState) (rc : ResultCode) (hu : Reported u s.su) :
    Reported u (finishCard c st rc s).su := by simp [finishCard, hu]

@[simp] theorem finalWrite_reported (c : CardRef) (fields : List (Nat × List Byte)) (st : CardState) (rc : ResultCode)
    (hu : Reported u s.su) :
    Reported u (finalWrite c fields st rc s).su := by simp [finalWrite, hu]

@[simp] theorem finishCurrent_reported (fields : List (Nat × List Byte)) (st : CardState) (rc : ResultCode)
    (hu : Reported u s.su) :
    Reported u (finishCurrent fields st rc s).su := by
  unfold finishCurrent
  split <;> simp [hu]

@[simp] theorem doneCurrent_reported (fields : List (Nat × List Byte)) (hu : Reported u s.su) :
    Reported u (doneCurrent fields s).su := by simp [doneCurrent, hu]

@[simp] theorem failCurrent_reported (rc : ResultCode) (fields : List (Nat × List Byte)) (hu : Reported u s.su) :
    Reported u (failCurrent rc fields s).su := by simp [failCurrent, hu]

@[simp] theorem failField_reported (off : Nat) (hu : Reported u s.su) :
    Reported u (failField off s).su := by simp [failField, hu]

@[simp] theorem stallCurrent_reported (hu : Reported u s.su) : Reported u (stallCurrent s).su := by
  unfold stallCurrent
  split <;> simp [hu]

@[simp] theorem waitOrFail_reported (rc : ResultCode) (fields : List (Nat × List Byte)) (hu : Reported u s.su) :
    Reported u (waitOrFail rc fields s).su := by
  unfold waitOrFail
  (repeat' split) <;> simp [hu]

@[simp] theorem parityError_reported (id node cell : Nat) (src : ParitySource) (marks : Byte) (hu : Reported u s.su) :
    Reported u (parityError id node cell src marks s).su := by simp [parityError, hu]

@[simp] theorem completeFree_reported (id : Nat) (hu : Reported u s.su) : Reported u (completeFree id s).su := by
  unfold completeFree
  split <;> simp [hu]

@[simp] theorem failPatchOf_reported (id : Nat) (hu : Reported u s.su) : Reported u (failPatchOf id s).su := by
  unfold failPatchOf
  (repeat' split) <;> simp [hu]

@[simp] theorem freeRecord_reported (id : Nat) (hu : Reported u s.su) : Reported u (freeRecord id s).su := by
  unfold freeRecord
  dsimp only
  split <;> simp [hu]

@[simp] theorem releaseProfile_reported (id : Nat) (hu : Reported u s.su) : Reported u (releaseProfile id s).su := by
  unfold releaseProfile
  dsimp only
  split <;> simp [hu]

@[simp] theorem reportStrip_reported (g : Segment) (w : Option (Nat × Int) × Option (Nat × Int)) (hu : Reported u s.su) :
    Reported u (reportStrip g w s).su := by
  unfold reportStrip
  split <;> simp [hu]

@[simp] theorem removeSeg_reported (g : Segment) (hu : Reported u s.su) :
    Reported u (removeSeg g s).su := by simp [removeSeg, hu]

@[simp] theorem failQueued_reported (rc : ResultCode) (fields : List (Nat × List Byte)) (q : QueuedPrint) (hu : Reported u s.su)
    :
    Reported u (failQueued rc fields q s).su := by simp [failQueued, hu]

@[simp] theorem endJob_reported (hu : Reported u s.su) : Reported u (endJob s).su := by
  unfold endJob
  split <;> simp [hu]

@[simp] theorem beginSplice_reported (a : Unwind) (cause : SpliceCause) (card : Option CardRef) (hu : Reported u s.su) :
    Reported u (beginSplice a cause card s).su := by simp [beginSplice, hu]

@[simp] theorem tryPending_reported (a : Unwind) (hu : Reported u s.su) : Reported u (tryPending a s).su := by
  unfold tryPending
  (repeat' split) <;> simp [hu]

@[simp] theorem autoRequest_reported (a : Unwind) (cause : SpliceCause) (hu : Reported u s.su) :
    Reported u (autoRequest a cause s).su := by
  unfold autoRequest
  dsimp only
  (repeat' split) <;> simp [hu]

@[simp] theorem completeSplice_reported (a : Unwind) (hu : Reported u s.su) : Reported u (completeSplice a s).su := by
  unfold completeSplice
  dsimp only
  split <;> simp [hu]

@[simp] theorem withdrawSplice_reported (a : Unwind) (hu : Reported u s.su) : Reported u (withdrawSplice a s).su := by
  unfold withdrawSplice
  dsimp only
  (repeat' split) <;> simp [hu]

@[simp] theorem haltPrint_reported (hu : Reported u s.su) : Reported u (haltPrint s).su := by simp [haltPrint, hu]

@[simp] theorem failPatch_reported (rc : ResultCode) (fields : List (Nat × List Byte)) (hu : Reported u s.su) :
    Reported u (failPatch rc fields s).su := by simp [failPatch, hu]

@[simp] theorem patchCard_reported (c : CurrentCard) (hu : Reported u s.su) : Reported u (patchCard c s).su := by
  unfold patchCard
  dsimp only
  (repeat' split) <;> simp [hu]

@[simp] theorem listReadFails_reported (hu : Reported u s.su) : Reported u (listReadFails s).su := by
  unfold listReadFails onListRead
  (repeat' split) <;> simp [hu]

@[simp] theorem advanceEdit_reported (hu : Reported u s.su) : Reported u (advanceEdit s).su := by
  unfold advanceEdit
  (repeat' split) <;> simp [hu]

@[simp] theorem applyEdit_reported (p : PatchJob) (e : Edit) (h : ProfileHeader) (hu : Reported u s.su) :
    Reported u (applyEdit p e h s).su := by
  unfold applyEdit
  dsimp only
  (repeat' split) <;> simp [hu]

@[simp] theorem noteParity_reported (id node cell : Nat) (src : ParitySource) (marks : Byte) (hu : Reported u s.su) :
    Reported u (noteParity id node cell src marks s).su := by
  unfold noteParity
  split <;> simp [hu]

@[simp] theorem acceptLoad_reported (c : CurrentCard) (hu : Reported u s.su) : Reported u (acceptLoad c s).su := by
  unfold acceptLoad
  dsimp only
  (repeat' split) <;> simp [hu]

@[simp] theorem dispatchLoad_reported (c : CurrentCard) (hu : Reported u s.su) : Reported u (dispatchLoad c s).su := by
  unfold dispatchLoad
  split <;> simp [hu]

@[simp] theorem abortLoad_reported (id : Nat) (hu : Reported u s.su) : Reported u (abortLoad id s).su := by
  unfold abortLoad
  (repeat' split) <;> simp [hu]

@[simp] theorem loadDone_reported (j : LoadJob) (h : ProfileHeader) (hu : Reported u s.su) :
    Reported u (loadDone j h s).su := by simp [loadDone, hu]

@[simp] theorem advanceLoad_reported (hu : Reported u s.su) : Reported u (advanceLoad s).su := by
  unfold advanceLoad
  dsimp only
  (repeat' split) <;> simp [hu]

@[simp] theorem printCard_reported (c : CurrentCard) (hu : Reported u s.su) : Reported u (printCard c s).su := by
  unfold printCard
  dsimp only
  (repeat' split) <;> simp [hu]

@[simp] theorem startPrint_reported (q : QueuedPrint) (c : Settings) (h : ProfileHeader) (hu : Reported u s.su) :
    Reported u (startPrint q c h s).su := by simp [startPrint, hu]

@[simp] theorem rasterFails_reported (kind : ReadFailure) (hu : Reported u s.su) : Reported u (rasterFails kind s).su := by
  unfold rasterFails
  (repeat' split) <;> simp [hu]

@[simp] theorem finishPrint_reported (hu : Reported u s.su) : Reported u (finishPrint s).su := by
  unfold finishPrint
  dsimp only
  split <;> simp [hu]

@[simp] theorem noteZones_reported (met : Bool) (hu : Reported u s.su) : Reported u (noteZones met s).su := by
  unfold noteZones
  split <;> simp [hu]

@[simp] theorem heatCard_reported (k : CurrentCard) (hu : Reported u s.su) : Reported u (heatCard k s).su := by
  unfold heatCard
  dsimp only
  (repeat' split) <;> simp [hu]

@[simp] theorem driveDone_reported (c : CurrentCard) (more : List (Nat × List Byte)) (hu : Reported u s.su) :
    Reported u (driveDone c more s).su := by simp [driveDone, hu]

@[simp] theorem driveWrong_reported (c : CurrentCard) (more : List (Nat × List Byte)) (hu : Reported u s.su) :
    Reported u (driveWrong c more s).su := by simp [driveWrong, hu]

@[simp] theorem startCard_reported (c : CurrentCard) (hu : Reported u s.su) : Reported u (startCard c s).su := by
  unfold startCard
  (repeat' split) <;> simp [hu]

@[simp] theorem speedCard_reported (c : CurrentCard) (hu : Reported u s.su) : Reported u (speedCard c s).su := by
  unfold speedCard
  (repeat' split) <;> simp [hu]

@[simp] theorem stopCard_reported (c : CurrentCard) (hu : Reported u s.su) : Reported u (stopCard c s).su := by
  unfold stopCard
  (repeat' split) <;> simp [hu]

@[simp] theorem fabricCard_reported (c : CurrentCard) (hu : Reported u s.su) : Reported u (fabricCard c s).su := by
  unfold fabricCard
  dsimp only
  (repeat' split) <;> simp [hu]

@[simp] theorem spliceCard_reported (c : CurrentCard) (hu : Reported u s.su) : Reported u (spliceCard c s).su := by
  unfold spliceCard
  (repeat' split) <;> simp [hu]

@[simp] theorem ackActive_reported (a : Unwind) (hu : Reported u s.su) : Reported u (ackActive a s).su := by
  unfold ackActive
  dsimp only
  split <;> simp [hu]

@[simp] theorem ackInactive_reported (a : Unwind) (hu : Reported u s.su) : Reported u (ackInactive a s).su := by
  unfold ackInactive
  split <;> simp [hu]

@[simp] theorem noteLink_reported (link : Nat) (hu : Reported u s.su) : Reported u (noteLink link s).su := by
  unfold noteLink
  (repeat' split) <;> simp [hu]

@[simp] theorem takeCard_reported (addr : Nat) (card : List Byte) (hu : Reported u s.su) :
    Reported u (takeCard addr card s).su := by
  unfold takeCard
  dsimp only
  split <;> simp [hu]

@[simp] theorem chainReadFault_reported (addr : Nat) (hu : Reported u s.su) : Reported u (chainReadFault addr s).su := by
  unfold chainReadFault
  split <;> simp [hu]

@[simp] theorem fenceCard_reported (c : CurrentCard) (hu : Reported u s.su) : Reported u (fenceCard c s).su := by
  unfold fenceCard
  split <;> simp [hu]

@[simp] theorem raiseLost_reported (hu : Reported u s.su) : Reported u (raiseLost s).su := by
  unfold raiseLost
  split <;> simp [hu]

@[simp] theorem freeIfUnready_reported (id : Nat) (hu : Reported u s.su) : Reported u (freeIfUnready id s).su := by
  unfold freeIfUnready
  dsimp only
  split <;> simp [hu]

@[simp] theorem orphanMap_reported (hu : Reported u s.su) : Reported u (orphanMap s).su := by simp [orphanMap, hu]

theorem foldl_reported {α : Type} {f : State → α → State} (hf : ∀ s x, Reported u s.su → Reported u (f s x).su) (l : List α)
    (hu : Reported u s.su) : Reported u (l.foldl f s).su :=
  foldl_law (fun s => Reported u s.su) f hf l hu

@[simp] theorem failQueuedOf_reported (id : Nat) (hu : Reported u s.su) : Reported u (failQueuedOf id s).su :=
  foldl_reported (fun s q h => by simp [h]) _ hu

@[simp] theorem haltMap_reported (hu : Reported u s.su) : Reported u (haltMap s).su :=
  foldl_reported (fun s g h => by simp [h]) _ hu

@[simp] theorem flushQueue_reported (hu : Reported u s.su) : Reported u (flushQueue s).su :=
  foldl_reported (fun s q h => by simp [h]) _ hu

@[simp] theorem discardQueue_reported (hu : Reported u s.su) : Reported u (discardQueue s).su :=
  foldl_reported (fun s q h => by simp [h]) _ hu

@[simp] theorem freeUnready_reported (hu : Reported u s.su) : Reported u (freeUnready s).su :=
  foldl_reported (fun s i h => by simp [h]) _ hu

@[simp] theorem foldl_offerFault_reported (l : List FaultInfo) (hu : Reported u s.su) :
    Reported u (l.foldl (fun s f => offerFault f s) s).su :=
  foldl_reported (fun s f h => by simp [h]) l hu

theorem freed_reported (id : Nat) (hu : Reported u s.su) : Reported u (freeRecord id (failQueuedOf id s)).su := by simp [hu]

@[simp] theorem loadReadFails_reported (hu : Reported u s.su) : Reported u (loadReadFails s).su := by
  unfold loadReadFails onLoadRead
  (repeat' split)
  · exact hu
  · simp only [touchStart_frame, offerTo_frame]
    exact finalWrite_reported _ _ _ _ (freed_reported _ (by simp [hu]))
  · exact hu
  · exact hu

@[simp] theorem dropCard_reported (c : CurrentCard) (hu : Reported u s.su) : Reported u (dropCard c s).su := by
  unfold dropCard
  dsimp only
  (repeat' split)
  case h_2 => exact doneCurrent_reported _ (freed_reported _ (by simp [hu]))
  all_goals simp [hu]

@[simp] theorem reoffer_reported (c : CurrentCard) (hu : Reported u s.su) : Reported u (reoffer c s).su := by
  unfold reoffer
  split <;> simp [hu]

@[simp] theorem linkDown_reported (hu : Reported u s.su) : Reported u (linkDown s).su := by
  simp only [linkDown, forgetSpliceCards_frame, recountFabrics_frame, pumpPort_frame]
  exact freeUnready_reported (discardQueue_reported (orphanMap_reported (by simp [hu])))

theorem onChainRead_reported (link : Option (BitVec 64)) {f : State → State} (hf : ∀ s, Reported u s.su → Reported u (f s).su)
    (hu : Reported u s.su) : Reported u (onChainRead link s f).su := by
  unfold onChainRead
  dsimp only
  (repeat' split)
  all_goals first | exact hu | skip
  all_goals simp [setEngine, hu, hf]

theorem chainReadFails_reported (link : Option (BitVec 64)) (hu : Reported u s.su) : Reported u (chainReadFails link s).su := by
  refine onChainRead_reported link (fun s hs => ?_) hu
  dsimp only
  (repeat' split) <;> simp [hs]

/-- A halt sets its cause, where none stands, and for the rest reports (R122). -/
theorem takeHalt_reported (cause : HaltCause) :
    Reported { s.su with haltCause := s.su.haltCause.or (some cause) } (takeHalt cause s).su := by
  simp only [takeHalt, touchStart_frame, reportStopped_frame]
  refine withdrawSplice_reported _ (withdrawSplice_reported _ (haltPrint_reported (haltMap_reported ?_)))
  simp only [sendFrame_frame, mapAxes_frame, raiseEvent_su]
  exact .raise _ (by decide) .refl

theorem Reported.haltCause {v : Status} (h : Reported u v) : v.haltCause = u.haltCause := by
  induction h with
  | refl => rfl
  | raise e he h ih => exact ih
  | @fault v f pos h ih =>
    rw [← ih, Status.withFault]
    dsimp only
    split <;> rfl

end

@[simp] theorem foldl_offerFault_frame (l : List FaultInfo) (s : State) :
    (l.foldl (fun s f => offerFault f s) s).pending = s.pending ∧ (l.foldl (fun s f => offerFault f s) s).clock = s.clock ∧
    (l.foldl (fun s f => offerFault f s) s).power = s.power ∧ (l.foldl (fun s f => offerFault f s) s).ka = s.ka ∧
    (l.foldl (fun s f => offerFault f s) s).regs = s.regs ∧ (l.foldl (fun s f => offerFault f s) s).setup = s.setup ∧
    (l.foldl (fun s f => offerFault f s) s).lastVMax = s.lastVMax ∧ (l.foldl (fun s f => offerFault f s) s).ce = s.ce ∧
    (l.foldl (fun s f => offerFault f s) s).web = s.web ∧ (l.foldl (fun s f => offerFault f s) s).tmap = s.tmap ∧
    (l.foldl (fun s f => offerFault f s) s).ps = s.ps ∧ (l.foldl (fun s f => offerFault f s) s).spb = s.spb ∧
    (l.foldl (fun s f => offerFault f s) s).nc = s.nc ∧ (l.foldl (fun s f => offerFault f s) s).pe = s.pe ∧
    (l.foldl (fun s f => offerFault f s) s).hc = s.hc ∧ (l.foldl (fun s f => offerFault f s) s).wd = s.wd ∧
    (l.foldl (fun s f => offerFault f s) s).tc = s.tc ∧ (l.foldl (fun s f => offerFault f s) s).rc = s.rc := by
  refine ⟨foldl_keeps (·.pending) _ (fun s x => by simp) _ _,
    foldl_keeps (·.clock) _ (fun s x => by simp) _ _,
    foldl_keeps (·.power) _ (fun s x => by simp) _ _,
    foldl_keeps (·.ka) _ (fun s x => by simp) _ _,
    foldl_keeps (·.regs) _ (fun s x => by simp) _ _,
    foldl_keeps (·.setup) _ (fun s x => by simp) _ _,
    foldl_keeps (·.lastVMax) _ (fun s x => by simp) _ _,
    foldl_keeps (·.ce) _ (fun s x => by simp) _ _,
    foldl_keeps (·.web) _ (fun s x => by simp) _ _,
    foldl_keeps (·.tmap) _ (fun s x => by simp) _ _,
    foldl_keeps (·.ps) _ (fun s x => by simp) _ _,
    foldl_keeps (·.spb) _ (fun s x => by simp) _ _,
    foldl_keeps (·.nc) _ (fun s x => by simp) _ _,
    foldl_keeps (·.pe) _ (fun s x => by simp) _ _,
    foldl_keeps (·.hc) _ (fun s x => by simp) _ _,
    foldl_keeps (·.wd) _ (fun s x => by simp) _ _,
    foldl_keeps (·.tc) _ (fun s x => by simp) _ _,
    foldl_keeps (·.rc) _ (fun s x => by simp) _ _⟩

/-! ## Axes -/

theorem modifyNth_eq_modify {α : Type} (l : List α) (n : Nat) (f : α → α) : modifyNth l n f = l.modify n f := by
  induction l generalizing n with
  | nil => simp [modifyNth]
  | cons x xs ih => cases n <;> simp [modifyNth, ih]

theorem mem_modifyNth {α : Type} {l : List α} {n : Nat} {f : α → α} {x : α} (h : x ∈ modifyNth l n f) :
    x ∈ l ∨ ∃ y ∈ l, x = f y := by
  rw [modifyNth_eq_modify, List.mem_iff_getElem?] at h
  obtain ⟨i, hi⟩ := h
  rw [List.getElem?_modify] at hi
  obtain ⟨y, hy, rfl⟩ := Option.map_eq_some_iff.mp hi
  have hmem : y ∈ l := List.mem_of_getElem? hy
  split
  · exact .inr ⟨y, hmem, rfl⟩
  · exact .inl hmem

@[simp] theorem setFabric_axes (s : State) (id : Nat) (f : FabricRecord → FabricRecord) :
    (setFabric id f s).tc.axes = s.tc.axes := by simp [setFabric]

@[simp] theorem takeFabric_axes (s : State) (id : Nat) : (takeFabric id s).tc.axes = s.tc.axes := by
  unfold takeFabric
  split <;> simp

@[simp] theorem releaseFabric_axes (s : State) (id : Nat) : (releaseFabric id s).tc.axes = s.tc.axes := by
  unfold releaseFabric
  split <;> simp

@[simp] theorem removeSeg_axes (s : State) (g : Segment) : (removeSeg g s).tc.axes = s.tc.axes := by simp [removeSeg]

@[simp] theorem failQueued_axes (s : State) (rc : ResultCode) (fields : List (Nat × List Byte)) (q : QueuedPrint) :
    (failQueued rc fields q s).tc.axes = s.tc.axes := by simp [failQueued]

@[simp] theorem failQueuedOf_axes (s : State) (id : Nat) : (failQueuedOf id s).tc.axes = s.tc.axes := by
  unfold failQueuedOf
  exact foldl_keeps (·.tc.axes) _ (fun s x => by simp) _ s

@[simp] theorem haltMap_axes (s : State) : (haltMap s).tc.axes = s.tc.axes := by
  unfold haltMap
  exact foldl_keeps (·.tc.axes) _ (fun s x => by simp) _ s

@[simp] theorem enqueuePrint_axes (s : State) (q : QueuedPrint) : (enqueuePrint q s).tc.axes = s.tc.axes := by
  unfold enqueuePrint
  dsimp only
  split <;> simp

@[simp] theorem printCard_axes (s : State) (c : CurrentCard) : (printCard c s).tc.axes = s.tc.axes := by
  unfold printCard
  dsimp only
  (repeat' split) <;> simp

@[simp] theorem loadReadFails_axes (s : State) : (loadReadFails s).tc.axes = s.tc.axes := by
  unfold loadReadFails onLoadRead
  (repeat' split) <;> simp

@[simp] theorem dropCard_axes (s : State) (c : CurrentCard) : (dropCard c s).tc.axes = s.tc.axes := by
  unfold dropCard
  dsimp only
  (repeat' split) <;> simp

@[simp] theorem flushQueue_axes (s : State) : (flushQueue s).tc.axes = s.tc.axes := by
  unfold flushQueue
  exact foldl_keeps (·.tc.axes) _ (fun s x => by simp) _ s

@[simp] theorem fabricCard_axes (s : State) (c : CurrentCard) : (fabricCard c s).tc.axes = s.tc.axes := by
  unfold fabricCard
  dsimp only
  (repeat' split) <;> simp

@[simp] theorem reoffer_axes (s : State) (c : CurrentCard) : (reoffer c s).tc.axes = s.tc.axes := by
  unfold reoffer
  split <;> simp

@[simp] theorem recountFabrics_axes (s : State) : (recountFabrics s).tc.axes = s.tc.axes := by simp [recountFabrics]

end Sys2Proof.Machine
end

section
/-! PROOFS. The agreement of HALTED, the axes and the halt cause at every step (R122, R125, R130, R177). -/

namespace Sys2Proof.Machine

/-- Which of the axes are OFF. -/
def offs (l : List AxisRecord) : List Bool := l.map fun a => a.state == .off

theorem offs_modifyNth {f : AxisRecord → AxisRecord} (hf : ∀ x, (f x).state = .off ↔ x.state = .off) (l : List AxisRecord) (n : Nat) :
    offs (modifyNth l n f) = offs l := by
  induction l generalizing n with
  | nil => rfl
  | cons x xs ih =>
    have hx : ((f x).state == .off) = (x.state == .off) := by rw [Bool.eq_iff_iff]; simpa using hf x
    cases n with
    | zero => simp [modifyNth, offs, hx]
    | succ n => simpa [modifyNth, offs] using ih n

theorem setAxis_offs {f : AxisRecord → AxisRecord} (hf : ∀ x, (f x).state = .off ↔ x.state = .off) (a : Axis) (s : State) :
    offs (setAxis a f s).tc.axes = offs s.tc.axes := offs_modifyNth hf _ _

@[simp] theorem handoff_offs (g : Segment) (s : State) : offs (handoff g s).tc.axes = offs s.tc.axes := by
  have hset := fun f id tag t a s => setAxis_offs (f := handoffAxis f id tag t) (fun x => by simp [handoffAxis]) a s
  unfold handoff
  (repeat' split) <;> simp [hset]

@[simp] theorem ackActive_offs (a : Unwind) (s : State) : offs (ackActive a s).tc.axes = offs s.tc.axes := by
  unfold ackActive
  dsimp only
  split
  · rw [setAxis_offs fun x => ?_]
    · simp
    · by_cases hx : x.state = .active <;> simp [hx]
  · simp

@[simp] theorem completeSplice_offs (a : Unwind) (s : State) : offs (completeSplice a s).tc.axes = offs s.tc.axes := by
  have hset : ∀ x : AxisRecord,
      (if x.state = .handedOver then { x with state := .active } else x).state = .off ↔ x.state = .off := fun x => by
    by_cases hx : x.state = .handedOver <;> simp [hx]
  unfold completeSplice
  dsimp only
  split <;> simp [setAxis_offs hset]

@[simp] theorem ackInactive_offs (a : Unwind) (s : State) : offs (ackInactive a s).tc.axes = offs s.tc.axes := by
  unfold ackInactive
  split <;> simp

@[simp] theorem takeReading_offs (r : AxisReading) (a : Axis) (s : State) :
    offs (setAxis a (takeReading r) s).tc.axes = offs s.tc.axes :=
  setAxis_offs (fun x => by cases r <;> simp [takeReading]) a s

@[simp] theorem computeAxes_offs (frame : Option (List TensionReading)) (s : State) :
    offs (computeAxes frame s).tc.axes = offs s.tc.axes :=
  foldl_keeps (fun s => offs s.tc.axes) _ (fun s a => setAxis_offs (fun x => by unfold computeAxis; split <;> simp) a s) _ s

@[simp] theorem setupAxes_offs (c : Settings) (l : List AxisRecord) : offs (l.map (setupAxis c)) = offs l := by
  simp [offs, setupAxis]

theorem haltAgrees_iff {s : State} : HaltAgrees s ↔ (s.wd.state = .halted → ∀ b ∈ offs s.tc.axes, b = true) ∧
    (s.wd.state ≠ .halted → ∀ b ∈ offs s.tc.axes, b = false) ∧ (s.wd.state = .halted ↔ s.su.haltCause ≠ none) := by
  simp [HaltAgrees, offs]

/-- The law rests on whether the drive is HALTED, which axes are OFF, and the halt cause. -/
theorem HaltAgrees.congr {s t : State} (hs : HaltAgrees s) (hwd : t.wd.state = .halted ↔ s.wd.state = .halted)
    (hax : offs t.tc.axes = offs s.tc.axes) (hsu : t.su.haltCause = s.su.haltCause) : HaltAgrees t := by
  rw [haltAgrees_iff] at hs ⊢
  simpa only [ne_eq, hwd, hax, hsu] using hs

/-- What leaves the drive and the axes, and otherwise only reports, keeps the law. -/
theorem HaltAgrees.reported {s t : State} (hs : HaltAgrees s) (hwd : t.wd = s.wd) (hax : offs t.tc.axes = offs s.tc.axes)
    (hsu : Reported s.su t.su) : HaltAgrees t :=
  hs.congr (by rw [hwd]) hax hsu.haltCause

/-- A reset leaves the drive HALTED, the axes OFF and the cause RESET. -/
theorem haltAgrees_reset {t : State} (hwd : t.wd.state = .halted) (hax : t.tc.axes = List.replicate 4 resetAxis)
    (hsu : t.su.haltCause = some .reset) : HaltAgrees t := by
  refine haltAgrees_iff.mpr ⟨fun _ => ?_, fun h => absurd hwd h, by simp [hwd, hsu]⟩
  simp [hax, offs, resetAxis]

theorem takeHalt_haltAgrees (cause : HaltCause) (s : State) : HaltAgrees (takeHalt cause s) := by
  have hwd : (takeHalt cause s).wd.state = .halted := by rw [takeHalt_wd]
  have hax : (takeHalt cause s).tc.axes = s.tc.axes.map axisOff := by simp [takeHalt, mapAxes]
  have hsu : (takeHalt cause s).su.haltCause ≠ none := by simp [(takeHalt_reported cause).haltCause]
  refine haltAgrees_iff.mpr ⟨fun _ => ?_, fun h => absurd hwd h, by simp [hwd, hsu]⟩
  simp [hax, offs, axisOff]

section
variable {s : State}

theorem haltLine_haltAgrees (cause : HaltCause) (hs : HaltAgrees s) : HaltAgrees (haltLine cause s) := by
  unfold haltLine
  split
  · exact hs.reported (by simp) (by simp) (by simp)
  · exact takeHalt_haltAgrees cause s

theorem parityHalt_haltAgrees (marks : Byte) (hs : HaltAgrees s) : HaltAgrees (parityHalt marks s) := by
  unfold parityHalt
  split
  · exact haltLine_haltAgrees .parity hs
  · exact hs

theorem tripHalts_haltAgrees (c : Settings) (n : Nat) (hs : HaltAgrees s) : HaltAgrees (tripHalts c n s) := by
  unfold tripHalts
  split
  · exact foldl_law HaltAgrees _ (fun s _ hs => haltLine_haltAgrees .trip hs) _ hs
  · exact hs

theorem createEntry_haltAgrees (id node cell k : Nat) (c : StoreCell) (hs : HaltAgrees s) :
    HaltAgrees (createEntry id node cell k c s) := by
  unfold createEntry
  (repeat' split)
  · exact hs
  · exact parityHalt_haltAgrees _ (hs.reported (by simp) (by simp) (by simp))
  · exact hs

theorem serveFill_haltAgrees (r : FillRequest) (live : Bool) (c : StoreCell) (hs : HaltAgrees s) :
    HaltAgrees (serveFill r live c s) := by
  refine parityHalt_haltAgrees _ (hs.reported ?_ ?_ ?_) <;> (repeat' split) <;> simp

theorem readAxis_haltAgrees (frame : Option (List TensionReading)) (a : Axis) (hs : HaltAgrees s) :
    HaltAgrees (readAxis frame s a) := by
  have hread : HaltAgrees (setAxis a (takeReading (classifyAxis frame a)) s) := hs.reported (by simp) (by simp) (by simp)
  unfold readAxis
  dsimp only
  split
  · exact haltLine_haltAgrees _ (hread.reported (by simp) (by simp) (by simp))
  · exact hread

theorem autoRequest_haltAgrees (a : Unwind) (cause : SpliceCause) (hs : HaltAgrees s) : HaltAgrees (autoRequest a cause s) :=
  hs.reported (by simp) (by simp) (by simp)

theorem ackActive_haltAgrees (a : Unwind) (hs : HaltAgrees s) : HaltAgrees (ackActive a s) :=
  hs.reported (by simp) (by simp) (by simp)

theorem ackInactive_haltAgrees (a : Unwind) (hs : HaltAgrees s) : HaltAgrees (ackInactive a s) :=
  hs.reported (by simp) (by simp) (by simp)

theorem inputEdge_haltAgrees (i : LineInput) (active : Bool) (hs : HaltAgrees s) : HaltAgrees (inputEdge i active s) := by
  have hguard : HaltAgrees (if s.wd.state != .idle && haltOnGuard s then haltLine .guard s else s) := by
    split
    · exact haltLine_haltAgrees _ hs
    · exact hs
  cases active with
  | false =>
    cases i with
    | paperSpliceAck => exact ackInactive_haltAgrees .pu hs
    | fabricSpliceAck => exact ackInactive_haltAgrees .fu hs
    | _ => exact hs
  | true =>
    cases i with
    | paperBreak | fabricBreak | estop => exact haltLine_haltAgrees _ hs
    | guard => exact hguard
    | paperRollEnd => exact autoRequest_haltAgrees .pu _ hs
    | fabricRollEnd => exact autoRequest_haltAgrees .fu _ hs
    | paperSpliceAck => exact ackActive_haltAgrees .pu hs
    | fabricSpliceAck => exact ackActive_haltAgrees .fu hs

theorem polarityEdges_haltAgrees (before : State) (hs : HaltAgrees s) : HaltAgrees (polarityEdges before s) := by
  refine foldl_law HaltAgrees _ (fun s i hs => ?_) _ hs
  unfold polarityEdge
  split
  · exact hs
  · exact inputEdge_haltAgrees i _ hs

theorem takeSettings_haltAgrees (c : Settings) (hs : HaltAgrees s) : HaltAgrees (takeSettings c s) := by
  refine hs.congr (by simp) ?_ ?_
  · simp [takeSettings, mapAxes]
  · simp [takeSettings, setupInputs]

theorem setupCard_haltAgrees (k : CurrentCard) (hs : HaltAgrees s) : HaltAgrees (setupCard k s) := by
  unfold setupCard
  dsimp only
  (repeat' split)
  · exact hs.reported (by simp) (by simp) (by simp)
  · exact hs.reported (by simp) (by simp) (by simp)
  · exact (polarityEdges_haltAgrees s (takeSettings_haltAgrees (parseSettings k.image) hs)).reported (by simp [applySetup]) (by simp [applySetup])
      (by simp [applySetup])

end

theorem clearHalt_haltAgrees (s : State) : HaltAgrees (clearHalt s) := by
  have hsu : (clearHalt s).su.haltCause = none := by
    have h : Reported { s.su with haltCause := none } (clearHalt s).su := by simp [clearHalt, setDrive]
    exact h.haltCause
  have hwd : (clearHalt s).wd.state = .idle := by simp [clearHalt, setDrive]
  have hax : (clearHalt s).tc.axes = s.tc.axes.map axisActivate := by simp [clearHalt, mapAxes, setDrive]
  refine haltAgrees_iff.mpr ⟨fun h => by simp [hwd] at h, fun _ => ?_, by simp [hwd, hsu]⟩
  simp [hax, offs, axisActivate]

theorem clearCard_haltAgrees {s : State} (c : CurrentCard) (hs : HaltAgrees s) : HaltAgrees (clearCard c s) := by
  unfold clearCard
  dsimp only
  (repeat' split)
  · exact hs.reported (by simp) (by simp) (by simp)
  · exact hs.reported (by simp) (by simp) (by simp)
  · exact (clearHalt_haltAgrees s).reported (by simp) (by simp) (by simp)
  · exact (clearHalt_haltAgrees s).reported (by simp) (by simp) (by simp)

/-- A DRIVE card that is DONE with another drive keeps the law if it neither enters nor leaves HALTED. -/
theorem driveDone_haltAgrees {s : State} {f : Drive → Drive} (c : CurrentCard) (hs : HaltAgrees s)
    (hf : (f s.wd).state = .halted ↔ s.wd.state = .halted) : HaltAgrees (driveDone c [] (setDrive f s)) := by
  have hset : HaltAgrees (setDrive f s) := hs.congr hf rfl rfl
  exact hset.reported (by simp) (by simp) (by simp)

theorem touchStart_haltAgrees {s : State} (hs : HaltAgrees s) : HaltAgrees (touchStart s) :=
  hs.reported (by simp) (by simp) (by simp)

theorem startCard_haltAgrees {s : State} (c : CurrentCard) (hs : HaltAgrees s) : HaltAgrees (startCard c s) := by
  unfold startCard
  (repeat' split)
  · exact hs.reported (by simp) (by simp) (by simp)
  · exact hs.reported (by simp) (by simp) (by simp)
  · rename_i h _
    have hidle : s.wd.state = .idle := by simp_all
    exact touchStart_haltAgrees (driveDone_haltAgrees c hs (by simp [hidle]))

theorem speedCard_haltAgrees {s : State} (c : CurrentCard) (hs : HaltAgrees s) : HaltAgrees (speedCard c s) := by
  cases h : s.wd.state with
  | starting | running | draining =>
    simp only [speedCard, h]
    split
    · exact hs.reported (by simp) (by simp) (by simp)
    · exact driveDone_haltAgrees c hs Iff.rfl
  | idle | rampdown | halted =>
    rw [speedCard_refused (by simp [h])]
    exact hs.reported (by simp) (by simp) (by simp)

theorem stopCard_haltAgrees {s : State} (c : CurrentCard) (hs : HaltAgrees s) : HaltAgrees (stopCard c s) := by
  cases h : s.wd.state with
  | starting | running =>
    rw [stopCard_drains (by simp [h])]
    exact touchStart_haltAgrees (driveDone_haltAgrees c hs (by simp [h]))
  | idle | draining | rampdown =>
    rw [stopCard_no_effect (by simp [h]) (by simp [h])]
    exact hs.reported (by simp) (by simp) (by simp)
  | halted =>
    rw [stopCard_halted h]
    exact hs.reported (by simp) (by simp) (by simp)

theorem rampDrive_halted (noSegs : Bool) (w : Nat × Nat) (step : Nat) (d : Drive) :
    (rampDrive noSegs w step d).state = .halted ↔ d.state = .halted := by
  cases h : d.state <;> simp [rampDrive, heldPhase, statePhase, stepPhase, targetPhase, drainPhase, h] <;> (repeat' split) <;> simp_all

/-- The ramp period at the blocks that it reaches beside the Print Engine's hold and the ports (R118). -/
theorem execRampPeriod_next {s t : State} (hon : s.power.mainOn = true) (h : execRampPeriod s = .next t) :
    t.wd = rampDrive s.tmap.segs.isEmpty (lineWindow s) (rampStep s) s.wd ∧ t.tc = s.tc ∧ Reported s.su t.su := by
  rw [execRampPeriod, whenOn_on hon] at h
  cases h
  dsimp only
  refine ⟨?_, ?_, ?_⟩ <;> (repeat' split) <;> simp [setDrive]

theorem execRampPeriod_haltAgrees {s t : State} (hs : HaltAgrees s) (h : execRampPeriod s = .next t) : HaltAgrees t := by
  refine whenOn_law HaltAgrees h hs fun hon => ?_
  obtain ⟨hwd, htc, hsu⟩ := execRampPeriod_next hon (whenOn_on hon)
  exact hs.congr (by rw [hwd, rampDrive_halted]) (by rw [htc]) hsu.haltCause

theorem execHeatPeriod_haltAgrees {s t : State} (hs : HaltAgrees s) (h : execHeatPeriod s = .next t) : HaltAgrees t := by
  refine whenOn_law HaltAgrees h hs fun _ => ?_
  cases hc : s.setup with
  | none => exact hs
  | some c =>
    dsimp only
    have htrip : ∀ n t, HaltAgrees t → HaltAgrees (touchIfMoved s.hc.zones (tripHalts c n t)) := fun n t ht =>
      (tripHalts_haltAgrees c n ht).reported (by simp) (by simp) (by simp)
    split
    · exact htrip _ _ (hs.reported (by simp) (by simp) (noteZones_reported _ (raiseEvent_reported (by decide) (by simp))))
    · exact htrip _ _ (hs.reported (by simp) (by simp) (noteZones_reported _ (by simp)))

/-- A tension period halts the line or leaves the drive and the axes' states (R132). -/
theorem execTensionPeriod_haltAgrees {s t : State} (hs : HaltAgrees s) (h : execTensionPeriod s = .next t) : HaltAgrees t := by
  refine whenOn_law HaltAgrees h hs fun _ => ?_
  have hread : HaltAgrees (allAxes.foldl (readAxis s.tc.frame) { s with tc := { s.tc with frame := none } }) :=
    foldl_law HaltAgrees _ (fun s a hs => readAxis_haltAgrees _ a hs) _ hs
  exact hread.reported (by simp) (by simp) (by simp)

theorem controlWrite_line (run : Bool) (interval : BitVec 8) (s : State) :
    (controlWrite run interval s).wd = s.wd ∧ (controlWrite run interval s).tc = s.tc ∧ (controlWrite run interval s).su = s.su := by
  unfold controlWrite
  dsimp only
  (repeat' split) <;> simp

/-- EVENT_ACK reaches the events and the fault queue alone (R172, R174). -/
theorem discardOldest_haltAgrees {s : State} (hs : HaltAgrees s) : HaltAgrees (discardOldest s) := by
  unfold discardOldest
  split
  · exact hs
  · dsimp only
    split
    · exact hs
    · exact hs.congr (by simp) (by simp) (by simp)

/-- Every command keeps the law: the halt, the resets and CLEAR set its three parts together, and no other command reaches them but for
states other than HALTED and OFF. -/
theorem exec_haltAgrees {i : Instr} {s t : State} (hs : HaltAgrees s) (h : exec i s = .next t) : HaltAgrees t := by
  have hfield : ∀ c, Dispatching .drive c s → HaltAgrees (failField 16 s) := fun c _ => hs.reported (by simp) (by simp) (by simp)
  unfold exec at h
  cases i with
  -- Resets, supplies and registers.
  | mainPowerOnReset z st =>
    cases h
    have hsu : Reported (powerOn z st s).su (raiseLost (resetFrames s (powerOn z st s))).su := by
      simp only [raiseLost_reported, resetFrames_frame, reported_refl]
    refine haltAgrees_reset ?_ ?_ hsu.haltCause <;> simp only [raiseLost_frame, resetFrames_frame] <;> rfl
  | softReset => refine whenOn_law HaltAgrees h hs fun _ => haltAgrees_reset ?_ ?_ ?_ <;> simp only [resetFrames_frame] <;> rfl
  | keepAlivePowerOnReset | mainSupplyLoss =>
    cases h
    exact hs
  | linkReset =>
    refine whenOn_law HaltAgrees h hs fun _ => hs.congr ?_ (by simp [linkDown]) (Reported.haltCause (by simp))
    cases hd : s.wd.state <;> simp [linkDown, linkDrive, hd]
  | runSet | runClear | watchInterval =>
    refine whenOn_law HaltAgrees h hs fun _ => ?_
    obtain ⟨hwd, htc, hsu⟩ := controlWrite_line _ _ s
    exact hs.reported hwd (by rw [htc]) (by rw [hsu]; exact .refl)
  | registerWrite => exact whenOn_law HaltAgrees h hs fun _ => hs
  | irqEnable => exact whenOn_law HaltAgrees h hs fun _ => hs.reported (by simp) (by simp) (by simp)
  | eventAck =>
    refine whenOn_law HaltAgrees h hs fun _ => ?_
    dsimp only
    split
    · exact discardOldest_haltAgrees hs
    · exact hs
  | bookBase =>
    refine whenOn_law HaltAgrees h hs fun _ => ?_
    dsimp only
    (repeat' split) <;> exact hs.congr (by simp) (by simp) (by simp)
  | wake | watchTimerExpiry | statusPageWrite =>
    refine whenOn_law HaltAgrees h hs fun _ => ?_
    (repeat' split) <;> exact hs.congr (by simp) (by simp) (by simp)
  -- The chain of cards.
  | chainReadComplete link =>
    refine whenOn_law HaltAgrees h hs fun _ => onChainRead_law HaltAgrees _ hs ?_ ?_ fun t ht => ?_
    · exact fun g t ht => ht
    · exact fun l t ht => ht.reported (by simp) (by simp) (by simp)
    · dsimp only
      split <;> exact ht.reported (by simp) (by simp) (by simp)
  | cardReadError link | chainReadTimeout link =>
    refine whenOn_law HaltAgrees h hs fun _ => onChainRead_law HaltAgrees _ hs ?_ ?_ fun t ht => ?_
    · exact fun g t ht => ht
    · exact fun l t ht => ht.reported (by simp) (by simp) (by simp)
    · dsimp only
      (repeat' split) <;> exact ht.reported (by simp) (by simp) (by simp)
  | cardReoffer =>
    refine whenOn_law HaltAgrees h hs fun _ => ?_
    split <;> exact hs.reported (by simp) (by simp) (by simp)
  | heat | fabric | load | print | splice | fence =>
    exact onDispatch_law HaltAgrees h hs fun c _ => hs.reported (by simp) (by simp) (by simp)
  | drop => exact onDispatch_law HaltAgrees h hs fun c _ => hs.reported (by simp) (by simp) (by simp)
  | patch =>
    refine onDispatch_law HaltAgrees h hs fun c _ => ?_
    split <;> exact hs.reported (by simp) (by simp) (by simp)
  | setup => exact onDispatch_law HaltAgrees h hs fun c _ => setupCard_haltAgrees c hs
  | start => exact onDrive_law HaltAgrees h hs hfield fun c _ => startCard_haltAgrees c hs
  | speed => exact onDrive_law HaltAgrees h hs hfield fun c _ => speedCard_haltAgrees c hs
  | stop => exact onDrive_law HaltAgrees h hs hfield fun c _ => stopCard_haltAgrees c hs
  | clear => exact onDrive_law HaltAgrees h hs hfield fun c _ => clearCard_haltAgrees c hs
  | halt =>
    exact onDrive_law HaltAgrees h hs hfield fun c _ =>
      (haltLine_haltAgrees .host hs).reported (by simp) (by simp) (by simp)
  -- The web and the line.
  | positionUpdate => exact whenOn_law HaltAgrees h hs fun _ => hs.reported (by simp) (by simp) (by simp)
  | backTravel | heaterWindow => exact whenOn_law HaltAgrees h hs fun _ => hs
  | drumEncoderReport => exact whenOn_law HaltAgrees h hs fun _ => hs.congr Iff.rfl rfl rfl
  | tensionFrame | zoneFrame | heaterOnTimeEnd | rawLevelChange =>
    refine whenOn_law HaltAgrees h hs fun _ => ?_
    split <;> exact hs
  | leadAtNip | trailAtNip | leadExit | trailExit | jointLeavesWrap | fabricJointDue | rollCountRequest | drumTravelIncrement =>
    refine whenOn_law HaltAgrees h hs fun _ => ?_
    split <;> exact hs.reported (by simp) (by simp) (by simp)
  | handoverLimit =>
    refine whenOn_law HaltAgrees h hs fun _ => ?_
    split
    · exact haltLine_haltAgrees .handover (hs.reported (by simp) (by simp) (by simp))
    · exact hs
  | spliceTimeout =>
    refine whenOn_law HaltAgrees h hs fun _ => ?_
    dsimp only
    (repeat' split) <;> exact hs.reported (by simp) (by simp) (by simp)
  | inputFilterExpiry input =>
    refine whenOn_law HaltAgrees h hs fun _ => ?_
    dsimp only
    (repeat' split)
    · exact hs
    · exact hs
    · exact inputEdge_haltAgrees input _ hs
  | rampPeriod => exact execRampPeriod_haltAgrees hs h
  | heatPeriod => exact execHeatPeriod_haltAgrees hs h
  | tensionPeriod => exact execTensionPeriod_haltAgrees hs h
  -- The Print Engine, the Profile Store and the Shadow Patch Buffer.
  | barReport | barSilent | freeing | lookup | printStart | rasterReadComplete | editApply | loaderWriteComplete
  | drainWriteComplete =>
    refine whenOn_law HaltAgrees h hs fun _ => ?_
    (repeat' split) <;> exact hs.reported (by simp) (by simp) (by simp)
  | lineComputationBegin | lineBoundary | lineDue =>
    refine whenOn_law HaltAgrees h hs fun _ => ?_
    dsimp only
    (repeat' split) <;> exact hs.reported (by simp) (by simp) (by simp)
  | lookupFillComplete damage =>
    refine whenOn_law HaltAgrees h hs fun _ => ?_
    split
    · rename_i r live _
      have hread : HaltAgrees (readCell r.cell damage (portDone s)).2 := hs
      have hfill := serveFill_haltAgrees r live (readCell r.cell damage (portDone s)).1 hread
      dsimp only
      split <;> exact hfill.congr (by simp) (by simp) (by simp)
    · exact hs
  | creationReadComplete damage =>
    refine whenOn_law HaltAgrees h hs fun _ => ?_
    split
    · rename_i id node cell k live _
      have hread : HaltAgrees (readCell cell damage (portDone s)).2 := hs
      have hentry := createEntry_haltAgrees id node cell k (readCell cell damage (portDone s)).1 hread
      dsimp only
      split
      · exact hentry.congr (by simp) (by simp) (by simp)
      · exact hread.congr (by simp) (by simp) (by simp)
    · exact hs
  | rasterReadError | rasterReadTimeout | loadReadError | loadReadTimeout | patchReadError | editListReadTimeout =>
    exact whenOn_law HaltAgrees h hs fun _ => hs.reported (by simp) (by simp) (by simp)
  | loadReadComplete =>
    exact whenOn_law HaltAgrees h hs fun _ => onLoadRead_law HaltAgrees hs (fun _ => hs) fun j _ _ =>
      hs.reported (by simp) (by simp) (by simp)
  | editListReadComplete =>
    refine whenOn_law HaltAgrees h hs fun _ => onListRead_law HaltAgrees hs (fun _ => hs) fun p _ _ => ?_
    dsimp only
    (repeat' split) <;> exact hs.reported (by simp) (by simp) (by simp)

/-- Settles O57: every command keeps the law, and neither an idle millisecond nor the queue of commands reaches it. -/
theorem stepsKeepHaltedAndOffTogether : Obligations.StepsKeepHaltedAndOffTogether := by
  unfold Obligations.StepsKeepHaltedAndOffTogether
  exact fun s t hs h => step_law HaltAgrees (fun _ _ h => h) (fun _ _ h => h) (fun _ _ _ => exec_haltAgrees) hs h

end Sys2Proof.Machine
end

section
/-! PROOFS. The card in hand: what leaves it, what ends it, and the agreement of the Card Engine with the PATCH card in hand at every step
(chapters 3 and 10). -/

namespace Sys2Proof.Machine

@[simp] theorem offerTo_card (s : State) (k : CardKind) :
    (offerTo k s).ce.current = s.ce.current ∧ (offerTo k s).ce.state = s.ce.state := by
  unfold offerTo
  split <;> simp

@[simp] theorem noteFinal_card (s : State) : (noteFinal s).ce.current = s.ce.current ∧ (noteFinal s).ce.state = s.ce.state := by
  unfold noteFinal
  split <;> simp

@[simp] theorem finishCard_card (s : State) (c : CardRef) (st : CardState) (rc : ResultCode) :
    (finishCard c st rc s).ce.current = s.ce.current ∧ (finishCard c st rc s).ce.state = s.ce.state := by simp [finishCard]

@[simp] theorem finalWrite_card (s : State) (c : CardRef) (fields : List (Nat × List Byte)) (st : CardState) (rc : ResultCode) :
    (finalWrite c fields st rc s).ce.current = s.ce.current ∧ (finalWrite c fields st rc s).ce.state = s.ce.state := by
  simp [finalWrite]

@[simp] theorem reportStrip_card (s : State) (g : Segment) (w : Option (Nat × Int) × Option (Nat × Int)) :
    (reportStrip g w s).ce.current = s.ce.current ∧ (reportStrip g w s).ce.state = s.ce.state := by
  unfold reportStrip
  split <;> simp

@[simp] theorem withdrawSplice_card (s : State) (a : Unwind) :
    (withdrawSplice a s).ce.current = s.ce.current ∧ (withdrawSplice a s).ce.state = s.ce.state := by
  unfold withdrawSplice
  dsimp only
  (repeat' split) <;> simp

@[simp] theorem completeSplice_card (s : State) (a : Unwind) :
    (completeSplice a s).ce.current = s.ce.current ∧ (completeSplice a s).ce.state = s.ce.state := by
  unfold completeSplice
  dsimp only
  split <;> simp

@[simp] theorem haltMap_card (s : State) : (haltMap s).ce.current = s.ce.current ∧ (haltMap s).ce.state = s.ce.state := by
  unfold haltMap
  exact ⟨foldl_keeps (·.ce.current) _ (fun s x => by simp) _ s, foldl_keeps (·.ce.state) _ (fun s x => by simp) _ s⟩

@[simp] theorem discardEntries_card (s : State) (id : Nat) :
    (discardEntries id s).ce.current = s.ce.current ∧ (discardEntries id s).ce.state = s.ce.state := by
  unfold discardEntries
  extract_lets keep b t a u
  split <;> simp [u, t, b]

@[simp] theorem startPrint_card (s : State) (q : QueuedPrint) (c : Settings) (h : ProfileHeader) :
    (startPrint q c h s).ce.current = s.ce.current ∧ (startPrint q c h s).ce.state = s.ce.state := by simp [startPrint]

@[simp] theorem abortLoad_card (s : State) (id : Nat) :
    (abortLoad id s).ce.current = s.ce.current ∧ (abortLoad id s).ce.state = s.ce.state := by
  unfold abortLoad
  (repeat' split) <;> simp

@[simp] theorem loadDone_card (s : State) (j : LoadJob) (h : ProfileHeader) :
    (loadDone j h s).ce.current = s.ce.current ∧ (loadDone j h s).ce.state = s.ce.state := by simp [loadDone]

@[simp] theorem advanceLoad_card (s : State) :
    (advanceLoad s).ce.current = s.ce.current ∧ (advanceLoad s).ce.state = s.ce.state := by
  unfold advanceLoad
  dsimp only
  (repeat' split) <;> simp

@[simp] theorem ackInactive_card (s : State) (a : Unwind) :
    (ackInactive a s).ce.current = s.ce.current ∧ (ackInactive a s).ce.state = s.ce.state := by
  unfold ackInactive
  split <;> simp

@[simp] theorem noteLink_card (s : State) (link : Nat) :
    (noteLink link s).ce.current = s.ce.current ∧ (noteLink link s).ce.state = s.ce.state := by
  unfold noteLink
  (repeat' split) <;> simp [setEngine]

@[simp] theorem chainReadFault_card (s : State) (addr : Nat) :
    (chainReadFault addr s).ce.current = s.ce.current ∧ (chainReadFault addr s).ce.state = s.ce.state := by
  unfold chainReadFault
  split <;> simp [setEngine]

@[simp] theorem mergePending_patch (s : State) (cell : Nat) (e : Edit) (k : Nat) :
    (mergePending cell e k s).spb.patch = s.spb.patch := by rfl

@[simp] theorem visibilityStep_patch (s : State) : (visibilityStep s).spb.patch = s.spb.patch := by simp [visibilityStep]

@[simp] theorem discardEntries_patch (s : State) (id : Nat) : (discardEntries id s).spb.patch = s.spb.patch := by
  unfold discardEntries
  extract_lets keep b t a u
  split <;> simp [u, t, b]

@[simp] theorem abandonLine_patch (s : State) : (abandonLine s).spb.patch = s.spb.patch := by
  unfold abandonLine
  dsimp only
  split <;> simp

@[simp] theorem arriveEntry_patch (s : State) (id node cell : Nat) (v : CellValue) :
    (arriveEntry id node cell v s).spb.patch = s.spb.patch := by
  unfold arriveEntry
  dsimp only
  split <;> simp

/-! ## The card in hand -/

/-- What the card in hand becomes by anything but its own dispatch: it stands, or a PATCH card has ended and with it the dispatch. -/
def Held (h : Option CurrentCard × EngineState × Option PatchJob) (c : Option CurrentCard) (st : EngineState) (p : Option PatchJob) :
    Prop :=
  (c, st, p) = h ∨ h.2.2 ≠ none ∧ p = none ∧ c = none ∧ (st ≠ .dispatching ∧ st ≠ .stalled ∨ h.1 = none ∧ st = h.2.1)

theorem endDispatch_engine (s : State) : (endDispatch s).ce.current = none ∧ (endDispatch s).ce.state ≠ .dispatching ∧
    (endDispatch s).ce.state ≠ .stalled := by
  unfold endDispatch
  dsimp only
  split <;> simp [beginChainRead]

section
variable {h : Option CurrentCard × EngineState × Option PatchJob} {s : State}

theorem held_refl (s : State) : Held (s.ce.current, s.ce.state, s.spb.patch) s.ce.current s.ce.state s.spb.patch := .inl rfl

/-- A failing PATCH card that stood at the outset ends the dispatch; one that ended before is not there. -/
@[simp] theorem failPatchOf_held (id : Nat) (hh : Held h s.ce.current s.ce.state s.spb.patch) :
    Held h (failPatchOf id s).ce.current (failPatchOf id s).ce.state (failPatchOf id s).spb.patch := by
  unfold failPatchOf
  split
  · exact hh
  · rename_i p hp
    split
    · rcases hh with rfl | ⟨-, hnone, -⟩
      · refine .inr ⟨by simp [hp], by simp, ?_⟩
        unfold failCurrent finishCurrent
        cases hc : s.ce.current with
        | none => simp [hc]
        | some c => simp [endDispatch_engine]
      · simp [hnone] at hp
    · exact hh

theorem foldl_held {α : Type} {f : State → α → State}
    (hf : ∀ s x, Held h s.ce.current s.ce.state s.spb.patch → Held h (f s x).ce.current (f s x).ce.state (f s x).spb.patch)
    (l : List α) (hh : Held h s.ce.current s.ce.state s.spb.patch) :
    Held h (l.foldl f s).ce.current (l.foldl f s).ce.state (l.foldl f s).spb.patch :=
  foldl_law (fun s => Held h s.ce.current s.ce.state s.spb.patch) f hf l hh

@[simp] theorem freeRecord_held (id : Nat) (hh : Held h s.ce.current s.ce.state s.spb.patch) :
    Held h (freeRecord id s).ce.current (freeRecord id s).ce.state (freeRecord id s).spb.patch := by
  unfold freeRecord
  dsimp only
  split <;> simp [hh]

@[simp] theorem releaseProfile_held (id : Nat) (hh : Held h s.ce.current s.ce.state s.spb.patch) :
    Held h (releaseProfile id s).ce.current (releaseProfile id s).ce.state (releaseProfile id s).spb.patch := by
  unfold releaseProfile
  dsimp only
  split <;> simp [hh]

@[simp] theorem failQueued_held (rc : ResultCode) (fields : List (Nat × List Byte)) (q : QueuedPrint)
    (hh : Held h s.ce.current s.ce.state s.spb.patch) :
    Held h (failQueued rc fields q s).ce.current (failQueued rc fields q s).ce.state (failQueued rc fields q s).spb.patch := by
  simp [failQueued, hh]

@[simp] theorem failQueuedOf_held (id : Nat) (hh : Held h s.ce.current s.ce.state s.spb.patch) :
    Held h (failQueuedOf id s).ce.current (failQueuedOf id s).ce.state (failQueuedOf id s).spb.patch := by
  unfold failQueuedOf
  exact foldl_held (fun s x h => by simp [h]) _ (by simp [hh])

@[simp] theorem endJob_held (hh : Held h s.ce.current s.ce.state s.spb.patch) :
    Held h (endJob s).ce.current (endJob s).ce.state (endJob s).spb.patch := by
  unfold endJob
  split <;> simp [hh]

@[simp] theorem haltPrint_held (hh : Held h s.ce.current s.ce.state s.spb.patch) :
    Held h (haltPrint s).ce.current (haltPrint s).ce.state (haltPrint s).spb.patch := by simp [haltPrint, hh]

@[simp] theorem takeHalt_held (cause : HaltCause) (hh : Held h s.ce.current s.ce.state s.spb.patch) :
    Held h (takeHalt cause s).ce.current (takeHalt cause s).ce.state (takeHalt cause s).spb.patch := by simp [takeHalt, hh]

@[simp] theorem haltLine_held (cause : HaltCause) (hh : Held h s.ce.current s.ce.state s.spb.patch) :
    Held h (haltLine cause s).ce.current (haltLine cause s).ce.state (haltLine cause s).spb.patch := by
  unfold haltLine
  split <;> simp [hh]

@[simp] theorem parityHalt_held (marks : Byte) (hh : Held h s.ce.current s.ce.state s.spb.patch) :
    Held h (parityHalt marks s).ce.current (parityHalt marks s).ce.state (parityHalt marks s).spb.patch := by
  unfold parityHalt
  split <;> simp [hh]

@[simp] theorem serveFill_held (r : FillRequest) (live : Bool) (c : StoreCell) (hh : Held h s.ce.current s.ce.state s.spb.patch)
    :
    Held h (serveFill r live c s).ce.current (serveFill r live c s).ce.state (serveFill r live c s).spb.patch := by
  unfold serveFill
  refine parityHalt_held _ ?_
  (repeat' split) <;> simp [hh]

@[simp] theorem rasterFails_held (kind : ReadFailure) (hh : Held h s.ce.current s.ce.state s.spb.patch) :
    Held h (rasterFails kind s).ce.current (rasterFails kind s).ce.state (rasterFails kind s).spb.patch := by
  unfold rasterFails
  (repeat' split) <;> simp [hh]

@[simp] theorem finishPrint_held (hh : Held h s.ce.current s.ce.state s.spb.patch) :
    Held h (finishPrint s).ce.current (finishPrint s).ce.state (finishPrint s).spb.patch := by
  unfold finishPrint
  dsimp only
  split <;> simp [hh]

@[simp] theorem loadReadFails_held (hh : Held h s.ce.current s.ce.state s.spb.patch) :
    Held h (loadReadFails s).ce.current (loadReadFails s).ce.state (loadReadFails s).spb.patch := by
  unfold loadReadFails onLoadRead
  (repeat' split) <;> simp [hh]

@[simp] theorem flushQueue_held (hh : Held h s.ce.current s.ce.state s.spb.patch) :
    Held h (flushQueue s).ce.current (flushQueue s).ce.state (flushQueue s).spb.patch := by
  unfold flushQueue
  exact foldl_held (fun s x h => by simp [h]) _ (by simp [hh])

@[simp] theorem discardQueue_held (hh : Held h s.ce.current s.ce.state s.spb.patch) :
    Held h (discardQueue s).ce.current (discardQueue s).ce.state (discardQueue s).spb.patch := by
  unfold discardQueue
  exact foldl_held (fun s x h => by simp [h]) _ (by simp [hh])

@[simp] theorem freeIfUnready_held (id : Nat) (hh : Held h s.ce.current s.ce.state s.spb.patch) :
    Held h (freeIfUnready id s).ce.current (freeIfUnready id s).ce.state (freeIfUnready id s).spb.patch := by
  unfold freeIfUnready
  dsimp only
  split <;> simp [hh]

@[simp] theorem freeUnready_held (hh : Held h s.ce.current s.ce.state s.spb.patch) :
    Held h (freeUnready s).ce.current (freeUnready s).ce.state (freeUnready s).spb.patch := by
  unfold freeUnready
  exact foldl_held (fun s x h => by simp [h]) _ (by simp [hh])

@[simp] theorem orphanMap_held (hh : Held h s.ce.current s.ce.state s.spb.patch) :
    Held h (orphanMap s).ce.current (orphanMap s).ce.state (orphanMap s).spb.patch := by simp [orphanMap, hh]

@[simp] theorem tripHalts_held (c : Settings) (n : Nat) (hh : Held h s.ce.current s.ce.state s.spb.patch) :
    Held h (tripHalts c n s).ce.current (tripHalts c n s).ce.state (tripHalts c n s).spb.patch := by
  unfold tripHalts
  split
  · exact foldl_held (fun s x h => by simp [h]) _ hh
  · exact hh

@[simp] theorem readAxis_held (frame : Option (List TensionReading)) (a : Axis)
    (hh : Held h s.ce.current s.ce.state s.spb.patch) :
    Held h (readAxis frame s a).ce.current (readAxis frame s a).ce.state (readAxis frame s a).spb.patch := by
  unfold readAxis
  dsimp only
  split <;> simp [hh]

@[simp] theorem inputEdge_held (i : LineInput) (active : Bool) (hh : Held h s.ce.current s.ce.state s.spb.patch) :
    Held h (inputEdge i active s).ce.current (inputEdge i active s).ce.state (inputEdge i active s).spb.patch := by
  unfold inputEdge
  (repeat' split) <;> simp [hh]

@[simp] theorem polarityEdge_held (before : State) (i : LineInput) (hh : Held h s.ce.current s.ce.state s.spb.patch) :
    Held h (polarityEdge before s i).ce.current (polarityEdge before s i).ce.state (polarityEdge before s i).spb.patch := by
  unfold polarityEdge
  split <;> simp [hh]

@[simp] theorem polarityEdges_held (before : State) (hh : Held h s.ce.current s.ce.state s.spb.patch) :
    Held h (polarityEdges before s).ce.current (polarityEdges before s).ce.state (polarityEdges before s).spb.patch := by
  unfold polarityEdges
  exact foldl_held (fun s i h => by simp [h]) _ hh

@[simp] theorem applySetup_held (c : Settings) (hh : Held h s.ce.current s.ce.state s.spb.patch) :
    Held h (applySetup c s).ce.current (applySetup c s).ce.state (applySetup c s).spb.patch := by simp [applySetup, hh]

end

/-- Where no PATCH card is in hand, the card in hand stands. -/
theorem Held.stands {s t : State} (hh : Held (s.ce.current, s.ce.state, s.spb.patch) t.ce.current t.ce.state t.spb.patch)
    (hp : s.spb.patch = none) : t.ce.current = s.ce.current ∧ t.ce.state = s.ce.state ∧ t.spb.patch = none := by
  rcases hh with heq | ⟨hne, -⟩
  · simp only [Prod.mk.injEq] at heq
    exact ⟨heq.1, heq.2.1, heq.2.2.trans hp⟩
  · exact absurd hp hne

/-! ## The agreement at the ends of a dispatch -/

/-- The law, as far as no PATCH card is in hand. -/
def CurrentAgrees (s : State) : Prop :=
  (s.ce.current = none ↔ s.ce.state ≠ .dispatching ∧ s.ce.state ≠ .stalled) ∧ s.spb.patch = none

section
variable {s t : State}

theorem CurrentAgrees.law (hs : CurrentAgrees s) : EngineLaw s := ⟨hs.1, fun p hp => by simp [hs.2] at hp⟩

theorem CurrentAgrees.of_idle (hc : s.ce.current = none) (hp : s.spb.patch = none)
    (hst : s.ce.state ≠ .dispatching ∧ s.ce.state ≠ .stalled) : CurrentAgrees s := ⟨⟨fun _ => hst, fun _ => hc⟩, hp⟩

theorem CurrentAgrees.congr (hs : CurrentAgrees s) (hc : t.ce.current = s.ce.current) (hst : t.ce.state = s.ce.state)
    (hp : t.spb.patch = s.spb.patch) : CurrentAgrees t := by
  unfold CurrentAgrees
  rw [hc, hst, hp]
  exact hs

theorem CurrentAgrees.held (hs : CurrentAgrees s)
    (hh : Held (s.ce.current, s.ce.state, s.spb.patch) t.ce.current t.ce.state t.spb.patch) : CurrentAgrees t := by
  obtain ⟨hc, hst, hp⟩ := hh.stands hs.2
  exact hs.congr hc hst (hp.trans hs.2.symm)

theorem EngineLaw.congr (hs : EngineLaw s) (hc : t.ce.current = s.ce.current) (hst : t.ce.state = s.ce.state)
    (hp : t.spb.patch = s.spb.patch) : EngineLaw t := by
  unfold EngineLaw
  rw [hc, hst, hp]
  exact hs

theorem EngineLaw.held (hs : EngineLaw s)
    (hh : Held (s.ce.current, s.ce.state, s.spb.patch) t.ce.current t.ce.state t.spb.patch) : EngineLaw t := by
  rcases hh with heq | ⟨hne, hp, hc, hst | ⟨hnone, hst⟩⟩
  · simp only [Prod.mk.injEq] at heq
    exact hs.congr heq.1 heq.2.1 heq.2.2
  · exact (CurrentAgrees.of_idle hc hp hst).law
  · exact (CurrentAgrees.of_idle hc hp (hst ▸ hs.1.mp hnone)).law

/-- Where the current card is of another kind, or there is none, no PATCH card is in hand. -/
theorem EngineLaw.noPatch (hs : EngineLaw s) (h : ∀ c, s.ce.current = some c → CardKind.ofByte c.ref.kind ≠ some .patch) :
    CurrentAgrees s := by
  refine ⟨hs.1, ?_⟩
  cases hp : s.spb.patch with
  | none => rfl
  | some p =>
    obtain ⟨c, hc, -, hk⟩ := hs.2 p hp
    exact absurd hk (h c hc)

theorem EngineLaw.noPatch_of_dispatching {k : CardKind} {c : CurrentCard} (hs : EngineLaw s) (hd : Dispatching k c s)
    (hk : k ≠ .patch) : CurrentAgrees s := by
  obtain ⟨-, -, hc, hkind⟩ := hd
  refine hs.noPatch fun d hd => ?_
  rw [hc, Option.some.injEq] at hd
  subst hd
  simpa [hkind] using hk

theorem EngineLaw.idle (hs : EngineLaw s) (hst : s.ce.state ≠ .dispatching ∧ s.ce.state ≠ .stalled) :
    s.ce.current = none ∧ s.spb.patch = none := by
  have hc := hs.1.mpr hst
  exact ⟨hc, (hs.noPatch fun c h => by simp [hc] at h).2⟩

/-- The PATCH card in hand may be given up, or changed in all but its card. -/
theorem EngineLaw.setPatch (hs : EngineLaw s) {q : Option PatchJob} (hq : ∀ p, q = some p → ∃ p', s.spb.patch = some p' ∧ p.card = p'.card) :
    EngineLaw (setPatch q s) := by
  refine ⟨hs.1, fun p hp => ?_⟩
  obtain ⟨p', hp', hcard⟩ := hq p hp
  rw [hcard]
  exact hs.2 p' hp'

theorem endDispatch_law (hp : s.spb.patch = none) : EngineLaw (endDispatch s) := by
  obtain ⟨hc, hst⟩ := endDispatch_engine s
  exact (CurrentAgrees.of_idle hc (by simpa using hp) hst).law

theorem finishCurrent_law (fields : List (Nat × List Byte)) (st : CardState) (rc : ResultCode) (hs : CurrentAgrees s) :
    EngineLaw (finishCurrent fields st rc s) := by
  unfold finishCurrent
  split
  · exact hs.law
  · exact endDispatch_law (by simpa using hs.2)

theorem doneCurrent_law (fields : List (Nat × List Byte)) (hs : CurrentAgrees s) : EngineLaw (doneCurrent fields s) :=
  finishCurrent_law fields .done .ok hs

theorem failCurrent_law (rc : ResultCode) (fields : List (Nat × List Byte)) (hs : CurrentAgrees s) :
    EngineLaw (failCurrent rc fields s) := finishCurrent_law fields .failed rc hs

theorem failField_law (off : Nat) (hs : CurrentAgrees s) : EngineLaw (failField off s) := failCurrent_law .badField _ hs

theorem failPatch_law (rc : ResultCode) (fields : List (Nat × List Byte)) (hs : EngineLaw s) : EngineLaw (failPatch rc fields s) :=
  failCurrent_law rc fields ⟨hs.1, rfl⟩

theorem stallCurrent_law (hs : EngineLaw s) (hc : s.ce.current ≠ none) : EngineLaw (stallCurrent s) := by
  unfold stallCurrent
  split
  · exact hs
  · exact ⟨by simpa using hc, by simpa using hs.2⟩

theorem waitOrFail_law (rc : ResultCode) (fields : List (Nat × List Byte)) (hs : CurrentAgrees s) :
    EngineLaw (waitOrFail rc fields s) := by
  unfold waitOrFail
  split
  · exact hs.law
  · rename_i c hc
    split
    · exact failCurrent_law rc fields hs
    · exact stallCurrent_law hs.law (by simp [hc])

theorem touchStart_law (hs : EngineLaw s) : EngineLaw (touchStart s) := hs.congr (by simp) (by simp) (by simp)

theorem touchIfMoved_law (l : List Zone) (hs : EngineLaw s) : EngineLaw (touchIfMoved l s) :=
  hs.congr (by simp) (by simp) (by simp)

theorem pumpPort_law (hs : EngineLaw s) : EngineLaw (pumpPort s) := hs.congr (by simp) (by simp) (by simp)

/-! ## Cards in dispatch -/

theorem setupCard_law (k : CurrentCard) (hs : CurrentAgrees s) : EngineLaw (setupCard k s) := by
  unfold setupCard
  dsimp only
  (repeat' split)
  · exact failCurrent_law _ _ hs
  · exact failField_law _ hs
  · exact touchStart_law (doneCurrent_law _ (hs.held (applySetup_held _ (held_refl s))))

theorem heatCard_law (k : CurrentCard) (hs : CurrentAgrees s) : EngineLaw (heatCard k s) := by
  unfold heatCard
  (repeat' split)
  · exact failCurrent_law _ _ hs
  · exact failField_law _ hs
  · exact touchIfMoved_law _ (doneCurrent_law _ (hs.congr (by simp) (by simp) (by simp)))

theorem driveDone_law (c : CurrentCard) (more : List (Nat × List Byte)) (hs : CurrentAgrees s) : EngineLaw (driveDone c more s) :=
  doneCurrent_law _ hs

theorem driveWrong_law (c : CurrentCard) (more : List (Nat × List Byte)) (hs : CurrentAgrees s) : EngineLaw (driveWrong c more s) :=
  failCurrent_law _ _ hs

theorem startCard_law (c : CurrentCard) (hs : CurrentAgrees s) : EngineLaw (startCard c s) := by
  unfold startCard
  (repeat' split)
  · exact driveWrong_law c _ hs
  · exact failField_law _ hs
  · exact touchStart_law (driveDone_law c _ (hs.congr (by simp) (by simp) (by simp)))

theorem speedCard_law (c : CurrentCard) (hs : CurrentAgrees s) : EngineLaw (speedCard c s) := by
  cases h : s.wd.state with
  | starting | running | draining =>
    simp only [speedCard, h]
    split
    · exact failField_law _ hs
    · exact driveDone_law c _ (hs.congr (by simp) (by simp) (by simp))
  | idle | rampdown | halted =>
    rw [speedCard_refused (by simp [h])]
    exact driveWrong_law c _ hs

theorem stopCard_law (c : CurrentCard) (hs : CurrentAgrees s) : EngineLaw (stopCard c s) := by
  cases h : s.wd.state with
  | starting | running =>
    rw [stopCard_drains (by simp [h])]
    exact touchStart_law (driveDone_law c _ (hs.congr (by simp) (by simp) (by simp)))
  | idle | draining | rampdown =>
    rw [stopCard_no_effect (by simp [h]) (by simp [h])]
    exact driveDone_law c _ hs
  | halted =>
    rw [stopCard_halted h]
    exact driveWrong_law c _ hs

theorem clearCard_law (c : CurrentCard) (hs : CurrentAgrees s) : EngineLaw (clearCard c s) := by
  have hclear : CurrentAgrees (clearHalt s) := hs.congr (by simp) (by simp) (by simp)
  unfold clearCard
  dsimp only
  (repeat' split)
  · exact driveWrong_law c _ hs
  · exact failField_law _ hs
  · exact touchStart_law (driveDone_law c _ (hclear.held (flushQueue_held (held_refl _))))
  · exact touchStart_law (driveDone_law c _ hclear)

theorem fabricCard_law (c : CurrentCard) (hs : CurrentAgrees s) : EngineLaw (fabricCard c s) := by
  unfold fabricCard
  dsimp only
  (repeat' split)
  · exact failField_law _ hs
  · exact failField_law _ hs
  · exact failCurrent_law _ _ hs
  · exact doneCurrent_law _ (hs.congr (by simp) (by simp) (by simp))
  · exact failField_law _ hs
  · exact doneCurrent_law _ (hs.congr (by simp) (by simp) (by simp))

theorem dropCard_law (c : CurrentCard) (hs : CurrentAgrees s) : EngineLaw (dropCard c s) := by
  unfold dropCard
  dsimp only
  (repeat' split)
  · exact failField_law _ hs
  · exact failCurrent_law _ _ hs
  · exact doneCurrent_law _ (hs.held (freeRecord_held _ (failQueuedOf_held _ (by simp [Held]))))
  · exact doneCurrent_law _ (hs.held (freeRecord_held _ (held_refl s)))
  · exact doneCurrent_law _ (hs.congr (by simp) (by simp) (by simp))
  · exact doneCurrent_law _ hs

theorem dispatchLoad_law (c : CurrentCard) (hs : CurrentAgrees s) : EngineLaw (dispatchLoad c s) := by
  unfold dispatchLoad acceptLoad
  dsimp only
  (repeat' split)
  · exact waitOrFail_law _ _ hs
  · exact failField_law _ hs
  · exact failCurrent_law _ _ hs
  · exact failCurrent_law _ _ hs
  · exact endDispatch_law (by simpa using hs.2)

theorem enqueuePrint_law (q : QueuedPrint) (hs : CurrentAgrees s) : EngineLaw (enqueuePrint q s) := by
  unfold enqueuePrint
  dsimp only
  split
  · exact touchStart_law (endDispatch_law (by simpa using hs.2))
  · exact endDispatch_law (by simpa using hs.2)

theorem printCard_law (c : CurrentCard) (hs : CurrentAgrees s) : EngineLaw (printCard c s) := by
  unfold printCard
  dsimp only
  (repeat' split)
  · exact failCurrent_law _ _ hs
  · exact failField_law _ hs
  · exact failField_law _ hs
  · exact failCurrent_law _ _ hs
  · exact failField_law _ hs
  · exact failField_law _ hs
  · exact waitOrFail_law _ _ hs
  · exact enqueuePrint_law _ hs

theorem spliceCard_law (c : CurrentCard) (hs : CurrentAgrees s) : EngineLaw (spliceCard c s) := by
  unfold spliceCard
  (repeat' split)
  · exact failField_law _ hs
  · exact failCurrent_law _ _ hs
  · exact failCurrent_law _ _ hs
  · exact endDispatch_law (by simpa using hs.2)

theorem fenceCard_law (c : CurrentCard) (hs : CurrentAgrees s) : EngineLaw (fenceCard c s) := by
  unfold fenceCard
  split
  · exact doneCurrent_law _ hs
  · exact waitOrFail_law _ _ hs

/-- A PATCH card that is taken in hand is the current card. -/
theorem patchCard_law {c : CurrentCard} (hs : CurrentAgrees s) (hd : Dispatching .patch c s) : EngineLaw (patchCard c s) := by
  obtain ⟨-, -, hc, hk⟩ := hd
  unfold patchCard
  dsimp only
  (repeat' split)
  · exact failField_law _ hs
  · exact failCurrent_law _ _ hs
  · refine ⟨hs.1, fun p hp => ⟨c, hc, ?_, hk⟩⟩
    simp only [emit_frame, setPatch, Option.some.injEq] at hp
    subst hp
    rfl

/-! ## The PATCH card in hand -/

theorem advanceEdit_law (hs : EngineLaw s) : EngineLaw (advanceEdit s) := by
  unfold advanceEdit
  split
  · exact hs
  · rename_i p hp
    split
    · exact doneCurrent_law _ ⟨hs.1, rfl⟩
    · refine hs.setPatch fun q hq => ⟨p, hp, ?_⟩
      rw [Option.some.injEq] at hq
      rw [← hq]

theorem applyEdit_law {p : PatchJob} (e : Edit) (h : ProfileHeader) (hs : EngineLaw s) (hp : s.spb.patch = some p) :
    EngineLaw (applyEdit p e h s) := by
  have hset : ∀ q : PatchJob, q.card = p.card → EngineLaw (setPatch (some q) s) := fun q hq =>
    hs.setPatch fun q' hq' => ⟨p, hp, by simp_all⟩
  unfold applyEdit
  dsimp only
  (repeat' split)
  · exact advanceEdit_law (hs.congr (by simp) (by simp) (by simp))
  · exact pumpPort_law (advanceEdit_law (hs.congr (by simp) (by simp) (by simp)))
  · exact pumpPort_law (hset _ rfl)
  · exact failPatch_law _ _ hs
  · refine stallCurrent_law (hset _ rfl) ?_
    obtain ⟨c, hc, -⟩ := hs.2 p hp
    simp [hc]

/-- A PATCH card that leaves WAITING is the stalled card, and is dispatched again. -/
theorem reofferPatch_law (hs : EngineLaw s) : EngineLaw (reofferPatch s) := by
  unfold reofferPatch
  split
  · exact hs
  · rename_i p hp
    obtain ⟨c, hc, hcard, hk⟩ := hs.2 p hp
    (repeat' split)
    · exact hs
    · refine ⟨by simp [hc], fun q hq => ⟨c, by simpa using hc, ?_, hk⟩⟩
      simp only [setPatch, Option.some.injEq] at hq
      subst hq
      exact hcard
    · exact hs

theorem createEntry_law (id node cell k : Nat) (c : StoreCell) (hs : EngineLaw s) : EngineLaw (createEntry id node cell k c s) := by
  unfold createEntry
  (repeat' split)
  · exact hs
  · dsimp only
    refine EngineLaw.held (advanceEdit_law (hs.congr ?_ ?_ ?_)) (parityHalt_held _ (held_refl _)) <;> simp
  · exact hs

/-- A stalled card offered again goes on as at its first dispatch. -/
theorem reoffer_law {c : CurrentCard} (hs : EngineLaw s) (hc : s.ce.current = some c) : EngineLaw (reoffer c s) := by
  have hfree : CardKind.ofByte c.ref.kind ≠ some .patch → CurrentAgrees s := fun hk => hs.noPatch fun d hd => by
    rw [hc, Option.some.injEq] at hd
    exact hd ▸ hk
  unfold reoffer
  split
  · exact printCard_law c (hfree (by simp_all))
  · exact dispatchLoad_law c (hfree (by simp_all))
  · exact reofferPatch_law hs
  · exact fenceCard_law c (hfree (by simp_all))
  · exact hs

/-! ## Chain reads -/

/-- A chain read begun while no card is current. -/
theorem beginChainRead_law (hc : s.ce.current = none) (hp : s.spb.patch = none) : EngineLaw (beginChainRead s) :=
  (CurrentAgrees.of_idle (by simpa [beginChainRead] using hc) (by simpa using hp) (by simp [beginChainRead])).law

theorem chainNotReady_law (hc : s.ce.current = none) (hp : s.spb.patch = none) : EngineLaw (chainNotReady s) := by
  unfold chainNotReady
  split
  · exact beginChainRead_law hc hp
  · exact (CurrentAgrees.of_idle (by simpa [setEngine] using hc) (by simpa using hp) (by simp [setEngine])).law

theorem takeCard_law (addr : Nat) (card : List Byte) (hp : s.spb.patch = none) : EngineLaw (takeCard addr card s) := by
  unfold takeCard
  dsimp only
  split
  · exact CurrentAgrees.law ⟨by simp [setEngine], by simpa using hp⟩
  · exact failCurrent_law _ _ ⟨by simp [setEngine], by simpa using hp⟩

theorem stopEngine_law (hc : s.ce.current = none) (hp : s.spb.patch = none) :
    EngineLaw (setEngine (fun e => { e with state := .stopped }) s) :=
  (CurrentAgrees.of_idle (by simpa [setEngine] using hc) (by simpa using hp) (by simp [setEngine])).law

theorem EngineLaw.of_reset {e : CardEngine} (hce : s.ce = resetEngine e) (hp : s.spb.patch = none) : EngineLaw s :=
  (CurrentAgrees.of_idle (by rw [hce]; rfl) hp (by rw [hce]; simp [resetEngine])).law

/-- The end of a chain read, by what it does on an engine that is READING and so has no card. -/
theorem onChainRead_engineLaw (link : Option (BitVec 64)) {f : State → State} (hs : EngineLaw s)
    (hf : ∀ t, t.ce.current = none → t.spb.patch = none → EngineLaw (f t)) : EngineLaw (onChainRead link s f) := by
  unfold onChainRead
  dsimp only
  split
  · exact hs.congr rfl rfl rfl
  · split
    · exact hs
    · rename_i hr
      have hr' : s.ce.state = .reading := by simpa using hr
      obtain ⟨hc, hp⟩ := hs.idle (by simp [hr'])
      cases link with
      | none =>
        dsimp only
        split
        · exact stopEngine_law hc hp
        · exact hf s hc hp
      | some l =>
        have hc' : (readNamed l.toNat s).ce.current = none := by simpa using hc
        have hp' : (readNamed l.toNat s).spb.patch = none := by simpa using hp
        dsimp only
        split
        · exact stopEngine_law hc' hp'
        · exact hf _ hc' hp'

theorem controlWrite_engineLaw (run : Bool) (interval : BitVec 8) (hs : EngineLaw s) : EngineLaw (controlWrite run interval s) := by
  cases hst : s.ce.state with
  | stopped | watching =>
    obtain ⟨hc, hp⟩ := hs.idle (by simp [hst])
    simp only [controlWrite, hst]
    (repeat' split) <;> refine (CurrentAgrees.of_idle ?_ ?_ ?_).law <;> simp [beginChainRead, hc, hp, hst]
  | reading | dispatching | stalled =>
    simp only [controlWrite, hst]
    exact hs

end

theorem execHeatPeriod_engineLaw {s t : State} (hs : EngineLaw s) (h : execHeatPeriod s = .next t) : EngineLaw t := by
  refine whenOn_law EngineLaw h hs fun _ => ?_
  cases hc : s.setup with
  | none => exact hs
  | some c =>
    dsimp only
    refine touchIfMoved_law _ (EngineLaw.held ?_ (tripHalts_held c _ (held_refl _)))
    split <;> exact hs.congr (by simp) (by simp) (by simp)

theorem execTensionPeriod_engineLaw {s t : State} (hs : EngineLaw s) (h : execTensionPeriod s = .next t) : EngineLaw t := by
  refine whenOn_law EngineLaw h hs fun _ => ?_
  have hread : EngineLaw (allAxes.foldl (readAxis s.tc.frame) { s with tc := { s.tc with frame := none } }) :=
    foldl_law EngineLaw _ (fun s a hs => hs.held (readAxis_held _ a (held_refl s))) _ hs
  exact hread.congr (by simp) (by simp) (by simp)

theorem linkDown_engineLaw (s : State) : EngineLaw (linkDown s) := by
  have hreset : CurrentAgrees (stopLoader (stopPatch { s with regs := ⟨false, 0, 0, 0⟩, ce := resetEngine s.ce })) := by
    refine CurrentAgrees.of_idle ?_ ?_ ?_ <;> simp [stopPatch, resetEngine]
  exact (hreset.law.held (freeUnready_held (discardQueue_held (orphanMap_held (held_refl _))))).congr
    (by simp [linkDown]) (by simp [linkDown]) (by simp [linkDown])

/-- Every command keeps the law: a dispatch begins and ends with its current card, and a PATCH card in hand ends with its dispatch. -/
theorem exec_engineLaw {i : Instr} {s t : State} (hs : EngineLaw s) (h : exec i s = .next t) : EngineLaw t := by
  have hfree : ∀ {k : CardKind} {c : CurrentCard}, Dispatching k c s → k ≠ .patch → CurrentAgrees s := fun hd hk =>
    hs.noPatch_of_dispatching hd hk
  have hfield : ∀ c, Dispatching .drive c s → EngineLaw (failField 16 s) := fun c hd => failField_law _ (hfree hd (by decide))
  unfold exec at h
  cases i with
  -- Resets, supplies and registers.
  | mainPowerOnReset z st =>
    cases h
    refine EngineLaw.of_reset (e := s.ce) ?_ ?_ <;> simp only [raiseLost_frame, resetFrames_frame] <;> rfl
  | softReset =>
    refine whenOn_law EngineLaw h hs fun _ => EngineLaw.of_reset (e := s.ce) ?_ ?_ <;> simp only [resetFrames_frame] <;> rfl
  | keepAlivePowerOnReset | mainSupplyLoss =>
    cases h
    exact hs
  | linkReset => exact whenOn_law EngineLaw h hs fun _ => (linkDown_engineLaw s).congr (by simp) (by simp) (by simp)
  | runSet | runClear | watchInterval => exact whenOn_law EngineLaw h hs fun _ => controlWrite_engineLaw _ _ hs
  | registerWrite => exact whenOn_law EngineLaw h hs fun _ => hs
  | irqEnable => exact whenOn_law EngineLaw h hs fun _ => hs.congr (by simp) (by simp) (by simp)
  | eventAck =>
    refine whenOn_law EngineLaw h hs fun _ => ?_
    unfold discardOldest
    dsimp only
    (repeat' split) <;> exact hs.congr (by simp) (by simp) (by simp)
  | bookBase =>
    refine whenOn_law EngineLaw h hs fun _ => ?_
    dsimp only
    (repeat' split)
    · rename_i hst _
      obtain ⟨hc, hp⟩ := hs.idle (by simp_all)
      exact beginChainRead_law hc hp
    · exact hs
    · exact hs
  | wake =>
    refine whenOn_law EngineLaw h hs fun _ => ?_
    split
    · rename_i hst
      obtain ⟨hc, hp⟩ := hs.idle (by simp [hst])
      exact beginChainRead_law hc hp
    · exact hs
    all_goals exact hs
  | watchTimerExpiry =>
    refine whenOn_law EngineLaw h hs fun _ => ?_
    split
    · rename_i hst
      obtain ⟨hc, hp⟩ := hs.idle (by simp_all)
      exact beginChainRead_law hc hp
    · exact hs
  | statusPageWrite =>
    refine whenOn_law EngineLaw h hs fun _ => ?_
    split <;> exact hs.congr (by simp) (by simp) (by simp)
  -- The chain of cards.
  | chainReadComplete link =>
    refine whenOn_law EngineLaw h hs fun _ => onChainRead_engineLaw _ hs fun t hc hp => ?_
    dsimp only
    split
    · exact takeCard_law _ _ (by simpa using hp)
    · exact chainNotReady_law (by simpa [setEngine] using hc) (by simpa using hp)
  | cardReadError link | chainReadTimeout link =>
    refine whenOn_law EngineLaw h hs fun _ => onChainRead_engineLaw _ hs fun t hc hp => ?_
    dsimp only
    (repeat' split) <;> exact chainNotReady_law (by simpa [setEngine] using hc) (by simpa using hp)
  | cardReoffer =>
    refine whenOn_law EngineLaw h hs fun _ => ?_
    split
    · rename_i hc
      exact reoffer_law (hs.congr rfl rfl rfl) hc
    · exact hs
  | setup => exact onDispatch_law EngineLaw h hs fun c hd => setupCard_law c (hfree hd (by decide))
  | heat => exact onDispatch_law EngineLaw h hs fun c hd => heatCard_law c (hfree hd (by decide))
  | fabric => exact onDispatch_law EngineLaw h hs fun c hd => fabricCard_law c (hfree hd (by decide))
  | load => exact onDispatch_law EngineLaw h hs fun c hd => dispatchLoad_law c (hfree hd (by decide))
  | print => exact onDispatch_law EngineLaw h hs fun c hd => printCard_law c (hfree hd (by decide))
  | splice => exact onDispatch_law EngineLaw h hs fun c hd => spliceCard_law c (hfree hd (by decide))
  | fence => exact onDispatch_law EngineLaw h hs fun c hd => fenceCard_law c (hfree hd (by decide))
  | drop => exact onDispatch_law EngineLaw h hs fun c hd => touchStart_law (dropCard_law c (hfree hd (by decide)))
  | patch =>
    refine onDispatch_law EngineLaw h hs fun c hd => ?_
    split
    · exact hs
    · rename_i hp
      exact patchCard_law ⟨hs.1, by simpa using hp⟩ hd
  | start => exact onDrive_law EngineLaw h hs hfield fun c hd => startCard_law c (hfree hd (by decide))
  | speed => exact onDrive_law EngineLaw h hs hfield fun c hd => speedCard_law c (hfree hd (by decide))
  | stop => exact onDrive_law EngineLaw h hs hfield fun c hd => stopCard_law c (hfree hd (by decide))
  | clear => exact onDrive_law EngineLaw h hs hfield fun c hd => clearCard_law c (hfree hd (by decide))
  | halt =>
    exact onDrive_law EngineLaw h hs hfield fun c hd =>
      driveDone_law c _ ((hfree hd (by decide)).held (haltLine_held .host (held_refl s)))
  -- The web and the line.
  | positionUpdate => exact whenOn_law EngineLaw h hs fun _ => hs.congr (by simp) (by simp) (by simp)
  | backTravel | heaterWindow | drumEncoderReport => exact whenOn_law EngineLaw h hs fun _ => hs
  | tensionFrame | zoneFrame | heaterOnTimeEnd | rawLevelChange =>
    refine whenOn_law EngineLaw h hs fun _ => ?_
    split <;> exact hs
  | leadAtNip | trailAtNip | leadExit | trailExit | jointLeavesWrap | fabricJointDue | rollCountRequest | drumTravelIncrement =>
    refine whenOn_law EngineLaw h hs fun _ => ?_
    split <;> exact hs.congr (by simp) (by simp) (by simp)
  | handoverLimit =>
    refine whenOn_law EngineLaw h hs fun _ => ?_
    split
    · exact hs.held (haltLine_held .handover (by simp [Held]))
    · exact hs
  | spliceTimeout | rampPeriod =>
    refine whenOn_law EngineLaw h hs fun _ => ?_
    dsimp only
    (repeat' split) <;> exact hs.congr (by simp) (by simp) (by simp)
  | inputFilterExpiry input =>
    refine whenOn_law EngineLaw h hs fun _ => ?_
    dsimp only
    (repeat' split)
    · exact hs
    · exact hs
    · exact hs.held (inputEdge_held input _ (held_refl s))
  | heatPeriod => exact execHeatPeriod_engineLaw hs h
  | tensionPeriod => exact execTensionPeriod_engineLaw hs h
  -- The Print Engine, the Profile Store and the Shadow Patch Buffer.
  | barReport | barSilent | freeing | lookup | rasterReadComplete =>
    refine whenOn_law EngineLaw h hs fun _ => ?_
    (repeat' split) <;> exact hs.congr (by simp) (by simp) (by simp)
  | printStart =>
    refine whenOn_law EngineLaw h hs fun _ => ?_
    (repeat' split) <;> exact hs.held (by simp [held_refl])
  | editApply =>
    refine whenOn_law EngineLaw h hs fun _ => ?_
    split
    · exact hs
    · rename_i p hp
      split
      · exact applyEdit_law _ _ hs hp
      · exact hs
  | loaderWriteComplete | drainWriteComplete =>
    refine whenOn_law EngineLaw h hs fun _ => ?_
    (repeat' split) <;> exact hs.congr (by simp) (by simp) (by simp)
  | lineComputationBegin =>
    refine whenOn_law EngineLaw h hs fun _ => ?_
    split <;> exact hs.congr (by simp) (by simp) (by simp)
  | lineBoundary | lineDue =>
    refine whenOn_law EngineLaw h hs fun _ => ?_
    dsimp only
    (repeat' split) <;> exact hs.held (by simp [held_refl])
  | lookupFillComplete damage =>
    refine whenOn_law EngineLaw h hs fun _ => ?_
    split
    · rename_i r live _
      have hread : EngineLaw (readCell r.cell damage (portDone s)).2 := hs
      have hfill := hread.held (serveFill_held r live (readCell r.cell damage (portDone s)).1 (held_refl _))
      dsimp only
      split <;> exact hfill.congr (by simp) (by simp) (by simp)
    · exact hs
  | creationReadComplete damage =>
    refine whenOn_law EngineLaw h hs fun _ => ?_
    split
    · rename_i id node cell k live _
      have hread : EngineLaw (readCell cell damage (portDone s)).2 := hs
      dsimp only
      split
      · exact pumpPort_law (createEntry_law _ _ _ _ _ hread)
      · exact pumpPort_law hread
    · exact hs
  | rasterReadError | rasterReadTimeout => exact whenOn_law EngineLaw h hs fun _ => hs.held (rasterFails_held _ (held_refl s))
  | loadReadError | loadReadTimeout => exact whenOn_law EngineLaw h hs fun _ => hs.held (loadReadFails_held (held_refl s))
  | patchReadError | editListReadTimeout =>
    exact whenOn_law EngineLaw h hs fun _ => onListRead_law EngineLaw hs (fun _ => hs) fun p _ _ =>
      failPatch_law _ _ (hs.congr (by simp) (by simp) (by simp))
  | loadReadComplete =>
    exact whenOn_law EngineLaw h hs fun _ => onLoadRead_law EngineLaw hs (fun _ => hs) fun j _ _ =>
      hs.congr (by simp) (by simp) (by simp)
  | editListReadComplete =>
    refine whenOn_law EngineLaw h hs fun _ => onListRead_law EngineLaw hs (fun _ => hs) fun p hp _ => ?_
    have hset : ∀ q : PatchJob, q.card = p.card → EngineLaw (setPatch (some q) s) := fun q hq =>
      hs.setPatch fun q' hq' => ⟨p, hp, by simp_all⟩
    dsimp only
    (repeat' split)
    · exact failPatch_law _ _ hs
    · exact hset _ rfl
    · exact hset _ rfl
    · exact failPatch_law _ _ hs

/-- Settles O60: every command keeps the law, and neither an idle millisecond nor the queue of commands reaches it. -/
theorem stepsKeepTheCardInHand : Obligations.StepsKeepTheCardInHand := by
  unfold Obligations.StepsKeepTheCardInHand
  exact fun s t hs h => step_law EngineLaw (fun _ _ h => h) (fun _ _ h => h) (fun _ _ _ => exec_engineLaw) hs h

end Sys2Proof.Machine
end

section
/-! PROOFS. What the records of the profiles and the strips of the map keep of their figures, and the running speed within the window of
every strip at every step (R87, R88, R119). -/

namespace Sys2Proof.Machine

/-! ## Laws through a halt -/

section
variable (P : State → Prop) (hhalt : ∀ cause s, P s → P (haltLine cause s)) {s : State}
include hhalt

/-- What a law needs of a halt, it needs of every operation that may halt the line. -/
theorem parityHalt_law (marks : Byte) (hs : P s) : P (parityHalt marks s) := by
  unfold parityHalt
  split
  · exact hhalt .parity _ hs
  · exact hs

theorem tripHalts_law (c : Settings) (n : Nat) (hs : P s) : P (tripHalts c n s) := by
  unfold tripHalts
  split
  · exact foldl_law P _ (fun s _ hs => hhalt .trip s hs) _ hs
  · exact hs

theorem readAxis_law (hread : ∀ a r s, P s → P (setAxis a (takeReading r) s)) (hfault : ∀ f s, P s → P (offerFault f s))
    (frame : Option (List TensionReading)) (a : Axis) (hs : P s) : P (readAxis frame s a) := by
  unfold readAxis
  dsimp only
  split
  · exact hhalt .tensionLoss _ (hfault _ _ (hread _ _ _ hs))
  · exact hread _ _ _ hs

theorem inputEdge_law (hreq : ∀ a s, P s → P (autoRequest a .rollEnd s)) (hactive : ∀ a s, P s → P (ackActive a s))
    (hinactive : ∀ a s, P s → P (ackInactive a s)) (i : LineInput) (active : Bool) (hs : P s) : P (inputEdge i active s) := by
  have hguard : P (if s.wd.state != .idle && haltOnGuard s then haltLine .guard s else s) := by
    split
    · exact hhalt .guard _ hs
    · exact hs
  cases active with
  | false =>
    cases i with
    | paperSpliceAck => exact hinactive .pu _ hs
    | fabricSpliceAck => exact hinactive .fu _ hs
    | _ => exact hs
  | true =>
    cases i with
    | paperBreak | fabricBreak | estop => exact hhalt _ _ hs
    | guard => exact hguard
    | paperRollEnd => exact hreq .pu _ hs
    | fabricRollEnd => exact hreq .fu _ hs
    | paperSpliceAck => exact hactive .pu _ hs
    | fabricSpliceAck => exact hactive .fu _ hs

end

theorem polarityEdges_law (P : State → Prop) (hedge : ∀ i active s, P s → P (inputEdge i active s)) (before : State) {s : State}
    (hs : P s) : P (polarityEdges before s) := by
  refine foldl_law P _ (fun s i hs => ?_) _ hs
  unfold polarityEdge
  split
  · exact hs
  · exact hedge i _ s hs

/-! ## Checks of cards -/

theorem firstError_eq_none {l : List (Nat × Bool)} : firstError l = none ↔ ∀ c ∈ l, c.2 = true := by
  simp [firstError]

theorem setupAccepted_iff {s : State} : setupAccepted s = true ↔
    (s.wd.state = .idle ∨ s.wd.state = .halted) ∧ s.pe.queue = [] ∧ s.tmap.segs = [] := by
  simp [setupAccepted, and_assoc]

@[simp] theorem setArb_records (s : State) (a : Arbiter) : (setArb a s).ps.records = s.ps.records := by rfl

@[simp] theorem portDone_records (s : State) : (portDone s).ps.records = s.ps.records := by rfl

@[simp] theorem readCell_records (s : State) (cell : Nat) (d : CellDamage) :
    ((readCell cell d s).2).ps.records = s.ps.records := by rfl

@[simp] theorem setLoader_records (s : State) (j : Option LoadJob) : (setLoader j s).ps.records = s.ps.records := by rfl

@[simp] theorem readBlock_records (s : State) (j : LoadJob) : (readBlock j s).ps.records = s.ps.records := by simp [readBlock]

@[simp] theorem writeCell_records (s : State) (cell : Nat) (v : CellValue) :
    (writeCell cell v s).ps.records = s.ps.records := by
  unfold writeCell cacheInvalidate
  dsimp only
  split <;> rfl

@[simp] theorem requestShadow_records (s : State) : (requestShadow s).ps.records = s.ps.records := by
  unfold requestShadow
  split <;> simp

@[simp] theorem requestLoad_records (s : State) : (requestLoad s).ps.records = s.ps.records := by
  unfold requestLoad
  (repeat' split) <;> simp

@[simp] theorem pumpPort_records (s : State) : (pumpPort s).ps.records = s.ps.records := by simp [pumpPort]

@[simp] theorem discardEntries_records (s : State) (id : Nat) : (discardEntries id s).ps.records = s.ps.records := by
  unfold discardEntries
  extract_lets keep b t a u
  split <;> simp [u, t]

@[simp] theorem stopLoader_records (s : State) : (stopLoader s).ps.records = s.ps.records := by rfl

@[simp] theorem stopPatch_records (s : State) : (stopPatch s).ps.records = s.ps.records := by simp [stopPatch]

@[simp] theorem askFill_records (s : State) (r : FillRequest) : (askFill r s).ps.records = s.ps.records := by simp [askFill]

@[simp] theorem lookupCell_records (s : State) (h : ProfileHeader) (r : FillRequest) :
    (lookupCell h r s).ps.records = s.ps.records := by
  unfold lookupCell
  (repeat' split) <;> simp

@[simp] theorem heldLookup_records (s : State) : (heldLookup s).ps.records = s.ps.records := by
  unfold heldLookup
  (repeat' split) <;> simp

/-! ## Headers of the profile records -/

/-- The headers of a list of records are among those of another. -/
def HeadersFrom (l m : List ProfileRecord) : Prop := ∀ r ∈ m, ∀ h, r.header = some h → ∃ q ∈ l, q.header = some h

@[simp] theorem headersFrom_refl (l : List ProfileRecord) : HeadersFrom l l := fun r hr _ hh => ⟨r, hr, hh⟩

section
variable {l : List ProfileRecord} {s : State}

@[simp] theorem hurt_header (r : ProfileRecord) : r.hurt.header = r.header := rfl

/-- A change of a record that gives it no header of its own. -/
@[simp] theorem setProfile_headers {id : Nat} {f : ProfileRecord → ProfileRecord}
    (hf : ∀ r, (f r).header = r.header ∨ (f r).header = none) (hl : HeadersFrom l s.ps.records) :
    HeadersFrom l (setProfile id f s).ps.records := by
  intro r hr h hh
  rcases mem_modifyNth hr with hmem | ⟨q, hmem, rfl⟩
  · exact hl r hmem h hh
  · rcases hf q with hq | hq
    · exact hl q hmem h (hq ▸ hh)
    · simp [hq] at hh

theorem foldl_headers {α : Type} {f : State → α → State} (hf : ∀ s x, HeadersFrom l s.ps.records → HeadersFrom l (f s x).ps.records)
    (xs : List α) (hl : HeadersFrom l s.ps.records) : HeadersFrom l (xs.foldl f s).ps.records :=
  foldl_law (fun s => HeadersFrom l s.ps.records) f hf xs hl

@[simp] theorem parityError_headers (id node cell : Nat) (src : ParitySource) (marks : Byte) (hl : HeadersFrom l s.ps.records) :
    HeadersFrom l (parityError id node cell src marks s).ps.records := by
  simpa [parityError] using setProfile_headers (fun r => .inl (hurt_header r)) hl

@[simp] theorem bumpVersions_headers (ids : List Nat) (hl : HeadersFrom l s.ps.records) :
    HeadersFrom l (bumpVersions ids s).ps.records := by exact foldl_headers (fun s i hs => by simp [hs]) _ hl

@[simp] theorem visibilityStep_headers (hl : HeadersFrom l s.ps.records) :
    HeadersFrom l (visibilityStep s).ps.records := by simp [visibilityStep, hl]

@[simp] theorem completeFree_headers (id : Nat) (hl : HeadersFrom l s.ps.records) :
    HeadersFrom l (completeFree id s).ps.records := by
  unfold completeFree
  split <;> simp [emptyRecord, hl]

@[simp] theorem freeRecord_headers (id : Nat) (hl : HeadersFrom l s.ps.records) :
    HeadersFrom l (freeRecord id s).ps.records := by
  unfold freeRecord
  dsimp only
  split <;> simp [hl]

@[simp] theorem releaseProfile_headers (id : Nat) (hl : HeadersFrom l s.ps.records) :
    HeadersFrom l (releaseProfile id s).ps.records := by
  unfold releaseProfile
  dsimp only
  split <;> simp [hl]

@[simp] theorem failQueued_headers (rc : ResultCode) (fields : List (Nat × List Byte)) (q : QueuedPrint)
    (hl : HeadersFrom l s.ps.records) :
    HeadersFrom l (failQueued rc fields q s).ps.records := by simp [failQueued, hl]

@[simp] theorem failQueuedOf_headers (id : Nat) (hl : HeadersFrom l s.ps.records) :
    HeadersFrom l (failQueuedOf id s).ps.records := by exact foldl_headers (fun s q hs => by simp [hs]) _ hl

@[simp] theorem abandonLine_headers (hl : HeadersFrom l s.ps.records) : HeadersFrom l (abandonLine s).ps.records := by
  unfold abandonLine
  split <;> simp [hl]

@[simp] theorem endJob_headers (hl : HeadersFrom l s.ps.records) : HeadersFrom l (endJob s).ps.records := by
  unfold endJob
  split <;> simp [hl]

@[simp] theorem haltPrint_headers (hl : HeadersFrom l s.ps.records) :
    HeadersFrom l (haltPrint s).ps.records := by simp [haltPrint, hl]

@[simp] theorem takeHalt_headers (cause : HaltCause) (hl : HeadersFrom l s.ps.records) :
    HeadersFrom l (takeHalt cause s).ps.records := by simp [takeHalt, hl]

@[simp] theorem haltLine_headers (cause : HaltCause) (hl : HeadersFrom l s.ps.records) :
    HeadersFrom l (haltLine cause s).ps.records := by
  unfold haltLine
  split <;> simp [hl]

@[simp] theorem arriveEntry_headers (id node cell : Nat) (v : CellValue) (hl : HeadersFrom l s.ps.records) :
    HeadersFrom l (arriveEntry id node cell v s).ps.records := by
  unfold arriveEntry
  dsimp only
  split <;> simp [hl]

@[simp] theorem applyEdit_headers (p : PatchJob) (e : Edit) (h : ProfileHeader) (hl : HeadersFrom l s.ps.records) :
    HeadersFrom l (applyEdit p e h s).ps.records := by
  unfold applyEdit
  dsimp only
  (repeat' split) <;> simp [hl]

@[simp] theorem noteParity_headers (id node cell : Nat) (src : ParitySource) (marks : Byte) (hl : HeadersFrom l s.ps.records) :
    HeadersFrom l (noteParity id node cell src marks s).ps.records := by
  unfold noteParity
  split <;> simp [hl]

@[simp] theorem abortLoad_headers (id : Nat) (hl : HeadersFrom l s.ps.records) : HeadersFrom l (abortLoad id s).ps.records := by
  unfold abortLoad
  (repeat' split) <;> simp [hl]

@[simp] theorem loadReadFails_headers (hl : HeadersFrom l s.ps.records) : HeadersFrom l (loadReadFails s).ps.records := by
  unfold loadReadFails onLoadRead
  (repeat' split) <;> simp [hl]

@[simp] theorem loadDone_headers (j : LoadJob) (h : ProfileHeader) (hl : HeadersFrom l s.ps.records) :
    HeadersFrom l (loadDone j h s).ps.records := by simp [loadDone, hl]

@[simp] theorem advanceLoad_headers (hl : HeadersFrom l s.ps.records) : HeadersFrom l (advanceLoad s).ps.records := by
  unfold advanceLoad
  dsimp only
  (repeat' split) <;> simp [hl]

@[simp] theorem dropCard_headers (c : CurrentCard) (hl : HeadersFrom l s.ps.records) :
    HeadersFrom l (dropCard c s).ps.records := by
  have hfree : ∀ id, HeadersFrom l (freeRecord id (failQueuedOf id (abortLoad id s))).ps.records := fun id =>
    freeRecord_headers id (failQueuedOf_headers id (abortLoad_headers id hl))
  unfold dropCard
  dsimp only
  (repeat' split) <;> simp [hl, hfree]

@[simp] theorem enqueuePrint_headers (q : QueuedPrint) (hl : HeadersFrom l s.ps.records) :
    HeadersFrom l (enqueuePrint q s).ps.records := by
  unfold enqueuePrint
  dsimp only
  split <;> simp [hl]

@[simp] theorem printCard_headers (c : CurrentCard) (hl : HeadersFrom l s.ps.records) :
    HeadersFrom l (printCard c s).ps.records := by
  unfold printCard
  dsimp only
  (repeat' split) <;> simp [hl]

@[simp] theorem rasterFails_headers (kind : ReadFailure) (hl : HeadersFrom l s.ps.records) :
    HeadersFrom l (rasterFails kind s).ps.records := by
  unfold rasterFails
  (repeat' split) <;> simp [hl]

@[simp] theorem finishPrint_headers (hl : HeadersFrom l s.ps.records) : HeadersFrom l (finishPrint s).ps.records := by
  unfold finishPrint
  dsimp only
  split <;> simp [hl]

@[simp] theorem flushQueue_headers (hl : HeadersFrom l s.ps.records) :
    HeadersFrom l (flushQueue s).ps.records := by exact foldl_headers (fun s q hs => by simp [hs]) _ hl

@[simp] theorem discardQueue_headers (hl : HeadersFrom l s.ps.records) :
    HeadersFrom l (discardQueue s).ps.records := by exact foldl_headers (fun s q hs => by simp [hs]) _ hl

@[simp] theorem freeIfUnready_headers (id : Nat) (hl : HeadersFrom l s.ps.records) :
    HeadersFrom l (freeIfUnready id s).ps.records := by
  unfold freeIfUnready
  dsimp only
  split <;> simp [hl]

@[simp] theorem freeUnready_headers (hl : HeadersFrom l s.ps.records) : HeadersFrom l (freeUnready s).ps.records := by
  unfold freeUnready
  exact foldl_headers (fun s q hs => by simp [hs]) _ hl

@[simp] theorem orphanMap_headers (hl : HeadersFrom l s.ps.records) :
    HeadersFrom l (orphanMap s).ps.records := by simp [orphanMap, hl]

@[simp] theorem linkDown_headers (hl : HeadersFrom l s.ps.records) : HeadersFrom l (linkDown s).ps.records := by
  simp only [linkDown, forgetSpliceCards_frame, recountFabrics_frame, pumpPort_records]
  refine freeUnready_headers (discardQueue_headers (orphanMap_headers ?_))
  simpa using hl

end

/-! ## Speed windows of the strips -/

/-- The speed windows of a list of strips are among those of another. -/
def WindowsFrom (ws m : List Segment) : Prop := ∀ g ∈ m, ∃ g' ∈ ws, g'.lo = g.lo ∧ g'.hi = g.hi

@[simp] theorem windowsFrom_refl (l : List Segment) : WindowsFrom l l := fun g hg => ⟨g, hg, rfl, rfl⟩

section
variable {ws : List Segment} {s : State}

theorem WindowsFrom.map {m : List Segment} {f : Segment → Segment} (hl : WindowsFrom ws m) (hf : ∀ g, (f g).lo = g.lo ∧ (f g).hi = g.hi) :
    WindowsFrom ws (m.map f) := by
  intro g hg
  obtain ⟨g', hmem, rfl⟩ := List.mem_map.mp hg
  obtain ⟨g'', hmem', hlo, hhi⟩ := hl g' hmem
  exact ⟨g'', hmem', hlo.trans (hf g').1.symm, hhi.trans (hf g').2.symm⟩

theorem WindowsFrom.filter {m : List Segment} (p : Segment → Bool) (hl : WindowsFrom ws m) : WindowsFrom ws (m.filter p) :=
  fun g hg => hl g (List.mem_filter.mp hg).1

@[simp] theorem updateSeg_windows {start : Nat} {f : Segment → Segment} (hf : ∀ g, (f g).lo = g.lo ∧ (f g).hi = g.hi)
    (hl : WindowsFrom ws s.tmap.segs) : WindowsFrom ws (updateSeg start f s).tmap.segs :=
  hl.map fun g => by split <;> simp [hf]


@[simp] theorem removeSeg_windows (g : Segment) (hl : WindowsFrom ws s.tmap.segs) :
    WindowsFrom ws (removeSeg g s).tmap.segs := by simpa [removeSeg] using hl.filter _

@[simp] theorem addJoint_windows (c : Nat) (hl : WindowsFrom ws s.tmap.segs) : WindowsFrom ws (addJoint c s).tmap.segs := by
  unfold addJoint
  split
  · exact hl
  · exact hl.map fun g => by unfold spoilByJoint; split <;> exact ⟨rfl, rfl⟩

@[simp] theorem makeJoint_windows (a : Unwind) (hl : WindowsFrom ws s.tmap.segs) :
    WindowsFrom ws ((makeJoint a s).2).tmap.segs := by cases a <;> simp [makeJoint, hl]

@[simp] theorem setPrintEnd_windows (hl : WindowsFrom ws s.tmap.segs) : WindowsFrom ws (setPrintEnd s).tmap.segs := by
  unfold setPrintEnd
  split
  · exact hl
  · exact updateSeg_windows (fun g => ⟨rfl, rfl⟩) hl

@[simp] theorem endPrint_windows (hl : WindowsFrom ws s.tmap.segs) : WindowsFrom ws (endPrint s).tmap.segs := by
  unfold endPrint
  dsimp only
  (repeat' split) <;> simp [hl]

@[simp] theorem completeSplice_windows (a : Unwind) (hl : WindowsFrom ws s.tmap.segs) :
    WindowsFrom ws (completeSplice a s).tmap.segs := by
  unfold completeSplice
  dsimp only
  split <;> simp [hl]

@[simp] theorem flagParity_windows (id : Nat) (hl : WindowsFrom ws s.tmap.segs) : WindowsFrom ws (flagParity id s).tmap.segs := by
  unfold flagParity
  (repeat' split)
  · exact updateSeg_windows (fun g => ⟨rfl, rfl⟩) hl
  · exact hl
  · exact hl

@[simp] theorem noteParity_windows (id node cell : Nat) (src : ParitySource) (marks : Byte) (hl : WindowsFrom ws s.tmap.segs) :
    WindowsFrom ws (noteParity id node cell src marks s).tmap.segs := by
  unfold noteParity
  split <;> simp [hl]

@[simp] theorem rasterFails_windows (kind : ReadFailure) (hl : WindowsFrom ws s.tmap.segs) :
    WindowsFrom ws (rasterFails kind s).tmap.segs := by
  unfold rasterFails
  (repeat' split)
  · have hspoil : ∀ t : State, WindowsFrom ws t.tmap.segs → ∀ n, WindowsFrom ws (updateSeg n (spoilSeg .raster) t).tmap.segs := fun t ht n =>
      updateSeg_windows (fun g => ⟨rfl, rfl⟩) ht
    simp [hl, hspoil]
  · simp [hl]
  · simp [hl]

@[simp] theorem sendLine_windows (c : Settings) (j : PrintJob) (l : LineSlot) (hl : WindowsFrom ws s.tmap.segs) :
    WindowsFrom ws (sendLine c j l s).tmap.segs := by
  unfold sendLine
  exact updateSeg_windows (fun g => ⟨rfl, rfl⟩) (by simpa using hl)

@[simp] theorem dueLine_windows (c : Settings) (j : PrintJob) (n : Nat) (hl : WindowsFrom ws s.tmap.segs) :
    WindowsFrom ws (dueLine c j n s).tmap.segs := by
  have hlate : WindowsFrom ws (updateSeg j.start (lateSeg c.lateLimit) s).tmap.segs :=
    updateSeg_windows (fun g => by unfold lateSeg; dsimp only; split <;> exact ⟨rfl, rfl⟩) hl
  unfold dueLine
  dsimp only
  (repeat' split) <;> simp [hl, hlate]

@[simp] theorem finishPrint_windows (hl : WindowsFrom ws s.tmap.segs) : WindowsFrom ws (finishPrint s).tmap.segs := by
  unfold finishPrint
  dsimp only
  split <;> simp [hl]

@[simp] theorem comparePos_windows (hl : WindowsFrom ws s.tmap.segs) :
    WindowsFrom ws (comparePos s).tmap.segs := by simp [comparePos, hl]

@[simp] theorem spoilAtNip_windows (hl : WindowsFrom ws s.tmap.segs) : WindowsFrom ws (spoilAtNip s).tmap.segs := by
  unfold spoilAtNip
  (repeat' split)
  · exact hl
  · exact hl
  · exact updateSeg_windows (fun g => ⟨rfl, rfl⟩) hl
  · exact hl

@[simp] theorem checkDeviations_windows (frame : Option (List TensionReading)) (hl : WindowsFrom ws s.tmap.segs) :
    WindowsFrom ws (checkDeviations frame s).tmap.segs := by
  unfold checkDeviations
  split
  · refine hl.map fun g => ?_
    unfold deviationSeg checkDeviation
    (repeat' split) <;> exact ⟨rfl, rfl⟩
  · exact hl

@[simp] theorem ackInactive_windows (a : Unwind) (hl : WindowsFrom ws s.tmap.segs) :
    WindowsFrom ws (ackInactive a s).tmap.segs := by
  unfold ackInactive
  split <;> simp [hl]

@[simp] theorem orphanMap_windows (hl : WindowsFrom ws s.tmap.segs) : WindowsFrom ws (orphanMap s).tmap.segs := by
  have hmap : WindowsFrom ws ((setPrintEnd (abandonLine s)).tmap.segs.map orphanSeg) := by
    refine WindowsFrom.map ?_ fun g => ⟨rfl, rfl⟩
    exact setPrintEnd_windows (by simpa using hl)
  simpa [orphanMap] using hmap

@[simp] theorem linkDown_windows (hl : WindowsFrom ws s.tmap.segs) : WindowsFrom ws (linkDown s).tmap.segs := by
  simp only [linkDown, forgetSpliceCards_frame, recountFabrics_frame, pumpPort_frame, freeUnready_frame, discardQueue_frame]
  exact orphanMap_windows (by simpa using hl)

end

/-! ## The line window -/

/-- The windows of some strips intersected with a range. -/
theorem foldWindow_iff (segs : List Segment) (w : Nat × Nat) (v : Nat) :
    ((segs.foldl (fun w g => (max w.1 g.lo, min w.2 g.hi)) w).1 ≤ v ∧
      v ≤ (segs.foldl (fun w g => (max w.1 g.lo, min w.2 g.hi)) w).2) ↔
    (w.1 ≤ v ∧ v ≤ w.2) ∧ ∀ g ∈ segs, InWindow v g := by
  induction segs generalizing w with
  | nil => simp
  | cons g gs ih =>
    rw [List.foldl_cons, ih, List.forall_mem_cons]
    simp only [InWindow, max_le_iff, le_min_iff]
    tauto

/-- A speed lies in the line window exactly where it lies in 10 to v_max and in the window of every strip (R88). -/
theorem lineWindow_iff (s : State) (v : Nat) : ((lineWindow s).1 ≤ v ∧ v ≤ (lineWindow s).2) ↔
    (vMin ≤ v ∧ v ≤ (windowTop s).getD 0) ∧ ∀ g ∈ s.tmap.segs, InWindow v g := foldWindow_iff _ _ v

theorem windowTop_of_setup {s : State} {c : Settings} (h : s.setup = some c) : windowTop s = some c.vMax := by
  simp [windowTop, h]

theorem clampSpeed_mem {w : Nat × Nat} (v : Nat) (hw : w.1 ≤ w.2) : w.1 ≤ clampSpeed v w ∧ clampSpeed v w ≤ w.2 := by
  unfold clampSpeed
  omega

theorem stepToward_between (step running target : Nat) :
    min running target ≤ stepToward step running target ∧ stepToward step running target ≤ max running target := by
  unfold stepToward
  split <;> omega

theorem ceilDiv_le {a b c : Nat} (hb : 0 < b) (h : a ≤ c * b) : ceilDiv a b ≤ c := by
  unfold ceilDiv
  rw [← Nat.lt_succ_iff, Nat.div_lt_iff_lt_mul hb, Nat.succ_mul]
  omega

/-- The window of a plan holds the speed that it was planned at (R87). -/
theorem window_holds {v tol vMax : Nat} (hv : vMin ≤ v) (hmax : v ≤ vMax) (htol : tol < 100) :
    windowLo v tol ≤ v ∧ v ≤ windowHi v tol vMax := by
  constructor
  · exact max_le hv (ceilDiv_le (by omega) (Nat.mul_le_mul_left v (by omega)))
  · refine le_min hmax ((Nat.le_div_iff_mul_le (by omega)).mpr (Nat.mul_le_mul_left v (by omega)))

/-! ## The law -/

section
variable {s t : State}

/-- The law passes to a state with the drive and the settings of another and none of its figures of strips and headers new. -/
theorem SpeedLaw.calm (hs : SpeedLaw s) (hwd : t.wd = s.wd) (hset : t.setup = s.setup)
    (hsegs : WindowsFrom s.tmap.segs t.tmap.segs) (hrec : HeadersFrom s.ps.records t.ps.records) : SpeedLaw t := by
  obtain ⟨hwin, hmove, hrun, hreq, hstand, htol⟩ := hs
  have hne : t.tmap.segs ≠ [] → s.tmap.segs ≠ [] := by
    intro h hnil
    obtain ⟨g, hg⟩ := List.exists_mem_of_ne_nil _ h
    obtain ⟨g', hg', -⟩ := hsegs g hg
    simp [hnil] at hg'
  unfold SpeedLaw
  rw [hwd, hset]
  refine ⟨fun g hg => ?_, fun h => hmove (hne h), fun h => hrun (h.imp_right hne), hreq, hstand, fun r hr h hh => ?_⟩
  · obtain ⟨g', hg', hlo, hhi⟩ := hsegs g hg
    have := hwin g' hg'
    unfold InWindow at this ⊢
    omega
  · obtain ⟨q, hq, hqh⟩ := hrec r hr h hh
    exact htol q hq h hqh

/-- A line that stands still without strips keeps the law whatever its settings. -/
theorem SpeedLaw.of_standing (hsegs : s.tmap.segs = []) (hst : s.wd.state = .idle ∨ s.wd.state = .halted) (hrun : s.wd.running = 0)
    (htol : ∀ r ∈ s.ps.records, ∀ h, r.header = some h → h.tol < 100) : SpeedLaw s := by
  refine ⟨by simp [hsegs], by simp [hsegs], fun h => ?_, fun h => ?_, fun _ => hrun, htol⟩ <;>
    rcases hst with hst | hst <;> simp [hst, hsegs] at h

theorem SpeedLaw.segs_nil (hs : SpeedLaw s) (h : s.wd.state ≠ .running ∧ s.wd.state ≠ .draining) : s.tmap.segs = [] := by
  obtain ⟨-, hmove, -⟩ := hs
  by_contra hne
  rcases hmove hne with h' | h'
  · exact h.1 h'
  · exact h.2 h'

theorem SpeedLaw.tols (hs : SpeedLaw s) : ∀ r ∈ s.ps.records, ∀ h, r.header = some h → h.tol < 100 := by
  obtain ⟨-, -, -, -, -, htol⟩ := hs
  exact htol

theorem takeHalt_speedLaw (cause : HaltCause) (hs : SpeedLaw s) : SpeedLaw (takeHalt cause s) := by
  have hwd := takeHalt_wd cause s
  refine SpeedLaw.of_standing (by simp [takeHalt, haltMap_empty]) (.inr (by rw [hwd])) (by rw [hwd]) fun r hr h hh => ?_
  obtain ⟨q, hq, hqh⟩ := takeHalt_headers cause (headersFrom_refl s.ps.records) r hr h hh
  exact hs.tols q hq h hqh

theorem haltLine_speedLaw (cause : HaltCause) (s : State) (hs : SpeedLaw s) : SpeedLaw (haltLine cause s) := by
  unfold haltLine
  split
  · exact hs.calm (by simp) (by simp) (by simp ) (by simp )
  · exact takeHalt_speedLaw cause hs

/-- The drive may change its state without its speed, as far as the new state allows the strips and the speed. -/
theorem SpeedLaw.drive (hs : SpeedLaw s) {d : Drive} (hrun : d.running = s.wd.running)
    (hmove : s.tmap.segs ≠ [] → d.state = .running ∨ d.state = .draining)
    (hnew : d.state = .running → s.wd.state = .running)
    (hreq : d.state = .starting ∨ d.state = .running → ∃ c, s.setup = some c ∧ vMin ≤ d.requested ∧ d.requested ≤ c.vMax)
    (hstand : d.state = .idle ∨ d.state = .halted → d.running = 0) : SpeedLaw { s with wd := d } := by
  obtain ⟨hwin, -, hrunning, -, -, htol⟩ := hs
  refine ⟨fun g hg => ?_, hmove, fun h => ?_, hreq, hstand, htol⟩
  · have := hwin g hg
    unfold InWindow at this ⊢
    rwa [hrun]
  · simp only [hrun]
    exact hrunning (h.imp_left hnew)

end

/-! ## The ramp period -/

/-- A running speed in the line window is stepped within it, toward a target clamped to it (R118, R119). -/
theorem rampSpeed_mem {w : Nat × Nat} {step running requested : Nat} (h : w.1 ≤ running ∧ running ≤ w.2) :
    w.1 ≤ stepToward step running (clampSpeed requested w) ∧ stepToward step running (clampSpeed requested w) ≤ w.2 := by
  have hclamp := clampSpeed_mem requested (w := w) (by omega)
  have hstep := stepToward_between step running (clampSpeed requested w)
  omega

section
variable {s : State} {noSegs : Bool} {w : Nat × Nat} {step : Nat} {d : Drive}

theorem rampDrive_standing (h : d.state = .idle ∨ d.state = .halted) :
    rampDrive noSegs w step d = { d with target := 0, held := false } := by
  rcases h with h | h <;> simp [rampDrive, heldPhase, statePhase, stepPhase, targetPhase, drainPhase, h]

theorem rampDrive_starting (h : d.state = .starting) : (rampDrive noSegs w step d).running = stepToward step d.running d.requested ∧
    (rampDrive noSegs w step d).requested = d.requested ∧
    (rampDrive noSegs w step d).state = if stepToward step d.running d.requested = d.requested then .running else .starting := by
  obtain ⟨st, requested, target, running, measured, held⟩ := d
  subst h
  by_cases hz : stepToward step running requested = requested <;>
    simp [rampDrive, heldPhase, statePhase, stepPhase, targetPhase, drainPhase, hz]

/-- RUNNING, and DRAINING while strips stand, go on at a speed stepped toward the clamped requested one. -/
theorem rampDrive_moving (h : d.state = .running ∨ d.state = .draining ∧ noSegs = false) :
    (rampDrive noSegs w step d).running = stepToward step d.running (clampSpeed d.requested w) ∧
    (rampDrive noSegs w step d).requested = d.requested ∧ (rampDrive noSegs w step d).state = d.state := by
  rcases h with h | ⟨h, hn⟩
  · simp [rampDrive, heldPhase, statePhase, stepPhase, targetPhase, drainPhase, h]
  · simp [rampDrive, heldPhase, statePhase, stepPhase, targetPhase, drainPhase, h, hn]

/-- A drain without strips, and a ramp down, end in RAMPDOWN or, at a speed of 0, in IDLE. -/
theorem rampDrive_down (h : d.state = .rampdown ∨ d.state = .draining ∧ noSegs = true) :
    (rampDrive noSegs w step d).state = .rampdown ∨
      (rampDrive noSegs w step d).state = .idle ∧ (rampDrive noSegs w step d).running = 0 := by
  obtain ⟨st, requested, target, running, measured, held⟩ := d
  rcases h with h | ⟨h, rfl⟩ <;> dsimp only at h <;> subst h <;> by_cases hz : stepToward step running 0 = 0 <;>
    simp [rampDrive, heldPhase, statePhase, stepPhase, targetPhase, drainPhase, hz]

end

/-- A ramp period keeps the running speed in the window of every strip, and in 10 to v_max. -/
theorem rampDrive_speedLaw {s : State} (hs : SpeedLaw s) (step : Nat) :
    SpeedLaw { s with wd := rampDrive s.tmap.segs.isEmpty (lineWindow s) step s.wd } := by
  have hlaw := hs
  obtain ⟨hwin, hmove, hrun, hreq, hstand, htol⟩ := hs
  have moving : s.wd.state = .running ∨ s.wd.state = .draining ∧ s.tmap.segs.isEmpty = false →
      SpeedLaw { s with wd := rampDrive s.tmap.segs.isEmpty (lineWindow s) step s.wd } := by
    intro hst
    obtain ⟨hspeed, hrequested, hstate⟩ := rampDrive_moving (w := lineWindow s) (step := step) hst
    obtain ⟨c, hc, hlo, hhi⟩ := hrun (hst.imp_right fun h => by simpa using h.2)
    have hmem := rampSpeed_mem (step := step) (requested := s.wd.requested) ((lineWindow_iff s s.wd.running).mpr
      ⟨⟨hlo, by simpa [windowTop_of_setup hc] using hhi⟩, hwin⟩)
    obtain ⟨hrange, hwins⟩ := (lineWindow_iff s _).mp hmem
    rw [windowTop_of_setup hc] at hrange
    unfold SpeedLaw
    rw [hspeed, hrequested, hstate]
    exact ⟨hwins, hmove, fun _ => ⟨c, hc, hrange⟩, hreq, fun h => by rcases hst with hst | hst <;> simp [hst] at h, htol⟩
  have down : s.wd.state = .rampdown ∨ s.wd.state = .draining ∧ s.tmap.segs.isEmpty = true →
      SpeedLaw { s with wd := rampDrive s.tmap.segs.isEmpty (lineWindow s) step s.wd } := by
    intro hst
    have hnil : s.tmap.segs = [] := by
      rcases hst with hst | hst
      · exact hlaw.segs_nil (by simp [hst])
      · simpa using hst.2
    have hdown := rampDrive_down (w := lineWindow s) (step := step) hst
    refine ⟨by simp [hnil], by simp [hnil], fun h => ?_, fun h => ?_, fun h => ?_, htol⟩ <;>
      rcases hdown with hd | ⟨hd, hz⟩ <;> simp_all
  cases hst : s.wd.state with
  | idle | halted =>
    have hnil := hlaw.segs_nil (by simp [hst])
    rw [rampDrive_standing (by simp [hst])]
    exact SpeedLaw.of_standing hnil (by simp [hst]) (hstand (by simp [hst])) htol
  | running => exact moving (by simp [hst])
  | rampdown => exact down (by simp [hst])
  | draining =>
    cases hnil : s.tmap.segs.isEmpty with
    | true => rw [← hnil]; exact down (by simp_all)
    | false => rw [← hnil]; exact moving (by simp_all)
  | starting =>
    have hnil := hlaw.segs_nil (by simp [hst])
    obtain ⟨hspeed, hrequested, hstate⟩ := rampDrive_starting (noSegs := s.tmap.segs.isEmpty) (w := lineWindow s) (step := step) hst
    obtain ⟨c, hc, hlo, hhi⟩ := hreq (by simp [hst])
    unfold SpeedLaw
    rw [hspeed, hrequested, hstate]
    refine ⟨by simp [hnil], by simp [hnil], fun h => ?_, fun _ => ⟨c, hc, hlo, hhi⟩, fun h => ?_, htol⟩
    · by_cases heq : stepToward step s.wd.running s.wd.requested = s.wd.requested
      · exact ⟨c, hc, by rw [heq]; exact ⟨hlo, hhi⟩⟩
      · simp [heq, hnil] at h
    · split at h <;> simp at h

/-! ## The commands -/

section
variable {s : State}

theorem SpeedLaw.edge (i : LineInput) (active : Bool) (hs : SpeedLaw s) : SpeedLaw (inputEdge i active s) :=
  inputEdge_law SpeedLaw haltLine_speedLaw (fun a s hs => hs.calm (by simp) (by simp) (by simp) (by simp))
    (fun a s hs => hs.calm (by simp) (by simp) (by simp) (by simp))
    (fun a s hs => hs.calm (by simp) (by simp) (by simp) (by simp)) i active hs

theorem createEntry_speedLaw (id node cell k : Nat) (c : StoreCell) (hs : SpeedLaw s) : SpeedLaw (createEntry id node cell k c s) := by
  unfold createEntry
  (repeat' split)
  · exact hs
  · exact parityHalt_law SpeedLaw haltLine_speedLaw _ (hs.calm (by simp) (by simp) (by simp) (by simp))
  · exact hs

theorem serveFill_speedLaw (r : FillRequest) (live : Bool) (c : StoreCell) (hs : SpeedLaw s) : SpeedLaw (serveFill r live c s) := by
  refine parityHalt_law SpeedLaw haltLine_speedLaw _ (hs.calm ?_ ?_ ?_ ?_) <;> (repeat' split) <;> simp

/-- A SETUP is accepted at a standing line without strips alone. -/
theorem setupCard_speedLaw (k : CurrentCard) (hs : SpeedLaw s) : SpeedLaw (setupCard k s) := by
  unfold setupCard
  dsimp only
  split
  · exact hs.calm (by simp) (by simp) (by simp) (by simp)
  · rename_i hacc
    obtain ⟨hst, -, hnil⟩ := setupAccepted_iff.mp (by simpa using hacc)
    split
    · exact hs.calm (by simp) (by simp) (by simp) (by simp)
    · have htake : SpeedLaw (takeSettings (parseSettings k.image) s) := by
        obtain ⟨-, -, -, -, hstand, htol⟩ := hs
        exact SpeedLaw.of_standing (by simpa using hnil) (by simpa using hst) (by simpa using hstand hst) (by simpa using htol)
      exact (polarityEdges_law SpeedLaw (fun i active s hs => hs.edge i active) s htake).calm (by simp [applySetup])
        (by simp [applySetup]) (by simp [applySetup]) (by simp [applySetup])

theorem driveDone_speedLaw {f : Drive → Drive} (c : CurrentCard) (hs : SpeedLaw { s with wd := f s.wd }) :
    SpeedLaw (driveDone c [] (setDrive f s)) := by
  have hset : SpeedLaw (setDrive f s) := hs
  exact hset.calm (by simp) (by simp) (by simp) (by simp)

theorem touchStart_speedLaw (hs : SpeedLaw s) : SpeedLaw (touchStart s) := hs.calm (by simp) (by simp) (by simp) (by simp)

theorem startCard_speedLaw (c : CurrentCard) (hs : SpeedLaw s) : SpeedLaw (startCard c s) := by
  unfold startCard
  (repeat' split)
  · exact hs.calm (by simp) (by simp) (by simp) (by simp)
  · exact hs.calm (by simp) (by simp) (by simp) (by simp)
  · rename_i h hspeed
    obtain ⟨hidle, g, hg⟩ : s.wd.state = .idle ∧ ∃ g, s.setup = some g := by simp_all [Option.isNone_iff_eq_none, Option.ne_none_iff_exists']
    have hrange : vMin ≤ cardSpeed c ∧ cardSpeed c ≤ g.vMax := by simpa [within_eq_true, vMaxOf, hg] using hspeed
    refine touchStart_speedLaw (driveDone_speedLaw c (hs.drive rfl ?_ ?_ ?_ ?_))
    · exact fun h => absurd (hs.segs_nil (by simp [hidle])) h
    · simp
    · exact fun _ => ⟨g, hg, hrange⟩
    · simp

theorem speedCard_speedLaw (c : CurrentCard) (hs : SpeedLaw s) : SpeedLaw (speedCard c s) := by
  have hmoves : s.wd.state = .starting ∨ s.wd.state = .running ∨ s.wd.state = .draining → SpeedLaw (speedCard c s) := by
    intro hst
    have hcard : speedCard c s = if !within vMin (cardSpeed c) (vMaxOf s) then failField 18 s
        else driveDone c [] (setDrive (fun d => { d with requested := cardSpeed c }) s) := by
      rcases hst with h | h | h <;> simp only [speedCard, h]
    rw [hcard]
    split
    · exact hs.calm (by simp) (by simp) (by simp) (by simp)
    · rename_i hspeed
      have hlaw := hs
      obtain ⟨-, hmove, -, hreq, hstand, -⟩ := hs
      refine driveDone_speedLaw c (hlaw.drive rfl hmove id (fun h => ?_) hstand)
      obtain ⟨g, hg, -⟩ := hreq h
      exact ⟨g, hg, by simpa [within_eq_true, vMaxOf, hg] using hspeed⟩
  cases h : s.wd.state with
  | starting | running | draining => exact hmoves (by simp [h])
  | idle | rampdown | halted =>
    rw [speedCard_refused (by simp [h])]
    exact hs.calm (by simp) (by simp) (by simp) (by simp)

/-- STOP, like link reset, lets a drive that runs or starts drain. -/
theorem SpeedLaw.drain (hs : SpeedLaw s) :
    SpeedLaw { s with wd := { s.wd with state := .draining } } :=
  hs.drive rfl (by simp) (by simp) (by simp) (by simp)

theorem stopCard_speedLaw (c : CurrentCard) (hs : SpeedLaw s) : SpeedLaw (stopCard c s) := by
  cases h : s.wd.state with
  | starting | running =>
    rw [stopCard_drains (by simp [h])]
    exact touchStart_speedLaw (driveDone_speedLaw c hs.drain)
  | idle | draining | rampdown =>
    rw [stopCard_no_effect (by simp [h]) (by simp [h])]
    exact hs.calm (by simp) (by simp) (by simp) (by simp)
  | halted =>
    rw [stopCard_halted h]
    exact hs.calm (by simp) (by simp) (by simp) (by simp)

theorem clearCard_speedLaw (c : CurrentCard) (hs : SpeedLaw s) : SpeedLaw (clearCard c s) := by
  unfold clearCard
  split
  · exact hs.calm (by simp) (by simp) (by simp) (by simp)
  · rename_i hok
    split
    · exact hs.calm (by simp) (by simp) (by simp) (by simp)
    · have hhalted : s.wd.state = .halted := by simp_all [clearRefused]
      have hclear : SpeedLaw (clearHalt s) := by
        refine SpeedLaw.of_standing ?_ (.inl ?_) ?_ ?_
        · simpa using hs.segs_nil (by simp [hhalted])
        · simp [clearHalt, setDrive]
        · simp [clearHalt, setDrive]
        · simpa using hs.tols
      dsimp only
      split <;> exact hclear.calm (by simp) (by simp) (by simp) (by simp)

/-- A LOAD card is accepted with a tolerance up to 30 %. -/
theorem loadError_tol {b : List Byte} (h : loadError b = none) (base : Nat) : (loadHeader b base).tol < 100 := by
  have htol : within 1 (loadHeader b 0).tol 30 = true := firstError_eq_none.mp h (19, within 1 (loadHeader b 0).tol 30) (by simp)
  exact lt_of_le_of_lt (within_eq_true.mp htol).2 (by decide)

theorem dispatchLoad_speedLaw (c : CurrentCard) (hs : SpeedLaw s) : SpeedLaw (dispatchLoad c s) := by
  unfold dispatchLoad acceptLoad
  dsimp only
  (repeat' split)
  · exact hs.calm (by simp) (by simp) (by simp) (by simp)
  · exact hs.calm (by simp) (by simp) (by simp) (by simp)
  · exact hs.calm (by simp) (by simp) (by simp) (by simp)
  · exact hs.calm (by simp) (by simp) (by simp) (by simp)
  · rename_i hnone _ _ base free _
    have hload : SpeedLaw (setProfile (leRead c.image 16 1) (fun _ => ⟨.loading, some (loadHeader c.image base), 0, 0, 0, false⟩)
        { s with ps := { s.ps with free := free } }) := by
      obtain ⟨hwin, hmove, hrun, hreq, hstand, htol⟩ := hs
      refine ⟨hwin, hmove, hrun, hreq, hstand, fun r hr h hh => ?_⟩
      rcases mem_modifyNth hr with hmem | ⟨q, -, rfl⟩
      · exact htol r hmem h hh
      · cases hh
        exact loadError_tol hnone base
    exact hload.calm (by simp) (by simp) (by simp) (by simp)

theorem profileOf_mem {id : Nat} {h : ProfileHeader} (hh : (profileOf s id).header = some h) : profileOf s id ∈ s.ps.records := by
  unfold profileOf nth at hh ⊢
  cases hr : s.ps.records[id - 1]? with
  | none => simp [hr, emptyRecord] at hh
  | some r => simpa [hr] using List.mem_of_getElem? hr

theorem reoffer_speedLaw (c : CurrentCard) (hs : SpeedLaw s) : SpeedLaw (reoffer c (setEngine (fun e => { e with offerDue := false }) s)) := by
  have hdue : SpeedLaw (setEngine (fun e => { e with offerDue := false }) s) := hs
  unfold reoffer
  split
  · exact hdue.calm (by simp) (by simp) (by simp) (by simp)
  · exact dispatchLoad_speedLaw c hdue
  · refine hdue.calm ?_ ?_ ?_ ?_ <;> unfold reofferPatch <;> (repeat' split) <;> simp
  · exact hdue.calm (by simp) (by simp) (by simp) (by simp)
  · exact hs

/-- A print starts in RUNNING alone, at a speed that its own window holds (R64, R87). -/
theorem startPrint_speedLaw {q : QueuedPrint} {c : Settings} {h : ProfileHeader} (hs : SpeedLaw s)
    (hrun : s.wd.state = .running) (hc : s.setup = some c) (hh : (profileOf s q.profileId).header = some h) :
    SpeedLaw (startPrint q c h s) := by
  obtain ⟨hwin, hmove, hspeed, hreq, hstand, htol⟩ := hs
  obtain ⟨c', hc', hlo, hhi⟩ := hspeed (.inl hrun)
  obtain rfl : c = c' := Option.some.inj (hc.symm.trans hc')
  have hnew : InWindow s.wd.running (newSegment s c h q (startCoordinate s)) :=
    window_holds hlo hhi (htol _ (profileOf_mem hh) h hh)
  have hmap : SpeedLaw { s with tmap := { s.tmap with segs := s.tmap.segs ++ [newSegment s c h q (startCoordinate s)] } } := by
    refine ⟨fun g hg => ?_, fun _ => .inl hrun, fun _ => ⟨c, hc, hlo, hhi⟩, hreq, hstand, htol⟩
    rcases List.mem_append.mp hg with hg | hg
    · exact hwin g hg
    · rwa [List.mem_singleton.mp hg]
  unfold startPrint
  exact hmap.calm (by simp) (by simp) (by simp) (by simp)

/-- A start test finds nothing unmet in a RUNNING drive alone (R64). -/
theorem startTest_running {q : QueuedPrint} (h : startTest s q = none) : s.wd.state = .running := by
  unfold startTest at h
  by_contra hne
  have hu : (unmetConditions s q).drive = true := by simp [unmetConditions, hne]
  have hsome : unmetConditions s q ≠ HoldReason.none := fun heq => by simp [heq, HoldReason.none] at hu
  simp [hsome] at h

theorem judgement_running {q : QueuedPrint} (h : judgement s q = none) : s.wd.state = .running := by
  unfold judgement at h
  split at h
  · exact startTest_running (Option.or_eq_none_iff.mp h).2
  · exact startTest_running h

theorem printStart_speedLaw {t : State} (hs : SpeedLaw s) (h : execPrintStart s = .next t) : SpeedLaw t := by
  refine whenOn_law SpeedLaw h hs fun _ => ?_
  split
  · split
    · rename_i hj hc hh
      exact startPrint_speedLaw hs (judgement_running hj) hc hh
    · split <;> exact hs.calm (by simp) (by simp) (by simp) (by simp)
    · exact hs
  · exact hs

theorem linkDown_speedLaw (hs : SpeedLaw s) : SpeedLaw (linkDown s) := by
  have hdrive : SpeedLaw { s with wd := linkDrive s.wd } := by
    cases hd : s.wd.state with
    | starting | running => simpa [linkDrive, hd] using hs.drain
    | idle | draining | rampdown | halted => simpa [linkDrive, hd] using hs
  exact hdrive.calm (by simp [linkDown]) (by simp [linkDown]) (by simp) (by simp)

theorem execRampPeriod_speedLaw {t : State} (hs : SpeedLaw s) (h : execRampPeriod s = .next t) : SpeedLaw t := by
  refine whenOn_law SpeedLaw h hs fun _ => ?_
  have hdrive := rampDrive_speedLaw hs (rampStep s)
  dsimp only
  (repeat' split) <;> exact hdrive.calm (by simp [setDrive]) (by simp [setDrive]) (by simp [setDrive]) (by simp [setDrive])

theorem execHeatPeriod_speedLaw {t : State} (hs : SpeedLaw s) (h : execHeatPeriod s = .next t) : SpeedLaw t := by
  refine whenOn_law SpeedLaw h hs fun _ => ?_
  split
  · exact hs
  · rename_i c _
    dsimp only
    have hend : ∀ t, SpeedLaw t → SpeedLaw (touchIfMoved s.hc.zones (tripHalts c (trippedZones s.hc.zones (zonesPeriod s c)) t)) :=
      fun t ht => by
        have htrip := tripHalts_law SpeedLaw haltLine_speedLaw c (trippedZones s.hc.zones (zonesPeriod s c)) ht
        exact htrip.calm (by simp) (by simp) (by simp) (by simp)
    have hdose : ∀ zones, WindowsFrom s.tmap.segs (s.tmap.segs.map (countDose zones)) := fun zones =>
      (windowsFrom_refl _).map fun g => by unfold countDose; (repeat' split) <;> exact ⟨rfl, rfl⟩
    refine hend _ (hs.calm ?_ ?_ ?_ ?_) <;> (repeat' split) <;> simp [setZones, hdose]

theorem execTensionPeriod_speedLaw {t : State} (hs : SpeedLaw s) (h : execTensionPeriod s = .next t) : SpeedLaw t := by
  refine whenOn_law SpeedLaw h hs fun _ => ?_
  have hread : SpeedLaw (allAxes.foldl (readAxis s.tc.frame) { s with tc := { s.tc with frame := none } }) := by
    refine foldl_law SpeedLaw _ (fun s a hs => ?_) _ hs
    exact readAxis_law SpeedLaw haltLine_speedLaw (fun a r s hs => hs.calm (by simp) (by simp) (by simp) (by simp))
      (fun f s hs => hs.calm (by simp) (by simp) (by simp) (by simp)) _ a hs
  exact hread.calm (by simp) (by simp) (by simp) (by simp)

end

/-- Every command keeps the law: the drive moves its speed within every window, a strip enters at a speed that its window holds, and a
halt empties the map. -/
theorem exec_speedLaw {i : Instr} {s t : State} (hs : SpeedLaw s) (h : exec i s = .next t) : SpeedLaw t := by
  have hfield : ∀ c, Dispatching .drive c s → SpeedLaw (failField 16 s) := fun c _ =>
    hs.calm (by simp) (by simp) (by simp) (by simp)
  unfold exec at h
  cases i with
  -- Resets, supplies and registers.
  | mainPowerOnReset z st =>
    cases h
    refine SpeedLaw.of_standing ?_ (.inr ?_) ?_ ?_ <;> simp only [raiseLost_frame, resetFrames_frame]
    · rfl
    · rfl
    · rfl
    · intro r hr h hh
      rw [List.eq_of_mem_replicate hr] at hh
      cases hh
  | softReset =>
    refine whenOn_law SpeedLaw h hs fun _ => SpeedLaw.of_standing ?_ (.inr ?_) ?_ ?_ <;> simp only [resetFrames_frame]
    · rfl
    · rfl
    · rfl
    · intro r hr h hh
      rw [List.eq_of_mem_replicate hr] at hh
      cases hh
  | keepAlivePowerOnReset | mainSupplyLoss =>
    cases h
    exact hs
  | linkReset =>
    exact whenOn_law SpeedLaw h hs fun _ => (linkDown_speedLaw hs).calm (by simp) (by simp) (by simp) (by simp)
  | runSet | runClear | watchInterval =>
    refine whenOn_law SpeedLaw h hs fun _ => ?_
    unfold controlWrite
    dsimp only
    (repeat' split) <;> exact hs.calm (by simp) (by simp) (by simp) (by simp)
  | registerWrite => exact whenOn_law SpeedLaw h hs fun _ => hs
  | irqEnable => exact whenOn_law SpeedLaw h hs fun _ => hs.calm (by simp) (by simp) (by simp) (by simp)
  | eventAck =>
    refine whenOn_law SpeedLaw h hs fun _ => ?_
    unfold discardOldest
    dsimp only
    (repeat' split) <;> exact hs.calm (by simp) (by simp) (by simp) (by simp)
  | bookBase =>
    refine whenOn_law SpeedLaw h hs fun _ => ?_
    dsimp only
    (repeat' split) <;> exact hs.calm (by simp) (by simp) (by simp) (by simp)
  | wake | watchTimerExpiry | statusPageWrite =>
    refine whenOn_law SpeedLaw h hs fun _ => ?_
    (repeat' split) <;> exact hs.calm (by simp) (by simp) (by simp) (by simp)
  -- The chain of cards.
  | chainReadComplete link =>
    refine whenOn_law SpeedLaw h hs fun _ => onChainRead_law SpeedLaw _ hs ?_ ?_ fun t ht => ?_
    · exact fun g t ht => ht
    · exact fun l t ht => ht.calm (by simp) (by simp) (by simp) (by simp)
    · dsimp only
      split <;> exact ht.calm (by simp) (by simp) (by simp) (by simp)
  | cardReadError link | chainReadTimeout link =>
    refine whenOn_law SpeedLaw h hs fun _ => onChainRead_law SpeedLaw _ hs ?_ ?_ fun t ht => ?_
    · exact fun g t ht => ht
    · exact fun l t ht => ht.calm (by simp) (by simp) (by simp) (by simp)
    · dsimp only
      (repeat' split) <;> exact ht.calm (by simp) (by simp) (by simp) (by simp)
  | cardReoffer =>
    refine whenOn_law SpeedLaw h hs fun _ => ?_
    split
    · rename_i c _ _ _
      exact reoffer_speedLaw c hs
    · exact hs
  | heat | fabric | print | splice | fence =>
    exact onDispatch_law SpeedLaw h hs fun c _ => hs.calm (by simp) (by simp) (by simp) (by simp)
  | load => exact onDispatch_law SpeedLaw h hs fun c _ => dispatchLoad_speedLaw c hs
  | drop => exact onDispatch_law SpeedLaw h hs fun c _ => hs.calm (by simp) (by simp) (by simp) (by simp)
  | patch =>
    refine onDispatch_law SpeedLaw h hs fun c _ => ?_
    split <;> exact hs.calm (by simp) (by simp) (by simp) (by simp)
  | setup => exact onDispatch_law SpeedLaw h hs fun c _ => setupCard_speedLaw c hs
  | start => exact onDrive_law SpeedLaw h hs hfield fun c _ => startCard_speedLaw c hs
  | speed => exact onDrive_law SpeedLaw h hs hfield fun c _ => speedCard_speedLaw c hs
  | stop => exact onDrive_law SpeedLaw h hs hfield fun c _ => stopCard_speedLaw c hs
  | clear => exact onDrive_law SpeedLaw h hs hfield fun c _ => clearCard_speedLaw c hs
  | halt =>
    exact onDrive_law SpeedLaw h hs hfield fun c _ =>
      (haltLine_speedLaw .host s hs).calm (by simp) (by simp) (by simp) (by simp)
  -- The web and the line.
  | positionUpdate => exact whenOn_law SpeedLaw h hs fun _ => hs.calm (by simp) (by simp) (by simp) (by simp)
  | backTravel | heaterWindow => exact whenOn_law SpeedLaw h hs fun _ => hs
  | drumEncoderReport => exact whenOn_law SpeedLaw h hs fun _ => hs
  | tensionFrame | zoneFrame | heaterOnTimeEnd | rawLevelChange =>
    refine whenOn_law SpeedLaw h hs fun _ => ?_
    split <;> exact hs
  | jointLeavesWrap | fabricJointDue | rollCountRequest | drumTravelIncrement =>
    refine whenOn_law SpeedLaw h hs fun _ => ?_
    split <;> exact hs.calm (by simp) (by simp) (by simp) (by simp)
  | leadAtNip | trailAtNip | leadExit | trailExit =>
    refine whenOn_law SpeedLaw h hs fun _ => ?_
    split
    · exact hs
    · exact hs.calm (by simp) (by simp) (by simp) (by simp)
  | handoverLimit =>
    refine whenOn_law SpeedLaw h hs fun _ => ?_
    split
    · exact haltLine_speedLaw .handover _ (hs.calm (by simp) (by simp) (by simp) (by simp))
    · exact hs
  | spliceTimeout =>
    refine whenOn_law SpeedLaw h hs fun _ => ?_
    dsimp only
    (repeat' split) <;> exact hs.calm (by simp) (by simp) (by simp) (by simp)
  | inputFilterExpiry input =>
    refine whenOn_law SpeedLaw h hs fun _ => ?_
    dsimp only
    (repeat' split)
    · exact hs
    · exact hs
    · exact SpeedLaw.edge input _ hs
  | rampPeriod => exact execRampPeriod_speedLaw hs h
  | heatPeriod => exact execHeatPeriod_speedLaw hs h
  | tensionPeriod => exact execTensionPeriod_speedLaw hs h
  -- The Print Engine, the Profile Store and the Shadow Patch Buffer.
  | printStart => exact printStart_speedLaw hs h
  | barReport | barSilent | freeing | lookup | rasterReadComplete | editApply | loaderWriteComplete
  | drainWriteComplete =>
    refine whenOn_law SpeedLaw h hs fun _ => ?_
    (repeat' split) <;> exact hs.calm (by simp) (by simp) (by simp) (by simp)
  | lineComputationBegin =>
    refine whenOn_law SpeedLaw h hs fun _ => ?_
    dsimp only
    split
    · exact hs
    · exact hs.calm rfl rfl (updateSeg_windows (fun g => ⟨rfl, rfl⟩) (windowsFrom_refl _)) (headersFrom_refl _)
  | lineBoundary | lineDue =>
    refine whenOn_law SpeedLaw h hs fun _ => ?_
    dsimp only
    (repeat' split) <;> exact hs.calm (by simp) (by simp) (by simp) (by simp)
  | lookupFillComplete damage =>
    refine whenOn_law SpeedLaw h hs fun _ => ?_
    split
    · rename_i r live _
      have hread : SpeedLaw (readCell r.cell damage (portDone s)).2 := hs
      have hfill := serveFill_speedLaw r live (readCell r.cell damage (portDone s)).1 hread
      dsimp only
      split <;> exact hfill.calm (by simp) (by simp) (by simp) (by simp)
    · exact hs
  | creationReadComplete damage =>
    refine whenOn_law SpeedLaw h hs fun _ => ?_
    split
    · rename_i id node cell k live _
      have hread : SpeedLaw (readCell cell damage (portDone s)).2 := hs
      have hentry := createEntry_speedLaw id node cell k (readCell cell damage (portDone s)).1 hread
      dsimp only
      split
      · exact hentry.calm (by simp) (by simp) (by simp) (by simp)
      · exact hread.calm (by simp) (by simp) (by simp) (by simp)
    · exact hs
  | rasterReadError | rasterReadTimeout | loadReadError | loadReadTimeout | patchReadError | editListReadTimeout =>
    exact whenOn_law SpeedLaw h hs fun _ => hs.calm (by simp) (by simp) (by simp) (by simp)
  | loadReadComplete =>
    exact whenOn_law SpeedLaw h hs fun _ => onLoadRead_law SpeedLaw hs (fun _ => hs) fun j _ _ =>
      hs.calm (by simp) (by simp) (by simp) (by simp)
  | editListReadComplete =>
    refine whenOn_law SpeedLaw h hs fun _ => onListRead_law SpeedLaw hs (fun _ => hs) fun p _ _ => ?_
    dsimp only
    (repeat' split) <;> exact hs.calm (by simp) (by simp) (by simp) (by simp)

/-- Settles O58: every command keeps the law, and neither an idle millisecond nor the queue of commands reaches it. -/
theorem stepsKeepTheSpeedInEveryWindow : Obligations.StepsKeepTheSpeedInEveryWindow := by
  unfold Obligations.StepsKeepTheSpeedInEveryWindow
  exact fun s t hs h => step_law SpeedLaw (fun _ _ h => h) (fun _ _ h => h) (fun _ _ _ => exec_speedLaw) hs h

end Sys2Proof.Machine
end

section
/-! PROOFS. Zones without heat stay cut, and the heat of a standing line stays under the idle cap, at every step (R104). -/

namespace Sys2Proof.Machine

/-! ## Zones that the law allows -/

/-- A zone in OFF, FAULT or TRIPPED has no heat, and while the line stands still no zone has more than the idle cap (R104). -/
def ZoneLaw (stopped : Bool) (cap : Nat) (z : Zone) : Prop :=
  (z.state = .off ∨ z.state = .fault ∨ z.state = .tripped → z.duty = 0 ∧ z.integ = 0 ∧ z.onTime = 0 ∧ z.heater = false) ∧
    (stopped = true → z.duty ≤ cap ∧ z.onTime ≤ cap)

theorem heatLaw_iff {s : State} : HeatLaw s ↔ (∀ z ∈ s.hc.zones, ZoneLaw (s.wd.running == 0) (idleCapOf s) z) ∧
    (s.wd.state = .idle ∨ s.wd.state = .halted → s.wd.running = 0) := by
  simp only [HeatLaw, ZoneLaw, beq_iff_eq]
  exact ⟨fun ⟨hcut, hcap, hstand⟩ => ⟨fun z hz => ⟨hcut z hz, fun h => hcap h z hz⟩, hstand⟩,
    fun ⟨hz, hstand⟩ => ⟨fun z h => (hz z h).1, fun h z hm => (hz z hm).2 h, hstand⟩⟩

section
variable {stopped : Bool} {cap : Nat} {z : Zone}

theorem ZoneLaw.reset : ZoneLaw stopped cap resetZone := by
  simp [ZoneLaw, resetZone]

/-- A zone without heat keeps the law in every state. -/
theorem ZoneLaw.cold (hduty : z.duty = 0) (hinteg : z.integ = 0) (hon : z.onTime = 0) (hheat : z.heater = false) :
    ZoneLaw stopped cap z :=
  ⟨fun _ => ⟨hduty, hinteg, hon, hheat⟩, fun _ => by omega⟩

theorem ZoneLaw.cut (st : ZoneState) (z : Zone) : ZoneLaw stopped cap (cutZone st z) := by
  simp [ZoneLaw, cutZone]

/-- A zone with the same figures and state, or in a band state, keeps the law. -/
theorem ZoneLaw.same {z' : Zone} (h : ZoneLaw stopped cap z) (hduty : z'.duty = z.duty) (hon : z'.onTime = z.onTime)
    (hstate : z'.state.isBand = true ∨ z'.state = z.state ∧ z'.integ = z.integ ∧ z'.heater = z.heater) :
    ZoneLaw stopped cap z' := by
  obtain ⟨hcut, hcap⟩ := h
  refine ⟨fun hst => ?_, by rwa [hduty, hon]⟩
  rcases hstate with hband | ⟨hst', hinteg, hheat⟩
  · rcases hst with h | h | h <;> simp [h, ZoneState.isBand] at hband
  · rw [hduty, hinteg, hon, hheat]
    exact hcut (hst' ▸ hst)

theorem ZoneLaw.latch (h : ZoneLaw stopped cap z) (b : Bool) : ZoneLaw stopped cap { z with latch := b } :=
  h.same rfl rfl (.inr ⟨rfl, rfl, rfl⟩)

@[simp] theorem bandState_isBand (z : Zone) (t : Int) : (bandState z t).isBand = true := by
  unfold bandState sideOf
  (repeat' split) <;> rfl

@[simp] theorem sideOf_isBand (z : Zone) (t : Int) : (sideOf z t).isBand = true := by
  unfold sideOf
  split <;> rfl

theorem ZoneLaw.enterBand (h : ZoneLaw stopped cap z) : ZoneLaw stopped cap (enterBand z) :=
  h.same rfl rfl (.inl (bandState_isBand z _))

theorem ZoneLaw.capZone {cap' : Nat} (h : ZoneLaw stopped cap' z) (elapsed : Nat) : ZoneLaw true cap (capZone cap elapsed z) := by
  obtain ⟨hcut, -⟩ := h
  refine ⟨fun hst => ?_, fun _ => ⟨min_le_right _ _, min_le_right _ _⟩⟩
  obtain ⟨hduty, hinteg, hon, hheat⟩ := hcut hst
  simp [Machine.capZone, hduty, hinteg, hon, hheat]

theorem ZoneLaw.startWindow (h : ZoneLaw stopped cap z) : ZoneLaw stopped cap (startWindow z) := by
  obtain ⟨hcut, hcap⟩ := h
  refine ⟨fun hst => ?_, fun hs => ⟨(hcap hs).1, (hcap hs).1⟩⟩
  obtain ⟨hduty, hinteg, -⟩ := hcut hst
  simp [Machine.startWindow, hduty, hinteg]

theorem ZoneLaw.onTimeEnd (h : ZoneLaw stopped cap z) :
    ZoneLaw stopped cap (if z.onTime < 1000 then { z with heater := false } else z) := by
  obtain ⟨hcut, hcap⟩ := h
  split
  · exact ⟨fun hst => ⟨(hcut hst).1, (hcut hst).2.1, (hcut hst).2.2.1, rfl⟩, hcap⟩
  · exact ⟨hcut, hcap⟩

theorem ZoneLaw.setupZone (h : ZoneLaw stopped cap z) (zones n : Nat) : ZoneLaw stopped cap (setupZone zones n z) := by
  unfold Machine.setupZone
  split
  · exact h
  · exact .cold rfl rfl rfl rfl

/-! ## The heat period -/

theorem ZoneLaw.badReading (h : ZoneLaw stopped cap z) (k : BadKind) : ZoneLaw stopped cap (badReading k z) := by
  unfold Machine.badReading
  dsimp only
  (repeat' split)
  · exact h.same rfl rfl (.inr ⟨rfl, rfl, rfl⟩)
  · exact .cold rfl rfl rfl rfl
  · exact h.same rfl rfl (.inr ⟨rfl, rfl, rfl⟩)

/-- A zone that leaves FAULT has no heat, whatever state it takes (R100). -/
theorem ZoneLaw.recoverZone (h : ZoneLaw stopped cap z) (hf : z.state = .fault) : ZoneLaw stopped cap (recoverZone z) := by
  have hcold := h.1 (.inr (.inl hf))
  have hcut : ∀ st, ZoneLaw stopped cap { z with state := st } := fun st => ⟨fun _ => hcold, h.2⟩
  unfold Machine.recoverZone
  (repeat' split)
  · exact hcut .tripped
  · exact hcut .off
  · exact h.enterBand

theorem ZoneLaw.goodReading (h : ZoneLaw stopped cap z) (t : Int) : ZoneLaw stopped cap (goodReading t z) := by
  have hmeas : ∀ b g, ZoneLaw stopped cap { z with tMeas := t, bad := b, good := g } := fun b g =>
    h.same rfl rfl (.inr ⟨rfl, rfl, rfl⟩)
  unfold Machine.goodReading
  dsimp only
  (repeat' split)
  · rename_i hf _
    exact (hmeas _ _).recoverZone (by simpa using hf)
  · exact hmeas _ _
  · exact hmeas _ _

theorem ZoneLaw.tripZone (h : ZoneLaw stopped cap z) : ZoneLaw stopped cap (tripZone z) := by
  unfold Machine.tripZone
  split
  · exact h.latch true
  · exact (ZoneLaw.cut .tripped z).latch true

theorem ZoneLaw.judgeBand (h : ZoneLaw stopped cap z) (t : Int) : ZoneLaw stopped cap (judgeBand z t) := by
  have hside : ∀ n m, ZoneLaw stopped cap { z with state := sideOf z t, settle := n, out := m } := fun n m =>
    h.same rfl rfl (.inl (sideOf_isBand z t))
  unfold Machine.judgeBand
  (repeat' split)
  any_goals exact h
  any_goals exact hside _ _
  any_goals exact h.same rfl rfl (.inl rfl)

/-- A computed duty is limited while the line stands still, and is given to a zone in a band state alone (R103, R104). -/
theorem ZoneLaw.computeDuty (h : ZoneLaw stopped cap z) (hband : z.state.isBand = true) :
    ZoneLaw stopped cap (computeDuty stopped cap z) := by
  obtain ⟨-, hcap⟩ := h
  have hnot : ¬(z.state = .off ∨ z.state = .fault ∨ z.state = .tripped) := by
    rintro (h | h | h) <;> simp [h, ZoneState.isBand] at hband
  unfold Machine.computeDuty
  dsimp only
  split
  · exact ⟨fun hst => absurd hst hnot, fun hs => ⟨le_rfl, (hcap hs).2⟩⟩
  · rename_i hle
    refine ⟨fun hst => absurd hst hnot, fun hs => ⟨?_, (hcap hs).2⟩⟩
    simpa [hs] using hle

theorem ZoneLaw.zonePeriod (h : ZoneLaw stopped cap z) (tTrip : Nat) (c : ZoneClass) :
    ZoneLaw stopped cap (zonePeriod stopped cap tTrip c z) := by
  cases c with
  | bad k => exact h.badReading k
  | good t =>
    unfold Machine.zonePeriod
    dsimp only
    (repeat' split)
    · exact (h.goodReading t).tripZone
    · rename_i hduty
      refine ((h.goodReading t).judgeBand t).computeDuty ?_
      simp only [computesDuty, Bool.and_eq_true] at hduty
      exact hduty.1
    · exact (h.goodReading t).judgeBand t

/-! ## The HEAT card -/

theorem ZoneLaw.withSetting (h : ZoneLaw stopped cap z) (g : HeatSetting) : ZoneLaw stopped cap (withSetting g z) :=
  h.same rfl rfl (.inr ⟨rfl, rfl, rfl⟩)

theorem ZoneLaw.rearmZone (h : ZoneLaw stopped cap z) (tTrip : Nat) (g : HeatSetting) :
    ZoneLaw stopped cap (rearmZone tTrip g z) := by
  unfold Machine.rearmZone
  dsimp only
  (repeat' split)
  · exact ZoneLaw.cut .off _
  · exact h.same rfl rfl (.inl (bandState_isBand _ _))
  · exact h.withSetting g

theorem ZoneLaw.heatZone (h : ZoneLaw stopped cap z) (tTrip : Nat) (g : HeatSetting) :
    ZoneLaw stopped cap (heatZone tTrip g z) := by
  unfold Machine.heatZone
  (repeat' split)
  any_goals exact h.withSetting g
  any_goals exact ZoneLaw.cut .off _
  any_goals exact (h.withSetting g).enterBand
  · exact h.rearmZone tTrip g
  · exact h.same rfl rfl (.inl (bandState_isBand _ _))

end

/-! ## The law -/

section
variable {s t : State}

/-- The law passes to a state with the drive, the settings and the zones of another. -/
theorem HeatLaw.calm (hs : HeatLaw s) (hwd : t.wd = s.wd) (hset : t.setup = s.setup) (hz : t.hc.zones = s.hc.zones) : HeatLaw t := by
  unfold HeatLaw idleCapOf at hs ⊢
  rwa [hwd, hset, hz]

/-- The law passes to new zones that keep it. -/
theorem HeatLaw.zones (hs : HeatLaw s) (hwd : t.wd = s.wd) (hset : t.setup = s.setup)
    (hz : ∀ z ∈ t.hc.zones, (∀ y ∈ s.hc.zones, ZoneLaw (s.wd.running == 0) (idleCapOf s) y) →
      ZoneLaw (s.wd.running == 0) (idleCapOf s) z) : HeatLaw t := by
  obtain ⟨hzone, hstand⟩ := heatLaw_iff.mp hs
  have hcap : idleCapOf t = idleCapOf s := by unfold idleCapOf; rw [hset]
  exact heatLaw_iff.mpr ⟨fun z h => by rw [hwd, hcap]; exact hz z h hzone, by rwa [hwd]⟩

/-- A law of every record of a list holds of the list with each record changed in a way that keeps it. -/
theorem forall_mem_mapIdx {α : Type} {P : α → Prop} {f : Nat → α → α} {l : List α} (h : ∀ x ∈ l, P x) (hf : ∀ n x, P x → P (f n x)) :
    ∀ x ∈ l.mapIdx f, P x := by
  intro x hx
  obtain ⟨n, hn, rfl⟩ := List.mem_mapIdx.mp hx
  exact hf n _ (h _ (List.getElem_mem hn))

/-- A speed of 0 that is reported brings every zone under the idle cap (R104). -/
theorem reportStopped_heatLaw (hz : ∀ z ∈ s.hc.zones, ∃ stopped cap, ZoneLaw stopped cap z)
    (hstand : s.wd.state = .idle ∨ s.wd.state = .halted → s.wd.running = 0) : HeatLaw (reportStopped s) := by
  refine heatLaw_iff.mpr ⟨fun z hzone => ?_, by simpa using hstand⟩
  obtain ⟨y, hy, rfl⟩ := List.mem_map.mp hzone
  obtain ⟨stopped, cap, hlaw⟩ := hz y hy
  obtain ⟨hcut, hcap⟩ := ZoneLaw.capZone (cap := idleCapOf s) hlaw (s.clock - s.hc.windowStart)
  exact ⟨hcut, fun _ => hcap rfl⟩

theorem HeatLaw.some_zoneLaw (hs : HeatLaw s) : ∀ z ∈ s.hc.zones, ∃ stopped cap, ZoneLaw stopped cap z := fun z hz =>
  ⟨_, _, (heatLaw_iff.mp hs).1 z hz⟩

theorem takeHalt_heatLaw (cause : HaltCause) (hs : HeatLaw s) : HeatLaw (takeHalt cause s) := by
  unfold takeHalt
  refine HeatLaw.calm (reportStopped_heatLaw ?_ ?_) (touchStart_frame _).2.2.2.2.2.2.2.2.2.2.2.2.2.2.2.1 (by simp) (by simp)
  · simpa using hs.some_zoneLaw
  · simp

theorem haltLine_heatLaw (cause : HaltCause) (s : State) (hs : HeatLaw s) : HeatLaw (haltLine cause s) := by
  unfold haltLine
  split
  · exact hs.calm (by simp) (by simp) (by simp)
  · exact takeHalt_heatLaw cause hs

/-- The drive may change its state while its speed stands. -/
theorem HeatLaw.drive (hs : HeatLaw s) {d : Drive} (hrun : d.running = s.wd.running)
    (hstand : d.state = .idle ∨ d.state = .halted → s.wd.running = 0) : HeatLaw { s with wd := d } := by
  obtain ⟨hzone, -⟩ := heatLaw_iff.mp hs
  exact heatLaw_iff.mpr ⟨fun z hz => by rw [hrun]; exact hzone z hz, by simpa only [hrun] using hstand⟩

/-! ## The commands -/

theorem HeatLaw.edge (i : LineInput) (active : Bool) (hs : HeatLaw s) : HeatLaw (inputEdge i active s) :=
  inputEdge_law HeatLaw haltLine_heatLaw (fun a s hs => hs.calm (by simp) (by simp) (by simp))
    (fun a s hs => hs.calm (by simp) (by simp) (by simp)) (fun a s hs => hs.calm (by simp) (by simp) (by simp)) i active hs

theorem createEntry_heatLaw (id node cell k : Nat) (c : StoreCell) (hs : HeatLaw s) : HeatLaw (createEntry id node cell k c s) := by
  unfold createEntry
  (repeat' split)
  · exact hs
  · exact parityHalt_law HeatLaw haltLine_heatLaw _ (hs.calm (by simp) (by simp) (by simp))
  · exact hs

theorem serveFill_heatLaw (r : FillRequest) (live : Bool) (c : StoreCell) (hs : HeatLaw s) : HeatLaw (serveFill r live c s) := by
  refine parityHalt_law HeatLaw haltLine_heatLaw _ (hs.calm ?_ ?_ ?_) <;> (repeat' split) <;> simp

/-- A SETUP brings the zones of a standing line under its idle cap, and cuts those that leave use (R97, R104). -/
theorem takeSettings_heatLaw (c : Settings) (hs : HeatLaw s) : HeatLaw (takeSettings c s) := by
  have hzones : ∀ z ∈ s.hc.zones.mapIdx (setupZone c.zones), ∃ stopped cap, ZoneLaw stopped cap z :=
    forall_mem_mapIdx hs.some_zoneLaw fun n z ⟨stopped, cap, hz⟩ => ⟨stopped, cap, hz.setupZone c.zones n⟩
  have hstop : HeatLaw (reportStopped (mapAxes (setupAxis c)
      (setZones (s.hc.zones.mapIdx (setupZone c.zones)) { s with setup := some c }))) := by
    refine reportStopped_heatLaw ?_ ?_
    · simpa [setZones] using hzones
    · simpa [setZones] using (heatLaw_iff.mp hs).2
  unfold takeSettings
  exact hstop.calm (by simp) (by simp) (by simp)

theorem setupCard_heatLaw (k : CurrentCard) (hs : HeatLaw s) : HeatLaw (setupCard k s) := by
  unfold setupCard
  dsimp only
  (repeat' split)
  · exact hs.calm (by simp) (by simp) (by simp)
  · exact hs.calm (by simp) (by simp) (by simp)
  · have hedges := polarityEdges_law HeatLaw (fun i active s hs => hs.edge i active) s (takeSettings_heatLaw (parseSettings k.image) hs)
    exact hedges.calm (by simp [applySetup]) (by simp [applySetup]) (by simp [applySetup])

theorem heatCard_heatLaw (k : CurrentCard) (hs : HeatLaw s) : HeatLaw (heatCard k s) := by
  unfold heatCard
  dsimp only
  (repeat' split)
  · exact hs.calm (by simp) (by simp) (by simp)
  · exact hs.calm (by simp) (by simp) (by simp)
  · rename_i c _ _ _
    refine hs.zones (by simp [setZones]) (by simp [setZones]) fun z hz hlaw => ?_
    have hz' : z ∈ heatZones c k.image s.hc.zones := by simpa [setZones] using hz
    refine forall_mem_mapIdx hlaw (fun n z hz => ?_) z hz'
    split
    · exact hz.heatZone _ _
    · exact hz

theorem driveDone_heatLaw {f : Drive → Drive} (c : CurrentCard) (hs : HeatLaw { s with wd := f s.wd }) :
    HeatLaw (driveDone c [] (setDrive f s)) := by
  have hset : HeatLaw (setDrive f s) := hs
  exact hset.calm (by simp) (by simp) (by simp)

theorem touchStart_heatLaw (hs : HeatLaw s) : HeatLaw (touchStart s) := hs.calm (by simp) (by simp) (by simp)

theorem startCard_heatLaw (c : CurrentCard) (hs : HeatLaw s) : HeatLaw (startCard c s) := by
  unfold startCard
  (repeat' split)
  · exact hs.calm (by simp) (by simp) (by simp)
  · exact hs.calm (by simp) (by simp) (by simp)
  · exact touchStart_heatLaw (driveDone_heatLaw c (hs.drive rfl (by simp)))

theorem speedCard_heatLaw (c : CurrentCard) (hs : HeatLaw s) : HeatLaw (speedCard c s) := by
  have hwrong : HeatLaw (driveWrong c [] s) := hs.calm (by simp) (by simp) (by simp)
  have hspeed : HeatLaw (if !within vMin (cardSpeed c) (vMaxOf s) then failField 18 s
      else driveDone c [] (setDrive (fun d => { d with requested := cardSpeed c }) s)) := by
    split
    · exact hs.calm (by simp) (by simp) (by simp)
    · exact driveDone_heatLaw c (hs.drive rfl (heatLaw_iff.mp hs).2)
  unfold speedCard
  split
  · exact hspeed
  · exact hspeed
  · exact hspeed
  · exact hwrong
  · exact hwrong
  · exact hwrong

theorem stopCard_heatLaw (c : CurrentCard) (hs : HeatLaw s) : HeatLaw (stopCard c s) := by
  have hdrain : HeatLaw (touchStart (driveDone c [] (setDrive (fun d => { d with state := .draining }) s))) :=
    touchStart_heatLaw (driveDone_heatLaw c (hs.drive rfl (by simp)))
  have hdone : HeatLaw (driveDone c [] s) := hs.calm (by simp) (by simp) (by simp)
  unfold stopCard
  split
  · exact hdrain
  · exact hdrain
  · exact hdone
  · exact hdone
  · exact hdone
  · exact hs.calm (by simp) (by simp) (by simp)

theorem clearCard_heatLaw (c : CurrentCard) (hs : HeatLaw s) : HeatLaw (clearCard c s) := by
  unfold clearCard
  split
  · exact hs.calm (by simp) (by simp) (by simp)
  · rename_i hok
    have hhalted : s.wd.state = .halted := by simp_all [clearRefused]
    have hrun : s.wd.running = 0 := (heatLaw_iff.mp hs).2 (.inr hhalted)
    have hidle : HeatLaw (setDrive (fun d => { d with state := .idle, requested := 0, target := 0, running := 0 }) s) :=
      hs.drive hrun.symm fun _ => hrun
    have hclear : HeatLaw (clearHalt s) := hidle.calm (by simp [clearHalt]) (by simp [clearHalt]) (by simp [clearHalt])
    dsimp only
    (repeat' split)
    · exact hs.calm (by simp) (by simp) (by simp)
    · exact hclear.calm (by simp) (by simp) (by simp)
    · exact hclear.calm (by simp) (by simp) (by simp)

theorem linkDown_heatLaw (hs : HeatLaw s) : HeatLaw (linkDown s) := by
  have hdrive : HeatLaw { s with wd := linkDrive s.wd } := by
    cases hd : s.wd.state with
    | starting | running => exact hs.drive (by simp [linkDrive, hd]) (by simp [linkDrive, hd])
    | idle | draining | rampdown | halted => simpa [linkDrive, hd] using hs
  exact hdrive.calm (by simp [linkDown]) (by simp [linkDown]) (by simp [linkDown])

theorem reoffer_heatLaw (c : CurrentCard) (hs : HeatLaw s) : HeatLaw (reoffer c (setEngine (fun e => { e with offerDue := false }) s)) := by
  have hdue : HeatLaw (setEngine (fun e => { e with offerDue := false }) s) := hs
  unfold reoffer
  split <;> exact hdue.calm (by simp) (by simp) (by simp)

/-! ## Periods -/

/-- A drive that a ramp period leaves in IDLE or HALTED stands still (R118, R120). -/
theorem rampDrive_stands {noSegs : Bool} {w : Nat × Nat} {step : Nat} {d : Drive}
    (hd : d.state = .idle ∨ d.state = .halted → d.running = 0)
    (h : (rampDrive noSegs w step d).state = .idle ∨ (rampDrive noSegs w step d).state = .halted) :
    (rampDrive noSegs w step d).running = 0 := by
  have down : d.state = .rampdown ∨ d.state = .draining ∧ noSegs = true → (rampDrive noSegs w step d).running = 0 := by
    intro hst
    rcases rampDrive_down (w := w) (step := step) hst with hr | ⟨-, hz⟩
    · simp [hr] at h
    · exact hz
  have moving : ¬(d.state = .running ∨ d.state = .draining ∧ noSegs = false) := by
    intro hst
    rw [(rampDrive_moving (w := w) (step := step) hst).2.2] at h
    rcases hst with hst | ⟨hst, -⟩ <;> simp [hst] at h
  cases hst : d.state with
  | idle | halted =>
    rw [rampDrive_standing (by simp [hst])]
    exact hd (by simp [hst])
  | starting =>
    rw [(rampDrive_starting hst).2.2] at h
    split at h <;> simp at h
  | running => exact absurd (.inl hst) moving
  | rampdown => exact down (.inl hst)
  | draining =>
    cases noSegs with
    | true => exact down (.inr ⟨hst, rfl⟩)
    | false => exact absurd (.inr ⟨hst, rfl⟩) moving

theorem execRampPeriod_heatLaw (hs : HeatLaw s) (h : execRampPeriod s = .next t) : HeatLaw t := by
  refine whenOn_law HeatLaw h hs fun _ => ?_
  obtain ⟨hzone, hstand⟩ := heatLaw_iff.mp hs
  have hramp := fun h => rampDrive_stands (noSegs := s.tmap.segs.isEmpty) (w := lineWindow s) (step := rampStep s) hstand h
  have hstop : HeatLaw (reportStopped (setDrive (fun _ => rampDrive s.tmap.segs.isEmpty (lineWindow s) (rampStep s) s.wd) s)) :=
    reportStopped_heatLaw (s := setDrive _ s) hs.some_zoneLaw hramp
  dsimp only
  by_cases hmoves : (s.wd.running != 0 && (rampDrive s.tmap.segs.isEmpty (lineWindow s) (rampStep s) s.wd).running == 0) = true
  · simp only [hmoves, if_true]
    (repeat' split) <;> exact hstop.calm (by simp) (by simp) (by simp [reportStopped, idleCapOf])
  · have hgoes : HeatLaw (setDrive (fun _ => rampDrive s.tmap.segs.isEmpty (lineWindow s) (rampStep s) s.wd) s) := by
      refine heatLaw_iff.mpr ⟨fun z hz => ?_, hramp⟩
      obtain ⟨hcut, hcap⟩ := hzone z hz
      refine ⟨hcut, fun hz0 => hcap ?_⟩
      simp_all [setDrive]
    simp only [hmoves, Bool.false_eq_true, if_false]
    (repeat' split) <;> exact hgoes.calm (by simp) (by simp) (by simp)

/-- Each zone goes through its period under the cap of the moment (R103, R104, R110). -/
theorem execHeatPeriod_heatLaw (hs : HeatLaw s) (h : execHeatPeriod s = .next t) : HeatLaw t := by
  refine whenOn_law HeatLaw h hs fun _ => ?_
  split
  · exact hs
  · rename_i c hc
    have hperiod : HeatLaw (setZones (zonesPeriod s c) { s with hc := { s.hc with frame := none } }) := by
      refine hs.zones rfl rfl fun z hz hlaw => ?_
      refine forall_mem_mapIdx hlaw (fun n z hz => ?_) z hz
      have hcap : idleCapOf s = c.idleCap := by simp [idleCapOf, hc]
      split
      · rw [hcap] at hz ⊢
        exact hz.zonePeriod _ _
      · exact hz
    dsimp only
    have hend : ∀ t, HeatLaw t → HeatLaw (touchIfMoved s.hc.zones (tripHalts c (trippedZones s.hc.zones (zonesPeriod s c)) t)) :=
      fun t ht => by
        have htrip := tripHalts_law HeatLaw haltLine_heatLaw c (trippedZones s.hc.zones (zonesPeriod s c)) ht
        exact htrip.calm (by simp) (by simp) (by simp)
    refine hend _ (hperiod.calm ?_ ?_ ?_) <;> (repeat' split) <;> simp

theorem execTensionPeriod_heatLaw (hs : HeatLaw s) (h : execTensionPeriod s = .next t) : HeatLaw t := by
  refine whenOn_law HeatLaw h hs fun _ => ?_
  have hread : HeatLaw (allAxes.foldl (readAxis s.tc.frame) { s with tc := { s.tc with frame := none } }) := by
    refine foldl_law HeatLaw _ (fun s a hs => ?_) _ hs
    exact readAxis_law HeatLaw haltLine_heatLaw (fun a r s hs => hs.calm (by simp) (by simp) (by simp))
      (fun f s hs => hs.calm (by simp) (by simp) (by simp)) _ a hs
  exact hread.calm (by simp) (by simp) (by simp)

theorem execHeaterWindow_heatLaw (hs : HeatLaw s) (h : execHeaterWindow s = .next t) : HeatLaw t := by
  refine whenOn_law HeatLaw h hs fun _ => hs.zones rfl rfl fun z hz hlaw => ?_
  refine forall_mem_mapIdx hlaw (fun n z hz => ?_) z hz
  split
  · exact hz.startWindow
  · exact hz

theorem execHeaterOnTimeEnd_heatLaw {zone : Nat} (hs : HeatLaw s) (h : execHeaterOnTimeEnd zone s = .next t) : HeatLaw t := by
  refine whenOn_law HeatLaw h hs fun _ => ?_
  split
  · refine hs.zones rfl rfl fun z hz hlaw => ?_
    rcases mem_modifyNth hz with hz | ⟨y, hy, rfl⟩
    · exact hlaw z hz
    · exact (hlaw y hy).onTimeEnd
  · exact hs

end

/-- Every command keeps the law: a zone takes heat in a band state alone, and a line that comes to stand still, or takes another cap while
it stands, has its zones capped. -/
theorem exec_heatLaw {i : Instr} {s t : State} (hs : HeatLaw s) (h : exec i s = .next t) : HeatLaw t := by
  have hfield : ∀ c, Dispatching .drive c s → HeatLaw (failField 16 s) := fun c _ =>
    hs.calm (by simp) (by simp) (by simp)
  unfold exec at h
  cases i with
  -- Resets, supplies and registers.
  | mainPowerOnReset z st =>
    cases h
    have hreset : HeatLaw (powerOn z st s) := heatLaw_iff.mpr ⟨fun z hz => (List.eq_of_mem_replicate hz) ▸ ZoneLaw.reset, fun _ => rfl⟩
    refine hreset.calm ?_ ?_ ?_ <;> simp only [raiseLost_frame, resetFrames_frame]
  | softReset =>
    refine whenOn_law HeatLaw h hs fun _ => ?_
    have hreset : HeatLaw (softReset s) := heatLaw_iff.mpr ⟨fun z hz => (List.eq_of_mem_replicate hz) ▸ ZoneLaw.reset, fun _ => rfl⟩
    refine hreset.calm ?_ ?_ ?_ <;> simp only [resetFrames_frame]
  | keepAlivePowerOnReset | mainSupplyLoss =>
    cases h
    exact hs
  | linkReset =>
    exact whenOn_law HeatLaw h hs fun _ => (linkDown_heatLaw hs).calm (by simp) (by simp) (by simp)
  | runSet | runClear | watchInterval =>
    refine whenOn_law HeatLaw h hs fun _ => ?_
    unfold controlWrite
    dsimp only
    (repeat' split) <;> exact hs.calm (by simp) (by simp) (by simp)
  | registerWrite => exact whenOn_law HeatLaw h hs fun _ => hs
  | irqEnable => exact whenOn_law HeatLaw h hs fun _ => hs.calm (by simp) (by simp) (by simp)
  | eventAck =>
    refine whenOn_law HeatLaw h hs fun _ => ?_
    unfold discardOldest
    dsimp only
    (repeat' split) <;> exact hs.calm (by simp) (by simp) (by simp)
  | bookBase =>
    refine whenOn_law HeatLaw h hs fun _ => ?_
    dsimp only
    (repeat' split) <;> exact hs.calm (by simp) (by simp) (by simp)
  | wake | watchTimerExpiry | statusPageWrite =>
    refine whenOn_law HeatLaw h hs fun _ => ?_
    (repeat' split) <;> exact hs.calm (by simp) (by simp) (by simp)
  -- The chain of cards.
  | chainReadComplete link =>
    refine whenOn_law HeatLaw h hs fun _ => onChainRead_law HeatLaw _ hs ?_ ?_ fun t ht => ?_
    · exact fun g t ht => ht
    · exact fun l t ht => ht.calm (by simp) (by simp) (by simp)
    · dsimp only
      split <;> exact ht.calm (by simp) (by simp) (by simp)
  | cardReadError link | chainReadTimeout link =>
    refine whenOn_law HeatLaw h hs fun _ => onChainRead_law HeatLaw _ hs ?_ ?_ fun t ht => ?_
    · exact fun g t ht => ht
    · exact fun l t ht => ht.calm (by simp) (by simp) (by simp)
    · dsimp only
      (repeat' split) <;> exact ht.calm (by simp) (by simp) (by simp)
  | cardReoffer =>
    refine whenOn_law HeatLaw h hs fun _ => ?_
    split
    · rename_i c _ _ _
      exact reoffer_heatLaw c hs
    · exact hs
  | heat => exact onDispatch_law HeatLaw h hs fun c _ => heatCard_heatLaw c hs
  | fabric | load | print | splice | fence =>
    exact onDispatch_law HeatLaw h hs fun c _ => hs.calm (by simp) (by simp) (by simp)
  | drop => exact onDispatch_law HeatLaw h hs fun c _ => hs.calm (by simp) (by simp) (by simp)
  | patch =>
    refine onDispatch_law HeatLaw h hs fun c _ => ?_
    split <;> exact hs.calm (by simp) (by simp) (by simp)
  | setup => exact onDispatch_law HeatLaw h hs fun c _ => setupCard_heatLaw c hs
  | start => exact onDrive_law HeatLaw h hs hfield fun c _ => startCard_heatLaw c hs
  | speed => exact onDrive_law HeatLaw h hs hfield fun c _ => speedCard_heatLaw c hs
  | stop => exact onDrive_law HeatLaw h hs hfield fun c _ => stopCard_heatLaw c hs
  | clear => exact onDrive_law HeatLaw h hs hfield fun c _ => clearCard_heatLaw c hs
  | halt =>
    exact onDrive_law HeatLaw h hs hfield fun c _ =>
      (haltLine_heatLaw .host s hs).calm (by simp) (by simp) (by simp)
  -- The web and the line.
  | positionUpdate => exact whenOn_law HeatLaw h hs fun _ => hs.calm (by simp) (by simp) (by simp)
  | backTravel => exact whenOn_law HeatLaw h hs fun _ => hs
  | heaterWindow => exact execHeaterWindow_heatLaw hs h
  | heaterOnTimeEnd => exact execHeaterOnTimeEnd_heatLaw hs h
  | drumEncoderReport => exact whenOn_law HeatLaw h hs fun _ => hs.drive rfl (heatLaw_iff.mp hs).2
  | tensionFrame | zoneFrame | rawLevelChange =>
    refine whenOn_law HeatLaw h hs fun _ => ?_
    split <;> exact hs
  | jointLeavesWrap | fabricJointDue | rollCountRequest | drumTravelIncrement =>
    refine whenOn_law HeatLaw h hs fun _ => ?_
    split <;> exact hs.calm (by simp) (by simp) (by simp)
  | leadAtNip | trailAtNip | leadExit | trailExit =>
    refine whenOn_law HeatLaw h hs fun _ => ?_
    split
    · exact hs
    · exact hs.calm (by simp) (by simp) (by simp)
  | handoverLimit =>
    refine whenOn_law HeatLaw h hs fun _ => ?_
    split
    · exact haltLine_heatLaw .handover _ (hs.calm (by simp) (by simp) (by simp))
    · exact hs
  | spliceTimeout =>
    refine whenOn_law HeatLaw h hs fun _ => ?_
    dsimp only
    (repeat' split) <;> exact hs.calm (by simp) (by simp) (by simp)
  | inputFilterExpiry input =>
    refine whenOn_law HeatLaw h hs fun _ => ?_
    dsimp only
    (repeat' split)
    · exact hs
    · exact hs
    · exact HeatLaw.edge input _ hs
  | rampPeriod => exact execRampPeriod_heatLaw hs h
  | heatPeriod => exact execHeatPeriod_heatLaw hs h
  | tensionPeriod => exact execTensionPeriod_heatLaw hs h
  -- The Print Engine, the Profile Store and the Shadow Patch Buffer.
  | printStart | barReport | barSilent | freeing | lookup | rasterReadComplete | editApply | loaderWriteComplete
  | drainWriteComplete =>
    refine whenOn_law HeatLaw h hs fun _ => ?_
    (repeat' split) <;> exact hs.calm (by simp) (by simp) (by simp)
  | lineComputationBegin =>
    refine whenOn_law HeatLaw h hs fun _ => ?_
    dsimp only
    split
    · exact hs
    · exact hs.calm rfl rfl rfl
  | lineBoundary | lineDue =>
    refine whenOn_law HeatLaw h hs fun _ => ?_
    dsimp only
    (repeat' split) <;> exact hs.calm (by simp) (by simp) (by simp)
  | lookupFillComplete damage =>
    refine whenOn_law HeatLaw h hs fun _ => ?_
    split
    · rename_i r live _
      have hread : HeatLaw (readCell r.cell damage (portDone s)).2 := hs
      have hfill := serveFill_heatLaw r live (readCell r.cell damage (portDone s)).1 hread
      dsimp only
      split <;> exact hfill.calm (by simp) (by simp) (by simp)
    · exact hs
  | creationReadComplete damage =>
    refine whenOn_law HeatLaw h hs fun _ => ?_
    split
    · rename_i id node cell k live _
      have hread : HeatLaw (readCell cell damage (portDone s)).2 := hs
      have hentry := createEntry_heatLaw id node cell k (readCell cell damage (portDone s)).1 hread
      dsimp only
      split
      · exact hentry.calm (by simp) (by simp) (by simp)
      · exact hread.calm (by simp) (by simp) (by simp)
    · exact hs
  | rasterReadError | rasterReadTimeout | loadReadError | loadReadTimeout | patchReadError | editListReadTimeout =>
    exact whenOn_law HeatLaw h hs fun _ => hs.calm (by simp) (by simp) (by simp)
  | loadReadComplete =>
    exact whenOn_law HeatLaw h hs fun _ => onLoadRead_law HeatLaw hs (fun _ => hs) fun j _ _ =>
      hs.calm (by simp) (by simp) (by simp)
  | editListReadComplete =>
    refine whenOn_law HeatLaw h hs fun _ => onListRead_law HeatLaw hs (fun _ => hs) fun p _ _ => ?_
    dsimp only
    (repeat' split) <;> exact hs.calm (by simp) (by simp) (by simp)

/-- Settles O59: every command keeps the law, and neither an idle millisecond nor the queue of commands reaches it. -/
theorem stepsKeepTheHeatLaw : Obligations.StepsKeepTheHeatLaw := by
  unfold Obligations.StepsKeepTheHeatLaw
  exact fun s t hs h => step_law HeatLaw (fun _ _ h => h) (fun _ _ h => h) (fun _ _ _ => exec_heatLaw) hs h

end Sys2Proof.Machine
end

section
/-! PROOFS. The step and its commands: what a step runs, that every command answers, what the resets leave, and the frame of the queue and
the clock. -/

namespace Sys2Proof.Machine

/-! ## The queue and the clock -/

/-- The queue of commands and the clock are as given. -/
def Waits (p : List Instr) (n : Nat) (s : State) : Prop := s.pending = p ∧ s.clock = n

section
variable {p : List Instr} {n : Nat} {s t : State}

theorem Waits.calm (hs : Waits p n s) (hp : t.pending = s.pending) (hc : t.clock = s.clock) : Waits p n t :=
  ⟨hp.trans hs.1, hc.trans hs.2⟩

/-- No command reaches the queue or the clock. -/
theorem exec_waits {i : Instr} (hs : Waits p n s) (h : exec i s = .next t) : Waits p n t := by
  unfold exec at h
  cases i with
  -- Resets, supplies and registers.
  | mainPowerOnReset z st =>
    cases h
    refine hs.calm ?_ ?_ <;> simp only [raiseLost_frame, resetFrames_frame] <;> rfl
  | softReset => refine whenOn_law (Waits p n) h hs fun _ => hs.calm ?_ ?_ <;> simp only [resetFrames_frame] <;> rfl
  | keepAlivePowerOnReset | mainSupplyLoss =>
    cases h
    exact hs
  | linkReset => exact whenOn_law (Waits p n) h hs fun _ => hs.calm (by simp) (by simp)
  | runSet | runClear | watchInterval =>
    refine whenOn_law (Waits p n) h hs fun _ => ?_
    unfold controlWrite
    dsimp only
    (repeat' split) <;> exact hs.calm (by simp) (by simp)
  | registerWrite => exact whenOn_law (Waits p n) h hs fun _ => hs
  | irqEnable => exact whenOn_law (Waits p n) h hs fun _ => hs.calm (by simp) (by simp)
  | eventAck =>
    refine whenOn_law (Waits p n) h hs fun _ => ?_
    unfold discardOldest
    dsimp only
    (repeat' split) <;> exact hs.calm (by simp) (by simp)
  | bookBase =>
    refine whenOn_law (Waits p n) h hs fun _ => ?_
    dsimp only
    (repeat' split) <;> exact hs.calm (by simp) (by simp)
  | wake | watchTimerExpiry | statusPageWrite =>
    refine whenOn_law (Waits p n) h hs fun _ => ?_
    (repeat' split) <;> exact hs.calm (by simp) (by simp)
  -- The chain of cards.
  | chainReadComplete link =>
    refine whenOn_law (Waits p n) h hs fun _ => onChainRead_law (Waits p n) _ hs ?_ ?_ fun t ht => ?_
    · exact fun g t ht => ht
    · exact fun l t ht => ht.calm (by simp) (by simp)
    · dsimp only
      split <;> exact ht.calm (by simp) (by simp)
  | cardReadError link | chainReadTimeout link =>
    refine whenOn_law (Waits p n) h hs fun _ => onChainRead_law (Waits p n) _ hs ?_ ?_ fun t ht => ?_
    · exact fun g t ht => ht
    · exact fun l t ht => ht.calm (by simp) (by simp)
    · dsimp only
      (repeat' split) <;> exact ht.calm (by simp) (by simp)
  | cardReoffer =>
    refine whenOn_law (Waits p n) h hs fun _ => ?_
    split <;> exact hs.calm (by simp) (by simp)
  | setup | heat | fabric | drop | load | print | splice | fence =>
    exact onDispatch_law (Waits p n) h hs fun c _ => hs.calm (by simp) (by simp)
  | patch =>
    refine onDispatch_law (Waits p n) h hs fun c _ => ?_
    split <;> exact hs.calm (by simp) (by simp)
  | start | speed | stop | halt | clear =>
    exact onDrive_law (Waits p n) h hs (fun c _ => hs.calm (by simp) (by simp)) fun c _ => hs.calm (by simp) (by simp)
  -- The web and the line.
  | positionUpdate => exact whenOn_law (Waits p n) h hs fun _ => hs.calm (by simp) (by simp)
  | backTravel | heaterWindow | drumEncoderReport => exact whenOn_law (Waits p n) h hs fun _ => hs
  | tensionFrame | zoneFrame | heaterOnTimeEnd | rawLevelChange =>
    refine whenOn_law (Waits p n) h hs fun _ => ?_
    split <;> exact hs
  | leadAtNip | trailAtNip | leadExit | trailExit | jointLeavesWrap | fabricJointDue | rollCountRequest | drumTravelIncrement
  | handoverLimit =>
    refine whenOn_law (Waits p n) h hs fun _ => ?_
    split <;> exact hs.calm (by simp) (by simp)
  | spliceTimeout | inputFilterExpiry | rampPeriod =>
    refine whenOn_law (Waits p n) h hs fun _ => ?_
    dsimp only
    (repeat' split) <;> exact hs.calm (by simp) (by simp)
  | heatPeriod =>
    refine whenOn_law (Waits p n) h hs fun _ => ?_
    dsimp only
    (repeat' split) <;> exact hs.calm (by simp) (by simp)
  | tensionPeriod =>
    refine whenOn_law (Waits p n) h hs fun _ => ?_
    have hread : Waits p n (allAxes.foldl (readAxis s.tc.frame) { s with tc := { s.tc with frame := none } }) :=
      foldl_law (Waits p n) _ (fun s a hs => hs.calm (by simp) (by simp)) _ hs
    exact hread.calm (by simp) (by simp)
  -- The Print Engine, the Profile Store and the Shadow Patch Buffer.
  | printStart | barReport | barSilent | freeing | lookup | rasterReadComplete | editApply | loaderWriteComplete
  | drainWriteComplete =>
    refine whenOn_law (Waits p n) h hs fun _ => ?_
    (repeat' split) <;> exact hs.calm (by simp) (by simp)
  | lineComputationBegin | lineBoundary | lineDue =>
    refine whenOn_law (Waits p n) h hs fun _ => ?_
    dsimp only
    (repeat' split) <;> exact hs.calm (by simp) (by simp)
  | lookupFillComplete | creationReadComplete =>
    refine whenOn_law (Waits p n) h hs fun _ => ?_
    dsimp only
    (repeat' split) <;> exact hs.calm (by simp) (by simp)
  | rasterReadError | rasterReadTimeout | loadReadError | loadReadTimeout | patchReadError | editListReadTimeout =>
    exact whenOn_law (Waits p n) h hs fun _ => hs.calm (by simp) (by simp)
  | loadReadComplete =>
    exact whenOn_law (Waits p n) h hs fun _ => onLoadRead_law (Waits p n) hs (fun _ => hs) fun j _ _ =>
      hs.calm (by simp) (by simp)
  | editListReadComplete =>
    refine whenOn_law (Waits p n) h hs fun _ => onListRead_law (Waits p n) hs (fun _ => hs) fun p _ _ => ?_
    dsimp only
    (repeat' split) <;> exact hs.calm (by simp) (by simp)

end

/-- Every command answers a next state: it acts, or leaves the state as it is. -/
theorem exec_answers (i : Instr) (s : State) : ∃ t, exec i s = .next t := by
  unfold exec
  cases i <;> exact ⟨_, rfl⟩

/-- Settles O3: every command is of the form that answers, and none reaches the queue or the clock. -/
theorem everyCommandAnswers : Obligations.EveryCommandAnswers := by
  refine ⟨fun c s => ?_, fun s => ?_⟩
  · obtain ⟨t, ht⟩ := exec_answers c s
    exact ⟨t, ht, exec_waits ⟨rfl, rfl⟩ ht⟩
  · unfold step
    split
    · exact ⟨_, rfl⟩
    · exact exec_answers _ _

/-- Settles O1: the step is defined so. -/
theorem stepRunsFrontCommand : Obligations.StepRunsFrontCommand := fun _ _ _ => rfl

/-- The command of a drive card does nothing outside the dispatch of one. -/
theorem onDrive_else {n : Nat} {s : State} {f : CurrentCard → State → State}
    (h : s.ce.state ≠ .dispatching ∨ ∀ c, s.ce.current = some c → CardKind.ofByte c.ref.kind ≠ some .drive) :
    onDrive n s f = .next s := onDispatch_else h

theorem onDispatch_off {k : CardKind} {s : State} {f : CurrentCard → State → State} (h : s.power.mainOn = false) :
    onDispatch k s f = .next s := whenOn_off h

theorem onDrive_off {n : Nat} {s : State} {f : CurrentCard → State → State} (h : s.power.mainOn = false) :
    onDrive n s f = .next s := onDispatch_off h

theorem exec_unpowered {c : Instr} {s : State} (hoff : s.power.mainOn = false) (hpower : ∀ z st, c ≠ .mainPowerOnReset z st)
    (hkeep : c ≠ .keepAlivePowerOnReset) : exec c s = .next s := by
  have hsame : { s with power := { s.power with mainOn := false } } = s := by rw [← hoff]
  unfold exec
  cases c with
  | mainPowerOnReset z st => exact absurd rfl (hpower z st)
  | keepAlivePowerOnReset => exact absurd rfl hkeep
  | mainSupplyLoss => exact congrArg _ hsame
  | setup | heat | fabric | drop | load | patch | print | splice | fence => exact onDispatch_off hoff
  | start | speed | stop | halt | clear => exact onDrive_off (n := _) hoff
  | _ => exact whenOn_off hoff

/-- Settles O2: the queue's end, the guards of the dispatch and of the main supply, and the loss of the main supply. -/
theorem whatLeavesTheStateAlone : Obligations.WhatLeavesTheStateAlone := by
  refine ⟨fun s hs => ?_, fun p hp s hcard => ?_, fun s => rfl, fun c s => exec_unpowered⟩
  · simp [step, hs]
  · simp only [List.mem_cons, List.not_mem_nil, or_false] at hp
    rcases hp with rfl | rfl | rfl | rfl | rfl | rfl | rfl | rfl | rfl | rfl | rfl | rfl | rfl | rfl
    · exact onDispatch_else hcard
    · exact onDispatch_else hcard
    · exact onDrive_else (n := 1) (f := startCard) hcard
    · exact onDrive_else (n := 2) (f := speedCard) hcard
    · exact onDrive_else (n := 3) (f := stopCard) hcard
    · exact onDrive_else (n := 4) (f := fun c s => driveDone c [] (haltLine .host s)) hcard
    · exact onDrive_else (n := 5) (f := clearCard) hcard
    · exact onDispatch_else hcard
    · exact (onDispatch_else hcard : execDrop s = .next s)
    · exact onDispatch_else hcard
    · exact (onDispatch_else hcard : execPatch s = .next s)
    · exact onDispatch_else hcard
    · exact onDispatch_else hcard
    · exact onDispatch_else hcard

/-! ## Resets -/

theorem resetFrames_halted {s t : State} (hon : s.power.mainOn = true) (h : s.wd.state = .halted) : resetFrames s t = t := by
  simp [resetFrames, hon, h]

/-- The two drive link frames of a reset that is a halt, with a reference of 0 and every axis at torque 0 (R122, R123, R134). -/
theorem resetFrames_ports {s t : State} (hwd : t.wd.running = 0) (htc : t.tc.axes = List.replicate 4 resetAxis)
    (h : s.power.mainOn = false ∨ s.wd.state ≠ .halted) :
    (resetFrames s t).ports = .driveFrame 0 [0, 0, 0, 0] :: .driveFrame 0 [0, 0, 0, 0] :: t.ports := by
  have hsends : (s.power.mainOn && s.wd.state == .halted) = false := by
    rcases h with h | h <;> simp [h]
  simp [resetFrames, hsends, sendFrame, hwd, htc, emit, resetAxis]

/-- The line window of an empty map without settings goes by the last SETUP (R95). -/
theorem lineWindow_reset {s t : State} (hsegs : t.tmap.segs = []) (hset : t.setup = none) (hmax : t.lastVMax = windowTop s) :
    lineWindow t = (10, match s.setup with | some g => g.vMax | none => s.lastVMax.getD 0) := by
  rw [lineWindow, windowTop, hsegs, hset, hmax, windowTop]
  cases s.setup <;> rfl

/-- Frames at the drive link write nothing into host memory. -/
theorem resetFrames_hostByte (s t : State) (a : Nat) : hostByte (resetFrames s t) a = hostByte t a := by
  unfold resetFrames
  split
  · rfl
  · exact (writtenByte_skip a (by simp)).trans (writtenByte_skip a (by simp))

/-- KA_LOST is raised without the interrupt while no event is enabled (R154, R173). -/
theorem raiseLost_su {s : State} : (raiseLost s).su = { s.su with
    events := s.su.events ||| (if s.ka.lost then Event.kaLost.mask else 0) } ∧ (raiseLost s).ka = { s.ka with lost := false } := by
  unfold raiseLost
  cases hl : s.ka.lost with
  | true => simp
  | false =>
    have : s.ka = { s.ka with lost := false } := by rw [← hl]
    simp [← this]

theorem raiseLost_eq (s : State) : raiseLost s = { s with
    ports := (raiseLost s).ports
    ka := { s.ka with lost := false }
    su := { s.su with events := s.su.events ||| (if s.ka.lost then Event.kaLost.mask else 0) } } := by
  obtain ⟨hsu, hka⟩ := raiseLost_su (s := s)
  rw [← hsu, ← hka]
  unfold raiseLost raiseEvent signalRise
  (repeat' split) <;> rfl

theorem resetFrames_eq (s t : State) : resetFrames s t = { t with ports := (resetFrames s t).ports } := by
  unfold resetFrames
  split <;> rfl

theorem raiseLost_ports {s : State} (hirq : s.regs.irqEnable = 0) : (raiseLost s).ports = s.ports := by
  unfold raiseLost
  split
  · rw [raiseEvent_ports_eq]
    simp [irqSummary, hirq]
  · rfl


/-- Settles O4: main power-on reset builds its state anew, sends the frames of a halt, and raises KA_LOST. -/
theorem mainPowerOnResetValues : Obligations.MainPowerOnResetValues := by
  intro z st s
  have hframes := resetFrames_eq s (powerOn z st s)
  have hlost := raiseLost_eq (resetFrames s (powerOn z st s))
  have hports : (raiseLost (resetFrames s (powerOn z st s))).ports = (resetFrames s (powerOn z st s)).ports :=
    raiseLost_ports (by rw [hframes]; rfl)
  have hbyte := resetFrames_hostByte s (powerOn z st s)
  have hmoves := resetFrames_ports (s := s) (t := powerOn z st s) rfl rfl
  have hstays := resetFrames_halted (s := s) (t := powerOn z st s)
  unfold hostByte at hbyte
  rw [hports, hframes] at hlost
  generalize hp : (resetFrames s (powerOn z st s)).ports = ports at hframes hlost hbyte hmoves
  have hexec : exec (.mainPowerOnReset z st) s = .next (raiseLost { powerOn z st s with ports := ports }) := by
    rw [← hframes]
    rfl
  rw [hlost] at hexec
  refine ⟨_, hexec, ?_⟩
  refine ⟨rfl, rfl, rfl, rfl, rfl, lineWindow_reset rfl rfl rfl, ⟨rfl, rfl, rfl, rfl, rfl, rfl, rfl, rfl⟩, rfl, rfl,
    ⟨fun r hr => List.eq_of_mem_replicate hr, rfl, rfl, rfl, rfl⟩, ⟨rfl, rfl⟩, ⟨rfl, rfl, rfl, rfl⟩,
    ⟨rfl, rfl, rfl, rfl, rfl, rfl, rfl⟩, ⟨rfl, rfl, rfl⟩, rfl, ⟨rfl, rfl, rfl⟩, rfl, ⟨BitVec.zero_or, rfl, rfl, rfl, rfl, rfl⟩, rfl, rfl,
    fun a _ => hbyte a, fun hon hhalted => ?_, hmoves⟩
  rw [hstays hon hhalted] at hp
  exact hp.symm

/-- Settles O5: software reset builds its state anew but for what it keeps, and sends the frames of a halt. -/
theorem softwareResetValues : Obligations.SoftwareResetValues := by
  intro s hon
  have hframes := resetFrames_eq s (softReset s)
  have hmoves := resetFrames_ports (s := s) (t := softReset s) rfl rfl
  have hstays := resetFrames_halted (t := softReset s) hon
  generalize hp : (resetFrames s (softReset s)).ports = ports at hframes hmoves
  have hexec : exec .softReset s = .next { softReset s with ports := ports } := by
    rw [← hframes]
    exact (whenOn_on hon : execSoftReset s = _)
  refine ⟨_, hexec, ?_⟩
  refine ⟨rfl, rfl, rfl, rfl, rfl, rfl, rfl, rfl, lineWindow_reset rfl rfl rfl, ⟨rfl, rfl, rfl, rfl, rfl, rfl, rfl, rfl⟩,
    ⟨rfl, rfl, rfl, rfl, rfl, rfl, rfl, rfl, rfl⟩, ⟨rfl, rfl⟩, rfl, ⟨rfl, rfl, rfl, rfl, rfl, rfl, rfl⟩, rfl, rfl, rfl, rfl,
    ⟨rfl, rfl, rfl, rfl, rfl, fun hf => ?_, rfl⟩, ?_, rfl, fun hhalted => ?_, fun h => hmoves (.inr h)⟩
  · show (s.su.pageDue || !s.su.faults.isEmpty) = true
    simp [hf]
  · show ((0 : BitVec 32) &&& s.regs.irqEnable != 0) = false
    simp
  · rw [hstays hhalted] at hp
    exact hp.symm

/-! ## The laws at reset -/

theorem nth_replicate {α : Type} (k n : Nat) (d : α) : nth (List.replicate k d) n d = d := by
  unfold nth
  rw [List.getElem?_replicate]
  split <;> rfl

/-- At reset the whole store is free. -/
theorem covers_reset (a : Nat) : covers State.reset a = if a < 32768 then 1 else 0 := by
  show ([(⟨0, 32768⟩ : Extent)].filter (fun e => decide (e.base ≤ a ∧ a < e.base + e.len))).length +
    ((List.replicate 16 emptyRecord).filter (fun r => r.header.any fun h => decide (h.base ≤ a ∧ a < h.base + h.nodes))).length = _
  have hnone : (List.replicate 16 emptyRecord).filter (fun r => r.header.any fun h => decide (h.base ≤ a ∧ a < h.base + h.nodes)) = [] :=
    List.filter_eq_nil_iff.mpr fun r hr => by rw [List.eq_of_mem_replicate hr]; exact Bool.false_ne_true
  rw [hnone]
  by_cases h : a < 32768 <;> simp [h]

/-- Settles O55: at reset nothing is in the map, the queue, the buffer or the store's records, and the line is HALTED. -/
theorem lawsHoldAtReset : Obligations.LawsHoldAtReset := by
  have hrecord : ∀ r ∈ State.reset.ps.records, r = emptyRecord := fun r hr => List.eq_of_mem_replicate hr
  refine ⟨rfl, ?_, ?_, ?_, ?_, ?_, ?_, ?_, ?_, ?_, ?_, ?_⟩
  · exact ⟨fun _ a ha => by rw [List.eq_of_mem_replicate ha]; rfl, fun h => absurd rfl h, ⟨fun _ => Option.some_ne_none _, fun _ => rfl⟩⟩
  · exact ⟨by decide, by decide⟩
  · exact ⟨by decide, by decide, by decide, by decide, by decide, by decide, by decide⟩
  · exact SpeedLaw.of_standing rfl (.inr rfl) rfl fun r hr h hh => by cases hrecord r hr ▸ hh
  · exact heatLaw_iff.mpr ⟨fun z hz => (List.eq_of_mem_replicate hz) ▸ ZoneLaw.reset, fun _ => rfl⟩
  · exact ⟨by decide, (fun p hp => by cases hp)⟩
  · refine ⟨rfl, rfl, fun id _ _ => ?_, fun id _ _ => ?_, fun r hr _ => by rw [hrecord r hr]; rfl⟩
    · show (nth (List.replicate 16 emptyRecord) (id - 1) emptyRecord).refs = 0
      rw [nth_replicate]
      rfl
    · show (nth (List.replicate 8 (⟨none, 0⟩ : FabricRecord)) (id - 1) ⟨none, 0⟩).refs = 0
      rw [nth_replicate]
  · exact ⟨by decide, (fun q hq => by cases hq), (fun c hc => by cases hc), by decide, (fun j hj => by cases hj), (fun j hj => by cases hj),
      by decide, (fun g hg => by cases hg), (fun c hc => by cases hc)⟩
  · exact ⟨by decide, by decide, (fun e he => by cases he), ⟨[], [], rfl, (fun e he => by cases he), (fun e he => by cases he)⟩,
      (fun _ e he => by cases he)⟩
  · refine ⟨(fun p hp => by cases hp), ?_, (fun id node cell k h => by cases h)⟩
    rintro id cell ⟨node, k, h | h⟩ <;> cases h
  · exact ⟨⟨by decide, trivial⟩, covers_reset, fun r hr _ => by rw [hrecord r hr]; rfl, fun r hr h hh => by cases hrecord r hr ▸ hh⟩

end Sys2Proof.Machine
end

section
/-! PROOFS. The register window, events and the interrupt (R157, R159, R162, R172 to R174). -/

namespace Sys2Proof.Machine

section
variable (s : State)

/-! ## CONTROL -/

/-- A CONTROL write reaches the registers, the Card Engine and, with a chain read, the ports. -/
theorem controlWrite_frame (run : Bool) (iv : BitVec 8) :
    (controlWrite run iv s).regs = { s.regs with run := run, interval := iv } ∧ (controlWrite run iv s).power = s.power ∧
      (controlWrite run iv s).ka = s.ka ∧ (controlWrite run iv s).setup = s.setup ∧ (controlWrite run iv s).lastVMax = s.lastVMax ∧
      (controlWrite run iv s).su = s.su ∧ SameStore s (controlWrite run iv s) ∧ SamePrint s (controlWrite run iv s) ∧
      SameLine s (controlWrite run iv s) := by
  unfold controlWrite
  dsimp only
  (repeat' split) <;> simp [SameStore, SamePrint, SameLine]

variable {s} {run : Bool} {iv : BitVec 8}

theorem controlWrite_starts (hst : s.ce.state = .stopped) (hrun : run = true) (hbase : s.regs.bookBase ≠ 0) :
    (controlWrite run iv s).ce = { s.ce with state := .reading, watchOn := false } ∧
      (controlWrite run iv s).ports = .hostRead (linkAddress s) 8 :: s.ports := by
  have hread : (run && s.regs.bookBase != 0) = true := by simpa [hrun] using hbase
  unfold controlWrite
  simp only [hst, hread, if_true]
  exact ⟨rfl, rfl⟩

theorem controlWrite_stops (hst : s.ce.state = .watching) (hrun : run = false) :
    (controlWrite run iv s).ce = { s.ce with state := .stopped, watchOn := false } ∧ (controlWrite run iv s).ports = s.ports := by
  simp [controlWrite, hst, hrun]

theorem controlWrite_watches (hst : s.ce.state = .watching) (hrun : run = true) :
    (controlWrite run iv s).ce = { s.ce with watchOn := if iv = s.regs.interval then s.ce.watchOn else iv != 0 } ∧
      (controlWrite run iv s).ports = s.ports := by
  subst hrun
  by_cases hiv : iv = s.regs.interval <;> simp [controlWrite, hst, hiv]
  rw [← hst]

theorem controlWrite_stays (hst : s.ce.state = .stopped) (h : run = false ∨ s.regs.bookBase = 0) :
    (controlWrite run iv s).ce = s.ce ∧ (controlWrite run iv s).ports = s.ports := by
  rcases h with h | h <;> simp [controlWrite, hst, h]

theorem controlWrite_busy (h : s.ce.state = .reading ∨ s.ce.state = .dispatching ∨ s.ce.state = .stalled) :
    (controlWrite run iv s).ce = s.ce ∧ (controlWrite run iv s).ports = s.ports := by
  rcases h with h | h | h <;> simp [controlWrite, h]

end

/-- Each of the three CONTROL commands is one CONTROL write. -/
theorem exec_control {i : Instr} {run : Bool} {iv : BitVec 8} {s : State} (hon : s.power.mainOn = true)
    (h : (i = .runSet iv ∧ run = true) ∨ (i = .runClear iv ∧ run = false) ∨ (i = .watchInterval iv ∧ run = s.regs.run)) :
    exec i s = .next (controlWrite run iv s) := by
  rcases h with ⟨rfl, rfl⟩ | ⟨rfl, rfl⟩ | ⟨rfl, rfl⟩
  · exact (whenOn_on hon : execRunSet iv s = _)
  · exact (whenOn_on hon : execRunClear iv s = _)
  · exact (whenOn_on hon : execWatchInterval iv s = _)

/-! ## BOOK_BASE, WAKE and the watch timer -/

/-- The low twelve bits of a line book's address are 0 (R157). -/
theorem lowTwelve_cleared (v : BitVec 64) : v &&& ~~~(0xFFF#64) = (v >>> 12) <<< 12 := by
  ext n hn
  have hmask : (0xFFF#64).getLsbD n = decide (n < 12) := by
    have : (0xFFF#64) = BitVec.ofNat 64 (2 ^ 12 - 1) := rfl
    rw [this, BitVec.getLsbD_ofNat, Nat.testBit_two_pow_sub_one]
    simp [hn]
  rw [BitVec.getElem_and, BitVec.getElem_not, BitVec.getElem_shiftLeft, ← BitVec.getLsbD_eq_getElem (x := 0xFFF#64), hmask]
  by_cases h : n < 12
  · simp [h]
  · simp [h, show 12 + (n - 12) = n by omega, BitVec.getLsbD_eq_getElem hn]

theorem exec_bookBase {v : BitVec 64} {s : State} (hon : s.power.mainOn = true) : ∃ t, exec (.bookBase v) s = .next t ∧
    (s.ce.state ≠ .stopped → t = s) ∧
    (s.ce.state = .stopped → t.regs = { s.regs with bookBase := (v >>> 12) <<< 12 } ∧
      (s.regs.run = true → (v >>> 12) <<< 12 ≠ 0 → t.ce = { s.ce with state := .reading, watchOn := false } ∧
        t.ports = .hostRead (s.ce.heldTail.getD ((v >>> 12) <<< 12).toNat) 8 :: s.ports) ∧
      (s.regs.run = false ∨ (v >>> 12) <<< 12 = 0 → t.ce = s.ce ∧ t.ports = s.ports) ∧
      t.power = s.power ∧ t.ka = s.ka ∧ t.setup = s.setup ∧ t.lastVMax = s.lastVMax ∧ t.su = s.su ∧ SameStore s t ∧
      SamePrint s t ∧ SameLine s t) := by
  refine ⟨_, (whenOn_on hon : execBookBase v s = _), fun hst => ?_, fun hst => ?_⟩
  · simp [hst]
  simp only [hst, beq_self_eq_true, if_true, lowTwelve_cleared]
  generalize (v >>> 12) <<< 12 = base
  by_cases hread : s.regs.run = true ∧ base ≠ 0
  · obtain ⟨hrun, hbase⟩ := hread
    have hcond : (s.regs.run && base != 0) = true := by simpa [hrun] using hbase
    simp only [hcond, if_true]
    refine ⟨by simp, fun _ _ => ⟨rfl, ?_⟩, fun h => ?_, by simp [SameStore, SamePrint, SameLine]⟩
    · cases ht : s.ce.heldTail <;> simp [beginChainRead, linkAddress, emit, ht]
    · rcases h with h | h
      · simp [hrun] at h
      · exact absurd h hbase
  · have hcond : (s.regs.run && base != 0) = false := by
      simp only [Bool.and_eq_false_iff, bne_eq_false_iff_eq]
      by_cases hrun : s.regs.run = true
      · exact .inr (by_contra fun hb => hread ⟨hrun, hb⟩)
      · exact .inl (by simpa using hrun)
    simp only [hcond, Bool.false_eq_true, if_false]
    refine ⟨by trivial, fun hrun hbase => absurd ⟨hrun, hbase⟩ hread, by simp, by simp [SameStore, SamePrint, SameLine]⟩

theorem beginChainRead_eq (s : State) : beginChainRead s = { s with
    ce := { s.ce with state := .reading, watchOn := false }, ports := .hostRead (linkAddress s) 8 :: s.ports } := rfl

theorem exec_wake {v : BitVec 32} {s : State} (hon : s.power.mainOn = true) : ∃ t, exec (.wake v) s = .next t ∧
    (s.ce.state = .watching → t = { s with
      ce := { s.ce with state := .reading, watchOn := false }, ports := .hostRead (linkAddress s) 8 :: s.ports }) ∧
    (s.ce.state = .reading → t = { s with ce := { s.ce with recheck := true } }) ∧
    (s.ce.state = .stopped ∨ s.ce.state = .dispatching ∨ s.ce.state = .stalled → t = s) := by
  refine ⟨_, (whenOn_on hon : execWake v s = _), fun h => ?_, fun h => ?_, fun h => ?_⟩
  · simp only [h]
    rfl
  · simp only [h]
  · rcases h with h | h | h <;> simp only [h]

theorem exec_watchTimerExpiry {s : State} (hon : s.power.mainOn = true) : ∃ t, exec .watchTimerExpiry s = .next t ∧
    (s.ce.state = .watching ∧ s.ce.watchOn = true → t = { s with
      ce := { s.ce with state := .reading, watchOn := false }, ports := .hostRead (linkAddress s) 8 :: s.ports }) ∧
    (¬(s.ce.state = .watching ∧ s.ce.watchOn = true) → t = s) := by
  refine ⟨_, (whenOn_on hon : execWatchTimerExpiry s = _), fun h => ?_, fun h => ?_⟩
  · simp [h.1, h.2, beginChainRead_eq]
  · simp [h]

/-! ## Register reads -/

theorem readRegister_else {s : State} {off : Nat} (h0 : off ≠ 0) (h4 : off ≠ 4) (h8 : off ≠ 8) (h24 : off ≠ 24) :
    readRegister s off = 0 := by
  unfold readRegister
  split <;> first | contradiction | rfl

theorem getLsbD_bit (b : Bool) (k n : Nat) (hk : k < 32) :
    ((if b then 1#32 else 0) <<< k).getLsbD n = (b && decide (n = k)) := by
  cases b
  · simp
  · simp only [if_true, BitVec.getLsbD_shiftLeft, BitVec.getLsbD_one, Bool.true_and]
    by_cases h : n = k
    · simp [h, hk]
    · have : ¬(¬n < k ∧ n - k = 0) := by omega
      simp_all

/-- IDENT: the identity in bits 0 to 7, the revision in 8 to 15, and the straps in 16 and 17 (R157, chapter 12). -/
theorem readRegister_ident (s : State) (n : Nat) : (readRegister s 0).getLsbD n =
    ((48#32).getLsbD n || (decide (8 ≤ n) && Config.revision.getLsbD (n - 8)) || (s.power.zones8 && decide (n = 16)) ||
      (s.power.store64k && decide (n = 17))) := by
  have hword : (readRegister s 0) = (identValue s).setWidth 64 := rfl
  rw [hword, BitVec.getLsbD_setWidth]
  unfold identValue
  simp only [BitVec.getLsbD_or, getLsbD_bit _ _ _ (by decide : 16 < 32), getLsbD_bit _ _ _ (by decide : 17 < 32),
    BitVec.getLsbD_shiftLeft, BitVec.getLsbD_setWidth]
  by_cases hn : n < 32
  · have h64 : n < 64 := by omega
    have h40 : n - 8 < 32 := by omega
    by_cases h8 : 8 ≤ n
    · simp [hn, h64, h40, h8, Nat.not_lt.mpr h8]
    · simp [hn, h64, h8, Nat.lt_of_not_le h8]
  · have hrev : Config.revision.getLsbD (n - 8) = false := BitVec.getLsbD_of_ge _ _ (by omega)
    have hident : (48#32).getLsbD n = false := BitVec.getLsbD_of_ge _ _ (by omega)
    have h16 : n ≠ 16 := by omega
    have h17 : n ≠ 17 := by omega
    simp [hrev, hident, hn, h16, h17]

theorem identity_getLsbD {n : Nat} (hn : 8 ≤ n) : (48#32).getLsbD n = false := by
  rw [BitVec.getLsbD_ofNat, Nat.testBit_lt_two_pow (lt_of_lt_of_le (by decide) (Nat.pow_le_pow_right (by decide) hn))]
  simp

theorem readRegister_control (s : State) (n : Nat) : (readRegister s 4).getLsbD n =
    ((s.regs.run && decide (n = 0)) || (decide (8 ≤ n) && s.regs.interval.getLsbD (n - 8))) := by
  have hword : readRegister s 4 = ((if s.regs.run then 1#64 else 0) ||| (s.regs.interval.setWidth 64 <<< 8)) := rfl
  rw [hword, BitVec.getLsbD_or, BitVec.getLsbD_shiftLeft, BitVec.getLsbD_setWidth]
  have hrun : (if s.regs.run then 1#64 else 0).getLsbD n = (s.regs.run && decide (n = 0)) := by
    cases s.regs.run <;> simp [BitVec.getLsbD_one]
  rw [hrun]
  by_cases hn : n < 16
  · have h64 : n < 64 := by omega
    have h56 : n - 8 < 64 := by omega
    by_cases h8 : 8 ≤ n
    · simp [h64, h56, h8, Nat.not_lt.mpr h8]
    · simp [h8, Nat.lt_of_not_le h8]
  · have hiv : s.regs.interval.getLsbD (n - 8) = false := BitVec.getLsbD_of_ge _ _ (by omega)
    simp [hiv]

/-- Settles O8: CONTROL, BOOK_BASE, WAKE and the watch timer act by the engine's state, and each register's bits are as named. -/
theorem registerWrites : Obligations.RegisterWrites := by
  refine ⟨fun i run iv s hon hi => ?_, ⟨fun v s => exec_bookBase, fun off v s => ?_⟩, fun v s hon => ⟨exec_wake hon,
    exec_watchTimerExpiry hon⟩, fun s => ⟨⟨?_, ?_, ?_, ?_, ?_⟩, ⟨?_, ?_, ?_, ?_⟩, rfl, rfl, fun off => readRegister_else⟩⟩
  · obtain ⟨hregs, hpower, hka, hset, hmax, hsu, hstore, hprint, hline⟩ := controlWrite_frame s run iv
    exact ⟨_, exec_control hon hi, hregs, controlWrite_starts, controlWrite_stops, controlWrite_watches, controlWrite_stays,
      controlWrite_busy, hpower, hka, hset, hmax, hsu, hstore, hprint, hline⟩
  · show whenOn s id = .next s
    unfold whenOn
    split <;> rfl
  · refine BitVec.eq_of_getLsbD_eq fun n hn => ?_
    rw [BitVec.getLsbD_setWidth, readRegister_ident, BitVec.getLsbD_ofNat, BitVec.getLsbD_ofNat]
    simp [hn, show ¬8 ≤ n by omega, show n ≠ 16 by omega, show n ≠ 17 by omega, show n < 32 by omega]
  · refine BitVec.eq_of_getLsbD_eq fun n hn => ?_
    rw [BitVec.getLsbD_setWidth, BitVec.getLsbD_ushiftRight, readRegister_ident, identity_getLsbD (by omega)]
    have h16 : 8 + n ≠ 16 := by omega
    have h17 : 8 + n ≠ 17 := by omega
    simp [hn, h16, h17]
  · rw [readRegister_ident, identity_getLsbD (by decide), BitVec.getLsbD_of_ge _ _ (by decide)]
    simp
  · rw [readRegister_ident, identity_getLsbD (by decide), BitVec.getLsbD_of_ge _ _ (by decide)]
    simp
  · intro n hn
    have h16 : n ≠ 16 := by omega
    have h17 : n ≠ 17 := by omega
    rw [readRegister_ident, identity_getLsbD (by omega), BitVec.getLsbD_of_ge Config.revision _ (by omega)]
    simp [h16, h17]
  · rw [readRegister_control]
    simp
  · intro n h1 h8
    have h0 : n ≠ 0 := by omega
    rw [readRegister_control]
    simp [h0, Nat.not_le.mpr h8]
  · refine BitVec.eq_of_getLsbD_eq fun n hn => ?_
    rw [BitVec.getLsbD_setWidth, BitVec.getLsbD_ushiftRight, readRegister_control]
    simp [hn]
  · intro n hn
    have h0 : n ≠ 0 := by omega
    rw [readRegister_control, BitVec.getLsbD_of_ge _ _ (by omega)]
    simp [h0]

/-! ## Events and the interrupt -/

theorem signalRise_ports_eq (b : Bool) (s : State) : (signalRise b s).ports =
    if irqSummary (signalRise b s) = true ∧ b = false then .interrupt :: s.ports else s.ports := by
  have hirq : irqSummary (signalRise b s) = irqSummary s := by simp [irqSummary]
  rw [hirq, signalRise]
  cases irqSummary s <;> cases b <;> rfl

/-- EVENT_ACK clears the marks, and FAULT_PENDING is raised again for a fault that remains (R172, R174). -/
theorem eventAck_events (m : BitVec 32) (s : State) :
    (if m.getLsbD 2 = true then discardOldest (clearMarks m s) else clearMarks m s).su.events = (s.su.events &&& ~~~m) |||
      (if m.getLsbD 2 = true ∧ 2 ≤ s.su.faults.length then Event.faultPending.mask else 0) := by
  cases m.getLsbD 2 with
  | false => simp [clearMarks]
  | true =>
    rcases Nat.lt_or_ge s.su.faults.length 2 with hlast | hnext
    · rw [if_pos rfl, (discardOldest_last (s := clearMarks m s) hlast).1]
      simp [clearMarks, Nat.not_le.mpr hlast]
    · rw [if_pos rfl, discardOldest_next (s := clearMarks m s) hnext]
      simp [clearMarks, hnext]

/-- EVENT_ACK reaches the events, the fault queue and the page that is due. -/
theorem discardOldest_frame (s : State) :
    (discardOldest s).su.haltCause = s.su.haltCause ∧ (discardOldest s).su.inputs = s.su.inputs ∧
      (discardOldest s).su.faultSeq = s.su.faultSeq ∧ (discardOldest s).ce = s.ce ∧ SameBase s (discardOldest s) ∧
      SameStore s (discardOldest s) ∧ SamePrint s (discardOldest s) ∧ SameLine s (discardOldest s) := by
  unfold discardOldest
  dsimp only
  (repeat' split) <;> simp [SameBase, SameStore, SamePrint, SameLine]

/-- Settles O9: a raise by its definition, EVENT_ACK by the fault that remains, and IRQ_ENABLE by the rise of the summary. -/
theorem eventsAndTheInterrupt : Obligations.EventsAndTheInterrupt := by
  refine ⟨fun e s => ⟨by simp, raiseEvent_ports_eq e s⟩, fun m s hon => ?_, fun m s hon => ?_⟩
  · obtain ⟨t, ht, -, -, -, hports⟩ := eventAck_faults m hon
    have hack : t = if m.getLsbD 2 = true then discardOldest (clearMarks m s) else clearMarks m s :=
      Host.Outcome.next.inj (ht.symm.trans (eventAck_exec m hon))
    have hevents := eventAck_events m s
    rw [← hack] at hevents
    refine ⟨t, ht, hevents, ?_⟩
    obtain ⟨hcause, hinputs, hseq, hce, hbase, hstore, hprint, hline⟩ := discardOldest_frame (clearMarks m s)
    split at hack
    · subst hack
      exact ⟨hcause, hinputs, hseq, hce, hbase, hstore, hprint, hline, hports⟩
    · subst hack
      exact ⟨rfl, rfl, rfl, rfl, ⟨rfl, rfl, rfl, rfl, rfl, rfl, rfl⟩, ⟨rfl, rfl, rfl⟩, ⟨rfl, rfl⟩, ⟨rfl, rfl, rfl, rfl, rfl⟩, hports⟩
  · refine ⟨_, (whenOn_on hon : execIrqEnable m s = _), ?_⟩
    have hmarks : m &&& eventMarks = m &&& 0x1FFF := rfl
    refine ⟨by simp [hmarks], by simp, by simp, by simp, by simp, by simp, by simp, by simp [SameStore], by simp [SamePrint],
      by simp [SameLine], ?_⟩
    rw [signalRise_ports_eq]

end Sys2Proof.Machine
end

section
/-! PROOFS. The chain of cards: chain reads and the take (R160 to R163), FENCE (R168), and the offering of a stalled card (R164). -/

namespace Sys2Proof.Machine

/-! ## Chain reads -/

section
variable {s : State}

/-- A chain read that ends while the engine is READING with RUN set acts, once the card's read is recorded. -/
theorem onChainRead_acts {link : Option (BitVec 64)} {f : State → State} (hstale : s.ce.stale = 0) (hst : s.ce.state = .reading)
    (hrun : s.regs.run = true) :
    onChainRead link s f = f (match link with | some l => readNamed l.toNat s | none => s) := by
  have hread : ∀ l, (readNamed l s).regs = s.regs := fun l => by unfold readNamed; split <;> rfl
  cases link with
  | none => simp [onChainRead, hstale, hst, hrun]
  | some l => simp [onChainRead, hstale, hst, hrun]

theorem onChainRead_dropped {link : Option (BitVec 64)} {f : State → State} {n : Nat} (hstale : s.ce.stale = n + 1) :
    onChainRead link s f = { s with ce := { s.ce with stale := n } } := by
  simp [onChainRead, hstale, setEngine]

theorem onChainRead_elsewhere {link : Option (BitVec 64)} {f : State → State} (hstale : s.ce.stale = 0) (hst : s.ce.state ≠ .reading) :
    onChainRead link s f = s := by
  simp [onChainRead, hstale, hst]

theorem onChainRead_stops {link : Option (BitVec 64)} {f : State → State} (hstale : s.ce.stale = 0) (hst : s.ce.state = .reading)
    (hrun : s.regs.run = false) : onChainRead link s f =
      setEngine (fun e => { e with state := .stopped }) (match link with | some l => readNamed l.toNat s | none => s) := by
  cases link <;> simp [onChainRead, hstale, hst, hrun]

theorem goodLink_iff {n : Nat} : goodLink n = true ↔ n ≠ 0 ∧ n % 256 = 0 := by simp [goodLink]

theorem readNamed_good {n : Nat} (h : n ≠ 0 ∧ n % 256 = 0) : readNamed n s = emit (.hostRead n 128) s := by
  simp [readNamed, goodLink_iff.mpr h]

theorem readNamed_bad {n : Nat} (h : ¬(n ≠ 0 ∧ n % 256 = 0)) : readNamed n s = s := by
  have : ¬ goodLink n = true := fun hg => h (goodLink_iff.mp hg)
  simp [readNamed, this]

theorem noteLink_aligned {n : Nat} (h : n % 256 = 0) : noteLink n s = setEngine (fun e => { e with lastBadLink := none }) s := by
  simp [noteLink, h]

/-! ## The take -/

/-- A card in hand as its take leaves it, before its kind is looked at (R163). -/
def takenState (addr : Nat) (card : List Byte) (s : State) : State :=
  { s with
    ports := .hostWrite [(addr + 8, CardState.taken.code), (addr + 11, ResultCode.ok.code)] :: s.ports
    ce := { s.ce with
      state := .dispatching
      heldTail := some addr
      current := some ⟨⟨s.ce.takeSeq, addr, BitVec.ofNat 32 (leRead card 12 4), byteAt card 9⟩, (byteAt card 10).getLsbD 0, card⟩
      outstanding := s.ce.outstanding ++ [⟨s.ce.takeSeq, addr, BitVec.ofNat 32 (leRead card 12 4), byteAt card 9⟩]
      takeSeq := s.ce.takeSeq + 1 } }

theorem takeCard_known {addr : Nat} {card : List Byte} {k : CardKind} (hk : CardKind.ofByte (byteAt card 9) = some k) :
    takeCard addr card s = takenState addr card s := by
  simp [takeCard, hk, takenState, writeHeader, postWrite, emit, setEngine]

theorem takeCard_unknown {addr : Nat} {card : List Byte} (hk : CardKind.ofByte (byteAt card 9) = none) :
    takeCard addr card s = failCurrent .badKind [(128, [byteAt card 9])] (takenState addr card s) := by
  simp [takeCard, hk, takenState, writeHeader, postWrite, emit, setEngine]

theorem takenState_hostByte {addr : Nat} {card : List Byte} :
    hostByte (takenState addr card s) (addr + 8) = some 2 ∧ hostByte (takenState addr card s) (addr + 11) = some 0 ∧
      OnlyWrites s (takenState addr card s) (fun a => a = addr + 8 ∨ a = addr + 11) := by
  have hports : ∀ a, hostByte (takenState addr card s) a = hostByte (writeHeader addr .taken .ok s) a := fun a => rfl
  obtain ⟨h8, h11⟩ := hostByte_writeHeader addr .taken .ok s
  refine ⟨(hports _).trans h8, (hports _).trans h11, fun a ha => (hports a).trans ?_⟩
  exact hostByte_writeHeader_else _ _ _ _ _ (fun h => ha (.inl h)) (fun h => ha (.inr h))

/-- The part once a chain read has read the link of a card, and the card (R160). -/
def cardRead (link : Nat) (s : State) : State :=
  { s with ports := .hostRead link 128 :: s.ports, ce := { s.ce with lastBadLink := none, readFault := false } }

/-- A results area with one byte, at its start. -/
theorem area_byte (b : Byte) : area 128 ([(128, [b])].map fun f => (f.1 - 128, f.2)) = b :: List.replicate 127 0 := by
  simp [area, overlay]

/-- Settles O11: the read of the card and the marks of the link, then the take, or its failure with BAD_KIND. -/
theorem chainReadTakesAPostedCard : Obligations.ChainReadTakesAPostedCard := by
  intro link card s hon hstale hst hrun hlink halign hposted
  have hgood : link.toNat ≠ 0 ∧ link.toNat % 256 = 0 := ⟨fun h => hlink (BitVec.eq_of_toNat_eq h), halign⟩
  have hcond : (goodLink link.toNat && byteAt card 8 == CardState.posted.code) = true := by
    simp [goodLink_iff.mpr hgood, hposted, CardState.code]
  have hexec : exec (.chainReadComplete link card) s = .next (takeCard link.toNat card (cardRead link.toNat s)) := by
    show execChainReadComplete link card s = _
    rw [execChainReadComplete, whenOn_on hon, onChainRead_acts hstale hst hrun]
    simp only [readNamed_good hgood, noteLink_aligned halign, hcond, if_true]
    rfl
  refine ⟨_, hexec, ?_⟩
  cases hk : CardKind.ofByte (byteAt card 9) with
  | some k =>
    rw [takeCard_known hk]
    obtain ⟨h8, h11, honly⟩ := takenState_hostByte (addr := link.toNat) (card := card) (s := cardRead link.toNat s)
    exact ⟨rfl, rfl, rfl, rfl, ⟨rfl, rfl, rfl, rfl, rfl, rfl, rfl⟩, ⟨rfl, rfl, rfl⟩, ⟨rfl, rfl⟩, ⟨rfl, rfl, rfl, rfl, rfl⟩,
      fun _ _ => ⟨rfl, rfl, rfl, h8, h11, rfl, honly⟩, fun h => by cases h⟩
  | none =>
    rw [takeCard_unknown hk]
    obtain ⟨⟨⟨⟨h8, h11, -, -⟩, hholds, honly⟩, hce⟩, hsu, hbase, hstore, hprint, hline⟩ :=
      failCurrent_fails (fields := [(128, [byteAt card 9])]) (rc := .badKind) 
        (s := takenState link.toNat card (cardRead link.toNat s)) rfl (by simp [takenState])
    obtain ⟨-, -, htaken⟩ := takenState_hostByte (addr := link.toNat) (card := card) (s := cardRead link.toNat s)
    have hrunning : (takenState link.toNat card (cardRead link.toNat s)).regs.run = true := hrun
    refine ⟨by rw [hce]; rfl, by rw [hce]; rfl, by rw [hce]; rfl, by rw [hce]; rfl, hbase, hstore, hprint, hline,
      (fun k h => by cases h), fun _ => ⟨by rw [hce]; simp [engineAfter, hrunning], by rw [hce]; rfl, ?_, h8, h11, ?_, hsu, fun a ha => ?_⟩⟩
    · rw [hce]
      simp [engineAfter, takenState, without, cardRead]
    · rw [area_byte] at hholds
      exact hholds
    · refine (honly a ha).trans (htaken a fun h => ha ?_)
      rcases h with h | h
      · exact .inl h
      · exact .inr (.inl h)

/-! ## Chain reads that take no card -/

@[simp] theorem hostByte_offerFault (f : FaultInfo) (s : State) (a : Nat) : hostByte (offerFault f s) a = hostByte s a := by
  unfold offerFault
  dsimp only
  split
  · rw [hostByte_raiseEvent]
    rfl
  · rfl

/-- A chain read has ended as not ready, with nothing else changed in the part (R161). -/
def EndsNotReady (s t : State) : Prop :=
  (s.ce.recheck = false → t.ce.state = .watching ∧ t.ce.watchOn = (s.regs.interval != 0)) ∧
    (s.ce.recheck = true → t.ce.state = .reading ∧ t.ce.watchOn = false) ∧ t.ce.recheck = false ∧
    t.ce.readFault = s.ce.readFault ∧ t.ce.lastBadLink = s.ce.lastBadLink ∧ t.ce.heldTail = s.ce.heldTail ∧
    t.ce.current = s.ce.current ∧ t.ce.outstanding = s.ce.outstanding ∧ t.su = s.su ∧ OnlyWrites s t (fun _ => False) ∧
    SameBase s t ∧ SameStore s t ∧ SamePrint s t ∧ SameLine s t

theorem chainNotReady_ends (s : State) : EndsNotReady s (chainNotReady s) := by
  cases hre : s.ce.recheck with
  | true =>
    have ht : chainNotReady s = { s with
        ports := .hostRead (linkAddress s) 8 :: s.ports
        ce := { s.ce with recheck := false, state := .reading, watchOn := false } } := by
      simp only [chainNotReady, hre, if_true]
      rfl
    rw [ht]
    exact ⟨fun h => by simp [hre] at h, fun _ => ⟨rfl, rfl⟩, rfl, rfl, rfl, rfl, rfl, rfl, rfl, fun a _ => rfl,
      ⟨rfl, rfl, rfl, rfl, rfl, rfl, rfl⟩, ⟨rfl, rfl, rfl⟩, ⟨rfl, rfl⟩, ⟨rfl, rfl, rfl, rfl, rfl⟩⟩
  | false =>
    have ht : chainNotReady s = { s with ce := { s.ce with state := .watching, watchOn := s.regs.interval != 0 } } := by
      simp [chainNotReady, hre, setEngine]
    rw [ht]
    exact ⟨fun _ => ⟨rfl, rfl⟩, fun h => by simp [hre] at h, hre, rfl, rfl, rfl, rfl, rfl, rfl, fun a _ => rfl,
      ⟨rfl, rfl, rfl, rfl, rfl, rfl, rfl⟩, ⟨rfl, rfl, rfl⟩, ⟨rfl, rfl⟩, ⟨rfl, rfl, rfl, rfl, rfl⟩⟩

/-- A link that was read is noted in the engine, and a misaligned one that was not the last is a fault (R160). -/
theorem noteLink_su (n : Nat) (s : State) : (noteLink n s).su =
    if n % 256 = 0 ∨ s.ce.lastBadLink = some n then s.su else (offerFault (.badLink n (linkAddress s)) s).su := by
  unfold noteLink
  by_cases h : n % 256 = 0
  · simp [h]
  · by_cases hb : s.ce.lastBadLink = some n
    · simp [h, hb]
    · simp only [h, hb, if_false, or_self]
      simp [offerFault_su, setEngine]

/-- A link that was read changes the last bad link in the engine, and else the fault queue alone (R160). -/
theorem noteLink_rest (n : Nat) (s : State) :
    (noteLink n s).ce = { s.ce with lastBadLink := if n % 256 = 0 then none else some n } ∧
      OnlyWrites s (noteLink n s) (fun _ => False) ∧ SameBase s (noteLink n s) ∧ SameStore s (noteLink n s) ∧
      SamePrint s (noteLink n s) ∧ SameLine s (noteLink n s) := by
  unfold noteLink
  by_cases h : n % 256 = 0
  · simp only [h, if_true]
    exact ⟨rfl, fun a _ => rfl, ⟨rfl, rfl, rfl, rfl, rfl, rfl, rfl⟩, ⟨rfl, rfl, rfl⟩, ⟨rfl, rfl⟩, ⟨rfl, rfl, rfl, rfl, rfl⟩⟩
  · by_cases hb : s.ce.lastBadLink = some n
    · simp only [h, hb, if_true, if_false]
      refine ⟨?_, fun a _ => rfl, ⟨rfl, rfl, rfl, rfl, rfl, rfl, rfl⟩, ⟨rfl, rfl, rfl⟩, ⟨rfl, rfl⟩, ⟨rfl, rfl, rfl, rfl, rfl⟩⟩
      rw [← hb]
    · simp only [h, hb, if_false]
      refine ⟨by simp, fun a _ => (hostByte_offerFault _ _ a).trans rfl, ?_, ?_, ?_, ?_⟩ <;>
        simp [SameBase, SameStore, SamePrint, SameLine]

/-- A failed chain read sets the read-fault mark, with a fault unless the mark stands (R160). -/
theorem chainReadFault_rest (n : Nat) (s : State) :
    (chainReadFault n s).ce = { s.ce with readFault := true } ∧
      (chainReadFault n s).su = (if s.ce.readFault then s.su else (offerFault (.cardReadError n) s).su) ∧
      OnlyWrites s (chainReadFault n s) (fun _ => False) ∧ SameBase s (chainReadFault n s) ∧ SameStore s (chainReadFault n s) ∧
      SamePrint s (chainReadFault n s) ∧ SameLine s (chainReadFault n s) := by
  unfold chainReadFault
  cases h : s.ce.readFault with
  | true =>
    simp only [if_true]
    refine ⟨?_, by trivial, fun a _ => rfl, ⟨rfl, rfl, rfl, rfl, rfl, rfl, rfl⟩, ⟨rfl, rfl, rfl⟩, ⟨rfl, rfl⟩,
      ⟨rfl, rfl, rfl, rfl, rfl⟩⟩
    rw [← h]
  | false =>
    simp only [Bool.false_eq_true, if_false]
    refine ⟨by simp, by simp [offerFault_su, setEngine], fun a _ => (hostByte_offerFault _ _ a).trans rfl, ?_, ?_, ?_, ?_⟩ <;>
      simp [SameBase, SameStore, SamePrint, SameLine]

/-- The read of a card that a link names leaves the part as it was but for the request at the port. -/
theorem readNamed_eq (n : Nat) (s : State) : ∃ p, readNamed n s = { s with ports := p } ∧ writtenByte p = writtenByte s.ports := by
  unfold readNamed
  split
  · exact ⟨_, rfl, funext fun a => rfl⟩
  · exact ⟨_, rfl, rfl⟩

/-- The frames of two parts of a command put together. -/
theorem OnlyWrites.trans {s t u : State} {p : Nat → Prop} (h : OnlyWrites s t p) (h' : OnlyWrites t u p) : OnlyWrites s u p :=
  fun a ha => (h' a ha).trans (h a ha)

theorem SameBase.trans {s t u : State} (h : SameBase s t) (h' : SameBase t u) : SameBase s u := by
  obtain ⟨h1, h2, h3, h4, h5, h6, h7⟩ := h
  obtain ⟨k1, k2, k3, k4, k5, k6, k7⟩ := h'
  exact ⟨k1.trans h1, k2.trans h2, k3.trans h3, k4.trans h4, k5.trans h5, k6.trans h6, k7.trans h7⟩

theorem SameStore.trans {s t u : State} (h : SameStore s t) (h' : SameStore t u) : SameStore s u := by
  obtain ⟨h1, h2, h3⟩ := h
  obtain ⟨k1, k2, k3⟩ := h'
  exact ⟨k1.trans h1, k2.trans h2, k3.trans h3⟩

theorem SamePrint.trans {s t u : State} (h : SamePrint s t) (h' : SamePrint t u) : SamePrint s u := by
  obtain ⟨h1, h2⟩ := h
  obtain ⟨k1, k2⟩ := h'
  exact ⟨k1.trans h1, k2.trans h2⟩

theorem SameLine.trans {s t u : State} (h : SameLine s t) (h' : SameLine t u) : SameLine s u := by
  obtain ⟨h1, h2, h3, h4, h5⟩ := h
  obtain ⟨k1, k2, k3, k4, k5⟩ := h'
  exact ⟨k1.trans h1, k2.trans h2, k3.trans h3, k4.trans h4, k5.trans h5⟩

/-- A chain read that finds no POSTED card (R161, R162). -/
theorem chainReadComplete_notReady {link : BitVec 64} {card : List Byte} {s : State} (hon : s.power.mainOn = true)
    (hstale : s.ce.stale = 0) (hst : s.ce.state = .reading) (hrun : s.regs.run = true)
    (hbad : link = 0 ∨ link.toNat % 256 ≠ 0 ∨ byteAt card 8 ≠ 1) : ∃ p, writtenByte p = writtenByte s.ports ∧
      exec (.chainReadComplete link card) s =
        .next (chainNotReady (setEngine (fun e => { e with readFault := false }) (noteLink link.toNat { s with ports := p }))) := by
  obtain ⟨p, hp, hw⟩ := readNamed_eq link.toNat s
  have hcond : (goodLink link.toNat && byteAt card 8 == CardState.posted.code) = false := by
    rw [Bool.and_eq_false_iff]
    rcases hbad with h | h | h
    · exact .inl (by simp [h, goodLink])
    · exact .inl (by simp [h, goodLink])
    · exact .inr (by simpa [CardState.code] using h)
  refine ⟨p, hw, ?_⟩
  show execChainReadComplete link card s = _
  rw [execChainReadComplete, whenOn_on hon, onChainRead_acts hstale hst hrun]
  simp only [hp, hcond, Bool.false_eq_true, if_false]

/-- The address whose read failed: the link's, or that of the card which a link names (R160). -/
def failedAddress (link : Option (BitVec 64)) (s : State) : Nat :=
  match link with
  | none => linkAddress s
  | some l => l.toNat

/-- A chain read that fails at its link, or at the card that a good link names (R160). -/
theorem chainReadFails_notReady {i : Instr} {link : Option (BitVec 64)} {s : State} (hi : i = .cardReadError link ∨ i = .chainReadTimeout link)
    (hon : s.power.mainOn = true) (hstale : s.ce.stale = 0) (hst : s.ce.state = .reading) (hrun : s.regs.run = true)
    (hgood : ∀ l, link = some l → l ≠ 0 ∧ l.toNat % 256 = 0) : ∃ p, writtenByte p = writtenByte s.ports ∧
      exec i s = .next (chainNotReady (chainReadFault (failedAddress link s)
        { s with ports := p, ce := { s.ce with lastBadLink := if link = none then s.ce.lastBadLink else none } })) := by
  have hexec : exec i s = whenOn s (chainReadFails link) := by rcases hi with rfl | rfl <;> rfl
  rw [hexec, whenOn_on hon, chainReadFails, onChainRead_acts hstale hst hrun]
  cases link with
  | none => exact ⟨_, rfl, rfl⟩
  | some l =>
    obtain ⟨hne, halign⟩ := hgood l rfl
    have hl : l.toNat ≠ 0 ∧ l.toNat % 256 = 0 := ⟨fun h => hne (BitVec.eq_of_toNat_eq h), halign⟩
    refine ⟨.hostRead l.toNat 128 :: s.ports, funext fun a => rfl, ?_⟩
    simp only [readNamed_good hl, noteLink_aligned halign, goodLink_iff.mpr hl, if_true]
    rfl

/-- The end of a chain read that takes no card, after what its link or its failure noted in the engine and the fault queue. -/
theorem EndsNotReady.after {s v : State} {fault : Bool} {bad : Option Nat} {u : Status}
    (hce : v.ce = { s.ce with readFault := fault, lastBadLink := bad }) (hsu : v.su = u) (hwrites : OnlyWrites s v (fun _ => False))
    (hbase : SameBase s v) (hstore : SameStore s v) (hprint : SamePrint s v) (hline : SameLine s v) :
    EndsNotReady { s with su := u, ce := { s.ce with readFault := fault, lastBadLink := bad } } (chainNotReady v) := by
  obtain ⟨h1, h2, h3, h4, h5, h6, h7, h8, h9, h10, h11, h12, h13, h14⟩ := chainNotReady_ends v
  have hregs : v.regs = s.regs := hbase.2.2.2.2.1
  rw [hce, hregs] at h1
  rw [hce] at h2 h4 h5 h6 h7 h8
  exact ⟨h1, h2, h3, h4, h5, h6, h7, h8, h9.trans hsu, hwrites.trans h10, hbase.trans h11, hstore.trans h12, hprint.trans h13,
    hline.trans h14⟩

/-- Settles O12: a chain read that runs ends as not ready after what its link or its failure notes; one that a reset dropped, that finds
the engine elsewhere, or that ends with RUN clear does no more than named. -/
theorem chainReadsWithoutACard : Obligations.ChainReadsWithoutACard := by
  refine ⟨fun link card s hon hstale hst hrun hbad => ?_, fun i link s hi hon hstale hst hrun hgood => ?_,
    fun i card l s hi hon => ?_⟩
  · obtain ⟨p, hw, hexec⟩ := chainReadComplete_notReady hon hstale hst hrun hbad
    obtain ⟨hce, hwrites, hbase, hstore, hprint, hline⟩ := noteLink_rest link.toNat { s with ports := p }
    have hsu := noteLink_su link.toNat { s with ports := p }
    have hends := EndsNotReady.after (s := s) (v := setEngine (fun e => { e with readFault := false })
      (noteLink link.toNat { s with ports := p })) (fault := false) (congrArg (fun e => { e with readFault := false }) hce) hsu
      (fun a h => (hwrites a h).trans (congrFun hw a)) hbase hstore hprint hline
    obtain ⟨h1, h2, h3, h4, h5, h6, h7, h8, h9, h10, h11, h12, h13, h14⟩ := hends
    refine ⟨_, hexec, h1, h2, h3, h4, h5, h6, h7, h8, h9.trans ?_, h10, h11, h12, h13, h14⟩
    simp [offerFault_su, linkAddress]
  · obtain ⟨p, hw, hexec⟩ := chainReadFails_notReady hi hon hstale hst hrun hgood
    generalize (if link = none then s.ce.lastBadLink else none) = bad at hexec ⊢
    obtain ⟨hce, hsu, hwrites, hbase, hstore, hprint, hline⟩ :=
      chainReadFault_rest (failedAddress link s) { s with ports := p, ce := { s.ce with lastBadLink := bad } }
    have hends := EndsNotReady.after (s := s) hce hsu (fun a h => (hwrites a h).trans (congrFun hw a)) hbase hstore hprint hline
    obtain ⟨h1, h2, h3, h4, h5, h6, h7, h8, h9, h10, h11, h12, h13, h14⟩ := hends
    refine ⟨_, hexec, h4, h1, h2, h3, h5, h6, h7, h8, h9.trans ?_, h10, h11, h12, h13, h14⟩
    cases link <;> simp [offerFault_su, failedAddress]
  · have hexec : ∃ f, exec i s = .next (onChainRead l s f) := by
      rcases hi with ⟨link, rfl, rfl⟩ | rfl | rfl
      · exact ⟨_, (whenOn_on hon : execChainReadComplete link card s = _)⟩
      · exact ⟨_, (whenOn_on hon : execCardReadError l s = _)⟩
      · exact ⟨_, (whenOn_on hon : execChainReadTimeout l s = _)⟩
    obtain ⟨f, hf⟩ := hexec
    rw [hf]
    refine ⟨fun n hstale => by rw [onChainRead_dropped hstale], fun hstale hst hrun => ⟨fun h => ?_, fun x hx hne halign => ?_⟩,
      fun hstale hst => by rw [onChainRead_elsewhere hstale hst]⟩
    · rw [onChainRead_stops hstale hst hrun]
      rcases h with rfl | ⟨x, rfl, hx⟩
      · rfl
      · have hbad : ¬(x.toNat ≠ 0 ∧ x.toNat % 256 = 0) := fun h => by
          rcases hx with rfl | hx
          · exact h.1 rfl
          · exact hx h.2
        simp only [readNamed_bad hbad]
        rfl
    · subst hx
      have hgood : x.toNat ≠ 0 ∧ x.toNat % 256 = 0 := ⟨fun h => hne (BitVec.eq_of_toNat_eq h), halign⟩
      rw [onChainRead_stops hstale hst hrun]
      simp only [readNamed_good hgood]
      rfl

end

/-! ## FENCE -/

section
variable {c : CurrentCard} {s : State}

theorem cardsBefore_oldest (h : s.ce.outstanding.head?.map (·.take) = some c.ref.take) : cardsBefore s c.ref = 0 := by
  unfold cardsBefore
  cases hl : s.ce.outstanding with
  | nil => simp [hl] at h
  | cons r rs =>
    have hr : r.take = c.ref.take := by simpa [hl] using h
    simp [hr]

theorem cardsBefore_append {older rest : List CardRef} (h : s.ce.outstanding = older ++ c.ref :: rest)
    (hne : ∀ r ∈ older, r.take ≠ c.ref.take) : cardsBefore s c.ref = older.length := by
  unfold cardsBefore
  rw [h, List.takeWhile_append_of_pos fun r hr => by simpa using hne r hr]
  simp

end

/-- Settles O13: a FENCE counts the cards before its own. -/
theorem fenceWaitsForOlderCards : Obligations.FenceWaitsForOlderCards := by
  intro c s hd
  obtain ⟨hon, hst, hc, hk⟩ := hd
  have hns : s.ce.state ≠ .stalled := by simp [hst]
  refine ⟨fenceCard c s, onDispatch_dispatching hon hst hc hk, fun hold => ?_, fun older rest hout hne hnil => ?_⟩
  · unfold fenceCard
    rw [cardsBefore_oldest hold, if_pos rfl]
    obtain ⟨hfinal, hsu⟩ := finishCurrent_final (fields := [(128, le 4 s.ce.fenceCount)]) (st := .done) (rc := .ok) hc hns
    refine ⟨hfinal, hsu, ?_, ?_, ?_, ?_⟩ <;> simp [doneCurrent, SameBase, SameStore, SamePrint, SameLine]
  · have hcount := cardsBefore_append hout hne
    have hpos : cardsBefore s c.ref ≠ 0 := by simpa [hcount] using hnil
    have hcard : fenceCard c s = if c.noWait then failCurrent .notReady [(128, le 4 older.length)] s else stallCurrent s := by
      rw [fenceCard, if_neg hpos, waitOrFail, hc, hcount]
    rw [hcard]
    exact ⟨fun h => by rw [h]; exact stallCurrent_stalls hns, fun h => by rw [h]; exact failCurrent_fails hc hns⟩

end Sys2Proof.Machine
end

section
/-! PROOFS. The fields of a written card, and the offering of a stalled card (R164, R168). -/

namespace Sys2Proof.Machine

/-! ## Fields of an area -/

@[simp] theorem le_length (n v : Nat) : (le n v).length = n := by
  induction n generalizing v with
  | zero => rfl
  | succ n ih => simp [le, ih]

/-- A row laid into an area stands at its place and leaves the rest. -/
theorem overlay_getElem? (base bs : List Byte) (off i : Nat) (h : off + bs.length ≤ base.length) :
    (overlay base off bs)[i]? = if off ≤ i ∧ i < off + bs.length then bs[i - off]? else base[i]? := by
  have hlen : (base.take off ++ bs ++ base.drop (off + bs.length)).length = base.length := by simp; omega
  unfold overlay
  rw [List.take_of_length_le (le_of_eq hlen), List.getElem?_append, List.getElem?_append]
  simp only [List.length_append, List.length_take, Nat.min_eq_left (show off ≤ base.length by omega)]
  by_cases h1 : i < off
  · rw [if_pos (by omega), if_pos h1, if_neg (by omega), List.getElem?_take_of_lt h1]
  · by_cases h2 : i < off + bs.length
    · rw [if_pos h2, if_neg h1, if_pos ⟨by omega, h2⟩]
    · rw [if_neg h2, if_neg (by omega), List.getElem?_drop]
      congr 1
      omega

/-- A row of bytes stands in an area at an offset. -/
def Holds (l : List Byte) (off : Nat) (bs : List Byte) : Prop := ∀ i b, bs[i]? = some b → l[off + i]? = some b

/-- Two fields of an area do not overlap. -/
def FieldsApart (f g : Nat × List Byte) : Prop := f.1 + f.2.length ≤ g.1 ∨ g.1 + g.2.length ≤ f.1

theorem Holds.overlay {base : List Byte} {f g : Nat × List Byte} (h : Holds base f.1 f.2) (hg : g.1 + g.2.length ≤ base.length)
    (hapart : FieldsApart f g) : Holds (overlay base g.1 g.2) f.1 f.2 := by
  intro i b hb
  have hi : i < f.2.length := (List.getElem?_eq_some_iff.mp hb).1
  rw [overlay_getElem? _ _ _ _ hg, if_neg (by unfold FieldsApart at hapart; omega)]
  exact h i b hb

theorem Holds.overlay_self {base : List Byte} {f : Nat × List Byte} (hf : f.1 + f.2.length ≤ base.length) :
    Holds (Machine.overlay base f.1 f.2) f.1 f.2 := by
  intro i b hb
  have hi : i < f.2.length := (List.getElem?_eq_some_iff.mp hb).1
  rw [overlay_getElem? _ _ _ _ hf, if_pos (by omega), Nat.add_sub_cancel_left]
  exact hb

theorem Holds.foldl {base : List Byte} {f : Nat × List Byte} {fields : List (Nat × List Byte)} (h : Holds base f.1 f.2)
    (hfit : ∀ g ∈ fields, g.1 + g.2.length ≤ base.length) (hapart : ∀ g ∈ fields, FieldsApart f g) :
    Holds (fields.foldl (fun acc g => Machine.overlay acc g.1 g.2) base) f.1 f.2 := by
  induction fields generalizing base with
  | nil => exact h
  | cons g gs ih =>
    have hg := hfit g List.mem_cons_self
    refine ih (h.overlay hg (hapart g List.mem_cons_self)) (fun x hx => ?_) fun x hx => hapart x (List.mem_cons_of_mem _ hx)
    rw [overlay_length]
    exact hfit x (List.mem_cons_of_mem _ hx)

/-- Each field of an area whose fields fit and do not overlap stands at its offset. -/
theorem area_holds {n : Nat} {fields : List (Nat × List Byte)} {f : Nat × List Byte} (hf : f ∈ fields)
    (hfit : ∀ g ∈ fields, g.1 + g.2.length ≤ n) (hapart : fields.Pairwise FieldsApart) : Holds (area n fields) f.1 f.2 := by
  obtain ⟨pre, post, rfl⟩ := List.append_of_mem hf
  obtain ⟨-, hpost, -⟩ := List.pairwise_append.mp hapart
  have hlen : (pre.foldl (fun acc g => overlay acc g.1 g.2) (List.replicate n 0)).length = n := area_length n pre
  unfold area
  rw [List.foldl_append, List.foldl_cons]
  refine Holds.foldl (Holds.overlay_self ?_) (fun g hg => ?_) fun g hg => (List.pairwise_cons.mp hpost).1 g hg
  · rw [hlen]
    exact hfit f hf
  · rw [overlay_length, hlen]
    exact hfit g (List.mem_append.mpr (.inr (List.mem_cons_of_mem _ hg)))

/-- Each field of the results of a card that has been written final stands in host memory at its offset (R166, R178). -/
theorem WrittenFinal.field {c : CardRef} {st : CardState} {rc : ResultCode} {results : List (Nat × List Byte)} {s t : State}
    (h : WrittenFinal c st rc results s t) {f : Nat × List Byte} (hf : f ∈ results) (hlo : ∀ g ∈ results, 128 ≤ g.1)
    (hfit : ∀ g ∈ results, g.1 + g.2.length ≤ 256) (hapart : results.Pairwise FieldsApart) : HostHolds t (c.addr + f.1) f.2 := by
  obtain ⟨-, hholds, -⟩ := h
  have harea : Holds (area 128 (results.map fun f => (f.1 - 128, f.2))) (f.1 - 128) f.2 := by
    refine area_holds (f := (f.1 - 128, f.2)) (List.mem_map.mpr ⟨f, hf, rfl⟩) ?_ ?_
    · intro g hg
      obtain ⟨g', hg', rfl⟩ := List.mem_map.mp hg
      have h1 := hlo g' hg'
      have h2 := hfit g' hg'
      dsimp only
      omega
    · refine List.pairwise_map.mpr (hapart.imp_of_mem fun {a b} ha hb hab => ?_)
      have h1 := hlo a ha
      have h2 := hlo b hb
      unfold FieldsApart at hab ⊢
      dsimp only
      omega
  intro i b hb
  have := hholds _ _ (harea i b hb)
  have haddr : c.addr + 128 + (f.1 - 128 + i) = c.addr + f.1 + i := by
    have := hlo f hf
    omega
  rwa [haddr] at this

/-! ## The engine's state at the end of a dispatch -/

/-- The engine in another state. -/
def withEngine (x : EngineState) (s : State) : State := { s with ce := { s.ce with state := x } }

section
variable {s : State} {x : EngineState} {c : CurrentCard}

/-- The end of a dispatch forgets the state that the engine was in. -/
theorem endDispatch_withEngine : endDispatch (withEngine x s) = endDispatch s := by
  unfold endDispatch withEngine
  dsimp only
  split <;> rfl

theorem signalRise_withEngine (b : Bool) : signalRise b (withEngine x s) = withEngine x (signalRise b s) := by
  have hirq : irqSummary (withEngine x s) = irqSummary s := rfl
  unfold signalRise
  rw [hirq]
  split <;> rfl

theorem raiseEvent_withEngine (e : Event) : raiseEvent e (withEngine x s) = withEngine x (raiseEvent e s) := by
  have hirq : irqSummary (withEngine x s) = irqSummary s := rfl
  unfold raiseEvent
  rw [hirq, ← signalRise_withEngine]
  rfl

/-- The two writes of a card that becomes final, with its take out of the outstanding set (R166). -/
def writeFinal (r : CardRef) (fields : List (Nat × List Byte)) (st : CardState) (rc : ResultCode) (s : State) : State :=
  { s with ports := finalWrites r st rc fields ++ s.ports, ce := { s.ce with outstanding := without r s.ce.outstanding } }

/-- While the current card is no FENCE, a final write is its two writes and CARD_FINAL. -/
theorem finalWrite_eq {r : CardRef} {fields : List (Nat × List Byte)} {st : CardState} {rc : ResultCode}
    (hc : currentIs s .fence = false) : finalWrite r fields st rc s = raiseEvent .cardFinal (writeFinal r fields st rc s) := by
  have hnote : ∀ t : State, currentIs t .fence = false → noteFinal t = t := fun t ht => by
    unfold noteFinal
    rw [ht, Bool.and_false]
    rfl
  have hfinish : finalWrite r fields st rc s = raiseEvent .cardFinal (noteFinal (writeFinal r fields st rc s)) := rfl
  rw [hfinish, hnote (writeFinal r fields st rc s) hc]

theorem finalWrite_withEngine {r : CardRef} {fields : List (Nat × List Byte)} {st : CardState} {rc : ResultCode}
    (hc : currentIs s .fence = false) :
    finalWrite r fields st rc (withEngine x s) = withEngine x (finalWrite r fields st rc s) := by
  have hc' : currentIs (withEngine x s) .fence = false := hc
  have hwrite : writeFinal r fields st rc (withEngine x s) = withEngine x (writeFinal r fields st rc s) := rfl
  rw [finalWrite_eq hc, finalWrite_eq hc', hwrite, raiseEvent_withEngine]

theorem finishCurrent_withEngine {fields : List (Nat × List Byte)} {st : CardState} {rc : ResultCode} (hc : s.ce.current = some c)
    (hk : CardKind.ofByte c.ref.kind ≠ some .fence) :
    finishCurrent fields st rc (withEngine x s) = finishCurrent fields st rc s := by
  have hfence : currentIs s .fence = false := by simp [currentIs, hc, hk]
  have hc' : (withEngine x s).ce.current = some c := hc
  unfold finishCurrent
  rw [hc, hc']
  dsimp only
  rw [finalWrite_withEngine hfence, endDispatch_withEngine]

end

/-! ## A LOAD card and a PRINT card by the check that decides them -/

section
variable {s : State} {c : CurrentCard}

theorem acceptLoad_badField {off : Nat} (h : loadError c.image = some off) : acceptLoad c s = failField off s := by
  simp only [acceptLoad, h]

theorem acceptLoad_inUse (h : loadError c.image = none) (hid : (profileOf s (leRead c.image 16 1)).state ≠ .empty) :
    acceptLoad c s = failCurrent .inUse [] s := by
  have hne : ((profileOf s (leRead c.image 16 1)).state != .empty) = true := by simpa using hid
  simp only [acceptLoad, h, hne, if_true]

theorem acceptLoad_noRoom (h : loadError c.image = none) (hid : (profileOf s (leRead c.image 16 1)).state = .empty)
    (hroom : allocate (loadHeader c.image 0).nodes s.ps.free = none) : acceptLoad c s = failCurrent .noRoom [] s := by
  have hne : ((profileOf s (leRead c.image 16 1)).state != .empty) = false := by simpa using hid
  simp only [acceptLoad, h, hne, Bool.false_eq_true, if_false, hroom]

/-- The store as an accepted LOAD card leaves it: the extent taken, the record LOADING, and the first block read (R29). -/
def loadAccepted (c : CurrentCard) (base : Nat) (free : List Extent) (s : State) : State :=
  readBlock ⟨c.ref, leRead c.image 16 1, leRead c.image 32 8, 0, [], true⟩
    (setProfile (leRead c.image 16 1) (fun _ => ⟨.loading, some (loadHeader c.image base), 0, 0, 0, false⟩)
      { s with ps := { s.ps with free := free } })

theorem acceptLoad_accepts {base : Nat} {free : List Extent} (h : loadError c.image = none)
    (hid : (profileOf s (leRead c.image 16 1)).state = .empty)
    (hroom : allocate (loadHeader c.image 0).nodes s.ps.free = some (base, free)) :
    acceptLoad c s = endDispatch (loadAccepted c base free s) := by
  have hne : ((profileOf s (leRead c.image 16 1)).state != .empty) = false := by simpa using hid
  simp only [acceptLoad, h, hne, Bool.false_eq_true, if_false, hroom, loadAccepted]

theorem printCard_noSetup (h : s.setup = none) : printCard c s = failCurrent .wrongState [] s := by
  simp only [printCard, h]

variable {g : Settings}

theorem printCard_badField {off : Nat} (hg : s.setup = some g) (h : printError g.width (parsePrint c) = some off) :
    printCard c s = failField off s := by
  simp only [printCard, hg, h]

/-- The checks of a PRINT card after those of its fields: the profile's number and state, its channels, and the fabric (R60). -/
def printRefusal (s : State) (g : Settings) (q : QueuedPrint) : Option (State → State) :=
  if !within 1 q.profileId 16 then some (failField 32)
  else if stateSeen (profileOf s q.profileId) == .empty || stateSeen (profileOf s q.profileId) == .retiring then
    some (failCurrent .unknownProfile [])
  else if (profileOf s q.profileId).header.map (·.channels) != some g.bars then some (failField 32)
  else if q.fabricId != 0 && (fabricOf s q.fabricId).figures.isNone then some (failField 33)
  else none

theorem printCard_refused {f : State → State} (hg : s.setup = some g) (h : printError g.width (parsePrint c) = none)
    (hf : printRefusal s g (parsePrint c) = some f) : printCard c s = f s := by
  simp only [printCard, hg, h]
  unfold printRefusal at hf
  (repeat' split at hf) <;> simp_all

theorem printCard_joins (hg : s.setup = some g) (h : printError g.width (parsePrint c) = none)
    (hf : printRefusal s g (parsePrint c) = none) : printCard c s =
      if s.pe.queue.length ≥ 4 then waitOrFail .queueFull [] s else enqueuePrint (parsePrint c) s := by
  simp only [printCard, hg, h]
  unfold printRefusal at hf
  (repeat' split at hf) <;> simp_all

end

/-! ## What a stalled card's offer does -/

section
variable {s : State} {x : EngineState} {c : CurrentCard}

/-- A LOAD card at an IDLE loader is accepted or failed whatever state the engine is in. -/
theorem acceptLoad_withEngine (hc : s.ce.current = some c) (hk : CardKind.ofByte c.ref.kind ≠ some .fence) :
    acceptLoad c (withEngine x s) = acceptLoad c s := by
  cases h : loadError c.image with
  | some off =>
    rw [acceptLoad_badField h, acceptLoad_badField h]
    exact finishCurrent_withEngine hc hk
  | none =>
    by_cases hid : (profileOf s (leRead c.image 16 1)).state = .empty
    · have hid' : (profileOf (withEngine x s) (leRead c.image 16 1)).state = .empty := hid
      cases hroom : allocate (loadHeader c.image 0).nodes s.ps.free with
      | none =>
        rw [acceptLoad_noRoom h hid hroom, acceptLoad_noRoom h hid' hroom]
        exact finishCurrent_withEngine hc hk
      | some r =>
        rw [acceptLoad_accepts h hid hroom, acceptLoad_accepts h hid' hroom]
        exact endDispatch_withEngine (s := loadAccepted c r.1 r.2 s)
    · have hid' : (profileOf (withEngine x s) (leRead c.image 16 1)).state ≠ .empty := hid
      rw [acceptLoad_inUse h hid, acceptLoad_inUse h hid']
      exact finishCurrent_withEngine hc hk

/-- The part with a PRINT card at the tail of its queue, the references taken (R61). -/
def printQueued (q : QueuedPrint) (s : State) : State :=
  takeFabric q.fabricId (setProfile q.profileId (fun r => { r with refs := r.refs + 1 })
    { s with pe := { s.pe with queue := s.pe.queue ++ [q] } })

theorem enqueuePrint_eq (q : QueuedPrint) (s : State) : enqueuePrint q s =
    if s.pe.queue.isEmpty then touchStart (endDispatch (printQueued q s)) else endDispatch (printQueued q s) := rfl

theorem printQueued_withEngine (q : QueuedPrint) : printQueued q (withEngine x s) = withEngine x (printQueued q s) := by
  unfold printQueued takeFabric
  split <;> rfl

theorem enqueuePrint_withEngine (q : QueuedPrint) : enqueuePrint q (withEngine x s) = enqueuePrint q s := by
  rw [enqueuePrint_eq, enqueuePrint_eq, printQueued_withEngine, endDispatch_withEngine]
  rfl

/-- Each check of a PRINT card that refuses it ends its dispatch. -/
theorem printRefusal_finishes {g : Settings} {q : QueuedPrint} {f : State → State} (h : printRefusal s g q = some f) :
    ∃ fields rc, f = finishCurrent fields .failed rc := by
  unfold printRefusal at h
  (repeat' split at h) <;> simp only [Option.some.injEq, reduceCtorEq] at h <;> subst h <;> exact ⟨_, _, rfl⟩

/-- A PRINT card is queued, or failed, whatever state the engine is in while the queue has room. -/
theorem printCard_withEngine (hc : s.ce.current = some c) (hk : CardKind.ofByte c.ref.kind ≠ some .fence)
    (hroom : s.pe.queue.length < 4) : printCard c (withEngine x s) = printCard c s := by
  cases hg : s.setup with
  | none =>
    have hg' : (withEngine x s).setup = none := hg
    rw [printCard_noSetup hg, printCard_noSetup hg']
    exact finishCurrent_withEngine hc hk
  | some g =>
    have hg' : (withEngine x s).setup = some g := hg
    cases h : printError g.width (parsePrint c) with
    | some off =>
      rw [printCard_badField hg h, printCard_badField hg' h]
      exact finishCurrent_withEngine hc hk
    | none =>
      cases hf : printRefusal s g (parsePrint c) with
      | some f =>
        have hf' : printRefusal (withEngine x s) g (parsePrint c) = some f := hf
        rw [printCard_refused hg h hf, printCard_refused hg' h hf']
        obtain ⟨fields, rc, rfl⟩ := printRefusal_finishes hf
        exact finishCurrent_withEngine hc hk
      | none =>
        have hf' : printRefusal (withEngine x s) g (parsePrint c) = none := hf
        have hroom' : ¬(withEngine x s).pe.queue.length ≥ 4 := Nat.not_le.mpr hroom
        rw [printCard_joins hg h hf, printCard_joins hg' h hf', if_neg hroom', if_neg (Nat.not_le.mpr hroom)]
        exact enqueuePrint_withEngine (parsePrint c)

/-- CARD_REOFFER offers the stalled card once its event has come (R164). -/
theorem exec_cardReoffer (hon : s.power.mainOn = true) (hst : s.ce.state = .stalled) (hdue : s.ce.offerDue = true)
    (hc : s.ce.current = some c) :
    exec .cardReoffer s = .next (reoffer c { s with ce := { s.ce with offerDue := false } }) := by
  show execCardReoffer s = _
  rw [execCardReoffer, whenOn_on hon]
  split
  · rename_i c' _ _ hc'
    obtain rfl : c = c' := Option.some.inj (hc.symm.trans hc')
    rfl
  · rename_i hno
    exact absurd hc (hno c hst hdue)

theorem exec_cardReoffer_else (hon : s.power.mainOn = true)
    (h : s.ce.state ≠ .stalled ∨ s.ce.offerDue = false ∨ s.ce.current = none) : exec .cardReoffer s = .next s := by
  show execCardReoffer s = _
  rw [execCardReoffer, whenOn_on hon]
  split
  · rcases h with h | h | h <;> simp_all
  · rfl

/-- A stalled card that is dispatched as at first: its block does not look at the engine's state (R164). -/
theorem exec_cardReoffer_again {k : CardKind} {f : CurrentCard → State → State} {i : Instr} (hon : s.power.mainOn = true)
    (hst : s.ce.state = .stalled) (hdue : s.ce.offerDue = true) (hc : s.ce.current = some c) (hk : CardKind.ofByte c.ref.kind = some k)
    (hi : ∀ t, exec i t = onDispatch k t f) (hoffer : ∀ t, reoffer c t = f c t)
    (hf : f c (withEngine .dispatching { s with ce := { s.ce with offerDue := false } }) =
      f c { s with ce := { s.ce with offerDue := false } }) :
    exec .cardReoffer s = exec i { s with ce := { s.ce with state := .dispatching, offerDue := false } } := by
  have hagain : exec i { s with ce := { s.ce with state := .dispatching, offerDue := false } } =
      .next (f c (withEngine .dispatching { s with ce := { s.ce with offerDue := false } })) := by
    rw [hi]
    exact onDispatch_dispatching hon rfl hc hk
  rw [hagain, hf, exec_cardReoffer hon hst hdue hc, hoffer]

/-- A stalled FENCE card that has become the oldest is DONE with its count (R168). -/
theorem fenceCard_done (hc : s.ce.current = some c) (hold : s.ce.outstanding.head?.map (·.take) = some c.ref.take) :
    CardFinal c.ref .done .ok (fenceCard c s) ∧ HostHolds (fenceCard c s) (c.ref.addr + 128) (le 4 s.ce.fenceCount) ∧
      (fenceCard c s).ce.current = none ∧ (fenceCard c s).ce.state = if s.regs.run then .reading else .stopped := by
  have hcard : fenceCard c s = endDispatch (finalWrite c.ref [(128, le 4 s.ce.fenceCount)] .done .ok s) := by
    rw [fenceCard, cardsBefore_oldest hold, if_pos rfl, doneCurrent, finishCurrent, hc]
  have hwritten := finalWrite_written c.ref [(128, le 4 s.ce.fenceCount)] .done .ok s
  have hfield := hwritten.field (f := (128, le 4 s.ce.fenceCount)) (by simp) (by simp) (by simp [le_length]) (by simp)
  obtain ⟨⟨h8, h11, hevent, hout⟩, -, -⟩ := hwritten
  rw [hcard]
  refine ⟨⟨by simpa using h8, by simpa using h11, ?_, ?_⟩, fun i b hb => by simpa using hfield i b hb, ?_, ?_⟩
  · unfold hasEvent at hevent ⊢
    simpa using hevent
  · rw [endDispatch_ce]
    exact hout
  · rw [endDispatch_ce]
    rfl
  · rw [endDispatch_ce]
    simp [engineAfter]

/-- A FENCE card with older cards before it stays stalled. -/
theorem fenceCard_waits (hst : s.ce.state = .stalled) (hc : s.ce.current = some c) (hwait : c.noWait = false)
    (hold : s.ce.outstanding.head?.map (·.take) ≠ some c.ref.take) (hmem : c.ref.take ∈ s.ce.outstanding.map (·.take)) :
    fenceCard c s = s := by
  have hbefore : cardsBefore s c.ref ≠ 0 := by
    unfold cardsBefore
    cases hl : s.ce.outstanding with
    | nil => simp [hl] at hmem
    | cons r rs =>
      have hr : (r.take != c.ref.take) = true := by simpa [hl] using hold
      simp [hr]
  rw [fenceCard, if_neg hbefore, waitOrFail, hc]
  simp [hwait, stallCurrent, hst]

theorem reofferPatch_waits {p : PatchJob} {e : Edit} {h : ProfileHeader} (hp : s.spb.patch = some p) (hphase : p.phase = .waiting)
    (he : p.edits[p.cursor]? = some e) (hh : (profileOf s p.id).header = some h)
    (hroute : editRoute s.spb.entries (h.base + e.node) = .wait) : reofferPatch s = s := by
  simp only [reofferPatch, hp, hphase, he, hh, hroute, beq_self_eq_true, if_true]

theorem reofferPatch_goes {p : PatchJob} {e : Edit} {h : ProfileHeader} (hp : s.spb.patch = some p) (hphase : p.phase = .waiting)
    (he : p.edits[p.cursor]? = some e) (hh : (profileOf s p.id).header = some h)
    (hroute : editRoute s.spb.entries (h.base + e.node) ≠ .wait) : reofferPatch s =
      { s with spb := { s.spb with patch := some { p with phase := .applying } }, ce := { s.ce with state := .dispatching } } := by
  have hgoes : (editRoute s.spb.entries (h.base + e.node) == .wait) = false := by simpa using hroute
  simp only [reofferPatch, hp, hphase, he, hh, hgoes, Bool.false_eq_true, if_false]
  rfl

/-- Settles O14: the events by the engine that they find, and the offer by the card's kind. -/
theorem stalledCardIsOfferedAgain : Obligations.StalledCardIsOfferedAgain := by
  refine ⟨⟨fun c fields st rc s => ?_, fun k s => ⟨fun c hst hc hk => ?_, fun h => ?_⟩⟩, fun s hon => ?_⟩
  · have hce := finalWrite_engine c fields st rc s
    refine ⟨_, rfl, by rw [hce]; rfl, by rw [hce]; rfl, fun k hst hc hk => ?_, fun h => ?_⟩
    · rw [hce]
      simp [engineFinal, offeredAgain, hst, hc, hk]
    · rw [hce]
      rcases h with h | h | ⟨k, hc, hk⟩
      · simp [engineFinal, offeredAgain, h]
      · simp [engineFinal, offeredAgain, h]
      · simp [engineFinal, offeredAgain, hc, hk]
  · simp [offerTo, currentIs, hst, hc, hk]
  · rcases h with h | h | ⟨c, hc, hk⟩
    · simp [offerTo, h]
    · simp [offerTo, currentIs, h]
    · simp [offerTo, currentIs, hc, hk]
  · obtain ⟨t, ht⟩ := exec_answers .cardReoffer s
    refine ⟨t, ht, fun h => ?_, fun c hst hdue hc => ?_⟩
    · exact Host.Outcome.next.inj (ht.symm.trans (exec_cardReoffer_else hon h))
    · obtain rfl : t = reoffer c { s with ce := { s.ce with offerDue := false } } :=
        Host.Outcome.next.inj (ht.symm.trans (exec_cardReoffer hon hst hdue hc))
      refine ⟨fun hk hold => ?_, fun hk hold hwait hmem => ?_, fun hk hbusy hwait => ?_, fun hk hidle => ?_, fun hk hroom => ?_,
        fun hk p e h hp hphase he hh => ⟨fun hroute => ?_, fun hroute => ?_⟩⟩
      · simp only [reoffer, hk]
        exact fenceCard_done hc hold
      · simp only [reoffer, hk]
        exact fenceCard_waits hst hc hwait hold hmem
      · simp only [reoffer, hk, dispatchLoad, hbusy, if_true, waitOrFail, hc, hwait]
        simp [stallCurrent, hst]
      · refine exec_cardReoffer_again (k := .load) (f := dispatchLoad) hon hst hdue hc hk (fun _ => rfl) (fun t => ?_) ?_
        · simp only [reoffer, hk]
        · have hnone : s.ps.loader.isSome = false := by simp [hidle]
          simp only [dispatchLoad, withEngine, hnone, Bool.false_eq_true, if_false]
          exact acceptLoad_withEngine (s := { s with ce := { s.ce with offerDue := false } }) hc (by simp [hk])
      · refine exec_cardReoffer_again (k := .print) (f := printCard) hon hst hdue hc hk (fun _ => rfl) (fun t => ?_) ?_
        · simp only [reoffer, hk]
        · exact printCard_withEngine (s := { s with ce := { s.ce with offerDue := false } }) hc (by simp [hk]) hroom
      · simp only [reoffer, hk]
        exact reofferPatch_waits hp hphase he hh hroute
      · simp only [reoffer, hk]
        rw [reofferPatch_goes (s := { s with ce := { s.ce with offerDue := false } }) hp hphase he hh hroute]
        exact ⟨rfl, rfl⟩

end

end Sys2Proof.Machine
end

section
/-! PROOFS. The heat of a zone and the loops of one period (R89 to R91, R98 to R106, R110, R133). -/

namespace Sys2Proof.Machine

/-! ## The loops of one period -/

theorem clampInt_toNat (v : Int) (hi : Nat) : (clampInt v 0 hi).toNat = (max 0 (min (hi : Int) v)).toNat := by
  unfold clampInt
  omega

theorem clampInt_eq (v : Int) (hi : Nat) : ((clampInt v 0 hi).toNat : Int) = max 0 (min (hi : Int) v) := by
  unfold clampInt
  omega

theorem computeAxis_active {t : Nat} {a : AxisRecord} (ha : a.state = .active) :
    computeAxis (.valid t) a = { a with integ := axisIntegral a, torque := axisTorque a (axisIntegral a) } := by
  simp only [computeAxis, ha]

theorem computeAxis_else {r : AxisReading} {a : AxisRecord} (h : a.state ≠ .active ∨ ∃ k, r = .invalid k) :
    computeAxis r a = a := by
  unfold computeAxis
  split
  · rename_i hst
    rcases h with h | ⟨k, h⟩
    · exact absurd hst h
    · cases h
  · rfl

/-- Settles O18: both loops are their clamped figures, and the duty's by the idle cap. -/
theorem loopsOfOnePeriod : Obligations.LoopsOfOnePeriod := by
  refine ⟨fun t a ha ht => ?_, fun r a h => computeAxis_else h, fun stopped cap z i u hi hu => ?_⟩
  · rw [computeAxis_active ha]
    have hinteg : axisIntegral a = (max 0 (min 64000 ((a.integ : Int) + a.ki * ((a.tSp : Int) - a.tMeas)))).toNat :=
      clampInt_toNat _ 64000
    have htorque : axisTorque a (axisIntegral a) = (max 0 (min 1000 ((a.kp * ((a.tSp : Int) - a.tMeas) +
        (axisIntegral a : Int)) / 64))).toNat := clampInt_toNat _ 1000
    have htle : axisTorque a (axisIntegral a) ≤ 1000 := by rw [htorque]; omega
    have hile : axisIntegral a ≤ 64000 := by rw [hinteg]; omega
    exact ⟨hinteg, htorque, htle, hile⟩
  · have hinteg : (zoneIntegral z : Int) = i := (clampInt_eq _ 16000).trans hi.symm
    have hduty : (zoneDuty z (zoneIntegral z) : Int) = u := by
      rw [hu, ← hinteg]
      exact clampInt_eq _ 1000
    refine ⟨fun hs hcap => ?_, fun h => ?_, ?_, ?_⟩
    · have hcut : (stopped && decide (cap < zoneDuty z (zoneIntegral z))) = true := by
        rw [hs, Bool.true_and, decide_eq_true_eq]
        omega
      rw [computeDuty, if_pos hcut]
      exact ⟨rfl, rfl⟩
    · have hcut : ¬(stopped && decide (cap < zoneDuty z (zoneIntegral z))) = true := by
        rw [Bool.and_eq_true, decide_eq_true_eq]
        rintro ⟨hs, hlt⟩
        rcases h with h | h
        · simp [hs] at h
        · omega
      rw [computeDuty, if_neg hcut]
      exact ⟨hduty, hinteg⟩
    · unfold computeDuty
      dsimp only
      split <;> rfl
    · unfold computeDuty
      dsimp only
      split <;> rfl

/-! ## The dose of a strip -/

theorem addDoses_getElem? {zones : List Zone} {tOnset : Nat} {l : List Nat} {n d : Nat} {z : Zone} (hd : l[n]? = some d)
    (hz : zones[n]? = some z) : (addDoses zones tOnset l)[n]? = some (min (2 ^ 32 - 1)
      (d + if z.state = .fault then 0 else (max 0 (z.tMeas - tOnset)).toNat)) := by
  have hnth : nth zones n resetZone = z := by simp [nth, hz]
  have hamount : doseAmount tOnset z = if z.state = .fault then 0 else (max 0 (z.tMeas - tOnset)).toNat := by
    unfold doseAmount
    by_cases h : z.state = .fault
    · simp [h]
    · rw [if_neg h, if_neg (by simpa using h)]
      omega
  unfold addDoses
  rw [List.getElem?_mapIdx, hd, Option.map_some, hnth, hamount]
  rfl

/-- Settles O21: a strip is counted where its lead or its trail stands in the wrap, each by its own marks. -/
theorem deliveredDoseOfAStrip : Obligations.DeliveredDoseOfAStrip := by
  intro zones g
  have hlead : leadInWrap g = true ↔ g.leadNip = true ∧ g.leadExit = false := by simp [leadInWrap]
  have htrail : trailInWrap g = true ↔ g.trailNip = true := Iff.rfl
  have hwrap : (leadInWrap g || trailInWrap g) = true ↔ ((g.leadNip = true ∧ g.leadExit = false) ∨ g.trailNip = true) := by
    rw [Bool.or_eq_true, hlead, htrail]
  refine ⟨fun h => ?_, fun h => ?_, fun n d z hnip hexit hd hz => ?_, fun n d z hnip hd hz => ?_⟩
  · rw [countDose, if_neg fun hw => h (hwrap.mp hw)]
  · rw [countDose, if_pos (hwrap.mpr h)]
    refine ⟨by simp, rfl, fun hno => ?_, fun hno => ?_⟩
    · exact if_neg fun hw => hno (hlead.mp hw)
    · exact if_neg (by simp [trailInWrap, hno])
  · have hl := hlead.mpr ⟨hnip, hexit⟩
    rw [countDose, if_pos (hwrap.mpr (.inl ⟨hnip, hexit⟩))]
    simp only [hl, if_true]
    exact addDoses_getElem? hd hz
  · rw [countDose, if_pos (hwrap.mpr (.inr hnip))]
    simp only [htrail.mpr hnip, if_true]
    exact addDoses_getElem? hd hz

/-! ## Heater windows -/

/-- Settles O23: the start of a window and the end of an on-time by each zone's record. -/
theorem heaterWindows : Obligations.HeaterWindows := by
  intro s hon
  refine ⟨⟨_, (whenOn_on hon : execHeaterWindow s = _), rfl, rfl, rfl, by simp, fun n z hz => ⟨fun hn => ?_, fun hn => ?_⟩⟩, fun k => ?_⟩
  · simp [hz, hn, startWindow]
  · simp [hz, Nat.not_lt.mpr hn]
  · refine ⟨_, (whenOn_on hon : execHeaterOnTimeEnd k s = _), ?_⟩
    by_cases hk : k < zonesInUse s
    · rw [if_pos hk]
      refine ⟨rfl, by simp [modifyNth_eq_modify], fun n z hz => ⟨fun hn _ hlt => ?_, fun h => ?_⟩⟩
      · subst hn
        simp [modifyNth_eq_modify, hz, hlt]
      · by_cases hn : k = n
        · subst hn
          have hfull : ¬ z.onTime < 1000 := by omega
          simp [modifyNth_eq_modify, hz, hfull]
        · simp [modifyNth_eq_modify, hz, hn]
    · rw [if_neg hk]
      exact ⟨rfl, rfl, fun n z hz => ⟨fun _ h => absurd h hk, fun _ => hz⟩⟩

/-! ## A zone through a heat period -/

section
variable {stopped : Bool} {cap tTrip : Nat} {z : Zone} {t : Int} {k : BadKind}

theorem badReading_fault (h : z.state = .fault) :
    badReading k z = { z with bad := min 3 (z.bad + 1), lastBad := some k, good := 0 } := by
  simp [badReading, h]

theorem badReading_faults (h : z.state ≠ .fault) (hb : 2 ≤ z.bad) :
    badReading k z = { cutZone .fault { z with bad := min 3 (z.bad + 1), lastBad := some k } with good := 0 } := by
  have hst : (z.state == .fault) = false := by simpa using h
  have hthree : min 3 (z.bad + 1) = 3 := by omega
  simp only [badReading, hst, hthree, Bool.false_eq_true, if_false, if_true]

theorem badReading_counts (h : z.state ≠ .fault) (hb : z.bad ≤ 1) :
    badReading k z = { z with bad := min 3 (z.bad + 1), lastBad := some k } := by
  have hst : (z.state == .fault) = false := by simpa using h
  have hthree : min 3 (z.bad + 1) ≠ 3 := by omega
  simp only [badReading, hst, hthree, Bool.false_eq_true, if_false]

theorem goodReading_else (h : z.state ≠ .fault) : goodReading t z = { z with tMeas := t, bad := 0 } := by
  have hst : (z.state == .fault) = false := by simpa using h
  simp only [goodReading, hst, Bool.false_eq_true, if_false]

theorem goodReading_counts (h : z.state = .fault) (hg : z.good + 1 < 10) :
    goodReading t z = { z with tMeas := t, bad := 0, good := z.good + 1 } := by
  have hmin : min 10 (z.good + 1) = z.good + 1 := by omega
  have hne : z.good + 1 ≠ 10 := by omega
  simp [goodReading, h, hmin, hne]

theorem goodReading_recovers (h : z.state = .fault) (hg : z.good + 1 = 10) :
    goodReading t z = recoverZone { z with tMeas := t, bad := 0, good := 10 } := by
  have hmin : min 10 (z.good + 1) = 10 := by omega
  simp [goodReading, h, hmin]

/-- A good reading keeps the setting and the latch of a zone, and gives it its temperature. -/
theorem goodReading_rest : (goodReading t z).tMeas = t ∧ (goodReading t z).bad = 0 ∧ (goodReading t z).sp = z.sp ∧
    (goodReading t z).band = z.band ∧ (goodReading t z).latch = z.latch := by
  unfold goodReading recoverZone enterBand
  dsimp only
  (repeat' split) <;> exact ⟨rfl, rfl, rfl, rfl, rfl⟩

theorem tripZone_rest (z : Zone) : (tripZone z).tMeas = z.tMeas ∧ (tripZone z).bad = z.bad ∧ (tripZone z).sp = z.sp ∧
    (tripZone z).band = z.band ∧ (tripZone z).latch = true := by
  unfold tripZone cutZone
  split <;> exact ⟨rfl, rfl, rfl, rfl, rfl⟩

theorem judgeBand_rest (z : Zone) (t : Int) : (judgeBand z t).tMeas = z.tMeas ∧ (judgeBand z t).bad = z.bad ∧
    (judgeBand z t).sp = z.sp ∧ (judgeBand z t).band = z.band ∧ (judgeBand z t).latch = z.latch ∧
    (judgeBand z t).good = z.good ∧ (judgeBand z t).onTime = z.onTime ∧ (judgeBand z t).duty = z.duty ∧
    (judgeBand z t).integ = z.integ ∧ (judgeBand z t).kp = z.kp ∧ (judgeBand z t).ki = z.ki := by
  unfold judgeBand
  (repeat' split) <;> exact ⟨rfl, rfl, rfl, rfl, rfl, rfl, rfl, rfl, rfl, rfl, rfl⟩

/-- A band state is judged to a band state, and no other state is judged. -/
theorem judgeBand_isBand (z : Zone) (t : Int) : (judgeBand z t).state.isBand = z.state.isBand := by
  have hbelow : ZoneState.below.isBand = true := rfl
  have habove : ZoneState.above.isBand = true := rfl
  have hsettling : ZoneState.settling.isBand = true := rfl
  have hin : ZoneState.inBand.isBand = true := rfl
  unfold judgeBand
  (repeat' split) <;> simp only [sideOf_isBand, *]

theorem judgeBand_else (h : z.state.isBand = false) : judgeBand z t = z := by
  unfold judgeBand
  split <;> simp_all [ZoneState.isBand]

/-- A trip of a zone that a good reading finds with its latch clear (R106). -/
theorem zonePeriod_trips (hl : z.latch = false) (ht : (tTrip : Int) ≤ t) :
    zonePeriod stopped cap tTrip (.good t) z = tripZone (goodReading t z) := by
  have htrip : trips tTrip t (goodReading t z) = true := by
    simp [trips, goodReading_rest, hl, ht]
  simp only [zonePeriod, htrip, if_true]

/-- A zone that does not trip is judged against its band, and its duty is computed where it is in a band state and, one that was in
FAULT, where the part computes it at recovery (R101, R103, R110). -/
theorem zonePeriod_judges (h : z.latch = true ∨ t < (tTrip : Int)) : ∃ d i : Nat,
    zonePeriod stopped cap tTrip (.good t) z = { judgeBand (goodReading t z) t with duty := d, integ := i } ∧
      ((judgeBand (goodReading t z) t).state.isBand = false → d = (goodReading t z).duty ∧ i = (goodReading t z).integ) ∧
      (z.state.isBand = true → d = (computeDuty stopped cap { z with tMeas := t }).duty ∧
        i = (computeDuty stopped cap { z with tMeas := t }).integ) := by
  have htrip : trips tTrip t (goodReading t z) = false := by
    rcases h with h | h
    · simp [trips, goodReading_rest, h]
    · simp [trips, Int.not_le.mpr h]
  obtain ⟨htm, hbad, hsp, hband, hlatch, hgood, hon, hduty, hinteg, hkp, hki⟩ := judgeBand_rest (goodReading t z) t
  simp only [zonePeriod, htrip, Bool.false_eq_true, if_false]
  by_cases hc : computesDuty z (judgeBand (goodReading t z) t) = true
  · rw [if_pos hc]
    refine ⟨(computeDuty stopped cap (judgeBand (goodReading t z) t)).duty, (computeDuty stopped cap (judgeBand (goodReading t z) t)).integ,
      ?_, fun hno => ?_, fun hb => ?_⟩
    · unfold computeDuty
      dsimp only
      split <;> rfl
    · simp [computesDuty, hno] at hc
    · have hne : z.state ≠ .fault := fun hf => by simp [hf, ZoneState.isBand] at hb
      rw [goodReading_else hne] at hsp hband hinteg hkp hki htm ⊢
      unfold computeDuty zoneDuty zoneIntegral
      rw [hsp, hinteg, hkp, hki, htm]
      dsimp only
      split <;> exact ⟨rfl, rfl⟩
  · rw [if_neg hc]
    refine ⟨(goodReading t z).duty, (goodReading t z).integ, by rw [← hduty, ← hinteg], fun _ => ⟨rfl, rfl⟩, fun hb => ?_⟩
    have hne : z.state ≠ .fault := fun hf => by simp [hf, ZoneState.isBand] at hb
    have hb' : (judgeBand (goodReading t z) t).state.isBand = true := by
      rw [judgeBand_isBand, goodReading_else hne]
      exact hb
    exact absurd (by simp [computesDuty, hb', hne]) hc

/-! ### The band states -/

theorem inBandRange_iff : inBandRange z t = true ↔ (z.sp : Int) - z.band ≤ t ∧ t ≤ z.sp + z.band := by
  simp [inBandRange]

theorem inBandRange_out (h : t < (z.sp : Int) - z.band ∨ (z.sp : Int) + z.band < t) : inBandRange z t = false := by
  rw [← Bool.not_eq_true, inBandRange_iff]
  omega

/-- The state of a zone by its temperature is that of R101. -/
theorem bandState_of (z : Zone) (t : Int) : BandOf z.sp z.band t (bandState z t) := by
  unfold bandState
  by_cases hin : inBandRange z t = true
  · rw [if_pos hin]
    rw [inBandRange_iff] at hin
    exact ⟨fun h => by omega, fun h => by omega, fun _ _ => rfl⟩
  · rw [if_neg hin]
    rw [inBandRange_iff] at hin
    refine ⟨fun h => if_pos h, fun h => if_neg (by omega), fun h1 h2 => absurd ⟨h1, h2⟩ hin⟩

theorem sideOf_below (h : t < (z.sp : Int) - z.band) : sideOf z t = .below := if_pos h

theorem sideOf_above (h : (z.sp : Int) + z.band < t) : sideOf z t = .above := if_neg (by omega)

theorem judgeBand_enters (h : z.state = .below ∨ z.state = .above) (hin : inBandRange z t = true) :
    judgeBand z t = { z with state := .settling, settle := 1 } := by
  rcases h with h | h <;> simp only [judgeBand, h, hin, if_true]

/-- A zone out of its band that is not given time there takes the side that its reading lies on. -/
theorem judgeBand_side (h : z.state = .below ∨ z.state = .above ∨ z.state = .settling ∨ (z.state = .inBand ∧ 3 ≤ z.out + 1))
    (hout : inBandRange z t = false) : (judgeBand z t).state = sideOf z t := by
  rcases h with h | h | h | ⟨h, h3⟩
  · simp only [judgeBand, h, hout, Bool.false_eq_true, if_false]
  · simp only [judgeBand, h, hout, Bool.false_eq_true, if_false]
  · simp only [judgeBand, h, hout, Bool.false_eq_true, if_false]
  · have hge : z.out + 1 ≥ 3 := h3
    simp only [judgeBand, h, hout, hge, Bool.false_eq_true, if_false, if_true]

theorem judgeBand_settles (h : z.state = .settling) (hin : inBandRange z t = true) : judgeBand z t =
    if z.settle + 1 ≥ 10 then { z with state := .inBand, settle := 10, out := 0 } else { z with settle := z.settle + 1 } := by
  simp only [judgeBand, h, hin, if_true]

theorem judgeBand_stays (h : z.state = .inBand) (hin : inBandRange z t = true) : judgeBand z t = { z with out := 0 } := by
  simp only [judgeBand, h, hin, if_true]

theorem judgeBand_out (h : z.state = .inBand) (hout : inBandRange z t = false) (h3 : z.out + 1 < 3) :
    judgeBand z t = { z with out := z.out + 1 } := by
  have hge : ¬ z.out + 1 ≥ 3 := by omega
  simp only [judgeBand, h, hout, hge, Bool.false_eq_true, if_false]

/-- A zone that has entered its band state is judged in the same period (R100, R101). -/
theorem judgeBand_enterBand (h : z.tMeas = t) : BandOf z.sp z.band t (judgeBand (enterBand z) t).state ∧
    (judgeBand (enterBand z) t).out = 0 ∧
    (judgeBand (enterBand z) t).settle = if (z.sp : Int) - z.band ≤ t ∧ t ≤ z.sp + z.band then 1 else 0 := by
  subst h
  have hrange : inBandRange (enterBand z) z.tMeas = inBandRange z z.tMeas := rfl
  by_cases hin : inBandRange z z.tMeas = true
  · have hst : (enterBand z).state = .settling := by simp [enterBand, bandState, hin]
    have hjudge := judgeBand_settles hst (hrange.trans hin)
    have hfew : ¬(enterBand z).settle + 1 ≥ 10 := by simp [enterBand]
    rw [if_neg hfew] at hjudge
    have hband := bandState_of z z.tMeas
    rw [hjudge, if_pos (inBandRange_iff.mp hin)]
    exact ⟨hband, rfl, rfl⟩
  · have hout : inBandRange (enterBand z) z.tMeas = false := by simpa [hrange] using hin
    have hst : (enterBand z).state = sideOf z z.tMeas := by simp [enterBand, bandState, hin]
    have hside : sideOf (enterBand z) z.tMeas = sideOf z z.tMeas := rfl
    have hjudge : judgeBand (enterBand z) z.tMeas = enterBand z := by
      have hcase : (enterBand z).state = .below ∨ (enterBand z).state = .above := by
        rw [hst]
        unfold sideOf
        split <;> simp
      have : judgeBand (enterBand z) z.tMeas = { enterBand z with state := sideOf (enterBand z) z.tMeas } := by
        rcases hcase with h | h <;> simp only [judgeBand, h, hout, Bool.false_eq_true, if_false]
      rw [this, hside, ← hst]
    rw [hjudge, if_neg fun h => hin (inBandRange_iff.mpr h)]
    exact ⟨bandState_of z z.tMeas, rfl, rfl⟩

theorem recoverZone_state (z : Zone) : (recoverZone z).state ≠ .fault := by
  have hband : ∀ z t, bandState z t ≠ .fault := fun z t => by
    unfold bandState sideOf
    (repeat' split) <;> simp
  unfold recoverZone
  (repeat' split)
  · simp
  · simp
  · exact hband z z.tMeas

theorem tripZone_fault (h : z.state = .fault) : tripZone z = { z with latch := true } := by
  simp [tripZone, h]

theorem tripZone_cuts (h : z.state ≠ .fault) : (tripZone z).state = .tripped ∧ ZoneCut (tripZone z) := by
  have hst : (z.state == .fault) = false := by simpa using h
  simp only [tripZone, hst, Bool.false_eq_true, if_false]
  exact ⟨rfl, rfl, rfl, rfl, rfl⟩

end

/-- Settles O19: a bad reading by its count; a good one by the trip, the recovery from FAULT, the band and the duty, in that order. -/
theorem zoneThroughAHeatPeriod : Obligations.ZoneThroughAHeatPeriod := by
  intro stopped cap tTrip z
  refine ⟨fun k => ?_, fun t => ?_⟩
  · show _ ∧ _
    have hbad : zonePeriod stopped cap tTrip (.bad k) z = badReading k z := rfl
    rw [hbad]
    by_cases hf : z.state = .fault
    · rw [badReading_fault hf]
      exact ⟨rfl, rfl, rfl, rfl, fun _ => ⟨hf, rfl⟩, fun h => absurd hf h, fun h => absurd hf h⟩
    · rcases Nat.lt_or_ge z.bad 2 with hb | hb
      · rw [badReading_counts hf (by omega)]
        exact ⟨rfl, rfl, rfl, rfl, fun h => absurd h hf, fun _ h => by omega, fun _ _ => ⟨rfl, rfl, rfl, rfl, rfl, rfl⟩⟩
      · rw [badReading_faults hf hb]
        exact ⟨rfl, rfl, rfl, rfl, fun h => absurd h hf, fun _ _ => ⟨rfl, rfl, rfl, rfl, ⟨rfl, rfl, rfl, rfl⟩⟩, fun _ h => by omega⟩
  · show _ ∧ _
    by_cases hjudged : z.latch = true ∨ t < (tTrip : Int)
    · obtain ⟨d, i, hperiod, hkeeps, hcomputes⟩ := zonePeriod_judges (stopped := stopped) (cap := cap) hjudged
      obtain ⟨htm, hbad, hsp, hband, hlatch⟩ := goodReading_rest (t := t) (z := z)
      obtain ⟨jtm, jbad, jsp, jband, jlatch, -, jon, -, -, -, -⟩ := judgeBand_rest (goodReading t z) t
      have hnolatch : ∀ {P : Prop}, z.latch = false → (tTrip : Int) ≤ t → P := fun hl ht => by
        rcases hjudged with h | h
        · rw [hl] at h
          cases h
        · omega
      rw [hperiod]
      refine ⟨jtm.trans htm, jbad.trans hbad, jsp.trans hsp, jband.trans hband, fun hl ht => hnolatch hl ht,
        fun _ => jlatch.trans hlatch, fun hf hg => ?_, fun hf hg hl => ?_, fun hf hg hl ht h0 => ?_, fun hf hg hl ht h0 => ?_,
        fun _ _ hl ht => hnolatch hl ht, fun ho _ => ?_, fun ho _ => ?_, fun hs _ h1 h2 => ?_,
        fun hs _ h1 h2 => ⟨fun h9 => ?_, fun h9 => ?_⟩,
        fun hs _ h1 h2 => ?_, fun hs _ h3 hout => ?_, fun hs _ => ⟨fun h1 => ?_, fun h1 => ?_⟩, fun hb _ => ?_⟩
      · rw [goodReading_counts hf hg, judgeBand_else (by simp [hf, ZoneState.isBand])]
        exact ⟨hf, rfl⟩
      · have hrec : goodReading t z = { z with tMeas := t, bad := 0, good := 10, state := .tripped } := by
          simp [goodReading_recovers hf hg, recoverZone, hl]
        rw [hrec, judgeBand_else rfl]
      · have hrec : goodReading t z = { z with tMeas := t, bad := 0, good := 10, state := .off } := by
          simp [goodReading_recovers hf hg, recoverZone, hl, h0]
        rw [hrec, judgeBand_else rfl]
      · have hrec : goodReading t z = enterBand { z with tMeas := t, bad := 0, good := 10 } := by
          simp [goodReading_recovers hf hg, recoverZone, hl, h0]
        rw [hrec]
        exact judgeBand_enterBand (z := { z with tMeas := t, bad := 0, good := 10 }) rfl
      · have hno : (goodReading t z).state.isBand = false := by simp [goodReading_else, ho, ZoneState.isBand]
        obtain ⟨hd, hi⟩ := hkeeps (by rw [judgeBand_isBand, hno])
        rw [judgeBand_else hno, hd, hi, goodReading_else (by simp [ho])]
        exact ⟨ho, rfl, rfl⟩
      · have hno : (goodReading t z).state.isBand = false := by simp [goodReading_else, ho, ZoneState.isBand]
        obtain ⟨hd, hi⟩ := hkeeps (by rw [judgeBand_isBand, hno])
        rw [judgeBand_else hno, hd, hi, goodReading_else (by simp [ho])]
        exact ⟨ho, rfl, rfl⟩
      · rw [goodReading_else (by rcases hs with h | h <;> simp [h]),
          judgeBand_enters (z := { z with tMeas := t, bad := 0 }) hs (inBandRange_iff.mpr ⟨h1, h2⟩)]
        exact ⟨rfl, rfl⟩
      · rw [goodReading_else (by simp [hs]),
          judgeBand_settles (z := { z with tMeas := t, bad := 0 }) hs (inBandRange_iff.mpr ⟨h1, h2⟩)]
        have hfew : ¬ z.settle + 1 ≥ 10 := by omega
        simp [hfew, hs]
      · rw [goodReading_else (by simp [hs]),
          judgeBand_settles (z := { z with tMeas := t, bad := 0 }) hs (inBandRange_iff.mpr ⟨h1, h2⟩)]
        have hmany : z.settle + 1 ≥ 10 := h9
        simp only [hmany, if_true, and_self]
      · rw [goodReading_else (by simp [hs]), judgeBand_stays (z := { z with tMeas := t, bad := 0 }) hs (inBandRange_iff.mpr ⟨h1, h2⟩)]
        exact ⟨hs, rfl⟩
      · rw [goodReading_else (by simp [hs]), judgeBand_out (z := { z with tMeas := t, bad := 0 }) hs (inBandRange_out hout) h3]
        exact ⟨hs, rfl⟩
      · rw [goodReading_else (by rcases hs with h | h | h | ⟨h, -⟩ <;> simp [h])]
        exact (judgeBand_side (z := { z with tMeas := t, bad := 0 }) hs (inBandRange_out (.inl h1))).trans (sideOf_below h1)
      · rw [goodReading_else (by rcases hs with h | h | h | ⟨h, -⟩ <;> simp [h])]
        exact (judgeBand_side (z := { z with tMeas := t, bad := 0 }) hs (inBandRange_out (.inr h1))).trans (sideOf_above h1)
      · have hne : z.state ≠ .fault := fun hf => by simp [hf, ZoneState.isBand] at hb
        refine ⟨jon.trans ?_, hcomputes hb⟩
        rw [goodReading_else hne]
    · obtain ⟨hlatch, htrip⟩ := not_or.mp hjudged
      have hl : z.latch = false := by simpa using hlatch
      have ht : (tTrip : Int) ≤ t := by omega
      obtain ⟨htm, hbad, hsp, hband, -⟩ := goodReading_rest (t := t) (z := z)
      obtain ⟨ttm, tbad, tsp, tband, tlatch⟩ := tripZone_rest (goodReading t z)
      rw [zonePeriod_trips hl ht]
      refine ⟨ttm.trans htm, tbad.trans hbad, tsp.trans hsp, tband.trans hband, fun _ _ => ⟨tlatch, fun hne => ?_⟩,
        fun h => absurd h hjudged, fun hf hg => ?_, fun _ _ h => absurd h hlatch, fun _ _ _ h => absurd h htrip,
        fun _ _ _ h => absurd h htrip, fun hf hg _ _ => ?_, fun _ h => absurd h.symm hjudged, fun _ h => absurd h hlatch,
        fun _ h => absurd h htrip, fun _ h => absurd h htrip, fun _ h => absurd h htrip, fun _ h => absurd h htrip,
        fun _ h => absurd h htrip, fun _ h => absurd h htrip⟩
      · exact tripZone_cuts (by rw [goodReading_else hne]; exact hne)
      · rw [goodReading_counts hf hg, tripZone_fault (z := { z with tMeas := t, bad := 0, good := z.good + 1 }) hf]
        exact ⟨hf, rfl⟩
      · exact tripZone_cuts (by rw [goodReading_recovers hf hg]; exact recoverZone_state _)

end Sys2Proof.Machine
end

section

/-! PROOFS. The checks of a card's fields and the first of them that fails (R165), and the SETUP and HEAT cards: what refuses them
(R2, R108, R169) and what a HEAT card that passes does to the zones (R107, R109). -/

namespace Sys2Proof.Machine

/-! ## The first check that fails -/

/-- A list of checks that the model makes decides a list of checks as a claim states them: the same offsets in the same order, each
holding exactly where its claim does. -/
def Decides (l : List (Nat × Bool)) (ps : List (Nat × Prop)) : Prop := List.Forall₂ (fun c p => c.1 = p.1 ∧ (c.2 = true ↔ p.2)) l ps

theorem firstFails_cons {o off : Nat} {p : Prop} {ps : List (Nat × Prop)} :
    FirstFails ((o, p) :: ps) off ↔ (¬ p ∧ o = off) ∨ (p ∧ FirstFails ps off) := by
  constructor
  · rintro ⟨i, ok, hi, hno, hbefore⟩
    cases i with
    | zero =>
      obtain ⟨rfl, rfl⟩ : o = off ∧ p = ok := by simpa using hi
      exact .inl ⟨hno, rfl⟩
    | succ i => exact .inr ⟨hbefore 0 i.succ_pos _ rfl, i, ok, hi, hno, fun k hk x hx => hbefore (k + 1) (by omega) x hx⟩
  · rintro (⟨hno, rfl⟩ | ⟨hp, i, ok, hi, hno, hbefore⟩)
    · exact ⟨0, p, rfl, hno, fun k hk => absurd hk k.not_lt_zero⟩
    · refine ⟨i + 1, ok, hi, hno, fun k hk x hx => ?_⟩
      cases k with
      | zero =>
        obtain rfl : (o, p) = x := by simpa using hx
        exact hp
      | succ k => exact hbefore k (by omega) x hx

theorem not_firstFails_nil (off : Nat) : ¬ FirstFails [] off := by
  rintro ⟨i, ok, hi, -⟩
  simp at hi

/-- The error that a list of checks names is the first one that fails. -/
theorem Decides.firstError {l : List (Nat × Bool)} {ps : List (Nat × Prop)} {off : Nat} (h : Decides l ps) :
    firstError l = some off ↔ FirstFails ps off := by
  induction h with
  | nil => simp [firstError_nil, not_firstFails_nil]
  | @cons c p l ps hcp _ ih =>
    obtain ⟨o, ok⟩ := c
    obtain ⟨o', q⟩ := p
    obtain ⟨rfl, hok⟩ := hcp
    rw [firstFails_cons, firstError_cons, ← ih, ← show ok = true ↔ q from hok]
    cases ok <;> simp

/-- No error is named exactly where every check holds. -/
theorem Decides.none {l : List (Nat × Bool)} {ps : List (Nat × Prop)} (h : Decides l ps) :
    Machine.firstError l = .none ↔ ∀ p ∈ ps, p.2 := by
  induction h with
  | nil => simp [firstError_nil]
  | @cons c p l ps hcp _ ih =>
    obtain ⟨o, ok⟩ := c
    obtain ⟨o', q⟩ := p
    obtain ⟨rfl, hok⟩ := hcp
    rw [firstError_cons, List.forall_mem_cons, ← ih, ← show ok = true ↔ q from hok]
    cases ok <;> simp

theorem decides_nil : Decides [] [] := List.Forall₂.nil

theorem Decides.cons {o : Nat} {ok : Bool} {p : Prop} {l : List (Nat × Bool)} {ps : List (Nat × Prop)} (h : ok = true ↔ p)
    (hl : Decides l ps) : Decides ((o, ok) :: l) ((o, p) :: ps) := List.Forall₂.cons ⟨rfl, h⟩ hl

theorem Decides.append {l l' : List (Nat × Bool)} {ps ps' : List (Nat × Prop)} (h : Decides l ps) (h' : Decides l' ps') :
    Decides (l ++ l') (ps ++ ps') := List.rel_append h h'

theorem Decides.flatMap {α : Type} {f : α → List (Nat × Bool)} {g : α → List (Nat × Prop)} (h : ∀ x, Decides (f x) (g x)) (l : List α) :
    Decides (l.flatMap f) (l.flatMap g) := by
  induction l with
  | nil => exact decides_nil
  | cons x l ih => simpa using (h x).append ih

/-! ## What refuses a SETUP and a HEAT card -/

theorem setupError_decides (p : Power) (zones : List Zone) (g : Settings) : ∃ l, setupError p zones g = firstError l ∧ Decides l
    [(16, 500 ≤ g.lUp ∧ g.lUp ≤ 30000), (18, 500 ≤ g.lPn ∧ g.lPn ≤ 30000), (20, 500 ≤ g.lW ∧ g.lW ≤ 6000),
      (22, 500 ≤ g.lFn ∧ g.lFn ≤ 30000), (24, 20 ≤ g.pitch ∧ g.pitch ≤ 500), (26, g.jointGap ≤ 2000),
      (28, 16 ≤ g.width ∧ g.width ≤ 8192), (30, 1 ≤ g.zones ∧ g.zones ≤ if p.zones8 then 8 else 4),
      (31, 4 ≤ g.bars ∧ g.bars ≤ 6), (32, 10 ≤ g.vMax ∧ g.vMax ≤ 500),
      (34, 10 ≤ g.rampRate ∧ g.rampRate ≤ 1000 ∧ g.rampRate % 10 = 0), (36, 20 ≤ g.paperTsp ∧ g.paperTsp ≤ 1000),
      (41, 1 ≤ g.spliceTimeout ∧ g.spliceTimeout ≤ 60), (42, 1 ≤ g.handoverLimit ∧ g.handoverLimit ≤ 30),
      (44, g.puRoll ≤ 100000), (48, g.fuRoll ≤ 100000),
      (52, 1200 ≤ g.tTrip ∧ g.tTrip ≤ 2450 ∧ ∀ z ∈ zones.take g.zones, z.sp = 0 ∨ z.sp < g.tTrip),
      (54, g.idleCap ≤ 1000)] := by
  have hstrap : strapZones p = if p.zones8 then 8 else 4 := rfl
  refine ⟨_, rfl, ?_⟩
  repeat' apply Decides.cons
  all_goals simp [within_eq_true, hstrap, and_assoc, decides_nil]

/-- The check of a setpoint decides the range of R108. -/
theorem setpointOk_iff (v tTrip : Nat) : (v == 0 || (within 1000 v 2300 && decide (v < tTrip))) = true ↔
    v = 0 ∨ (1000 ≤ v ∧ v ≤ 2300 ∧ v < tTrip) := by
  simp [within_eq_true, and_assoc]

theorem heatError_decides (zones tTrip : Nat) (body : List Byte) : ∃ l, heatError zones tTrip body = firstError l ∧ Decides l
    ((List.range 8).flatMap fun z =>
       if z < zones then
         [(16 + 6 * z, leRead body (16 + 6 * z) 2 = 0 ∨
            (1000 ≤ leRead body (16 + 6 * z) 2 ∧ leRead body (16 + 6 * z) 2 ≤ 2300 ∧ leRead body (16 + 6 * z) 2 < tTrip)),
          (18 + 6 * z, 10 ≤ leRead body (18 + 6 * z) 2 ∧ leRead body (18 + 6 * z) 2 ≤ 200)]
       else [(16 + 6 * z, leRead body (16 + 6 * z) 2 = 0)]) := by
  refine ⟨_, rfl, Decides.flatMap (fun z => ?_) _⟩
  by_cases hz : z < zones
  · rw [if_pos hz, if_pos hz]
    exact .cons (setpointOk_iff _ _) (.cons within_eq_true decides_nil)
  · rw [if_neg hz, if_neg hz]
    exact .cons (by simp [heatSetting]) decides_nil

theorem heatError_none (zones tTrip : Nat) (body : List Byte) : heatError zones tTrip body = none ↔
     ∀ z < 8,
       (z < zones → (leRead body (16 + 6 * z) 2 = 0 ∨
           (1000 ≤ leRead body (16 + 6 * z) 2 ∧ leRead body (16 + 6 * z) 2 ≤ 2300 ∧ leRead body (16 + 6 * z) 2 < tTrip)) ∧
         10 ≤ leRead body (18 + 6 * z) 2 ∧ leRead body (18 + 6 * z) 2 ≤ 200) ∧
       (zones ≤ z → leRead body (16 + 6 * z) 2 = 0) := by
  obtain ⟨l, hl, hdecides⟩ := heatError_decides zones tTrip body
  rw [hl, hdecides.none]
  simp only [List.mem_flatMap, List.mem_range, forall_exists_index, and_imp]
  constructor
  · intro h z hz
    refine ⟨fun hused => ?_, fun hunused => ?_⟩
    · refine ⟨h (16 + 6 * z, _) z hz ?_, h (18 + 6 * z, _) z hz ?_⟩
      · rw [if_pos hused]
        exact List.mem_cons_self
      · rw [if_pos hused]
        exact List.mem_cons_of_mem _ List.mem_cons_self
    · refine h (16 + 6 * z, _) z hz ?_
      rw [if_neg (by omega)]
      exact List.mem_cons_self
  · intro h p z hz hp
    obtain ⟨hused, hunused⟩ := h z hz
    by_cases hlt : z < zones
    · obtain ⟨hsp, hband⟩ := hused hlt
      rw [if_pos hlt] at hp
      rcases List.mem_pair.mp hp with rfl | rfl
      · exact hsp
      · exact hband
    · rw [if_neg hlt, List.mem_singleton] at hp
      rw [hp]
      exact hunused (by omega)

/-- The command of a card's kind does to a card in dispatch what the block's rule says. -/
theorem Dispatching.next {k : CardKind} {c : CurrentCard} {s t : State} {f : CurrentCard → State → State} (h : Dispatching k c s)
    (hf : f c s = t) : onDispatch k s f = .next t := by
  obtain ⟨hon, hst, hc, hk⟩ := h
  rw [onDispatch_dispatching hon hst hc hk, hf]

theorem setupCard_refused {c : CurrentCard} {s : State} (h : ¬((s.wd.state = .idle ∨ s.wd.state = .halted) ∧ s.pe.queue = [] ∧ s.tmap.segs = [])) :
    setupCard c s = failCurrent .wrongState [] s := by
  have hno : setupAccepted s = false := by
    rw [← Bool.not_eq_true, setupAccepted_iff]
    exact h
  simp [setupCard, hno]

/-- Settles O16: the lists of checks of the two cards decide the claim's, and a card that one of them refuses fails with no effect. -/
theorem settingsRefusals : Obligations.SettingsRefusals := by
  refine ⟨⟨fun c s h => ?_, fun p zones g => ?_, fun p zones g off => ?_⟩, fun c s h => ?_, heatError_none, fun zones tTrip body off => ?_⟩
  · refine ⟨fun hno => ⟨_, h.next (setupCard_refused hno), h.fails _ _⟩,
      fun off hwd hq hseg herr => ⟨_, h.next (f := setupCard) ?_, failField_fails off h⟩⟩
    simp [setupCard, setupAccepted_iff.mpr ⟨hwd, hq, hseg⟩, herr]
  · obtain ⟨l, hl, hdecides⟩ := setupError_decides p zones g
    rw [hl, hdecides.none]
    simp only [List.forall_mem_cons, List.not_mem_nil, false_implies, implies_true, and_true]
  · obtain ⟨l, hl, hdecides⟩ := setupError_decides p zones g
    rw [hl, hdecides.firstError]
  · refine ⟨fun hno => ⟨_, h.next (f := heatCard) ?_, h.fails _ _⟩,
      fun g off hset herr => ⟨_, h.next (f := heatCard) ?_, failField_fails off h⟩⟩
    · simp [heatCard, hno]
    · simp [heatCard, hset, herr]
  · obtain ⟨l, hl, hdecides⟩ := heatError_decides zones tTrip body
    rw [hl, hdecides.firstError]

/-! ## What a HEAT card does to a zone -/

section
variable {tTrip : Nat} {h : HeatSetting} {z : Zone}

theorem enterBand_rest (z : Zone) : (enterBand z).sp = z.sp ∧ (enterBand z).band = z.band ∧ (enterBand z).kp = z.kp ∧
    (enterBand z).ki = z.ki ∧ (enterBand z).tMeas = z.tMeas ∧ (enterBand z).bad = z.bad ∧ (enterBand z).lastBad = z.lastBad ∧
    (enterBand z).good = z.good := ⟨rfl, rfl, rfl, rfl, rfl, rfl, rfl, rfl⟩

/-- A HEAT card gives a zone its setting and leaves its readings. -/
theorem heatZone_rest : (heatZone tTrip h z).sp = h.sp ∧ (heatZone tTrip h z).band = h.band ∧ (heatZone tTrip h z).kp = h.kp ∧
    (heatZone tTrip h z).ki = h.ki ∧ (heatZone tTrip h z).tMeas = z.tMeas ∧ (heatZone tTrip h z).bad = z.bad ∧
    (heatZone tTrip h z).lastBad = z.lastBad ∧ (heatZone tTrip h z).good = z.good := by
  unfold heatZone rearmZone
  (repeat' split) <;> exact ⟨rfl, rfl, rfl, rfl, rfl, rfl, rfl, rfl⟩

theorem heatZone_fault (hl : z.latch = false) (hs : z.state = .fault) : heatZone tTrip h z = withSetting h z := by
  simp only [heatZone, hl, hs, Bool.false_eq_true, if_false]

theorem heatZone_off (hl : z.latch = false) (hs : z.state = .off) (h0 : h.sp = 0) : heatZone tTrip h z = withSetting h z := by
  simp only [heatZone, hl, hs, h0, Bool.false_eq_true, if_false, if_true]

/-- A zone that is OFF and gets a setpoint enters its band state with its integral at 0. -/
theorem heatZone_on (hl : z.latch = false) (hs : z.state = .off) (h0 : h.sp ≠ 0) :
    heatZone tTrip h z = enterBand { withSetting h z with integ := 0 } := by
  simp only [heatZone, hl, hs, h0, Bool.false_eq_true, if_false]

/-- A zone in a band state goes OFF without a setpoint, stays as it is under the same setpoint and band, and enters its band state anew
under others. -/
theorem heatZone_band (hl : z.latch = false) (hs : z.state.isBand = true) : heatZone tTrip h z =
    if h.sp = 0 then cutZone .off (withSetting h z)
    else if h.sp = z.sp ∧ h.band = z.band then withSetting h z else enterBand (withSetting h z) := by
  unfold heatZone
  cases hst : z.state <;> simp [hst, ZoneState.isBand] at hs <;> simp [hl]

/-- A TRIPPED zone that has cooled is re-armed by a HEAT card. -/
theorem heatZone_rearms (hl : z.latch = true) (hs : z.state = .tripped) (ht : z.tMeas < (tTrip : Int) - 100) : heatZone tTrip h z =
    if h.sp = 0 then cutZone .off { withSetting h z with latch := false, integ := 0 }
    else enterBand { withSetting h z with latch := false, integ := 0 } := by
  simp [heatZone, rearmZone, hl, hs, ht]

theorem heatZone_latched (hl : z.latch = true) (h' : z.state ≠ .tripped ∨ (tTrip : Int) - 100 ≤ z.tMeas) :
    heatZone tTrip h z = withSetting h z := by
  have hno : (z.state == .tripped && decide (z.tMeas < (tTrip : Int) - 100)) = false := by
    rcases h' with h' | h'
    · simp [h']
    · simp [Int.not_lt.mpr h']
  simp only [heatZone, rearmZone, hl, hno, if_true, Bool.false_eq_true, if_false]

end

/-! ## What a HEAT card leaves -/

/-- A card that ends its dispatch after a step that has left host memory and the engine as they were ends it as from before that step. -/
theorem DispatchFinal.of_calm {c : CurrentCard} {st : CardState} {rc : ResultCode} {results : List (Nat × List Byte)} {s u t : State}
    (h : DispatchFinal c st rc results u t) (hce : u.ce = s.ce) (hregs : u.regs = s.regs) (hbyte : ∀ a, hostByte u a = hostByte s a) :
    DispatchFinal c st rc results s t := by
  obtain ⟨⟨hfinal, hholds, honly⟩, hengine⟩ := h
  refine ⟨⟨hfinal, hholds, fun a ha => (honly a ha).trans (hbyte a)⟩, ?_⟩
  rw [hengine, engineAfter, engineAfter, hce, hregs]

theorem zonesCondition_congr {s t : State} (hset : t.setup = s.setup) (hzones : t.hc.zones = s.hc.zones) :
    zonesCondition t = zonesCondition s := by
  simp only [zonesCondition, zonesInUse, hset, hzones]

@[simp] theorem hostByte_noteZones (met : Bool) (s : State) (a : Nat) : hostByte (noteZones met s) a = hostByte s a := by
  unfold noteZones
  split <;> simp

theorem noteZones_su (met : Bool) (s : State) :
    (noteZones met s).su = raised (if !met && zonesCondition s then [.zonesInBand] else []) s.su := by
  unfold noteZones
  split <;> simp [raised]

/-- A start test changes nothing but what it keeps in the Print Engine. -/
theorem touchStart_eq (s : State) : ∃ hold first, touchStart s = { s with pe := { s.pe with hold := hold, firstTest := first } } := by
  unfold touchStart noteFirst setHold
  (repeat' split) <;> exact ⟨_, _, rfl⟩

theorem touchIfMoved_eq (l : List Zone) (s : State) :
    ∃ hold first, touchIfMoved l s = { s with pe := { s.pe with hold := hold, firstTest := first } } := by
  unfold touchIfMoved
  split
  · exact ⟨_, _, rfl⟩
  · exact touchStart_eq s

/-- Settles O17: the zones by the tables of R107 and R109, each a case of the zone's latch, state and new setting. -/
theorem heatCardSetsTheZones : Obligations.HeatCardSetsTheZones := by
  intro c g s h hset herr
  have hns := h.not_stalled
  obtain ⟨hon, hst, hc, hk⟩ := id h
  let zones := heatZones g c.image s.hc.zones
  let u := noteZones (zonesCondition s) (setZones zones s)
  obtain ⟨hfinal, hsu⟩ := finishCurrent_final (c := c) (fields := heatResults zones) (st := .done) (rc := .ok) (s := u) (by simp [u, hc])
    (by simpa [u] using hns)
  obtain ⟨hold, first, htouch⟩ := touchIfMoved_eq s.hc.zones (doneCurrent (heatResults zones) u)
  have hcard : heatCard c s = { doneCurrent (heatResults zones) u with
      pe := { (doneCurrent (heatResults zones) u).pe with hold := hold, firstTest := first } } := by
    rw [← htouch]
    simp only [heatCard, hset, herr]
    trivial
  have hhc : (doneCurrent (heatResults zones) u).hc = { s.hc with zones := zones } := by
    simp only [doneCurrent_frame, u, noteZones_frame]
    rfl
  have hzones : (doneCurrent (heatResults zones) u).hc.zones = zones := by rw [hhc]
  refine ⟨_, h.next hcard, ?_, ?_, ?_, ?_, fun n z hz hn => ?_, fun n z hz hn => ?_, ?_, ?_, ?_, ?_, ?_⟩
  · have hdone : DispatchFinal c .done .ok (heatResults zones) s (doneCurrent (heatResults zones) u) :=
      hfinal.of_calm (by simp [u]) (by simp [u]) fun a => hostByte_noteZones _ _ a
    dsimp only
    rw [hzones]
    exact hdone
  · dsimp only
    rw [hzones]
    simp [zones, heatZones]
  · exact congrArg (·.frame) hhc
  · exact congrArg (·.windowStart) hhc
  · dsimp only
    rw [hzones]
    simp [zones, heatZones, hz, Nat.not_lt.mpr hn]
  · refine ⟨heatZone g.tTrip (heatSetting c.image n) z, ?_, ?_⟩
    · dsimp only
      rw [hzones]
      simp [zones, heatZones, hz, hn]
    · obtain ⟨hsp, hband, hkp, hki, htm, hbad, hlast, hgood⟩ := heatZone_rest (tTrip := g.tTrip) (h := heatSetting c.image n) (z := z)
      refine ⟨hsp, hband, hkp, hki, htm, hbad, hlast, hgood, fun hl hs => ?_, fun hl hs h0 => ?_, fun hl hs h0 => ?_,
        fun hl hs h0 => ?_, fun hl hs h0 hsame hsameBand => ?_, fun hl hs h0 hother => ?_, fun hl hs ht => ?_, fun hl hno => ?_⟩
      · rw [heatZone_fault hl hs]
        exact ⟨hs, hl⟩
      · rw [heatZone_off hl hs (hsp.symm.trans h0)]
        exact hs
      · rw [heatZone_on hl hs fun h => h0 (hsp.trans h)]
        exact ⟨bandState_of _ _, rfl, rfl⟩
      · rw [heatZone_band hl hs, if_pos (hsp.symm.trans h0)]
        exact ⟨rfl, rfl, rfl, rfl, rfl⟩
      · rw [heatZone_band hl hs, if_neg fun h => h0 (hsp.trans h), if_pos ⟨hsp.symm.trans hsame, hband.symm.trans hsameBand⟩]
        exact ⟨rfl, rfl, rfl, rfl, rfl⟩
      · rw [hsp, hband] at hother
        rw [heatZone_band hl hs, if_neg fun h => h0 (hsp.trans h), if_neg fun h => by rcases hother with h' | h' <;> simp_all]
        exact ⟨bandState_of _ _, rfl, rfl, rfl⟩
      · rw [hsp, hband, heatZone_rearms hl hs ht]
        refine ⟨?_, ?_, fun h0 => ?_, fun h0 => ?_⟩
        · split <;> rfl
        · split <;> rfl
        · rw [if_pos h0]
          rfl
        · rw [if_neg h0]
          exact ⟨bandState_of (withSetting (heatSetting c.image n) z) z.tMeas, rfl⟩
      · rw [heatZone_latched hl hno]
        exact ⟨hl, rfl⟩
  · have hmet : zonesCondition (setZones zones s) = zonesCondition { doneCurrent (heatResults zones) u with
        pe := { (doneCurrent (heatResults zones) u).pe with hold := hold, firstTest := first } } :=
      zonesCondition_congr (by simp [u]) (by simp [u])
    rw [← hmet]
    show (doneCurrent (heatResults zones) u).su = _
    refine hsu.trans ?_
    rw [noteZones_su]
    split <;> simp [raised]
  · simp [SameBase, u]
  · simp [SameStore, u]
  · simp [SamePrintButHold, SameButHold, u]
  · simp [u]

end Sys2Proof.Machine
end

section

/-! PROOFS. Reports of the sensors and the bars (R75, R98, R131), the heat period at the part (R110), and what an accepted SETUP does to
every block (R169). -/

namespace Sys2Proof.Machine

/-! ## Events and faults change the Status Unit and the ports alone -/

theorem raiseEvent_eq (e : Event) (s : State) : ∃ p, raiseEvent e s = { s with su := raised [e] s.su, ports := p } ∧
    writtenByte p = writtenByte s.ports := by
  refine ⟨(raiseEvent e s).ports, ?_, funext fun a => hostByte_raiseEvent e s a⟩
  have hsu : (raiseEvent e s).su = raised [e] s.su := raiseEvent_su e s
  unfold raiseEvent signalRise at *
  split <;> rfl

theorem offerFault_eq (f : FaultInfo) (s : State) : ∃ p, offerFault f s = { s with su := s.su.withFault f s.web.pos, ports := p } ∧
    writtenByte p = writtenByte s.ports := by
  refine ⟨(offerFault f s).ports, ?_, funext fun a => hostByte_offerFault f s a⟩
  rw [← offerFault_su]
  unfold offerFault
  dsimp only
  split
  · obtain ⟨p, hp, -⟩ := raiseEvent_eq .faultPending { s with su := { s.su with
      faultSeq := s.su.faultSeq + 1, faults := queueAfter s.su.faults ⟨f, s.su.faultSeq, s.web.pos⟩, pageDue := true } }
    rw [hp]
  · rfl

/-! ## What a command raises -/

theorem Event.bit_injective {e e' : Event} (h : e.bit = e'.bit) : e = e' := by
  cases e <;> cases e' <;> simp [Event.bit] at h ⊢

/-- The mark of an event is the bit of its number alone. -/
theorem mask_getLsbD (e e' : Event) : e.mask.getLsbD e'.bit = decide (e = e') := by
  have hmask : e.mask = BitVec.twoPow 32 e.bit := (BitVec.twoPow_eq 32 e.bit).symm
  have hlt : e.bit < 32 := by cases e <;> decide
  rw [hmask, BitVec.getLsbD_twoPow]
  simp only [hlt, decide_true, Bool.true_and, decide_eq_decide]
  exact ⟨Event.bit_injective, congrArg _⟩

theorem raised_append (l k : List Event) (u : Status) : raised (l ++ k) u = raised k (raised l u) := by
  simp [raised]

theorem raised_cons (e : Event) (l : List Event) (u : Status) : raised (e :: l) u = raised l (raised [e] u) := by
  simp [raised]

/-- The mark of an event stands once a list of events has been raised where it stood or the list holds the event. -/
theorem raised_getLsbD (l : List Event) (u : Status) (e : Event) :
    (raised l u).events.getLsbD e.bit = (u.events.getLsbD e.bit || decide (e ∈ l)) := by
  induction l generalizing u with
  | nil => simp [raised]
  | cons x l ih =>
    rw [raised_cons, ih]
    simp [raised, mask_getLsbD, Bool.or_assoc, eq_comm (a := x)]

/-- A part of a command has changed the Status Unit by raising some of a list of events, and in no other way. -/
def Raises (l : List Event) (s t : State) : Prop := ∃ k, (∀ e ∈ k, e ∈ l) ∧ t.su = raised k s.su

section
variable {l : List Event} {s t u : State}

theorem Raises.of_su (h : t.su = s.su) : Raises l s t := ⟨[], by simp, h⟩

theorem Raises.trans (h : Raises l s t) (h' : Raises l t u) : Raises l s u := by
  obtain ⟨k, hk, ht⟩ := h
  obtain ⟨k', hk', hu⟩ := h'
  refine ⟨k ++ k', fun e he => ?_, by rw [hu, ht, raised_append]⟩
  rcases List.mem_append.mp he with he | he
  · exact hk e he
  · exact hk' e he

theorem Raises.foldl {α : Type} (f : State → α → State) (h : ∀ s x, Raises l s (f s x)) (xs : List α) (s : State) :
    Raises l s (xs.foldl f s) := by
  induction xs generalizing s with
  | nil => exact .of_su rfl
  | cons x xs ih => exact (h s x).trans (ih _)

/-- An event that is not of the list keeps its mark. -/
theorem Raises.else (h : Raises l s t) {e : Event} (he : e ∉ l) : hasEvent t e = hasEvent s e := by
  obtain ⟨k, hk, ht⟩ := h
  rw [hasEvent_eq_getLsbD, ht, raised_getLsbD, hasEvent_eq_getLsbD, decide_eq_false fun hek => he (hk e hek), Bool.or_false]

/-- An event that is set stays set. -/
theorem Raises.stays (h : Raises l s t) {e : Event} (he : hasEvent s e = true) : hasEvent t e = true := by
  obtain ⟨k, hk, ht⟩ := h
  rw [hasEvent_eq_getLsbD] at he ⊢
  rw [ht, raised_getLsbD, he, Bool.true_or]

/-- Nothing of the Status Unit but its marks is reached. -/
theorem Raises.rest (h : Raises l s t) : t.su = { s.su with events := t.su.events } := by
  obtain ⟨k, -, ht⟩ := h
  rw [ht]
  rfl

theorem raiseEvent_raises {e : Event} (he : e ∈ l) (s : State) : Raises l s (raiseEvent e s) :=
  ⟨[e], by simpa using he, raiseEvent_su e s⟩

theorem finalWrite_raises (he : .cardFinal ∈ l) (c : CardRef) (fields : List (Nat × List Byte)) (st : CardState) (rc : ResultCode)
    (s : State) : Raises l s (finalWrite c fields st rc s) := ⟨[.cardFinal], by simpa using he, finalWrite_su c fields st rc s⟩

theorem finishCard_raises (he : .cardFinal ∈ l) (c : CardRef) (st : CardState) (rc : ResultCode) (s : State) :
    Raises l s (finishCard c st rc s) :=
  ⟨[.cardFinal], by simpa using he, by simp [finishCard, raised]⟩

theorem finishCurrent_raises (he : .cardFinal ∈ l) (fields : List (Nat × List Byte)) (st : CardState) (rc : ResultCode) (s : State) :
    Raises l s (finishCurrent fields st rc s) := by
  have hend : ∀ u, (endDispatch u).su = u.su := fun u => by simp
  unfold finishCurrent
  split
  · exact .of_su rfl
  · exact (finalWrite_raises he _ fields st rc s).trans (.of_su (hend _))

/-! ### The end of a strip, of a job and of a splice -/

theorem reportStrip_raises (he : .cardFinal ∈ l) (g : Segment) (w : Option (Nat × Int) × Option (Nat × Int)) (s : State) :
    Raises l s (reportStrip g w s) := by
  unfold reportStrip
  split
  · exact .of_su rfl
  · exact Raises.trans (.of_su (by simp)) (finishCard_raises he _ _ _ _)

theorem removeSeg_raises (he : .segmentDone ∈ l) (g : Segment) (s : State) : Raises l s (removeSeg g s) := by
  unfold removeSeg
  exact Raises.trans (.of_su (by simp)) (raiseEvent_raises he _)

theorem haltMap_raises (he : .cardFinal ∈ l) (he' : .segmentDone ∈ l) (s : State) : Raises l s (haltMap s) :=
  Raises.foldl _ (fun s g => (reportStrip_raises he _ _ s).trans (removeSeg_raises he' g _)) _ s

theorem failPatchOf_raises (he : .cardFinal ∈ l) (id : Nat) (s : State) : Raises l s (failPatchOf id s) := by
  unfold failPatchOf
  (repeat' split)
  · exact .of_su rfl
  · exact Raises.trans (.of_su (by rfl)) (finishCurrent_raises he _ _ _ _)
  · exact .of_su rfl

theorem completeFree_raises (he : .profileFreed ∈ l) (id : Nat) (s : State) : Raises l s (completeFree id s) := by
  unfold completeFree
  split
  · exact .of_su rfl
  · exact Raises.trans (.of_su (by simp)) (raiseEvent_raises he _)

theorem freeRecord_raises (he : .cardFinal ∈ l) (he' : .profileFreed ∈ l) (id : Nat) (s : State) : Raises l s (freeRecord id s) := by
  have hfail : Raises l s (failPatchOf id (discardEntries id s)) := Raises.trans (.of_su (by simp)) (failPatchOf_raises he id _)
  have hpump : ∀ u, (pumpPort u).su = u.su := fun u => by simp
  unfold freeRecord
  refine hfail.trans (Raises.trans ?_ (.of_su (hpump _)))
  split
  · exact .of_su (by simp)
  · exact completeFree_raises he' id _

theorem releaseProfile_raises (he : .cardFinal ∈ l) (he' : .profileFreed ∈ l) (id : Nat) (s : State) :
    Raises l s (releaseProfile id s) := by
  unfold releaseProfile
  dsimp only
  split
  · exact Raises.trans (.of_su (by simp)) (freeRecord_raises he he' id _)
  · exact .of_su (by simp)

theorem endJob_raises (he : .cardFinal ∈ l) (he' : .profileFreed ∈ l) (s : State) : Raises l s (endJob s) := by
  unfold endJob
  split
  · exact .of_su rfl
  · exact Raises.trans (.of_su rfl) (releaseProfile_raises he he' _ _)

theorem withdrawSplice_raises (he : .cardFinal ∈ l) (a : Unwind) (s : State) : Raises l s (withdrawSplice a s) := by
  unfold withdrawSplice
  dsimp only
  (repeat' split)
  · exact .of_su rfl
  · exact .of_su (by simp)
  · exact Raises.trans (.of_su (by simp)) (finalWrite_raises he _ _ _ _ _)

end

/-- The events that a halt can raise (R123). -/
def haltEvents : List Event := [.lineHalted, .cardFinal, .segmentDone, .profileFreed]

/-- A halt raises LINE_HALTED and the events of the ends that it makes, and records its cause unless one stands (R122, R123). -/
theorem takeHalt_raises (cause : HaltCause) (s : State) :
    Raises haltEvents { s with su := { s.su with haltCause := s.su.haltCause.or (some cause) } } (takeHalt cause s) ∧
      hasEvent (takeHalt cause s) .lineHalted = true := by
  have hframe : ∀ u, (sendFrame u).su = u.su := fun u => by simp
  have haxes : ∀ f u, (mapAxes f u).su = u.su := fun f u => by simp
  have hlast : ∀ u, (touchStart (reportStopped u)).su = u.su := fun u => by simp
  have habandon : ∀ u, (abandonLine u).su = u.su := fun u => by simp
  have hfirst : Raises haltEvents { s with su := { s.su with haltCause := s.su.haltCause.or (some cause) } } _ :=
    raiseEvent_raises (e := .lineHalted) (by decide) { s with
      wd := { s.wd with state := .halted, requested := 0, target := 0, running := 0, held := false },
      su := { s.su with haltCause := s.su.haltCause.or (some cause) } }
  have hrest : ∀ u, Raises haltEvents u (touchStart (reportStopped (withdrawSplice .fu (withdrawSplice .pu (haltPrint (haltMap
      (sendFrame (sendFrame (mapAxes axisOff u))))))))) := fun u => by
    refine Raises.trans ?_ (.of_su (hlast _))
    refine Raises.trans ?_ (withdrawSplice_raises (by decide) .fu _)
    refine Raises.trans ?_ (withdrawSplice_raises (by decide) .pu _)
    refine Raises.trans ?_ (endJob_raises (by decide) (by decide) _)
    refine Raises.trans ?_ (.of_su (habandon _))
    refine Raises.trans (.of_su ?_) (haltMap_raises (by decide) (by decide) _)
    rw [hframe, hframe, haxes]
  exact ⟨hfirst.trans (hrest _), (hrest _).stays (raiseEvent_hasEvent _ _)⟩

/-! ## Reports -/

theorem setBar_bars (n : Nat) (f : Bar → Bar) (s : State) : (setBar n f s).pe.bars = modifyNth s.pe.bars n f := rfl

/-- Settles O22: the commands' equations for a bar in use and one that is not. -/
theorem sensorAndBarReports : Obligations.SensorAndBarReports := by
  intro s hon
  refine ⟨fun l => whenOn_on hon, fun l => whenOn_on hon, fun l => whenOn_on hon, fun l => whenOn_on hon, fun n ready room seq b c hb => ?_⟩
  have hlen := (List.getElem?_eq_some_iff.mp hb).1
  have hnth : nth s.pe.bars n resetBar = b := by simp [nth, hb]
  refine ⟨fun hset hn => ?_, fun hset hn hsil => ?_, fun hno => ?_, fun hno => ?_⟩
  · have hcount : n < barCount s := by simpa [barCount, hset] using hn
    obtain ⟨hold, first, htouch⟩ := touchStart_eq (setBar n (fun _ => ⟨ready, room - sentAfter s.pe seq, false⟩) s)
    refine ⟨_, (whenOn_on hon : execBarReport n ready room seq s = _), ?_, ?_, ?_, fun k hk => ?_⟩ <;> rw [if_pos hcount, htouch]
    · rfl
    · rw [setBar_bars, modifyNth_getElem?_eq, hb]
      rfl
    · simp [setBar, modifyNth_eq_modify]
    · exact modifyNth_getElem?_ne hk
  · have hacts : (decide (n < barCount s) && !(nth s.pe.bars n resetBar).silent) = true := by simp [barCount, hset, hn, hnth, hsil]
    let u := setBar n (fun b => { b with ready := false, silent := true }) s
    obtain ⟨p, hfault, hp⟩ := offerFault_eq (.barSilent n) u
    obtain ⟨hold, first, htouch⟩ := touchStart_eq (offerFault (.barSilent n) u)
    refine ⟨_, (whenOn_on hon : execBarSilent n s = _), ?_, ?_, ?_, fun k hk => ?_, ?_, fun a _ => ?_⟩ <;>
      rw [if_pos hacts, htouch, hfault]
    · rfl
    · show (u.pe.bars)[n]? = _
      rw [setBar_bars, modifyNth_getElem?_eq, hb]
      rfl
    · simp [u, setBar, modifyNth_eq_modify]
    · exact modifyNth_getElem?_ne hk
    · exact (offerFault_su (.barSilent n) s).symm
    · exact congrFun hp a
  · refine (whenOn_on hon : execBarSilent n s = _).trans (congrArg _ (if_neg ?_))
    rcases hno with hset | ⟨hset, hn | hsil⟩
    · simp [barCount, hset]
    · simp [barCount, hset, Nat.not_lt.mpr hn]
    · simp [hnth, hsil]
  · refine (whenOn_on hon : execBarReport n ready room seq s = _).trans (congrArg _ (if_neg ?_))
    rcases hno with hset | ⟨hset, hn⟩
    · simp [barCount, hset]
    · simp [barCount, hset, hn]

/-! ## Faults in a row -/

/-- The Status Unit once a list of faults has been offered at a web position (R174). -/
def faulted (l : List FaultInfo) (pos : Nat) (u : Status) : Status := l.foldl (fun u f => u.withFault f pos) u

theorem offerFaults_eq (l : List FaultInfo) (s : State) : ∃ p, l.foldl (fun s f => offerFault f s) s =
    { s with su := faulted l s.web.pos s.su, ports := p } ∧ writtenByte p = writtenByte s.ports := by
  induction l generalizing s with
  | nil => exact ⟨s.ports, rfl, rfl⟩
  | cons f l ih =>
    obtain ⟨p, hp, hw⟩ := offerFault_eq f s
    obtain ⟨p', hp', hw'⟩ := ih (offerFault f s)
    refine ⟨p', ?_, hw'.trans ?_⟩
    · rw [List.foldl_cons, hp', hp]
      rfl
    · rw [hp]
      exact hw

theorem faulted_append (l k : List FaultInfo) (pos : Nat) (u : Status) : faulted (l ++ k) pos u = faulted k pos (faulted l pos u) := by
  simp [faulted]

theorem withFault_queue (f : FaultInfo) (pos : Nat) (u : Status) :
    (u.withFault f pos).faults = queueAfter u.faults ⟨f, u.faultSeq, pos⟩ ∧ (u.withFault f pos).faultSeq = u.faultSeq + 1 ∧
      (u.withFault f pos).haltCause = u.haltCause := by
  unfold Status.withFault
  dsimp only
  split <;> exact ⟨rfl, rfl, rfl⟩

/-- What faults make of the queue rests on the queue and its next sequence number alone. -/
theorem faulted_queue_congr {l : List FaultInfo} {pos : Nat} {u v : Status} (hq : u.faults = v.faults) (hn : u.faultSeq = v.faultSeq) :
    (faulted l pos u).faults = (faulted l pos v).faults ∧ (faulted l pos u).faultSeq = (faulted l pos v).faultSeq := by
  induction l generalizing u v with
  | nil => exact ⟨hq, hn⟩
  | cons f l ih =>
    obtain ⟨hu, hun, -⟩ := withFault_queue f pos u
    obtain ⟨hv, hvn, -⟩ := withFault_queue f pos v
    exact ih (by rw [hu, hv, hq, hn]) (by rw [hun, hvn, hn])

theorem faulted_haltCause (l : List FaultInfo) (pos : Nat) (u : Status) : (faulted l pos u).haltCause = u.haltCause := by
  induction l generalizing u with
  | nil => rfl
  | cons f l ih => exact (ih _).trans (withFault_queue f pos u).2.2

theorem faulted_getLsbD (l : List FaultInfo) (pos : Nat) (u : Status) {e : Event} (he : e ≠ .faultPending) :
    (faulted l pos u).events.getLsbD e.bit = u.events.getLsbD e.bit := by
  induction l generalizing u with
  | nil => rfl
  | cons f l ih =>
    refine (ih _).trans ?_
    unfold Status.withFault
    dsimp only
    split
    · simp [mask_getLsbD, Ne.symm he]
    · rfl

/-! ## Halts in a row -/

/-- A later halt cause is a fault and nothing else (R124). -/
theorem haltLines_halted (cause : HaltCause) {α : Type} (l : List α) {s : State} (h : s.wd.state = .halted) :
    l.foldl (fun s _ => haltLine cause s) s =
      (List.replicate l.length (FaultInfo.laterHalt cause)).foldl (fun s f => offerFault f s) s := by
  induction l generalizing s with
  | nil => rfl
  | cons x l ih =>
    have hwd : (offerFault (.laterHalt cause) s).wd.state = .halted := by simpa using h
    rw [List.foldl_cons, haltLine_halted cause h, ih hwd]
    rfl

/-- An event that no halt raises keeps its mark through one. -/
theorem haltLine_else (cause : HaltCause) (s : State) {e : Event} (he : e ∉ haltEvents) (he' : e ≠ .faultPending) :
    hasEvent (haltLine cause s) e = hasEvent s e := by
  by_cases h : s.wd.state = .halted
  · rw [haltLine_halted cause h, hasEvent_eq_getLsbD, hasEvent_eq_getLsbD, offerFault_su]
    exact faulted_getLsbD [.laterHalt cause] s.web.pos s.su he'
  · rw [haltLine_running cause h]
    exact (takeHalt_raises cause s).1.else he

/-- A halt sets the idle cap on every zone and does nothing else to the heat (R104). -/
theorem takeHalt_hc (cause : HaltCause) (s : State) : (takeHalt cause s).hc =
    { s.hc with zones := s.hc.zones.map (capZone (idleCapOf s) (s.clock - s.hc.windowStart)) } := by
  simp [takeHalt, reportStopped, idleCapOf]

theorem takeHalt_states (cause : HaltCause) (s : State) : (takeHalt cause s).hc.zones.map (·.state) = s.hc.zones.map (·.state) := by
  simp [takeHalt_hc, capZone, Function.comp_def]

/-- A halt leaves the state of every zone and the frame. -/
theorem haltLine_heat (cause : HaltCause) (s : State) :
    (haltLine cause s).hc.zones.map (·.state) = s.hc.zones.map (·.state) ∧ (haltLine cause s).hc.frame = s.hc.frame := by
  by_cases h : s.wd.state = .halted
  · rw [haltLine_halted cause h]
    simp
  · rw [haltLine_running cause h]
    exact ⟨takeHalt_states cause s, by rw [takeHalt_hc]⟩

/-- The zones condition rests on the settings and the states of the zones. -/
theorem zonesCondition_states {s t : State} (hset : t.setup = s.setup) (hzones : t.hc.zones.map (·.state) = s.hc.zones.map (·.state)) :
    zonesCondition t = zonesCondition s := by
  have hall : ∀ u : State, (u.hc.zones.take (zonesInUse u)).all (fun z => z.state == .off || z.state == .inBand) =
      ((u.hc.zones.map (·.state)).take (zonesInUse u)).all (fun z => z == .off || z == .inBand) := fun u => by
    simp [← List.map_take, Function.comp_def]
  have huse : zonesInUse t = zonesInUse s := by simp only [zonesInUse, hset]
  rw [zonesCondition, zonesCondition, hall, hall, huse, hset, hzones]

/-! ## The heat period at the part -/

theorem noteZones_eq (met : Bool) (s : State) : ∃ p, noteZones met s =
    { s with su := raised (if !met && zonesCondition s then [.zonesInBand] else []) s.su, ports := p } ∧
      writtenByte p = writtenByte s.ports := by
  unfold noteZones
  split
  · exact raiseEvent_eq _ s
  · exact ⟨_, rfl, rfl⟩

/-- The events that the zones of a heat period raise (R102, R110). -/
def periodEvents (s : State) (g : Settings) : List Event :=
  (if periodAlarm s g (zonesPeriod s g) then [.zoneAlarm] else []) ++
    if !zonesCondition s && zonesCondition { s with hc := { s.hc with zones := zonesPeriod s g } } then [.zonesInBand] else []

/-- The part at the end of a heat period, before the halts that its trips ask for: the zones, the dose counts, the faults and the
events. -/
def periodState (s : State) (g : Settings) (p : List PortOut) : State :=
  { s with
    hc := { s.hc with frame := none, zones := zonesPeriod s g }
    tmap := { s.tmap with segs := s.tmap.segs.map (countDose ((zonesPeriod s g).take g.zones)) }
    su := raised (periodEvents s g) (faulted (periodFaults s g (zonesPeriod s g)) s.web.pos s.su)
    ports := p }

/-- The part once the faults of a heat period have been queued (R110). -/
def sensedState (s : State) (g : Settings) : State :=
  (periodFaults s g (zonesPeriod s g)).foldl (fun s f => offerFault f s)
    (setZones (zonesPeriod s g) { s with hc := { s.hc with frame := none } })

/-- The part once the events of a heat period have been raised. -/
def alarmedState (s : State) (g : Settings) : State :=
  noteZones (zonesCondition s)
    (if periodAlarm s g (zonesPeriod s g) then raiseEvent .zoneAlarm (sensedState s g) else sensedState s g)

theorem alarmedState_eq (s : State) (g : Settings) : ∃ p, alarmedState s g = { s with
    hc := { s.hc with frame := none, zones := zonesPeriod s g }
    su := raised (periodEvents s g) (faulted (periodFaults s g (zonesPeriod s g)) s.web.pos s.su)
    ports := p } ∧ writtenByte p = writtenByte s.ports := by
  obtain ⟨p1, h1, hp1⟩ := offerFaults_eq (periodFaults s g (zonesPeriod s g))
    (setZones (zonesPeriod s g) { s with hc := { s.hc with frame := none } })
  have hsensed : sensedState s g = _ := h1
  obtain ⟨p2, h2, hp2⟩ : ∃ p, (if periodAlarm s g (zonesPeriod s g) then raiseEvent .zoneAlarm (sensedState s g) else sensedState s g) =
      { sensedState s g with
        su := raised (if periodAlarm s g (zonesPeriod s g) then [.zoneAlarm] else []) (sensedState s g).su
        ports := p } ∧ writtenByte p = writtenByte (sensedState s g).ports := by
    split
    · exact raiseEvent_eq .zoneAlarm _
    · exact ⟨_, rfl, rfl⟩
  rw [hsensed] at h2 hp2
  obtain ⟨p3, h3, hp3⟩ := noteZones_eq (zonesCondition s) { s with
    hc := { s.hc with frame := none, zones := zonesPeriod s g }
    su := raised (if periodAlarm s g (zonesPeriod s g) then [.zoneAlarm] else [])
      (faulted (periodFaults s g (zonesPeriod s g)) s.web.pos s.su)
    ports := p2 }
  refine ⟨p3, ?_, hp3.trans (hp2.trans hp1)⟩
  rw [alarmedState, hsensed, h2, periodEvents, raised_append]
  exact h3

theorem execHeatPeriod_eq {s : State} {g : Settings} (hon : s.power.mainOn = true) (hset : s.setup = some g) :
    ∃ p, execHeatPeriod s = .next (touchIfMoved s.hc.zones
        (tripHalts g (trippedZones s.hc.zones (zonesPeriod s g)) (periodState s g p))) ∧ writtenByte p = writtenByte s.ports := by
  obtain ⟨p, halarmed, hp⟩ := alarmedState_eq s g
  refine ⟨p, ?_, hp⟩
  have hexec : execHeatPeriod s = .next (touchIfMoved s.hc.zones (tripHalts g (trippedZones s.hc.zones (zonesPeriod s g))
      { alarmedState s g with tmap := { (alarmedState s g).tmap with
        segs := (alarmedState s g).tmap.segs.map (countDose ((zonesPeriod s g).take g.zones)) } })) := by
    rw [execHeatPeriod, whenOn_on hon]
    split
    · rename_i hnone
      rw [hset] at hnone
      cases hnone
    · rename_i c hc
      obtain rfl : g = c := by simpa [hset] using hc
      rfl
  rw [hexec, halarmed]
  rfl

/-- The later halt causes of a period's trips, none of which halts the line (R106, R124). -/
def laterTrips (g : Settings) (n : Nat) : List FaultInfo := if g.haltOnTrip then List.replicate n (.laterHalt .trip) else []

theorem tripHalts_later {g : Settings} {n : Nat} {s : State} (h : g.haltOnTrip = false ∨ n = 0 ∨ s.wd.state = .halted) :
    tripHalts g n s = (laterTrips g n).foldl (fun s f => offerFault f s) s := by
  unfold tripHalts laterTrips
  rcases h with h | rfl | h
  · rw [h]
    rfl
  · split <;> rfl
  · split
    · rw [haltLines_halted .trip (List.range n) h, List.length_range]
    · rfl

theorem tripHalts_halts {g : Settings} {n : Nat} {s : State} (hg : g.haltOnTrip = true) (hn : 0 < n) (h : s.wd.state ≠ .halted) :
    tripHalts g n s = (List.replicate (n - 1) (FaultInfo.laterHalt .trip)).foldl (fun s f => offerFault f s) (takeHalt .trip s) := by
  obtain ⟨m, rfl⟩ : ∃ m, n = m + 1 := ⟨n - 1, by omega⟩
  have hwd : (takeHalt .trip s).wd.state = .halted := by rw [takeHalt_wd]
  have hlen : ((List.range m).map Nat.succ).length = m := by simp
  rw [tripHalts, if_pos hg, List.range_succ_eq_map, List.foldl_cons, haltLine_running _ h, haltLines_halted .trip _ hwd, hlen]
  rfl

theorem tripHalts_else (g : Settings) (n : Nat) (s : State) {e : Event} (he : e ∉ haltEvents) (he' : e ≠ .faultPending) :
    hasEvent (tripHalts g n s) e = hasEvent s e :=
  tripHalts_law (fun t => hasEvent t e = hasEvent s e) (fun cause t ht => (haltLine_else cause t he he').trans ht) g n rfl

theorem tripHalts_zones (g : Settings) (n : Nat) (s : State) : zonesCondition (tripHalts g n s) = zonesCondition s :=
  tripHalts_law (fun t => zonesCondition t = zonesCondition s)
    (fun cause t ht => (zonesCondition_states (by simp) (haltLine_heat cause t).1).trans ht) g n rfl

theorem tripHalts_heatFrame (g : Settings) (n : Nat) (s : State) : (tripHalts g n s).hc.frame = s.hc.frame :=
  tripHalts_law (fun t => t.hc.frame = s.hc.frame) (fun cause t ht => (haltLine_heat cause t).2.trans ht) g n rfl

/-- An event but FAULT_PENDING stands after a heat period's zones where it stood or the period has raised it. -/
theorem hasEvent_periodState (s : State) (g : Settings) (p : List PortOut) {e : Event} (he : e ≠ .faultPending) :
    hasEvent (periodState s g p) e = (hasEvent s e || decide (e ∈ periodEvents s g)) := by
  rw [hasEvent_eq_getLsbD, hasEvent_eq_getLsbD, periodState, raised_getLsbD, faulted_getLsbD _ _ _ he]

theorem mem_periodEvents_alarm (s : State) (g : Settings) : .zoneAlarm ∈ periodEvents s g ↔ periodAlarm s g (zonesPeriod s g) = true := by
  unfold periodEvents
  cases periodAlarm s g (zonesPeriod s g) <;> simp

theorem mem_periodEvents_inBand (s : State) (g : Settings) : .zonesInBand ∈ periodEvents s g ↔
    zonesCondition s = false ∧ zonesCondition { s with hc := { s.hc with zones := zonesPeriod s g } } = true := by
  unfold periodEvents
  cases periodAlarm s g (zonesPeriod s g) <;> cases zonesCondition s <;> simp

/-- Settles O20: the period's zones, faults, events and doses, and then the halts of its trips, the first of which halts the line. -/
theorem heatPeriodAtThePart : Obligations.HeatPeriodAtThePart := by
  intro s hon
  refine ⟨fun hset => ?_, fun g hset => ?_⟩
  · show execHeatPeriod s = _
    rw [execHeatPeriod, whenOn_on hon]
    split
    · rfl
    · simp_all
  · obtain ⟨p, hexec, hp⟩ := execHeatPeriod_eq hon hset
    have hmet : ∀ v, zonesCondition (touchIfMoved s.hc.zones (tripHalts g v (periodState s g p))) =
        zonesCondition { s with hc := { s.hc with zones := zonesPeriod s g } } := fun v => by
      rw [zonesCondition_congr (s := tripHalts g v (periodState s g p)) (by simp) (by simp), tripHalts_zones]
      rfl
    have hevent : ∀ v e, e ∉ haltEvents → e ≠ .faultPending → hasEvent (touchIfMoved s.hc.zones (tripHalts g v (periodState s g p))) e =
        (hasEvent s e || decide (e ∈ periodEvents s g)) := fun v e he he' => by
      rw [← hasEvent_periodState s g p he', ← tripHalts_else g v (periodState s g p) he he']
      simp [hasEvent]
    have hhc : ∀ u, (touchIfMoved s.hc.zones u).hc = u.hc := fun u => by simp
    refine ⟨_, hexec, ?_, fun ha => ?_, fun ha => ?_, fun hs ht => ?_, fun hno => ?_, fun hno => ?_, fun hg hn hwd => ?_⟩
    · rw [hhc, tripHalts_heatFrame]
      rfl
    · rw [hevent _ .zoneAlarm (by decide) (by decide), decide_eq_true ((mem_periodEvents_alarm s g).mpr ha), Bool.or_true]
    · rw [hevent _ .zoneAlarm (by decide) (by decide),
        decide_eq_false fun h => Bool.false_ne_true (ha.symm.trans ((mem_periodEvents_alarm s g).mp h)), Bool.or_false]
    · rw [hmet] at ht
      rw [hevent _ .zonesInBand (by decide) (by decide), decide_eq_true ((mem_periodEvents_inBand s g).mpr ⟨hs, ht⟩), Bool.or_true]
    · rw [hmet] at hno
      rw [hevent _ .zonesInBand (by decide) (by decide), decide_eq_false fun h => ?_, Bool.or_false]
      obtain ⟨h1, h2⟩ := (mem_periodEvents_inBand s g).mp h
      rcases hno with hno | hno <;> simp_all
    · obtain ⟨p', hlater, hp'⟩ := offerFaults_eq (laterTrips g (trippedZones s.hc.zones (zonesPeriod s g))) (periodState s g p)
      rw [tripHalts_later (s := periodState s g p) hno, hlater]
      obtain ⟨hold, first, htouch⟩ := touchIfMoved_eq s.hc.zones { periodState s g p with
        su := faulted (laterTrips g (trippedZones s.hc.zones (zonesPeriod s g))) (periodState s g p).web.pos (periodState s g p).su
        ports := p' }
      rw [htouch]
      refine ⟨?_, ?_, fun n z hz => ?_, rfl, rfl, rfl, rfl, rfl, rfl, rfl, rfl, rfl, ⟨rfl, rfl, rfl⟩, ⟨rfl, rfl, rfl, rfl, rfl, rfl, rfl⟩,
        ?_, fun a _ => ?_⟩
      · obtain ⟨q, hall, -⟩ := offerFaults_eq (periodFaults s g (zonesPeriod s g) ++
          laterTrips g (trippedZones s.hc.zones (zonesPeriod s g))) s
        refine Eq.trans ?_ (congrArg (·.su.faults) hall).symm
        show (faulted (laterTrips g (trippedZones s.hc.zones (zonesPeriod s g))) s.web.pos (periodState s g p).su).faults =
          (faulted _ _ _).faults
        rw [faulted_append]
        exact (faulted_queue_congr (u := (periodState s g p).su) (v := faulted (periodFaults s g (zonesPeriod s g)) s.web.pos s.su) rfl rfl).1
      · simp [periodState, zonesPeriod]
      · simp [periodState, zonesPeriod, hz]
      · exact faulted_haltCause _ _ _ |>.trans (faulted_haltCause _ _ s.su)
      · exact (congrFun hp' a).trans (congrFun hp a)
    · have hwd' : (periodState s g p).wd.state ≠ .halted := hwd
      obtain ⟨p', hlater, hp'⟩ := offerFaults_eq (List.replicate (trippedZones s.hc.zones (zonesPeriod s g) - 1) (.laterHalt .trip))
        (takeHalt .trip (periodState s g p))
      rw [tripHalts_halts hg hn hwd', hlater]
      obtain ⟨hold, first, htouch⟩ := touchIfMoved_eq s.hc.zones { takeHalt .trip (periodState s g p) with
        su := faulted (List.replicate (trippedZones s.hc.zones (zonesPeriod s g) - 1) (.laterHalt .trip))
          (takeHalt .trip (periodState s g p)).web.pos (takeHalt .trip (periodState s g p)).su
        ports := p' }
      rw [htouch]
      have hsu := (takeHalt_raises .trip (periodState s g p)).1.rest
      refine ⟨?_, ?_, ?_, ?_, ?_, ?_⟩
      · simp [takeHalt_wd]
      · simp [takeHalt_wd]
      · simp [takeHalt, haltMap_empty]
      · refine (faulted_haltCause _ _ _).trans ?_
        rw [hsu]
        have hcause : (periodState s g p).su.haltCause = s.su.haltCause := faulted_haltCause _ _ s.su
        show (periodState s g p).su.haltCause.or (some .trip) = _
        rw [hcause]
      · obtain ⟨q, hall, -⟩ := offerFaults_eq (periodFaults s g (zonesPeriod s g) ++
          List.replicate (trippedZones s.hc.zones (zonesPeriod s g) - 1) (.laterHalt .trip)) s
        refine Eq.trans ?_ (congrArg (·.su.faults) hall).symm
        show (faulted _ _ _).faults = (faulted _ _ _).faults
        have hweb : (takeHalt .trip (periodState s g p)).web.pos = s.web.pos := by simp [periodState]
        rw [faulted_append, hweb]
        exact (faulted_queue_congr (by rw [hsu]; rfl) (by rw [hsu]; rfl)).1
      · exact takeHalt_states .trip (periodState s g p)

end Sys2Proof.Machine
end

section

/-! PROOFS. What an accepted SETUP does to every block (R2, R97, R104, R135, R147, R169, R176). -/

namespace Sys2Proof.Machine

/-! ## The settings taken -/

theorem testCount_eq (a : Unwind) (s : State) :
    testCount a s = setSplice a (fun r => { r with countDue := r.countDue || countAsks s a }) s := by
  unfold testCount
  cases a <;> split <;> simp [setSplice, *]

/-- The part once every block has taken its settings (R169). -/
def settled (g : Settings) (s : State) : State :=
  { s with
    setup := some g
    hc := { s.hc with
      zones := (s.hc.zones.mapIdx (setupZone g.zones)).map (capZone g.idleCap (s.clock - s.hc.windowStart)) }
    tc := { s.tc with axes := s.tc.axes.map (setupAxis g) }
    pe := { s.pe with bars := s.pe.bars.mapIdx fun n b => if n < g.bars then b else resetBar }
    su := { s.su with inputs := s.su.inputs.mapIdx fun n r => { r with activeHigh := g.polarities.getLsbD n } }
    rc := { s.rc with
      pu := { s.rc.pu with countDue := s.rc.pu.countDue ||
        (s.ka.puValid && decide (0 < g.puRoll) && decide (g.puRoll ≤ s.ka.pu.metres) && !s.rc.pu.fired) }
      fu := { s.rc.fu with countDue := s.rc.fu.countDue ||
        (s.ka.fuValid && decide (0 < g.fuRoll) && decide (g.fuRoll ≤ s.ka.fu.metres) && !s.rc.fu.fired) } } }

theorem takeSettings_eq (g : Settings) (s : State) : takeSettings g s = settled g s := by
  unfold takeSettings
  dsimp only
  rw [testCount_eq .fu, testCount_eq .pu]
  rfl

/-! ## What stays of the settings through the edges of new polarities -/

/-- Every block holds its settings: the axes, the polarities of the inputs, and the zones and bars out of use (R169). -/
structure Settled (g : Settings) (s : State) : Prop where
  setup : s.setup = some g
  axes : ∀ a ∈ s.tc.axes, a.tSp = g.paperTsp ∧ a.kp = g.paperKp ∧ a.ki = g.paperKi ∧ a.source = .setup
  inputs : ∀ (n : Nat) r, s.su.inputs[n]? = some r → r.activeHigh = g.polarities.getLsbD n
  zones : ∀ (n : Nat) z, s.hc.zones[n]? = some z → g.zones ≤ n → z.state = .off ∧ z.sp = 0 ∧ z.latch = false ∧ ZoneCut z
  bars : ∀ (n : Nat) b, s.pe.bars[n]? = some b → g.bars ≤ n → b = ⟨false, 0, true⟩

theorem Settled.congr {g : Settings} {s t : State} (h : Settled g s) (hset : t.setup = s.setup) (haxes : t.tc.axes = s.tc.axes)
    (hin : t.su.inputs = s.su.inputs) (hzones : t.hc.zones = s.hc.zones) (hbars : t.pe.bars = s.pe.bars) : Settled g t :=
  ⟨hset ▸ h.setup, haxes ▸ h.axes, hin ▸ h.inputs, hzones ▸ h.zones, hbars ▸ h.bars⟩

theorem settled_settled (g : Settings) (s : State) : Settled g (settled g s) := by
  refine ⟨rfl, fun a ha => ?_, fun n r hr => ?_, fun n z hz hn => ?_, fun n b hb hn => ?_⟩
  · obtain ⟨b, -, rfl⟩ := List.mem_map.mp ha
    exact ⟨rfl, rfl, rfl, rfl⟩
  · simp only [settled, List.getElem?_mapIdx, Option.map_eq_some_iff] at hr
    obtain ⟨q, -, rfl⟩ := hr
    rfl
  · simp only [settled, List.getElem?_map, List.getElem?_mapIdx, Option.map_map, Option.map_eq_some_iff, Function.comp_apply] at hz
    obtain ⟨q, -, rfl⟩ := hz
    simp [setupZone, Nat.not_lt.mpr hn, capZone, cutZone, ZoneCut]
  · simp only [settled, List.getElem?_mapIdx, Option.map_eq_some_iff] at hb
    obtain ⟨q, -, rfl⟩ := hb
    rw [if_neg (by omega)]
    rfl

theorem Reported.inputs {u v : Status} (h : Reported u v) : v.inputs = u.inputs := by
  induction h with
  | refl => rfl
  | raise e he h ih => exact ih
  | fault f pos h ih =>
    rw [← ih]
    unfold Status.withFault
    dsimp only
    split <;> rfl

/-- A halt leaves the bars. -/
theorem takeHalt_bars (cause : HaltCause) (s : State) : (takeHalt cause s).pe.bars = s.pe.bars := by
  have hend : ∀ u, (endJob u).pe.bars = u.pe.bars := fun u => by
    unfold endJob
    split <;> simp
  have habandon : ∀ u, (abandonLine u).pe.bars = u.pe.bars := fun u => by
    unfold abandonLine
    dsimp only
    split <;> simp [setJob]
  have htouch : ∀ u, (touchStart u).pe.bars = u.pe.bars := fun u => by
    obtain ⟨hold, first, h⟩ := touchStart_eq u
    rw [h]
  simp only [takeHalt, haltPrint, htouch, reportStopped_frame, withdrawSplice_frame, hend, habandon, haltMap_frame, sendFrame_frame,
    mapAxes_frame, raiseEvent_frame]

theorem haltLine_settled {g : Settings} (cause : HaltCause) (s : State) (h : Settled g s) : Settled g (haltLine cause s) := by
  by_cases hwd : s.wd.state = .halted
  · rw [haltLine_halted cause hwd]
    exact h.congr (by simp) (by simp) (by rw [offerFault_su]; exact (reported_refl.fault _ _).inputs) (by simp) (by simp)
  · rw [haltLine_running cause hwd]
    have hax : (takeHalt cause s).tc.axes = s.tc.axes.map axisOff := by simp [takeHalt, mapAxes]
    refine ⟨by simpa using h.setup, fun a ha => ?_, ?_, fun n z hz hn => ?_, ?_⟩
    · rw [hax] at ha
      obtain ⟨b, hb, rfl⟩ := List.mem_map.mp ha
      exact h.axes b hb
    · rw [(takeHalt_raises cause s).1.rest]
      exact h.inputs
    · rw [takeHalt_hc, List.getElem?_map, Option.map_eq_some_iff] at hz
      obtain ⟨q, hq, rfl⟩ := hz
      obtain ⟨h1, h2, h3, h4, h5, h6, h7⟩ := h.zones n q hq hn
      exact ⟨h1, h2, h3, h4, by simp [capZone, h5], by simp [capZone, h6], by simp [capZone, h7]⟩
    · have hbars : (takeHalt cause s).pe.bars = s.pe.bars := takeHalt_bars cause s
      rw [hbars]
      exact h.bars

/-- Changes of an axis that keep its figures keep the settings. -/
theorem Settled.setAxis {g : Settings} {s : State} (h : Settled g s) (a : Axis) {f : AxisRecord → AxisRecord}
    (hf : ∀ x, (f x).tSp = x.tSp ∧ (f x).kp = x.kp ∧ (f x).ki = x.ki ∧ (f x).source = x.source) : Settled g (setAxis a f s) := by
  refine ⟨h.setup, fun x hx => ?_, h.inputs, h.zones, h.bars⟩
  rcases mem_modifyNth hx with hx | ⟨y, hy, rfl⟩
  · exact h.axes x hx
  · obtain ⟨h1, h2, h3, h4⟩ := hf y
    rw [h1, h2, h3, h4]
    exact h.axes y hy

/-- An axis as the handover of its splice finds it (R149). -/
def axisHandOver (x : AxisRecord) : AxisRecord := if x.state == .active then { x with state := .handedOver } else x

/-- An axis as the end of its handover finds it (R149). -/
def axisTakeBack (x : AxisRecord) : AxisRecord := if x.state == .handedOver then { x with state := .active } else x

theorem completeSplice_axes (a : Unwind) (s : State) :
    (completeSplice a s).tc = (Machine.setAxis (unwindAxis a) axisTakeBack s).tc := by
  have hjoint : ∀ u, (makeJoint a u).2.tc = u.tc := fun u => by simp
  have hclear : ∀ u, (clearCounter a u).tc = u.tc := fun u => by simp
  have hset : ∀ f u, (setSplice a f u).tc = u.tc := fun f u => by simp
  unfold completeSplice
  dsimp only
  split
  · rw [hset, hclear, hjoint]
    rfl
  · rw [show ∀ c fields st rc u, (finalWrite c fields st rc u).tc = u.tc from fun _ _ _ _ _ => by simp, hset, hclear, hjoint]
    rfl

theorem inputEdge_settled {g : Settings} (i : LineInput) (active : Bool) (s : State) (h : Settled g s) : Settled g (inputEdge i active s) := by
  refine inputEdge_law (Settled g) haltLine_settled (fun a s hs => ?_) (fun a s hs => ?_) (fun a s hs => ?_) i active h
  · exact hs.congr (by simp) (by simp) (autoRequest_reported a _ reported_refl).inputs (by simp) (by simp)
  · by_cases hw : ((spliceOf s a).state == .wait) = true
    · have hack : ackActive a s = Machine.setAxis (unwindAxis a) axisHandOver (setSplice a (fun r => { r with
          state := .handedOver, request := false, waited := s.clock - r.phaseStart, phaseStart := s.clock, limit := r.handover }) s) :=
        if_pos hw
      rw [hack]
      refine Settled.setAxis (hs.congr (by simp) (by simp) (by simp) (by simp) (by simp)) _ fun x => ?_
      unfold axisHandOver
      split <;> exact ⟨rfl, rfl, rfl, rfl⟩
    · have hack : ackActive a s = offerFault (.spliceAckUnexpected a (spliceOf s a).state) s := if_neg hw
      rw [hack]
      exact hs.congr (by simp) (by simp) (offerFault_reported _ reported_refl).inputs (by simp) (by simp)
  · unfold ackInactive
    split
    · have hback := hs.setAxis (unwindAxis a) (f := axisTakeBack) fun x => by
        unfold axisTakeBack
        split <;> exact ⟨rfl, rfl, rfl, rfl⟩
      exact hback.congr (by simp) (by rw [completeSplice_axes]) (completeSplice_reported a reported_refl).inputs (by simp) (by simp)
    · exact hs

/-- A SETUP card that is accepted changes nothing more than its settings by the edges of its polarities, if they make none. -/
theorem polarityEdges_none {before s : State} (h : ∀ i ∈ allInputs, (inputOf before i).active = (inputOf s i).active) :
    polarityEdges before s = s := by
  unfold polarityEdges
  generalize allInputs = l at h
  induction l with
  | nil => rfl
  | cons i l ih =>
    have hedge : polarityEdge before s i = s := if_pos (h i List.mem_cons_self)
    rw [List.foldl_cons, hedge]
    exact ih fun j hj => h j (List.mem_cons_of_mem _ hj)

/-- An input's active state under new polarities. -/
theorem inputOf_settled (g : Settings) (s : State) (i : LineInput)
    (h : (inputOf s i).active = ((inputOf s i).level == some (g.polarities.getLsbD (inputIndex i)))) :
    (inputOf s i).active = (inputOf (settled g s) i).active := by
  unfold inputOf nth settled at *
  dsimp only
  rw [List.getElem?_mapIdx]
  cases hr : s.su.inputs[inputIndex i]? with
  | none => rfl
  | some r =>
    rw [hr] at h
    exact h

/-! ## The SETUP card -/

theorem touchStart_empty {s : State} (h : s.pe.queue = []) : touchStart s = setHold none s := by
  unfold touchStart
  rw [h]
  cases s.pe.state <;> rfl

/-- No PATCH card is in hand while the engine has another card in dispatch. -/
theorem Dispatching.noPatch {k : CardKind} {c : CurrentCard} {s : State} (h : Dispatching k c s) (hl : EngineLaw s) (hk : k ≠ .patch) :
    s.spb.patch = none := by
  cases hp : s.spb.patch with
  | none => rfl
  | some p =>
    obtain ⟨c', hc', -, hk'⟩ := hl.2 p hp
    obtain ⟨-, -, hc, hkind⟩ := h
    obtain rfl : c' = c := by simpa [hc'] using hc
    exact absurd (Option.some.inj (hkind.symm.trans hk')) hk

theorem Held.free {c c' : Option CurrentCard} {st st' : EngineState} {p : Option PatchJob} (h : Held (c, st, none) c' st' p) :
    c' = c ∧ st' = st := by
  rcases h with h | h
  · simp only [Prod.mk.injEq] at h
    exact ⟨h.1, h.2.1⟩
  · exact absurd rfl h.1

/-- The part as an accepted SETUP card leaves it, before its card is written. -/
def setupApplied (g : Settings) (s : State) : State := noteZones (zonesCondition s) (polarityEdges s (settled g s))

theorem setupCard_applies {c : CurrentCard} {g : Settings} {s : State} (hg : g = parseSettings c.image)
    (hok : setupAccepted s = true) (herr : setupError s.power s.hc.zones g = none) :
    setupCard c s = touchStart (doneCurrent [] (setupApplied g s)) := by
  subst hg
  simp only [setupCard, hok, herr, Bool.not_true, Bool.false_eq_true, if_false, applySetup, takeSettings_eq, setupApplied]

/-- Settles O15: the settings stand in every block through the edges of new polarities, and where there are none the part is the one that
has taken its settings. -/
theorem setupTakesEffectAtOnce : Obligations.SetupTakesEffectAtOnce := by
  intro c g s h hlaw hg hwd hq hseg herr
  have hcard := setupCard_applies hg (setupAccepted_iff.mpr ⟨hwd, hq, hseg⟩) herr
  have hpatch := h.noPatch hlaw (by decide)
  obtain ⟨hon, hst, hc, hk⟩ := id h
  have hheld : (setupApplied g s).ce.current = s.ce.current ∧ (setupApplied g s).ce.state = s.ce.state := by
    have hedges := polarityEdges_held s (s := settled g s) (held_refl (settled g s))
    rw [show (settled g s).spb.patch = none from hpatch] at hedges
    obtain ⟨hcur, hstate⟩ := hedges.free
    have hnote : (setupApplied g s).ce = (polarityEdges s (settled g s)).ce := by simp [setupApplied]
    rw [hnote]
    exact ⟨hcur, hstate⟩
  obtain ⟨hcur, hstate⟩ := hheld
  obtain ⟨hfinal, hsu⟩ := finishCurrent_final (c := c) (fields := []) (st := .done) (rc := .ok) (s := setupApplied g s) (hcur.trans hc)
    (by rw [hstate, hst]; decide)
  replace hfinal : DispatchFinal c .done .ok [] (setupApplied g s) (doneCurrent [] (setupApplied g s)) := hfinal
  replace hsu : (doneCurrent [] (setupApplied g s)).su = raised [.cardFinal] (setupApplied g s).su := hsu
  have happlied : (setupApplied g s).su = raised _ (polarityEdges s (settled g s)).su := noteZones_su _ _
  have hsettled : Settled g (touchStart (doneCurrent [] (setupApplied g s))) := by
    have htouch : ∀ u, (touchStart u).su = u.su := fun u => by simp
    have hedges := polarityEdges_law (Settled g) inputEdge_settled s (settled_settled g s)
    refine hedges.congr ?_ ?_ ?_ ?_ ?_
    · simp [setupApplied]
    · simp [setupApplied]
    · rw [htouch, hsu, happlied]
      rfl
    · simp [setupApplied]
    · obtain ⟨hold, first, htouch⟩ := touchStart_eq (doneCurrent [] (setupApplied g s))
      rw [htouch]
      simp [setupApplied]
  obtain ⟨⟨hcf, -, -⟩, hce⟩ := dispatchFinal_touchStart hfinal
  refine ⟨_, h.next hcard, hsettled.setup, hcf, by rw [hce]; rfl, ?_, hsettled.axes, hsettled.inputs, hsettled.zones, hsettled.bars,
    fun hedge => ?_⟩
  · rw [hce]
    simp [engineAfter, setupApplied, settled]
  · have hnone : polarityEdges s (settled g s) = settled g s := polarityEdges_none fun i _ => inputOf_settled g s i (hedge i)
    have happ : setupApplied g s = noteZones (zonesCondition s) (settled g s) := by rw [setupApplied, hnone]
    have hqueue : (doneCurrent [] (setupApplied g s)).pe.queue = [] := by simpa [happ, settled] using hq
    have hbyte : ∀ a, hostByte (setupApplied g s) a = hostByte s a := fun a => by
      rw [happ, hostByte_noteZones]
      rfl
    have hdone := hfinal.of_calm (s := s) (by simp [happ, settled]) (by simp [happ, settled]) hbyte
    rw [touchStart_empty hqueue]
    refine ⟨hdone, ?_, ?_, ?_, ?_, ?_, ?_, ?_, ?_, ?_, fun n b hb hn => ?_, fun n z hz hn => ?_, ?_, ?_, ?_, ?_, ?_, ?_, ?_, ?_⟩
    · simp [setHold, happ, settled]
    · simp [setHold, happ, settled]
    · simp [setHold, happ, settled]
    · simp [setHold, happ, settled]
    · simp [setHold, happ, settled]
    · simp [setHold, happ, settled]
    · simp [setHold, happ, settled]
    · simp [setHold, happ, settled, SameStore]
    · simp [setHold, happ, settled]
    · simp [setHold, happ, settled, hb, hn]
    · simp [setHold, happ, settled, hz, hn, setupZone, capZone]
    · simp [setHold, happ, settled, setupAxis]
    · simp [setHold, happ, settled]
    · simp [setHold, happ, settled]
    · simp [setHold, happ, settled]
    · simp [setHold, happ, settled]
    · have hmet : zonesCondition (setHold none (doneCurrent [] (setupApplied g s))) = zonesCondition (settled g s) :=
        zonesCondition_congr (by simp [happ, setHold]) (by simp [happ, setHold])
      rw [hmet, show (setHold none (doneCurrent [] (setupApplied g s))).su = _ from hsu, happ, noteZones_su]
      simp only [raised]
      split <;> simp [settled]
    · rw [show (setHold none (doneCurrent [] (setupApplied g s))).su = _ from hsu, happ, noteZones_su]
      rfl
    · rw [show (setHold none (doneCurrent [] (setupApplied g s))).su = _ from hsu, happ, noteZones_su]
      rfl

end Sys2Proof.Machine
end

section

/-! PROOFS. The drive (R118 to R120), the reports of travel (R7, R71, R147, R153) and the figures of a plan (R67, R68, R73, R74, R84 to
R88). -/

namespace Sys2Proof.Machine

/-! ## The ramp period -/

section
variable {noSegs : Bool} {w : Nat × Nat} {step : Nat} {d : Drive}

theorem stepToward_eq (step running target : Nat) :
    stepToward step running target = if running ≤ target then min (running + step) target else max (running - step) target := by
  unfold stepToward
  split <;> omega

theorem rampDrive_measured : (rampDrive noSegs w step d).measured = d.measured := by
  unfold rampDrive heldPhase statePhase stepPhase targetPhase drainPhase
  dsimp only
  (repeat' split) <;> rfl

theorem rampDrive_starting_target (h : d.state = .starting) :
    (rampDrive noSegs w step d).target = d.requested ∧ (rampDrive noSegs w step d).held = false := by
  obtain ⟨st, requested, target, running, measured, held⟩ := d
  subst h
  by_cases hz : stepToward step running requested = requested <;>
    simp [rampDrive, heldPhase, statePhase, stepPhase, targetPhase, drainPhase, hz]

theorem rampDrive_moving_target (h : d.state = .running ∨ d.state = .draining ∧ noSegs = false) :
    (rampDrive noSegs w step d).target = clampSpeed d.requested w ∧
      (rampDrive noSegs w step d).held = decide (clampSpeed d.requested w ≠ d.requested) := by
  rcases h with h | ⟨h, hn⟩
  · simp [rampDrive, heldPhase, statePhase, stepPhase, targetPhase, drainPhase, h, bne, BEq.beq]
  · simp [rampDrive, heldPhase, statePhase, stepPhase, targetPhase, drainPhase, h, hn, bne, BEq.beq]

/-- A drain without strips and a ramp down step toward 0, where they end in IDLE. -/
theorem rampDrive_down_eq (h : d.state = .rampdown ∨ d.state = .draining ∧ noSegs = true) :
    rampDrive noSegs w step d = { d with
      state := if stepToward step d.running 0 = 0 then .idle else .rampdown
      requested := if d.state = .draining then 0 else d.requested
      target := 0
      running := stepToward step d.running 0
      held := false } := by
  obtain ⟨st, requested, target, running, measured, held⟩ := d
  rcases h with h | ⟨h, rfl⟩ <;> dsimp only at h <;> subst h <;> by_cases hz : stepToward step running 0 = 0 <;>
    simp [rampDrive, heldPhase, statePhase, stepPhase, targetPhase, drainPhase, hz]

end

/-- The drive after a ramp period. -/
def rampedDrive (s : State) : Drive := rampDrive s.tmap.segs.isEmpty (lineWindow s) (rampStep s) s.wd

/-- The events of a ramp period, in the order they are raised (log entry 61). -/
def rampEvents (d d' : Drive) : List Event :=
  (if d.state = .starting ∧ d'.state = .running then [.lineRunning] else []) ++
    if d.held = false ∧ d'.held = true then [.speedHeld] else []

theorem raiseIf_eq (b : Bool) (e : Event) (s : State) : ∃ p, (if b then raiseEvent e s else s) =
    { s with su := raised (if b then [e] else []) s.su, ports := p } ∧ writtenByte p = writtenByte s.ports := by
  cases b
  · exact ⟨_, rfl, rfl⟩
  · exact raiseEvent_eq e s

theorem touchIf_eq (b : Bool) (s : State) : ∃ hold first, (if b then touchStart s else s) =
    { s with pe := { s.pe with hold := hold, firstTest := first } } := by
  cases b
  · exact ⟨_, _, rfl⟩
  · exact touchStart_eq s

/-- The part after a ramp period, but for what a start test keeps. -/
theorem execRampPeriod_eq {s : State} (hon : s.power.mainOn = true) : ∃ p hold first, writtenByte p = writtenByte s.ports ∧
    execRampPeriod s = .next { s with
      wd := rampedDrive s
      su := raised (rampEvents s.wd (rampedDrive s)) s.su
      hc := if s.wd.running ≠ 0 ∧ (rampedDrive s).running = 0 then (reportStopped s).hc else s.hc
      pe := { s.pe with hold := hold, firstTest := first }
      ports := .driveFrame (rampedDrive s).running (s.tc.axes.map (·.torque)) :: p } := by
  obtain ⟨p1, h1, hp1⟩ := raiseIf_eq (s.wd.state == .starting && (rampedDrive s).state == .running) .lineRunning
    (setDrive (fun _ => rampedDrive s) s)
  obtain ⟨p2, h2, hp2⟩ := raiseIf_eq (!s.wd.held && (rampedDrive s).held) .speedHeld
    (if s.wd.state == .starting && (rampedDrive s).state == .running then
      raiseEvent .lineRunning (setDrive (fun _ => rampedDrive s) s) else setDrive (fun _ => rampedDrive s) s)
  have hexec : execRampPeriod s = _ := whenOn_on hon
  have hevents : raised (rampEvents s.wd (rampedDrive s)) s.su =
      raised (if !s.wd.held && (rampedDrive s).held then [.speedHeld] else [])
        (raised (if s.wd.state == .starting && (rampedDrive s).state == .running then [.lineRunning] else []) s.su) := by
    rw [← raised_append, rampEvents]
    simp
  rw [h1] at h2 hp2
  let u : State := { s with wd := rampedDrive s, su := raised (rampEvents s.wd (rampedDrive s)) s.su, ports := p2 }
  have hu : _ = u := h2.trans (congrArg (fun v => { s with wd := rampedDrive s, su := v, ports := p2 }) hevents.symm)
  obtain ⟨hold, first, htouch⟩ := touchIf_eq (s.wd.state != (rampedDrive s).state || s.wd.running != (rampedDrive s).running)
    (sendFrame (if s.wd.running != 0 && (rampedDrive s).running == 0 then reportStopped u else u))
  refine ⟨p2, hold, first, hp2.trans hp1, hexec.trans (congrArg _ ?_)⟩
  dsimp only
  rw [show rampDrive s.tmap.segs.isEmpty (lineWindow s) (rampStep s) s.wd = rampedDrive s from rfl, h1, hu]
  refine htouch.trans ?_
  by_cases hstop : s.wd.running ≠ 0 ∧ (rampedDrive s).running = 0
  · have hb : (s.wd.running != 0 && (rampedDrive s).running == 0) = true := by simpa using hstop
    rw [if_pos hb, if_pos hstop]
    rfl
  · have hb : ¬(s.wd.running != 0 && (rampedDrive s).running == 0) = true := by simpa using hstop
    rw [if_neg hb, if_neg hstop]
    rfl

/-- Settles O28: each state's case of the drive's phases, and the part around them. -/
theorem rampPeriodMovesTheSpeed : Obligations.RampPeriodMovesTheSpeed := by
  intro s hon
  obtain ⟨p, hold, first, hp, hexec⟩ := execRampPeriod_eq hon
  refine ⟨_, hexec, rfl, fun h => ?_, fun h => ?_, fun h => ?_, fun h => ?_, fun h => ?_, fun h1 h2 => ?_, ?_, ?_, fun h => ?_, fun h1 h2 => ?_,
    fun a _ => ?_, rfl, ⟨rfl, rfl, rfl, rfl, rfl, rfl, rfl⟩, ⟨rfl, rfl, rfl⟩, ⟨rfl, rfl⟩, rfl, rfl, rfl⟩
  · exact rampDrive_standing h
  · obtain ⟨hrun, hreq, hst⟩ := rampDrive_starting (noSegs := s.tmap.segs.isEmpty) (w := lineWindow s) (step := rampStep s) h
    obtain ⟨htar, hheld⟩ := rampDrive_starting_target (noSegs := s.tmap.segs.isEmpty) (w := lineWindow s) (step := rampStep s) h
    refine ⟨htar, hreq, hheld, hst.trans ?_⟩
    rw [← hrun]
    rfl
  · have hmove : s.wd.state = .running ∨ s.wd.state = .draining ∧ s.tmap.segs.isEmpty = false := by simpa using h
    obtain ⟨hrun, hreq, hst⟩ := rampDrive_moving (w := lineWindow s) (step := rampStep s) hmove
    obtain ⟨htar, hheld⟩ := rampDrive_moving_target (w := lineWindow s) (step := rampStep s) hmove
    refine ⟨hst, hreq, htar, hheld.trans ?_⟩
    rw [← htar]
    rfl
  · obtain ⟨hst, hsegs⟩ := h
    have hdown := rampDrive_down_eq (w := lineWindow s) (step := rampStep s) (.inr ⟨hst, List.isEmpty_iff.mpr hsegs⟩)
    show (rampedDrive s).requested = 0 ∧ _
    rw [rampedDrive, hdown]
    exact ⟨if_pos hst, rfl, rfl, rfl⟩
  · have hdown := rampDrive_down_eq (noSegs := s.tmap.segs.isEmpty) (w := lineWindow s) (step := rampStep s) (.inl h)
    show (rampedDrive s).requested = _ ∧ _
    rw [rampedDrive, hdown]
    exact ⟨if_neg (by rw [h]; decide), rfl, rfl, rfl⟩
  · refine Eq.trans ?_ (stepToward_eq _ _ _)
    show (rampedDrive s).running = stepToward (rampStep s) s.wd.running (rampedDrive s).target
    cases hst : s.wd.state with
    | idle => exact absurd hst h1
    | halted => exact absurd hst h2
    | starting =>
      rw [rampedDrive, (rampDrive_starting hst).1, (rampDrive_starting_target hst).1]
    | running =>
      rw [rampedDrive, (rampDrive_moving (.inl hst)).1, (rampDrive_moving_target (.inl hst)).1]
    | rampdown =>
      rw [rampedDrive, rampDrive_down_eq (.inl hst)]
    | draining =>
      cases hsegs : s.tmap.segs.isEmpty with
      | true => rw [rampedDrive, rampDrive_down_eq (.inr ⟨hst, hsegs⟩)]
      | false => rw [rampedDrive, (rampDrive_moving (.inr ⟨hst, hsegs⟩)).1, (rampDrive_moving_target (.inr ⟨hst, hsegs⟩)).1]
  · exact rampDrive_measured
  · rfl
  · exact if_neg fun hstop => h.elim (fun hne => hne hstop.2) hstop.1
  · dsimp only
    rw [if_pos ⟨h1, h2⟩]
    intro z hz
    obtain ⟨y, -, rfl⟩ := List.mem_map.mp hz
    exact ⟨Nat.min_le_right _ _, Nat.min_le_right _ _⟩
  · exact congrFun hp a

/-! ## Reports of travel -/

theorem countPaper_eq (travel : Nat) (s : State) : countPaper travel s = { s with
    ka := { s.ka with pu := if travel = 0 then s.ka.pu else advanceCounter travel s.ka.pu }
    rc := { s.rc with pu := { s.rc.pu with countDue := s.rc.pu.countDue || (decide (0 < travel) &&
      countAsks { s with ka := { s.ka with pu := advanceCounter travel s.ka.pu } } .pu) } } } := by
  unfold countPaper
  by_cases h : travel = 0
  · rw [if_pos h, if_pos h, h]
    simp
  · rw [if_neg h, if_neg h, testCount_eq]
    simp [setSplice, Nat.pos_of_ne_zero h]

theorem comparePos_joints_none {s : State} (h : s.setup = none) : (comparePos s).tmap.joints = s.tmap.joints := by
  simp [comparePos, h]

theorem comparePos_joints_some {s : State} {g : Settings} (h : s.setup = some g) : (comparePos s).tmap.joints =
    s.tmap.joints.map (fun j => { j with due := j.due || decide (j.at_ + exitOffset g ≤ s.web.pos) }) := by
  simp [comparePos, h]

/-- The paper counter asks for a splice where the position has moved and the counter has come to the roll length (R147). -/
theorem countPaper_due (n : Nat) (s : State) :
    (decide (0 < (forward n s.web).pos - s.web.pos) &&
      countAsks { s with web := forward n s.web, ka := { s.ka with
        pu := advanceCounter ((forward n s.web).pos - s.web.pos) s.ka.pu } } .pu) =
    (decide (s.web.pos < (forward n s.web).pos) && s.ka.puValid && decide (0 < rollLength s .pu) &&
      decide (rollLength s .pu ≤ (if (forward n s.web).pos - s.web.pos = 0 then s.ka.pu else
        advanceCounter ((forward n s.web).pos - s.web.pos) s.ka.pu).metres) && !s.rc.pu.fired) := by
  have hlt : decide (0 < (forward n s.web).pos - s.web.pos) = decide (s.web.pos < (forward n s.web).pos) := by
    rw [decide_eq_decide]
    omega
  rw [hlt]
  by_cases hmove : s.web.pos < (forward n s.web).pos
  · rw [if_neg (by omega), decide_eq_true hmove, Bool.true_and, Bool.true_and]
    rfl
  · rw [decide_eq_false hmove]
    simp

/-- Settles O30: each report's equation; the comparisons with the position are the marks of lines and joints. -/
theorem travelReports : Obligations.TravelReports := by
  intro s hon
  refine ⟨fun v => whenOn_on hon, fun n hn => ?_, fun n hn => ?_, fun n => (whenOn_on hon : execBackTravel n s = _), fun n => ?_⟩
  · refine (whenOn_on hon : execDrumTravelIncrement n s = _).trans ?_
    rw [if_pos hn]
  · refine ⟨_, (whenOn_on hon : execDrumTravelIncrement n s = _), ?_⟩
    rw [if_neg (by omega), testCount_eq]
    exact ⟨rfl, rfl, rfl, rfl, rfl, rfl, rfl, rfl⟩
  · obtain ⟨hold, first, htouch⟩ := touchStart_eq (comparePos (countPaper ((forward n s.web).pos - s.web.pos) { s with web := forward n s.web }))
    refine ⟨_, (whenOn_on hon : execPositionUpdate n s = _), ?_⟩
    dsimp only
    rw [htouch, countPaper_eq]
    refine ⟨rfl, ?_, ?_, rfl, fun hset => ?_, fun g hset => ?_, rfl, rfl, rfl, rfl, rfl, rfl, rfl, ⟨rfl, rfl, rfl⟩, ⟨rfl, rfl, rfl⟩, rfl, rfl, rfl⟩
    · have hka := if_congr (Nat.sub_eq_zero_iff_le (n := (forward n s.web).pos) (m := s.web.pos)) (rfl (a := s.ka.pu))
        (rfl (a := advanceCounter ((forward n s.web).pos - s.web.pos) s.ka.pu))
      exact congrArg (fun c => { s.ka with pu := c }) hka
    · exact congrArg (fun b => (⟨{ s.rc.pu with countDue := s.rc.pu.countDue || b }, s.rc.fu, _⟩ : Rolls)) (countPaper_due n s)
    · exact comparePos_joints_none hset
    · exact comparePos_joints_some hset

end Sys2Proof.Machine
end

section

/-! PROOFS. The figures of a plan and of a line's computation over all values (R67, R68, R73, R74, R84 to R88). -/

namespace Sys2Proof.Machine

/-! ## Rounded quotients -/

theorem ceilDiv_le_iff {a b c : Nat} (hb : 0 < b) : ceilDiv a b ≤ c ↔ a ≤ c * b := by
  refine ⟨fun h => ?_, ceilDiv_le hb⟩
  have hlt : (a + (b - 1)) / b < c + 1 := Nat.lt_succ_of_le h
  rw [Nat.div_lt_iff_lt_mul hb, Nat.succ_mul] at hlt
  omega

theorem lt_ceilDiv_iff {a b n : Nat} (hb : 0 < b) : n < ceilDiv a b ↔ n * b < a := by
  rw [← Nat.not_le, ceilDiv_le_iff hb, Nat.not_le]

theorem windowLo_le_iff (v tol x : Nat) : windowLo v tol ≤ x ↔ 10 ≤ x ∧ v * 100 ≤ x * (100 + tol) := by
  rw [windowLo, max_le_iff, ceilDiv_le_iff (by omega)]
  rfl

theorem le_windowHi_iff {tol : Nat} (v vMax x : Nat) (ht : tol < 100) :
    x ≤ windowHi v tol vMax ↔ x ≤ vMax ∧ x * (100 - tol) ≤ v * 100 := by
  rw [windowHi, le_min_iff, Nat.le_div_iff_mul_le (by omega)]

theorem planDose_zero_iff {sp tOnset lW v : Nat} (hw : 500 ≤ lW) (hv : 10 ≤ v) (hv' : v ≤ 500) :
    planDose sp tOnset lW v = 0 ↔ sp ≤ tOnset := by
  rw [planDose, Nat.div_eq_zero_iff_lt (by omega)]
  constructor
  · intro h
    by_contra hlt
    have hmul : 1 * 500 ≤ (sp - tOnset) * lW := Nat.mul_le_mul (by omega) hw
    omega
  · intro h
    rw [Nat.sub_eq_zero_of_le h]
    omega

/-! ## Gains -/

theorem gainOf_mem {h : ProfileHeader} (d : Nat) (hg : h.gMin ≤ h.gMax) : h.gMin ≤ gainOf h d ∧ gainOf h d ≤ h.gMax := by
  unfold gainOf
  split <;> omega

theorem gainOf_zero {h : ProfileHeader} : gainOf h 0 = h.gMax := if_pos rfl

theorem gainOf_clamp {h : ProfileHeader} {d : Nat} (hd : 0 < d) :
    gainOf h d = max h.gMin (min h.gMax ((h.dRef * 4096 + d / 2) / d)) := if_neg (by omega)

/-- A gain between its limits is the quotient rounded to the nearest. -/
theorem gainOf_nearest {h : ProfileHeader} {d : Nat} (hlo : h.gMin < gainOf h d) (hhi : gainOf h d < h.gMax) :
    (2 * gainOf h d - 1) * d ≤ 2 * (h.dRef * 4096) ∧ 2 * (h.dRef * 4096) < (2 * gainOf h d + 1) * d := by
  rcases Nat.eq_zero_or_pos d with rfl | hd
  · rw [gainOf_zero] at hhi
    exact absurd hhi (lt_irrefl _)
  · have hraw : gainOf h d = (h.dRef * 4096 + d / 2) / d := by
      have := gainOf_clamp (h := h) hd
      omega
    have hle := Nat.div_mul_le_self (h.dRef * 4096 + d / 2) d
    have hlt := Nat.lt_div_mul_add (a := h.dRef * 4096 + d / 2) hd
    rw [← hraw] at hle hlt
    rw [Nat.sub_mul, Nat.add_mul, Nat.mul_assoc]
    omega

/-! ## Length compensation -/

theorem stepOf_bounds (eps : Nat) : stepOf eps * (1000000 + eps) ≤ 2 ^ 20 * 1000000 ∧
    2 ^ 20 * 1000000 < (stepOf eps + 1) * (1000000 + eps) := by
  have hpos : 0 < 1000000 + eps := by omega
  refine ⟨Nat.div_mul_le_self _ _, ?_⟩
  rw [Nat.succ_mul]
  exact Nat.lt_div_mul_add hpos

theorem stepOf_range {eps : Nat} (h : eps ≤ 50000) : 998643 ≤ stepOf eps ∧ stepOf eps ≤ 2 ^ 20 := by
  unfold stepOf
  refine ⟨(Nat.le_div_iff_mul_le (by omega)).mpr (by omega), Nat.div_le_of_le_mul (by omega)⟩

theorem sourceLine_step {n step : Nat} (h : step ≤ 2 ^ 20) : sourceLine ((n + 1) * step) ≤ sourceLine (n * step) + 1 := by
  unfold sourceLine
  rw [Nat.succ_mul]
  omega

/-! ## The grid -/

theorem grid_bounds {n v : Nat} (hn : n = 9 ∨ n = 17 ∨ n = 33) (hv : v ≤ 255) :
    gridPosition n v ≤ (n - 1) * 16 ∧ gridNode n v ≤ n - 2 ∧ (gridNode n v < n - 2 → gridWeight n v < 16) ∧
    gridWeight n v ≤ 16 ∧ gridPosition n v = 16 * gridNode n v + gridWeight n v := by
  unfold gridWeight gridNode gridPosition
  rcases hn with rfl | rfl | rfl <;> omega

theorem cornerWeight_eq (n k : Nat) (v : Nat → Nat) : cornerWeight n k v =
    (if cornerBit k 0 = 1 then gridWeight n (v 0) else 16 - gridWeight n (v 0)) *
    (if cornerBit k 1 = 1 then gridWeight n (v 1) else 16 - gridWeight n (v 1)) *
    (if cornerBit k 2 = 1 then gridWeight n (v 2) else 16 - gridWeight n (v 2)) := by
  simp [cornerWeight, List.range_succ]

/-- The eight corners share 16 on each axis, so their weights sum to 16 × 16 × 16. -/
theorem cornerWeights_sum {n : Nat} {v : Nat → Nat} (h : ∀ a, gridWeight n (v a) ≤ 16) :
    ((List.range 8).map fun k => cornerWeight n k v).sum = 4096 := by
  obtain ⟨x, hx⟩ : ∃ x, gridWeight n (v 0) + x = 16 := ⟨16 - gridWeight n (v 0), Nat.add_sub_cancel' (h 0)⟩
  obtain ⟨y, hy⟩ : ∃ y, gridWeight n (v 1) + y = 16 := ⟨16 - gridWeight n (v 1), Nat.add_sub_cancel' (h 1)⟩
  obtain ⟨z, hz⟩ : ∃ z, gridWeight n (v 2) + z = 16 := ⟨16 - gridWeight n (v 2), Nat.add_sub_cancel' (h 2)⟩
  have hx' : 16 - gridWeight n (v 0) = x := by omega
  have hy' : 16 - gridWeight n (v 1) = y := by omega
  have hz' : 16 - gridWeight n (v 2) = z := by omega
  have hsum : ((List.range 8).map fun k => cornerWeight n k v).sum =
      (gridWeight n (v 0) + x) * (gridWeight n (v 1) + y) * (gridWeight n (v 2) + z) := by
    simp only [cornerWeight_eq, hx', hy', hz', show List.range 8 = [0, 1, 2, 3, 4, 5, 6, 7] from rfl, List.map_cons, List.map_nil,
      List.sum_cons, List.sum_nil]
    simp [cornerBit]
    ring
  rw [hsum, hx, hy, hz]

theorem cornerNode_lt {n k : Nat} {v : Nat → Nat} (hn : n = 9 ∨ n = 17 ∨ n = 33) (h : ∀ a, gridNode n (v a) ≤ n - 2) :
    cornerNode n k v < n ^ 3 := by
  have hbit : ∀ a, cornerBit k a ≤ 1 := fun a => Nat.le_of_lt_succ (Nat.mod_lt _ (by omega))
  have h0 := h 0
  have h1 := h 1
  have h2 := h 2
  have b0 := hbit 0
  have b1 := hbit 1
  have b2 := hbit 2
  have heq : cornerNode n k v = ((gridNode n (v 0) + cornerBit k 0) * n + (gridNode n (v 1) + cornerBit k 1)) * n +
      (gridNode n (v 2) + cornerBit k 2) := by
    simp [cornerNode, List.range_succ]
  rw [heq]
  rcases hn with rfl | rfl | rfl <;> omega

/-- Settles O29: each figure by its own lemma. -/
theorem figuresOfThePlan : Obligations.FiguresOfThePlan := by
  refine ⟨fun s g v hset => ?_, fun v tol vMax hv hmax htol => ⟨?_, ?_, windowLo_le_iff v tol, fun x => le_windowHi_iff v vMax x htol⟩,
    fun s g v hset hlo hhi r => clampSpeed_mem r (hlo.trans hhi), fun sp tOnset lW v => ?_, fun sp tOnset lW v => planDose_zero_iff,
    fun h d raw hg => ⟨(gainOf_mem d hg).1, (gainOf_mem d hg).2, fun hd => by rw [hd, gainOf_zero], fun hd hraw => ?_, gainOf_nearest⟩,
    fun eps source => ⟨(stepOf_bounds eps).1, (stepOf_bounds eps).2, fun hpos n => lt_ceilDiv_iff hpos⟩,
    fun eps source heps => ?_, fun n v hn hv => ⟨?_, grid_bounds hn hv⟩, fun n v hn hv => ⟨cornerWeights_sum fun a => ?_, fun k _ =>
      cornerNode_lt hn fun a => (grid_bounds hn (hv a)).2.1⟩, fun c zones width hw => ⟨Nat.div_mul_le_self _ _, ?_, fun hc hz => ?_⟩,
    fun sum gain hsum => ⟨Nat.min_le_left _ _, fun hgain => ?_⟩⟩
  · rw [lineWindow_iff, windowTop_of_setup hset]
    exact and_assoc
  · exact (window_holds hv hmax htol).1
  · exact (window_holds hv hmax htol).2
  · rw [planDose, show (max 0 ((sp : Int) - tOnset)).toNat = sp - tOnset by omega]
  · subst hraw
    rw [gainOf_clamp hd]
    omega
  · have hrange := stepOf_range heps
    have hpos : 0 < stepOf eps := by omega
    refine ⟨hrange.1, hrange.2, fun h => by rw [h]; rfl, ?_, fun hs => ?_, fun n hn => ?_, fun n => sourceLine_step hrange.2⟩
    · by_contra hfew
      have hlt : linesOut source (stepOf eps) * stepOf eps < source * 2 ^ 20 :=
        (Nat.mul_le_mul_left _ hrange.2).trans_lt (Nat.mul_lt_mul_of_pos_right (Nat.lt_of_not_le hfew) (by omega))
      exact lt_irrefl _ ((lt_ceilDiv_iff hpos).mpr hlt)
    · refine ceilDiv_le hpos ?_
      have hlo := hrange.1
      omega
    · have hlt := (lt_ceilDiv_iff hpos).mp hn
      exact (Nat.div_lt_iff_lt_mul (by omega)).mpr hlt
  · unfold gridPosition
    rw [Nat.mul_assoc]
  · exact (grid_bounds hn (hv a)).2.2.2.1
  · rw [Nat.succ_mul]
    exact Nat.lt_div_mul_add hw
  · exact Nat.div_lt_of_lt_mul (Nat.mul_lt_mul_of_pos_right hc hz)
  · rw [laydown, hgain]
    omega

end Sys2Proof.Machine
end

section

/-! PROOFS. The tension period: readings, lost sensors, torques and the deviation check (R131 to R134, R142). -/

namespace Sys2Proof.Machine

/-! ## Axis records -/

theorem Axis.place_injective {a b : Axis} (h : a.place = b.place) : a = b := by
  cases a <;> cases b <;> simp [Axis.place] at h ⊢

theorem Axis.place_lt (a : Axis) : a.place < 4 := by cases a <;> decide

theorem axisOf_setAxis_same {a : Axis} {s : State} (f : AxisRecord → AxisRecord) (h : s.tc.axes.length = 4) :
    axisOf (setAxis a f s) a = f (axisOf s a) := by
  obtain ⟨x, hx⟩ : ∃ x, s.tc.axes[a.place]? = some x := ⟨_, List.getElem?_eq_getElem (by rw [h]; exact a.place_lt)⟩
  simp [axisOf, setAxis, nth, modifyNth_getElem?_eq, hx]

theorem axisOf_setAxis_ne {a b : Axis} {s : State} (f : AxisRecord → AxisRecord) (h : b ≠ a) : axisOf (setAxis a f s) b = axisOf s b := by
  have hp : b.place ≠ a.place := fun hp => h (Axis.place_injective hp)
  simp only [axisOf, setAxis, nth, modifyNth_getElem?_ne hp]

theorem setAxis_length (a : Axis) (f : AxisRecord → AxisRecord) (s : State) : (setAxis a f s).tc.axes.length = s.tc.axes.length := by
  simp [setAxis, modifyNth_eq_modify]

/-- Each axis of a list changed in turn by a function of its own. -/
def setAxes (g : Axis → AxisRecord → AxisRecord) (l : List Axis) (s : State) : State := l.foldl (fun s a => setAxis a (g a) s) s

theorem setAxes_eq (g : Axis → AxisRecord → AxisRecord) (l : List Axis) (s : State) :
    setAxes g l s = { s with tc := { s.tc with axes := (setAxes g l s).tc.axes } } ∧
      (setAxes g l s).tc.axes.length = s.tc.axes.length := by
  induction l generalizing s with
  | nil => exact ⟨rfl, rfl⟩
  | cons a l ih =>
    obtain ⟨heq, hlen⟩ := ih (setAxis a (g a) s)
    exact ⟨heq, hlen.trans (setAxis_length a _ s)⟩

theorem axisOf_setAxes {g : Axis → AxisRecord → AxisRecord} {l : List Axis} {s : State} (h : s.tc.axes.length = 4) (hl : l.Nodup) (a : Axis) :
    axisOf (setAxes g l s) a = if a ∈ l then g a (axisOf s a) else axisOf s a := by
  induction l generalizing s with
  | nil => simp [setAxes]
  | cons b l ih =>
    obtain ⟨hb, hl⟩ := List.nodup_cons.mp hl
    refine (ih ((setAxis_length b (g b) s).trans h) hl).trans ?_
    by_cases hab : a = b
    · subst hab
      rw [if_neg hb, if_pos List.mem_cons_self, axisOf_setAxis_same _ h]
    · rw [axisOf_setAxis_ne _ hab]
      simp [hab]

theorem mem_allAxes (a : Axis) : a ∈ allAxes := by cases a <;> decide

theorem allAxes_nodup : allAxes.Nodup := by decide

/-! ## Readings -/

/-- No sensor of a list is lost by its reading (R132). -/
def NoneLost (frame : Option (List TensionReading)) (l : List Axis) (s : State) : Prop :=
  ∀ a ∈ l, ∀ k, classifyAxis frame a = .invalid k → (axisOf s a).invalid ≠ 1

theorem readAxis_kept {frame : Option (List TensionReading)} {a : Axis} {s : State}
    (h : ∀ k, classifyAxis frame a = .invalid k → (axisOf s a).invalid ≠ 1) :
    readAxis frame s a = setAxis a (takeReading (classifyAxis frame a)) s := by
  have hnone : sensorLost (classifyAxis frame a) (axisOf s a) = none := by
    unfold sensorLost
    split
    · rfl
    · exact if_neg (h _ ‹_›)
  simp only [readAxis, hnone]

theorem readAxes_kept {frame : Option (List TensionReading)} {l : List Axis} {s : State} (hl : l.Nodup) (h : NoneLost frame l s) :
    l.foldl (readAxis frame) s = setAxes (fun a => takeReading (classifyAxis frame a)) l s := by
  induction l generalizing s with
  | nil => rfl
  | cons a l ih =>
    obtain ⟨ha, hl⟩ := List.nodup_cons.mp hl
    rw [List.foldl_cons, readAxis_kept (h a List.mem_cons_self)]
    refine ih hl fun b hb k hk => ?_
    have hba : b ≠ a := fun hba => ha (hba ▸ hb)
    rw [axisOf_setAxis_ne _ hba]
    exact h b (List.mem_cons_of_mem _ hb) k hk

/-! ## The deviation check -/

/-- A strip after the deviation check of a tension period's frame (R142). -/
def deviated (frame : Option (List TensionReading)) (s : State) (g : Segment) : Segment :=
  match classifyAxis frame .fu with
  | .valid v => deviationSeg s v g
  | .invalid _ => g

theorem checkDeviations_eq (frame : Option (List TensionReading)) (s : State) :
    checkDeviations frame s = { s with tmap := { s.tmap with segs := s.tmap.segs.map (deviated frame s) } } := by
  have hid : deviated frame s = fun g => deviated frame s g := rfl
  rw [hid]
  unfold checkDeviations deviated
  cases classifyAxis frame .fu <;> simp

theorem deviationSeg_else {s : State} {v : Nat} {g : Segment} (h : g.leadNip = false ∨ g.fabricId = none) : deviationSeg s v g = g := by
  unfold deviationSeg
  rcases h with h | h <;> rw [h]
  split <;> simp_all

theorem deviationSeg_checks {s : State} {v id p : Nat} {g : Segment} {f : FabricFigures} (hn : g.leadNip = true)
    (hid : g.fabricId = some id) (hp : g.tPlan = some p) (hf : (fabricOf s id).figures = some f) :
    deviationSeg s v g = checkDeviation f.devLimit p v g := by
  unfold deviationSeg
  rw [hn, hid, hp]
  simp only [hf]

/-- The part after a tension period in which no sensor is lost, with its axes. -/
def tensedState (s : State) (axes : List AxisRecord) : State :=
  { s with
    tc := { s.tc with frame := none, axes := axes }
    tmap := { s.tmap with segs := s.tmap.segs.map (deviated s.tc.frame s) }
    ports := .driveFrame s.wd.running (axes.map (·.torque)) :: s.ports }

/-- The axes of a period in which no sensor is lost: each takes its reading and computes. -/
theorem computedAxes_eq {s : State} (hlen : s.tc.axes.length = 4) (hkept : NoneLost s.tc.frame allAxes s) : ∃ axes,
    computeAxes s.tc.frame (allAxes.foldl (readAxis s.tc.frame) { s with tc := { s.tc with frame := none } }) =
      { s with tc := { s.tc with frame := none, axes := axes } } ∧
    ∀ a, nth axes a.place resetAxis =
      computeAxis (classifyAxis s.tc.frame a) (takeReading (classifyAxis s.tc.frame a) (axisOf s a)) := by
  rw [readAxes_kept allAxes_nodup (s := { s with tc := { s.tc with frame := none } }) hkept]
  obtain ⟨h1, hlen1⟩ := setAxes_eq (fun a => takeReading (classifyAxis s.tc.frame a)) allAxes { s with tc := { s.tc with frame := none } }
  have ha1 := axisOf_setAxes (g := fun a => takeReading (classifyAxis s.tc.frame a)) (s := { s with tc := { s.tc with frame := none } })
    hlen allAxes_nodup
  generalize setAxes (fun a => takeReading (classifyAxis s.tc.frame a)) allAxes { s with tc := { s.tc with frame := none } } = u at *
  obtain ⟨h2, -⟩ := setAxes_eq (fun a => computeAxis (classifyAxis s.tc.frame a)) allAxes u
  have ha2 := axisOf_setAxes (g := fun a => computeAxis (classifyAxis s.tc.frame a)) (hlen1.trans hlen) allAxes_nodup
  refine ⟨_, h2.trans ?_, fun a => (ha2 a).trans ?_⟩
  · rw [h1]
  · rw [if_pos (mem_allAxes a), ha1, if_pos (mem_allAxes a)]
    rfl

theorem execTensionPeriod_eq {s : State} (hon : s.power.mainOn = true) (hlen : s.tc.axes.length = 4) (hkept : NoneLost s.tc.frame allAxes s) :
    ∃ axes, execTensionPeriod s = .next (tensedState s axes) ∧ ∀ a, axisOf (tensedState s axes) a =
      computeAxis (classifyAxis s.tc.frame a) (takeReading (classifyAxis s.tc.frame a) (axisOf s a)) := by
  obtain ⟨axes, hcomputed, haxes⟩ := computedAxes_eq hlen hkept
  refine ⟨axes, (whenOn_on hon : execTensionPeriod s = _).trans (congrArg _ ?_), haxes⟩
  dsimp only
  rw [hcomputed, checkDeviations_eq]
  rfl

/-- Settles O31: the axes take their readings and compute, each by its own record, and then the strips are checked. -/
theorem tensionPeriodRuns : Obligations.TensionPeriodRuns := by
  intro s hon hlen hkept
  obtain ⟨axes, hexec, haxes⟩ := execTensionPeriod_eq hon hlen fun a _ => hkept a
  refine ⟨_, hexec, rfl, rfl, fun a => ⟨fun n hn => ?_, fun k hk => ?_⟩, rfl, rfl, by simp [tensedState], fun n g hg => ⟨fun h => ?_, ?_⟩,
    rfl, rfl, ⟨rfl, rfl, rfl, rfl, rfl, rfl, rfl⟩, ⟨rfl, rfl, rfl⟩, rfl, rfl, rfl, rfl, rfl⟩
  · rw [haxes, hn]
    rfl
  · rw [haxes, hk]
    rfl
  · simp only [tensedState, List.getElem?_map, hg, Option.map_some, Option.some.injEq]
    unfold deviated
    split
    · rename_i v hv
      rcases h with h | h | h
      · exact deviationSeg_else (.inl h)
      · exact deviationSeg_else (.inr h)
      · exact absurd hv (h v)
    · rfl
  · intro id p f v hn hid hp hf hv
    refine ⟨checkDeviation f.devLimit p v g, ?_, rfl, rfl, ?_, rfl⟩
    · simp only [tensedState, List.getElem?_map, hg, Option.map_some, deviated, hv, deviationSeg_checks hn hid hp hf]
    · simp [checkDeviation]

/-! ## A lost sensor -/

theorem readAxis_lost {frame : Option (List TensionReading)} {a : Axis} {k : BadKind} {s : State}
    (hk : classifyAxis frame a = .invalid k) (h1 : (axisOf s a).invalid = 1) : readAxis frame s a =
    haltLine .tensionLoss (offerFault (.tensionSensor a k) (setAxis a (takeReading (.invalid k)) s)) := by
  simp only [readAxis, hk, sensorLost, h1, if_true]

/-- A reading either goes no further than its axis or is a lost sensor's. -/
theorem readAxis_cases (frame : Option (List TensionReading)) (a : Axis) (s : State) :
    readAxis frame s a = setAxis a (takeReading (classifyAxis frame a)) s ∨ ∃ k, readAxis frame s a =
      haltLine .tensionLoss (offerFault (.tensionSensor a k) (setAxis a (takeReading (classifyAxis frame a)) s)) := by
  by_cases h : ∃ k, classifyAxis frame a = .invalid k ∧ (axisOf s a).invalid = 1
  · obtain ⟨k, hk, h1⟩ := h
    exact .inr ⟨k, by rw [readAxis_lost hk h1, hk]⟩
  · exact .inl (readAxis_kept fun k hk h1 => h ⟨k, hk, h1⟩)

/-- What an axis's own readings have come to: its count of invalid ones and the kind of the last (R132). -/
def invalidOf (s : State) (a : Axis) : Nat × Option BadKind := ((axisOf s a).invalid, (axisOf s a).lastInvalid)

theorem haltLine_axes (cause : HaltCause) (s : State) :
    (haltLine cause s).tc.axes = s.tc.axes ∨ (haltLine cause s).tc.axes = s.tc.axes.map axisOff := by
  by_cases h : s.wd.state = .halted
  · rw [haltLine_halted cause h]
    exact .inl (by simp)
  · rw [haltLine_running cause h]
    exact .inr (by simp [takeHalt, mapAxes])

/-- A halt reaches no count of readings. -/
theorem invalidOf_haltLine (cause : HaltCause) (s : State) (a : Axis) : invalidOf (haltLine cause s) a = invalidOf s a := by
  unfold invalidOf axisOf nth
  rcases haltLine_axes cause s with h | h <;> rw [h]
  rw [List.getElem?_map]
  cases s.tc.axes[a.place]? <;> rfl

theorem haltLine_length (cause : HaltCause) (s : State) : (haltLine cause s).tc.axes.length = s.tc.axes.length := by
  rcases haltLine_axes cause s with h | h <;> rw [h]
  exact List.length_map _

theorem offerFault_tc (f : FaultInfo) (s : State) : (offerFault f s).tc = s.tc := by simp

theorem readAxis_length (frame : Option (List TensionReading)) (a : Axis) (s : State) :
    (readAxis frame s a).tc.axes.length = s.tc.axes.length := by
  rcases readAxis_cases frame a s with h | ⟨k, h⟩ <;> rw [h]
  · exact setAxis_length a _ s
  · rw [haltLine_length, offerFault_tc]
    exact setAxis_length a _ s

/-- The reading of one axis reaches no other axis's count. -/
theorem invalidOf_readAxis_ne {frame : Option (List TensionReading)} {a b : Axis} {s : State} (h : b ≠ a) :
    invalidOf (readAxis frame s a) b = invalidOf s b := by
  have hset : ∀ f, invalidOf (setAxis a f s) b = invalidOf s b := fun f => by simp only [invalidOf, axisOf_setAxis_ne f h]
  rcases readAxis_cases frame a s with hr | ⟨k, hr⟩ <;> rw [hr]
  · exact hset _
  · rw [invalidOf_haltLine, invalidOf, axisOf, offerFault_tc]
    exact hset _

theorem readAxes_rest {frame : Option (List TensionReading)} {l : List Axis} {b : Axis} (s : State) (h : b ∉ l) :
    invalidOf (l.foldl (readAxis frame) s) b = invalidOf s b := by
  induction l generalizing s with
  | nil => rfl
  | cons a l ih =>
    obtain ⟨hba, hbl⟩ : b ≠ a ∧ b ∉ l := by simpa using h
    exact (ih _ hbl).trans (invalidOf_readAxis_ne hba)

theorem readAxes_length (frame : Option (List TensionReading)) (l : List Axis) (s : State) :
    (l.foldl (readAxis frame) s).tc.axes.length = s.tc.axes.length :=
  foldl_keeps (fun s => s.tc.axes.length) _ (fun s a => readAxis_length frame a s) l s

theorem takeHalt_haltCause (cause : HaltCause) (s : State) : (takeHalt cause s).su.haltCause = s.su.haltCause.or (some cause) := by
  rw [(takeHalt_raises cause s).1.rest]

/-- The line has halted for a lost tension sensor (R122, R123, R132). -/
def LossTaken (cause : Option HaltCause) (s : State) : Prop :=
  s.wd.state = .halted ∧ s.wd.running = 0 ∧ s.tmap.segs = [] ∧ s.su.haltCause = cause.or (some .tensionLoss) ∧
    ∀ x ∈ s.tc.axes, x.state = .off ∧ x.torque = 0

/-- Before a lost sensor of a period is found, the line has not halted. -/
def LossAhead (cause : Option HaltCause) (s : State) : Prop := s.wd.state ≠ .halted ∧ s.su.haltCause = cause

section
variable {cause : Option HaltCause} {s : State}

theorem LossTaken.setAxis (h : LossTaken cause s) (a : Axis) {f : AxisRecord → AxisRecord}
    (hf : ∀ x, (f x).state = x.state ∧ (f x).torque = x.torque) : LossTaken cause (setAxis a f s) := by
  obtain ⟨hst, hrun, hsegs, hc, haxes⟩ := h
  refine ⟨hst, hrun, hsegs, hc, fun x hx => ?_⟩
  rcases mem_modifyNth hx with hx | ⟨y, hy, rfl⟩
  · exact haxes x hx
  · rw [(hf y).1, (hf y).2]
    exact haxes y hy

theorem LossTaken.fault (h : LossTaken cause s) (f : FaultInfo) : LossTaken cause (offerFault f s) := by
  have hcause : (offerFault f s).su.haltCause = s.su.haltCause := by
    rw [offerFault_su]
    exact (withFault_queue _ _ _).2.2
  simpa only [LossTaken, offerFault_frame, hcause] using h

theorem takeReading_state (r : AxisReading) (x : AxisRecord) :
    (takeReading r x).state = x.state ∧ (takeReading r x).torque = x.torque := by
  cases r <;> exact ⟨rfl, rfl⟩

theorem LossTaken.read (h : LossTaken cause s) (frame : Option (List TensionReading)) (a : Axis) :
    LossTaken cause (readAxis frame s a) := by
  have hset := h.setAxis a (takeReading_state (classifyAxis frame a))
  rcases readAxis_cases frame a s with hr | ⟨k, hr⟩ <;> rw [hr]
  · exact hset
  · have hwd : (offerFault (.tensionSensor a k) (Machine.setAxis a (takeReading (classifyAxis frame a)) s)).wd.state = .halted :=
      (hset.fault _).1
    rw [haltLine_halted _ hwd]
    exact (hset.fault _).fault _

/-- The first lost sensor halts a line that has not halted. -/
theorem LossAhead.halts (h : LossAhead cause s) : LossTaken cause (haltLine .tensionLoss s) := by
  obtain ⟨hst, hc⟩ := h
  rw [haltLine_running _ hst]
  have hwd := takeHalt_wd .tensionLoss s
  have hax : (takeHalt .tensionLoss s).tc.axes = s.tc.axes.map axisOff := by simp [takeHalt, mapAxes]
  refine ⟨by rw [hwd], by rw [hwd], by simp [takeHalt, haltMap_empty], ?_, fun x hx => ?_⟩
  · rw [takeHalt_haltCause, hc]
  · rw [hax] at hx
    obtain ⟨y, -, rfl⟩ := List.mem_map.mp hx
    exact ⟨rfl, rfl⟩

theorem LossAhead.fault (h : LossAhead cause s) (f : FaultInfo) : LossAhead cause (offerFault f s) := by
  have hcause : (offerFault f s).su.haltCause = s.su.haltCause := by
    rw [offerFault_su]
    exact (withFault_queue _ _ _).2.2
  simpa only [LossAhead, offerFault_frame, hcause] using h

theorem LossAhead.read (h : LossAhead cause s) (frame : Option (List TensionReading)) (a : Axis) :
    LossAhead cause (readAxis frame s a) ∨ LossTaken cause (readAxis frame s a) := by
  have hset : LossAhead cause (Machine.setAxis a (takeReading (classifyAxis frame a)) s) := h
  rcases readAxis_cases frame a s with hr | ⟨k, hr⟩ <;> rw [hr]
  · exact .inl hset
  · exact .inr (hset.fault _).halts

theorem readAxes_taken (frame : Option (List TensionReading)) (l : List Axis) (h : LossTaken cause s) :
    LossTaken cause (l.foldl (readAxis frame) s) :=
  foldl_law (LossTaken cause) _ (fun _ a hs => hs.read frame a) l h

theorem readAxes_ahead (frame : Option (List TensionReading)) (l : List Axis) (h : LossAhead cause s) :
    LossAhead cause (l.foldl (readAxis frame) s) ∨ LossTaken cause (l.foldl (readAxis frame) s) :=
  foldl_law (fun s => LossAhead cause s ∨ LossTaken cause s) _
    (fun _ a hs => hs.elim (fun h => h.read frame a) (fun h => .inr (h.read frame a))) l (.inl h)

/-- An axis that a halt has taken OFF computes nothing. -/
theorem LossTaken.compute (h : LossTaken cause s) (frame : Option (List TensionReading)) : LossTaken cause (computeAxes frame s) := by
  refine foldl_law (LossTaken cause) _ (fun u a hu => ?_) _ h
  obtain ⟨hst, hrun, hsegs, hc, haxes⟩ := hu
  refine ⟨hst, hrun, hsegs, hc, fun x hx => ?_⟩
  rcases mem_modifyNth hx with hx | ⟨y, hy, rfl⟩
  · exact haxes x hx
  · rw [computeAxis_else (.inl (by rw [(haxes y hy).1]; decide))]
    exact haxes y hy

end

theorem computeAxis_invalid (r : AxisReading) (x : AxisRecord) :
    (computeAxis r x).invalid = x.invalid ∧ (computeAxis r x).lastInvalid = x.lastInvalid := by
  unfold computeAxis
  split <;> exact ⟨rfl, rfl⟩

/-- The part after the readings, once the axes have computed and the strips have been checked. -/
theorem execTensionPeriod_reads {s : State} (hon : s.power.mainOn = true) : execTensionPeriod s = .next (sendFrame
    (checkDeviations s.tc.frame (computeAxes s.tc.frame (allAxes.foldl (readAxis s.tc.frame) { s with tc := { s.tc with frame := none } })))) :=
  whenOn_on hon

theorem invalidOf_compute {frame : Option (List TensionReading)} {s : State} (h : s.tc.axes.length = 4) (a : Axis) :
    invalidOf (computeAxes frame s) a = invalidOf s a := by
  have hax := axisOf_setAxes (g := fun a => computeAxis (classifyAxis frame a)) h allAxes_nodup a
  rw [if_pos (mem_allAxes a)] at hax
  have hcompute : axisOf (computeAxes frame s) a = computeAxis (classifyAxis frame a) (axisOf s a) := hax
  unfold invalidOf
  rw [hcompute, (computeAxis_invalid _ _).1, (computeAxis_invalid _ _).2]

theorem setAxes_rest (g : Axis → AxisRecord → AxisRecord) (l : List Axis) (s : State) :
    (setAxes g l s).su = s.su ∧ (setAxes g l s).wd = s.wd ∧ (setAxes g l s).web = s.web ∧ (setAxes g l s).tmap = s.tmap := by
  rw [(setAxes_eq g l s).1]
  exact ⟨rfl, rfl, rfl, rfl⟩

theorem readAxes_halted (frame : Option (List TensionReading)) (l : List Axis) {s : State} (h : s.wd.state = .halted) :
    (l.foldl (readAxis frame) s).wd = s.wd := by
  refine foldl_law (fun u => u.wd = s.wd) _ (fun u a hu => ?_) l rfl
  rcases readAxis_cases frame a u with hr | ⟨k, hr⟩ <;> rw [hr]
  · exact hu
  · rw [haltLine_halted]
    · simpa using hu
    · simp [hu, h]

/-- A lost sensor in HALTED queues two faults and does nothing else to the Status Unit (R124, R132). -/
theorem readAxes_halted_su {frame : Option (List TensionReading)} {pre post : List Axis} {a : Axis} {k : BadKind} {s : State}
    (hwd : s.wd.state = .halted) (hnodup : (pre ++ a :: post).Nodup) (hk : classifyAxis frame a = .invalid k)
    (h1 : (axisOf s a).invalid = 1) (hpre : NoneLost frame pre s) (hpost : NoneLost frame post s) :
    ((pre ++ a :: post).foldl (readAxis frame) s).su = (offerFault (.laterHalt .tensionLoss) (offerFault (.tensionSensor a k) s)).su := by
  obtain ⟨hp, hap, happ⟩ := List.nodup_append.mp hnodup
  obtain ⟨hapost, hpostnd⟩ := List.nodup_cons.mp hap
  have hapre : a ∉ pre := fun ha => happ a ha a List.mem_cons_self rfl
  have hbefore := fun b (hb : b ∉ pre) => readAxes_rest (frame := frame) s hb
  rw [List.foldl_append, List.foldl_cons]
  rw [readAxes_kept hp hpre] at hbefore ⊢
  obtain ⟨hsu, hwd1, hweb, -⟩ := setAxes_rest (fun a => takeReading (classifyAxis frame a)) pre s
  generalize setAxes (fun a => takeReading (classifyAxis frame a)) pre s = u at *
  have hlost : (axisOf u a).invalid = 1 := (congrArg Prod.fst (hbefore a hapre)).trans h1
  have hpost' : NoneLost frame post (readAxis frame u a) := fun b hb k' hk' => by
    have hba : b ≠ a := fun h => hapost (h ▸ hb)
    have hbp : b ∉ pre := fun h => happ b h b (List.mem_cons_of_mem a hb) rfl
    have hinv := (invalidOf_readAxis_ne (frame := frame) (s := u) hba).trans (hbefore b hbp)
    rw [show (axisOf (readAxis frame u a) b).invalid = (axisOf s b).invalid from congrArg Prod.fst hinv]
    exact hpost b hb k' hk'
  rw [readAxes_kept hpostnd hpost', (setAxes_rest _ _ _).1, readAxis_lost hk hlost, haltLine_halted _ ?_]
  · simp only [offerFault_su, offerFault_frame]
    rw [show (setAxis a (takeReading (.invalid k)) u).su = u.su from rfl, show (setAxis a (takeReading (.invalid k)) u).web = u.web from rfl,
      hsu, hweb]
  · simp [setAxis, hwd1, hwd]

/-- Settles O32: the axes before the lost one, the lost one, and the axes after it, which halt no more than once. -/
theorem lostTensionSensor : Obligations.LostTensionSensor := by
  refine ⟨fun s a k hon hlen hk h1 => ?_, fun a l r hr => ?_⟩
  · obtain ⟨pre, post, hsplit⟩ := List.append_of_mem (mem_allAxes a)
    have hnodup := allAxes_nodup
    rw [hsplit] at hnodup
    obtain ⟨-, hap, happ⟩ := List.nodup_append.mp hnodup
    have hapost : a ∉ post := (List.nodup_cons.mp hap).1
    have hapre : a ∉ pre := fun ha => happ a ha a List.mem_cons_self rfl
    let u : State := { s with tc := { s.tc with frame := none } }
    let v := allAxes.foldl (readAxis s.tc.frame) u
    have hvlen : v.tc.axes.length = 4 := (readAxes_length _ _ u).trans hlen
    have hpre := readAxes_rest (frame := s.tc.frame) u hapre
    have hprelen : (pre.foldl (readAxis s.tc.frame) u).tc.axes.length = 4 := (readAxes_length _ pre u).trans hlen
    have hv : v = post.foldl (readAxis s.tc.frame) (readAxis s.tc.frame (pre.foldl (readAxis s.tc.frame) u) a) := by
      simp only [v, hsplit, List.foldl_append, List.foldl_cons]
    have hone : (axisOf (pre.foldl (readAxis s.tc.frame) u) a).invalid = 1 := (congrArg Prod.fst hpre).trans h1
    have hinv : invalidOf v a = (2, some k) := by
      rw [hv, readAxes_rest _ hapost, readAxis_lost hk hone, invalidOf_haltLine, invalidOf, axisOf, offerFault_tc, ← axisOf,
        axisOf_setAxis_same _ hprelen]
      simp [takeReading, hone]
    have hend : invalidOf (computeAxes s.tc.frame v) a = (2, some k) := (invalidOf_compute hvlen a).trans hinv
    obtain ⟨hsu, hwd, -, -⟩ := setAxes_rest (fun a => computeAxis (classifyAxis s.tc.frame a)) allAxes v
    refine ⟨_, execTensionPeriod_reads hon, ?_⟩
    rw [checkDeviations_eq]
    show (computeAxes s.tc.frame v).wd.state = .halted ∧ (axisOf (computeAxes s.tc.frame v) a).invalid = 2 ∧
      (axisOf (computeAxes s.tc.frame v) a).lastInvalid = some k ∧ _ ∧ _
    have htaken : s.wd.state ≠ .halted → LossTaken s.su.haltCause (computeAxes s.tc.frame v) := fun hst => by
      refine LossTaken.compute ?_ _
      rw [hv]
      refine readAxes_taken _ post ?_
      rcases readAxes_ahead s.tc.frame pre (s := u) (cause := s.su.haltCause) ⟨hst, rfl⟩ with hahead | htaken
      · rw [readAxis_lost hk hone]
        exact (LossAhead.fault (show LossAhead s.su.haltCause (setAxis a _ _) from hahead) _).halts
      · exact htaken.read _ a
    refine ⟨?_, congrArg Prod.fst hend, congrArg Prod.snd hend, fun hst => ?_, fun hst hothers => ?_⟩
    · by_cases hst : s.wd.state = .halted
      · exact (congrArg (·.state) (hwd.trans (readAxes_halted s.tc.frame allAxes (s := u) hst))).trans hst
      · exact (htaken hst).1
    · obtain ⟨-, hrun, hsegs, hcause, haxes⟩ := htaken hst
      refine ⟨hrun, ?_, hcause, haxes⟩
      show (computeAxes s.tc.frame v).tmap.segs.map _ = []
      rw [hsegs]
      rfl
    · have hkept : ∀ l, a ∉ l → NoneLost s.tc.frame l u := fun l hl b hb k' hk' =>
        hothers b k' (fun h => hl (h ▸ hb)) hk'
      have hfaults : v.su = _ := (congrArg (fun l => (l.foldl (readAxis s.tc.frame) u).su) hsplit).trans
        (readAxes_halted_su (s := u) hst hnodup hk h1 (hkept pre hapre) (hkept post hapost))
      show (computeAxes s.tc.frame v).su.faults = _ ∧ (computeAxes s.tc.frame v).su.haltCause = _
      rw [show (computeAxes s.tc.frame v).su = v.su from hsu, hfaults]
      simp only [offerFault_su, offerFault_frame]
      exact ⟨rfl, (withFault_queue _ _ _).2.2.trans (withFault_queue _ _ _).2.2⟩
  · have hnth : nth l a.place ⟨false, 0⟩ = r := by simp [nth, hr]
    refine ⟨rfl, fun hv => ?_, fun hv hout => ?_, fun hv n hn hle => ?_⟩
    · simp [classifyAxis, hnth, hv]
    · have hno : ¬(0 ≤ r.tension ∧ r.tension ≤ 4000) := by omega
      simp only [classifyAxis, hnth, hv, hno, Bool.not_true, Bool.false_eq_true, if_false]
    · have hin : 0 ≤ r.tension ∧ r.tension ≤ 4000 := by omega
      have hnat : r.tension.toNat = n := by omega
      simp only [classifyAxis, hnth, hv, hin, hnat, Bool.not_true, Bool.false_eq_true, if_false, and_self, if_true]

end Sys2Proof.Machine
end

section

/-! PROOFS. The torque of an unwind that is HANDED_OVER, through every command (R141, R149). -/

namespace Sys2Proof.Machine

/-- An axis that has kept its torque and integral or been taken OFF, and that stays OFF. -/
def Turned (x y : AxisRecord) : Prop :=
  (y.state = .off ∨ y.torque = x.torque ∧ y.integ = x.integ) ∧ (x.state = .off → y.state = .off)

theorem turned_refl (x : AxisRecord) : Turned x x := ⟨.inr ⟨rfl, rfl⟩, id⟩

theorem Turned.trans {x y z : AxisRecord} (h : Turned x y) (h' : Turned y z) : Turned x z := by
  obtain ⟨hval, hoff⟩ := h
  obtain ⟨hval', hoff'⟩ := h'
  refine ⟨?_, fun hx => hoff' (hoff hx)⟩
  rcases hval' with hz | ⟨ht, hi⟩
  · exact .inl hz
  · rcases hval with hy | ⟨ht0, hi0⟩
    · exact .inl (hoff' hy)
    · exact .inr ⟨ht.trans ht0, hi.trans hi0⟩

/-- The axes have turned from a list of records into another. -/
def TurnedFrom (l m : List AxisRecord) : Prop := List.Forall₂ Turned l m

theorem turnedFrom_refl (l : List AxisRecord) : TurnedFrom l l := by
  induction l with
  | nil => exact List.Forall₂.nil
  | cons x l ih => exact List.Forall₂.cons (turned_refl x) ih

section
variable {l : List AxisRecord} {s : State}

theorem TurnedFrom.map {m : List AxisRecord} (h : TurnedFrom l m) {f : AxisRecord → AxisRecord} (hf : ∀ x, Turned x (f x)) :
    TurnedFrom l (m.map f) := by
  induction h with
  | nil => exact List.Forall₂.nil
  | cons hx _ ih => exact List.Forall₂.cons (hx.trans (hf _)) ih

theorem TurnedFrom.modify {m : List AxisRecord} (h : TurnedFrom l m) (n : Nat) {f : AxisRecord → AxisRecord} (hf : ∀ x, Turned x (f x)) :
    TurnedFrom l (modifyNth m n f) := by
  induction h generalizing n with
  | nil => exact List.Forall₂.nil
  | cons hx hrest ih =>
    cases n with
    | zero => exact List.Forall₂.cons (hx.trans (hf _)) hrest
    | succ n => exact List.Forall₂.cons hx (ih n)

theorem TurnedFrom.setAxis (h : TurnedFrom l s.tc.axes) (a : Axis) {f : AxisRecord → AxisRecord} (hf : ∀ x, Turned x (f x)) :
    TurnedFrom l (setAxis a f s).tc.axes := h.modify a.place hf

/-! ## What turns an axis -/

theorem handoff_turned (g : Segment) (h : TurnedFrom l s.tc.axes) : TurnedFrom l (handoff g s).tc.axes := by
  have hset : ∀ f id tag t x, Turned x (handoffAxis f id tag t x) := fun f id tag t x => ⟨.inr ⟨rfl, rfl⟩, fun h => h⟩
  unfold handoff
  (repeat' split)
  · exact (h.setAxis _ (hset _ _ _ _)).setAxis _ (hset _ _ _ _)
  · exact h
  · exact h

theorem axisHandOver_turned (x : AxisRecord) : Turned x (axisHandOver x) := by
  unfold axisHandOver
  split
  · rename_i hx
    refine ⟨.inr ⟨rfl, rfl⟩, fun hoff => ?_⟩
    simp [hoff] at hx
  · exact turned_refl x

theorem axisTakeBack_turned (x : AxisRecord) : Turned x (axisTakeBack x) := by
  unfold axisTakeBack
  split
  · rename_i hx
    refine ⟨.inr ⟨rfl, rfl⟩, fun hoff => ?_⟩
    simp [hoff] at hx
  · exact turned_refl x

theorem haltLine_turned (cause : HaltCause) (h : TurnedFrom l s.tc.axes) : TurnedFrom l (haltLine cause s).tc.axes := by
  rcases haltLine_axes cause s with hax | hax <;> rw [hax]
  · exact h
  · exact h.map fun x => ⟨.inl rfl, fun _ => rfl⟩

theorem ackActive_turned (a : Unwind) (h : TurnedFrom l s.tc.axes) : TurnedFrom l (ackActive a s).tc.axes := by
  unfold ackActive
  dsimp only
  split
  · exact TurnedFrom.setAxis (by simpa using h) _ axisHandOver_turned
  · simpa using h

theorem ackInactive_turned (a : Unwind) (h : TurnedFrom l s.tc.axes) : TurnedFrom l (ackInactive a s).tc.axes := by
  unfold ackInactive
  split
  · rw [completeSplice_axes]
    exact h.setAxis _ axisTakeBack_turned
  · exact h

theorem inputEdge_turned (i : LineInput) (active : Bool) (s : State) (h : TurnedFrom l s.tc.axes) :
    TurnedFrom l (inputEdge i active s).tc.axes :=
  inputEdge_law (fun s => TurnedFrom l s.tc.axes) (fun cause _ hs => haltLine_turned cause hs) (fun a s hs => by simpa using hs)
    (fun a _ hs => ackActive_turned a hs) (fun a _ hs => ackInactive_turned a hs) i active h

theorem parityHalt_turned (marks : Byte) (h : TurnedFrom l s.tc.axes) : TurnedFrom l (parityHalt marks s).tc.axes :=
  parityHalt_law (fun s => TurnedFrom l s.tc.axes) (fun cause _ hs => haltLine_turned cause hs) marks h

theorem tripHalts_turned (c : Settings) (n : Nat) (h : TurnedFrom l s.tc.axes) : TurnedFrom l (tripHalts c n s).tc.axes :=
  tripHalts_law (fun s => TurnedFrom l s.tc.axes) (fun cause _ hs => haltLine_turned cause hs) c n h

theorem takeReading_turned (r : AxisReading) (x : AxisRecord) : Turned x (takeReading r x) := by
  cases r <;> exact ⟨.inr ⟨rfl, rfl⟩, id⟩

theorem readAxis_turned (frame : Option (List TensionReading)) (a : Axis) (h : TurnedFrom l s.tc.axes) :
    TurnedFrom l (readAxis frame s a).tc.axes :=
  readAxis_law (fun s => TurnedFrom l s.tc.axes) (fun cause _ hs => haltLine_turned cause hs)
    (fun a r _ hs => hs.setAxis a (takeReading_turned r)) (fun f s hs => by simpa using hs) frame a h

theorem createEntry_turned (id node cell k : Nat) (c : StoreCell) (h : TurnedFrom l s.tc.axes) :
    TurnedFrom l (createEntry id node cell k c s).tc.axes := by
  unfold createEntry
  (repeat' split)
  · exact h
  · exact parityHalt_turned _ (by simpa using h)
  · exact h

theorem serveFill_turned (r : FillRequest) (live : Bool) (c : StoreCell) (h : TurnedFrom l s.tc.axes) :
    TurnedFrom l (serveFill r live c s).tc.axes := by
  refine parityHalt_turned _ ?_
  (repeat' split) <;> simpa using h

theorem setupCard_turned (c : CurrentCard) (h : TurnedFrom l s.tc.axes) : TurnedFrom l (setupCard c s).tc.axes := by
  unfold setupCard
  dsimp only
  (repeat' split)
  · simpa using h
  · simpa using h
  · have hsettled : TurnedFrom l (settled (parseSettings c.image) s).tc.axes := h.map fun x => ⟨.inr ⟨rfl, rfl⟩, id⟩
    have hedges := polarityEdges_law (fun s => TurnedFrom l s.tc.axes) inputEdge_turned s hsettled
    rw [← takeSettings_eq] at hedges
    simpa [applySetup] using hedges

end

/-! ## Every command -/

/-- The commands that may set the torques and integrals of axes anew: resets, CLEAR and the tension period. -/
def setsTorques : Instr → Bool
  | .mainPowerOnReset .. | .softReset | .clear | .tensionPeriod => true
  | _ => false

theorem discardOldest_tc (s : State) : (discardOldest s).tc = s.tc := by
  unfold discardOldest
  dsimp only
  (repeat' split) <;> simp

theorem controlWrite_tc (run : Bool) (interval : BitVec 8) (s : State) : (controlWrite run interval s).tc = s.tc :=
  (controlWrite_line run interval s).2.1

/-- Every command but those that set the torques anew keeps each axis's torque and integral or takes the axis OFF. -/
theorem exec_turned {i : Instr} {l : List AxisRecord} {s t : State} (hs : TurnedFrom l s.tc.axes) (hi : setsTorques i = false)
    (h : exec i s = .next t) : TurnedFrom l t.tc.axes := by
  let P := fun s : State => TurnedFrom l s.tc.axes
  have hfield : ∀ c, Dispatching .drive c s → P (failField 16 s) := fun c _ => by simpa [P] using hs
  unfold exec at h
  cases i with
  | mainPowerOnReset | softReset | clear | tensionPeriod => simp [setsTorques] at hi
  -- Supplies and registers.
  | keepAlivePowerOnReset | mainSupplyLoss =>
    cases h
    exact hs
  | linkReset => exact whenOn_law P h hs fun _ => by simpa [P, linkDown] using hs
  | runSet | runClear | watchInterval => exact whenOn_law P h hs fun _ => by simpa [P, controlWrite_tc] using hs
  | registerWrite => exact whenOn_law P h hs fun _ => hs
  | irqEnable => exact whenOn_law P h hs fun _ => by simpa [P] using hs
  | eventAck =>
    refine whenOn_law P h hs fun _ => ?_
    dsimp only
    split
    · simpa [P, discardOldest_tc] using hs
    · exact hs
  | bookBase =>
    refine whenOn_law P h hs fun _ => ?_
    dsimp only
    (repeat' split) <;> simpa [P] using hs
  | wake | watchTimerExpiry | statusPageWrite =>
    refine whenOn_law P h hs fun _ => ?_
    (repeat' split) <;> simpa [P] using hs
  -- The chain of cards.
  | chainReadComplete link =>
    refine whenOn_law P h hs fun _ => onChainRead_law P _ hs (fun g t ht => ht) (fun l t ht => by simpa [P] using ht) fun t ht => ?_
    dsimp only
    split <;> simpa [P] using ht
  | cardReadError link | chainReadTimeout link =>
    refine whenOn_law P h hs fun _ => onChainRead_law P _ hs (fun g t ht => ht) (fun l t ht => by simpa [P] using ht) fun t ht => ?_
    dsimp only
    (repeat' split) <;> simpa [P] using ht
  | cardReoffer =>
    refine whenOn_law P h hs fun _ => ?_
    split <;> simpa [P] using hs
  | heat | fabric | load | print | splice | fence | drop => exact onDispatch_law P h hs fun c _ => by simpa [P] using hs
  | patch =>
    refine onDispatch_law P h hs fun c _ => ?_
    split <;> simpa [P] using hs
  | setup => exact onDispatch_law P h hs fun c _ => setupCard_turned c hs
  | start | speed | stop =>
    refine onDrive_law P h hs hfield fun c _ => ?_
    simpa [P] using hs
  | halt => exact onDrive_law P h hs hfield fun c _ => by simpa [P] using haltLine_turned .host hs
  -- The web and the line.
  | positionUpdate => exact whenOn_law P h hs fun _ => by simpa [P] using hs
  | backTravel | heaterWindow | drumEncoderReport => exact whenOn_law P h hs fun _ => hs
  | tensionFrame | zoneFrame | heaterOnTimeEnd | rawLevelChange =>
    refine whenOn_law P h hs fun _ => ?_
    split <;> exact hs
  | leadAtNip =>
    refine whenOn_law P h hs fun _ => ?_
    split
    · exact hs
    · exact handoff_turned _ (by simpa using hs)
  | trailAtNip | leadExit | trailExit | jointLeavesWrap | fabricJointDue | rollCountRequest | drumTravelIncrement =>
    refine whenOn_law P h hs fun _ => ?_
    split <;> simpa [P] using hs
  | handoverLimit =>
    refine whenOn_law P h hs fun _ => ?_
    split
    · exact haltLine_turned .handover (by simpa using hs)
    · exact hs
  | spliceTimeout =>
    refine whenOn_law P h hs fun _ => ?_
    dsimp only
    (repeat' split) <;> simpa [P] using hs
  | inputFilterExpiry input =>
    refine whenOn_law P h hs fun _ => ?_
    dsimp only
    (repeat' split)
    · exact hs
    · exact hs
    · exact inputEdge_turned input _ _ hs
  | rampPeriod =>
    refine whenOn_law P h hs fun _ => ?_
    dsimp only
    (repeat' split) <;> simpa [P] using hs
  | heatPeriod =>
    refine whenOn_law P h hs fun _ => ?_
    cases hc : s.setup with
    | none => exact hs
    | some c =>
      dsimp only
      have htrip : ∀ n t, P t → P (touchIfMoved s.hc.zones (tripHalts c n t)) := fun n t ht => by
        simpa [P] using tripHalts_turned c n ht
      split <;> exact htrip _ _ (by simpa [P] using hs)
  -- The Print Engine, the Profile Store and the Shadow Patch Buffer.
  | barReport | barSilent | freeing | lookup | printStart | rasterReadComplete | editApply | loaderWriteComplete
  | drainWriteComplete =>
    refine whenOn_law P h hs fun _ => ?_
    (repeat' split) <;> simpa [P] using hs
  | lineComputationBegin | lineBoundary | lineDue =>
    refine whenOn_law P h hs fun _ => ?_
    dsimp only
    (repeat' split) <;> simpa [P] using hs
  | lookupFillComplete damage =>
    refine whenOn_law P h hs fun _ => ?_
    split
    · rename_i r live _
      have hread : P (readCell r.cell damage (portDone s)).2 := hs
      have hfill := serveFill_turned r live (readCell r.cell damage (portDone s)).1 hread
      dsimp only
      split <;> simpa [P] using hfill
    · exact hs
  | creationReadComplete damage =>
    refine whenOn_law P h hs fun _ => ?_
    split
    · rename_i id node cell k live _
      have hread : P (readCell cell damage (portDone s)).2 := hs
      have hentry := createEntry_turned id node cell k (readCell cell damage (portDone s)).1 hread
      dsimp only
      split
      · simpa [P] using hentry
      · simpa [P] using hread
    · exact hs
  | rasterReadError | rasterReadTimeout | loadReadError | loadReadTimeout | patchReadError | editListReadTimeout =>
    exact whenOn_law P h hs fun _ => by simpa [P] using hs
  | loadReadComplete =>
    exact whenOn_law P h hs fun _ => onLoadRead_law P hs (fun _ => hs) fun j _ _ => by simpa [P] using hs
  | editListReadComplete =>
    refine whenOn_law P h hs fun _ => onListRead_law P hs (fun _ => hs) fun p _ _ => ?_
    dsimp only
    (repeat' split) <;> simpa [P] using hs

theorem TurnedFrom.nth {l m : List AxisRecord} (h : TurnedFrom l m) (n : Nat) : Turned (nth l n resetAxis) (nth m n resetAxis) := by
  unfold Machine.nth
  induction h generalizing n with
  | nil => exact turned_refl _
  | cons hx _ ih =>
    cases n with
    | zero => exact hx
    | succ n => exact ih n

/-- An unwind that is HANDED_OVER before and after has kept its torque and integral (R141). -/
def KeptTorque (s : State) (a : Axis) (t : State) : Prop :=
  (axisOf s a).state = .handedOver → (axisOf t a).state = .handedOver →
    (axisOf t a).torque = (axisOf s a).torque ∧ (axisOf t a).integ = (axisOf s a).integ

theorem TurnedFrom.kept {s t : State} (h : TurnedFrom s.tc.axes t.tc.axes) (a : Axis) : KeptTorque s a t := fun _ ht => by
  rcases (h.nth a.place).1 with hoff | hsame
  · rw [axisOf, hoff] at ht
    cases ht
  · exact hsame

theorem keptTorque_congr {s t u : State} {a : Axis} (h : KeptTorque s a t) (hax : u.tc.axes = t.tc.axes) : KeptTorque s a u := by
  simpa only [KeptTorque, axisOf, hax] using h

/-- No axis of a part is HANDED_OVER of which every record is in another state. -/
theorem keptTorque_of_forall {s t : State} {a : Axis} (h : ∀ x ∈ t.tc.axes, x.state ≠ .handedOver) : KeptTorque s a t := fun _ ht => by
  unfold axisOf Machine.nth at ht
  cases hx : t.tc.axes[a.place]? with
  | none =>
    rw [hx] at ht
    cases ht
  | some x =>
    rw [hx] at ht
    exact absurd ht (h x (List.mem_of_getElem? hx))

theorem clearCard_kept (c : CurrentCard) (s : State) (a : Axis) : KeptTorque s a (clearCard c s) := by
  have hself : KeptTorque s a s := fun _ _ => ⟨rfl, rfl⟩
  have hclear : KeptTorque s a (clearHalt s) := keptTorque_of_forall fun x hx => by
    have hax : (clearHalt s).tc.axes = s.tc.axes.map axisActivate := by simp [clearHalt, mapAxes, setDrive]
    rw [hax] at hx
    obtain ⟨y, -, rfl⟩ := List.mem_map.mp hx
    exact fun h => by cases h
  unfold clearCard
  dsimp only
  (repeat' split)
  · exact keptTorque_congr hself (by simp)
  · exact keptTorque_congr hself (by simp)
  · exact keptTorque_congr hclear (by simp)
  · exact keptTorque_congr hclear (by simp)

theorem axisOf_setAxis_cases (a b : Axis) (f : AxisRecord → AxisRecord) (s : State) :
    axisOf (setAxis b f s) a = axisOf s a ∨ axisOf (setAxis b f s) a = f (axisOf s a) := by
  by_cases hab : a = b
  · subst hab
    unfold axisOf setAxis Machine.nth
    dsimp only
    rw [modifyNth_getElem?_eq]
    cases s.tc.axes[a.place]? with
    | none => exact .inl rfl
    | some x => exact .inr rfl
  · exact .inl (axisOf_setAxis_ne f hab)

theorem computeAxis_state (r : AxisReading) (x : AxisRecord) : (computeAxis r x).state = x.state := by
  unfold computeAxis
  split <;> rfl

/-- A tension period computes ACTIVE axes alone. -/
theorem tensionPeriod_kept {s t : State} (h : execTensionPeriod s = .next t) (a : Axis) : KeptTorque s a t := by
  have hself : KeptTorque s a s := fun _ _ => ⟨rfl, rfl⟩
  refine whenOn_law (KeptTorque s a) h hself fun _ => ?_
  dsimp only
  have hread : TurnedFrom s.tc.axes (allAxes.foldl (readAxis s.tc.frame) { s with tc := { s.tc with frame := none } }).tc.axes :=
    foldl_law (fun u => TurnedFrom s.tc.axes u.tc.axes) _ (fun u b hu => readAxis_turned _ b hu) _ (turnedFrom_refl _)
  have hcompute : KeptTorque s a (computeAxes s.tc.frame (allAxes.foldl (readAxis s.tc.frame) { s with tc := { s.tc with frame := none } })) := by
    refine foldl_law (KeptTorque s a) _ (fun u b hu => ?_) _ (hread.kept a)
    intro hs ht
    rcases axisOf_setAxis_cases a b (computeAxis (classifyAxis s.tc.frame b)) u with hax | hax <;> rw [hax] at ht ⊢
    · exact hu hs ht
    · by_cases hact : (axisOf u a).state = .active
      · rw [computeAxis_state, hact] at ht
        cases ht
      · rw [computeAxis_else (.inl hact)] at ht ⊢
        exact hu hs ht
  exact keptTorque_congr hcompute (by simp [checkDeviations_eq])

theorem powerOn_axes (z st : Bool) (s : State) : (powerOn z st s).tc.axes = List.replicate 4 resetAxis := rfl

theorem softReset_axes (s : State) : (softReset s).tc.axes = List.replicate 4 resetAxis := rfl

/-- Settles O33: the commands that set torques anew leave no axis HANDED_OVER or compute ACTIVE ones, and the others turn no torque. -/
theorem handedOverTorqueIsHeld : Obligations.HandedOverTorqueIsHeld := by
  intro i s t a h
  have hself : KeptTorque s a s := fun _ _ => ⟨rfl, rfl⟩
  cases hi : setsTorques i with
  | false => exact (exec_turned (turnedFrom_refl _) hi h).kept a
  | true =>
    have hreset : ∀ u : State, u.tc.axes = List.replicate 4 resetAxis → KeptTorque s a u := fun u hu =>
      keptTorque_of_forall fun x hx => by
        rw [hu] at hx
        rw [List.eq_of_mem_replicate hx]
        decide
    cases i with
    | mainPowerOnReset z st =>
      cases h
      refine hreset _ ?_
      rw [raiseLost_eq, resetFrames_eq]
      exact powerOn_axes z st s
    | softReset =>
      have h' : execSoftReset s = .next t := h
      refine whenOn_law (KeptTorque s a) h' hself fun _ => hreset _ ?_
      rw [resetFrames_eq]
      exact softReset_axes s
    | clear =>
      exact onDrive_law (KeptTorque s a) h hself (fun c _ => keptTorque_congr hself (by simp)) fun c _ => clearCard_kept c s a
    | tensionPeriod => exact tensionPeriod_kept h a
    | _ => simp [setsTorques] at hi

end Sys2Proof.Machine
end

section

/-! PROOFS. The line inputs: their filter and its edges, the requests that they and the roll counters make, and the edges that halt (R122,
R145 to R147, R176). -/

namespace Sys2Proof.Machine

/-! ## The records of the inputs -/

theorem inputIndex_injective {i j : LineInput} (h : inputIndex i = inputIndex j) : i = j := by
  revert h
  cases i <;> cases j <;> decide

theorem inputIndex_lt (i : LineInput) : inputIndex i < 8 := by cases i <;> decide

section
variable {s : State}

theorem inputOf_congr {t : State} (h : t.su.inputs = s.su.inputs) (i : LineInput) : inputOf t i = inputOf s i := by
  simp only [inputOf, h]

theorem inputOf_setInput_same (h : s.su.inputs.length = 8) (i : LineInput) (f : InputRecord → InputRecord) :
    inputOf (setInput i f s) i = f (inputOf s i) := by
  obtain ⟨r, hr⟩ : ∃ r, s.su.inputs[inputIndex i]? = some r :=
    ⟨_, List.getElem?_eq_getElem (by rw [h]; exact inputIndex_lt i)⟩
  simp [inputOf, setInput, nth, modifyNth_getElem?_eq, hr]

theorem inputOf_setInput_ne {i j : LineInput} (h : j ≠ i) (f : InputRecord → InputRecord) : inputOf (setInput i f s) j = inputOf s j := by
  have hne : inputIndex j ≠ inputIndex i := fun he => h (inputIndex_injective he)
  simp only [inputOf, nth, setInput, modifyNth_getElem?_ne hne]

/-- The raw level of an input has held 2 ms and is its filtered level (R176). -/
def filtered (i : LineInput) (s : State) : State := setInput i (fun r => { r with filtering := false, level := some r.raw }) s

theorem filtered_eq (i : LineInput) (s : State) : filtered i s = { s with su := { s.su with inputs := (filtered i s).su.inputs } } := rfl

/-! ## The filter -/

theorem exec_rawLevelChange_same {i : LineInput} {high : Bool} (hon : s.power.mainOn = true) (h : (inputOf s i).raw = high) :
    exec (.rawLevelChange i high) s = .next s :=
  (whenOn_on hon : execRawLevelChange i high s = _).trans (congrArg _ (if_pos h))

theorem exec_rawLevelChange_new {i : LineInput} {high : Bool} (hon : s.power.mainOn = true) (h : (inputOf s i).raw ≠ high) :
    exec (.rawLevelChange i high) s = .next (setInput i (fun r => { r with raw := high, filtering := true }) s) :=
  (whenOn_on hon : execRawLevelChange i high s = _).trans (congrArg _ (if_neg h))

theorem exec_filterExpiry_idle {i : LineInput} (hon : s.power.mainOn = true) (h : (inputOf s i).filtering = false) :
    exec (.inputFilterExpiry i) s = .next s :=
  (whenOn_on hon : execInputFilterExpiry i s = _).trans (congrArg _ (if_pos (by simp [h])))

/-- What the level that has held does: the first level and the level that stood are no edge (R176). -/
theorem exec_filterExpiry {i : LineInput} (hon : s.power.mainOn = true) (h : (inputOf s i).filtering = true) :
    exec (.inputFilterExpiry i) s = .next (if (inputOf s i).level.isNone || (inputOf s i).level == some (inputOf s i).raw then filtered i s
      else inputEdge i (decide ((inputOf s i).raw = (inputOf s i).activeHigh)) (filtered i s)) :=
  (whenOn_on hon : execInputFilterExpiry i s = _).trans (congrArg _ (if_neg (by simp [h])))

theorem exec_filterExpiry_quiet {i : LineInput} (hon : s.power.mainOn = true) (h : (inputOf s i).filtering = true)
    (hl : (inputOf s i).level = none ∨ (inputOf s i).level = some (inputOf s i).raw) :
    exec (.inputFilterExpiry i) s = .next (filtered i s) := by
  rw [exec_filterExpiry hon h, if_pos]
  rcases hl with hl | hl <;> simp [hl]

/-- A level that has changed is an edge, to active where it equals the active level (R176). -/
theorem exec_filterExpiry_edge {i : LineInput} {lvl : Bool} (hon : s.power.mainOn = true) (h : (inputOf s i).filtering = true)
    (hl : (inputOf s i).level = some lvl) (hr : (inputOf s i).raw = !lvl) :
    exec (.inputFilterExpiry i) s = .next (inputEdge i (decide ((inputOf s i).activeHigh = !lvl)) (filtered i s)) := by
  rw [exec_filterExpiry hon h, hl, hr, if_neg (by cases lvl <;> decide)]
  exact congrArg (fun b => Host.Outcome.next (inputEdge i b _)) (decide_eq_decide.mpr eq_comm)

/-! ## The edges that halt -/

/-- An edge reaches the Status Unit by reports alone: no input's record. -/
theorem inputEdge_inputs (i : LineInput) (active : Bool) (s : State) : (inputEdge i active s).su.inputs = s.su.inputs := by
  have hhalt : ∀ (c : HaltCause) u, u.su.inputs = s.su.inputs → (haltLine c u).su.inputs = s.su.inputs := fun c u hu => by
    by_cases hw : u.wd.state = .halted
    · rw [haltLine_halted c hw, offerFault_su]
      unfold Status.withFault
      split <;> exact hu
    · rw [haltLine_running c hw, (takeHalt_raises c u).1.rest]
      exact hu
  refine inputEdge_law (fun t => t.su.inputs = s.su.inputs) hhalt (fun a u hu => ?_) (fun a u hu => ?_) (fun a u hu => ?_) i active rfl
  · rw [(autoRequest_reported a .rollEnd (u := u.su) .refl).inputs]
    exact hu
  · unfold ackActive
    dsimp only
    split
    · simpa using hu
    · rw [(offerFault_reported _ (u := u.su) .refl).inputs]
      exact hu
  · unfold ackInactive
    split
    · rw [(completeSplice_reported a (u := u.su) .refl).inputs]
      exact hu
    · exact hu

/-- An input of which an edge to inactive does nothing (chapter 11, LINE INPUTS). -/
theorem inputEdge_inactive {i : LineInput} (h : i ≠ .paperSpliceAck ∧ i ≠ .fabricSpliceAck) (s : State) : inputEdge i false s = s := by
  obtain ⟨hp, hf⟩ := h
  cases i
  case paperSpliceAck => exact absurd rfl hp
  case fabricSpliceAck => exact absurd rfl hf
  all_goals rfl

/-- The inputs that halt, each with its cause (R122). -/
def haltInputs : List (LineInput × HaltCause) :=
  [(.paperBreak, .paperBreak), (.fabricBreak, .fabricBreak), (.estop, .estop), (.guard, .guard)]

theorem inputEdge_halts {i : LineInput} {cause : HaltCause} (hi : (i, cause) ∈ haltInputs)
    (hg : i = .guard → s.wd.state ≠ .idle ∧ haltOnGuard s = true) : inputEdge i true s = haltLine cause s := by
  simp only [haltInputs, List.mem_cons, Prod.mk.injEq, List.not_mem_nil, or_false] at hi
  rcases hi with ⟨rfl, rfl⟩ | ⟨rfl, rfl⟩ | ⟨rfl, rfl⟩ | ⟨rfl, rfl⟩
  · rfl
  · rfl
  · rfl
  · obtain ⟨hst, hon⟩ := hg rfl
    exact if_pos (by simp [hst, hon])

theorem inputEdge_guard_quiet (h : s.wd.state = .idle ∨ haltOnGuard s = false) : inputEdge .guard true s = s := by
  refine if_neg ?_
  rcases h with h | h <;> simp [h]

theorem takeHalt_tmap (cause : HaltCause) (s : State) : (takeHalt cause s).tmap = ⟨[], s.tmap.joints⟩ := by
  have hmap : ∀ u, (haltMap u).tmap = ⟨[], u.tmap.joints⟩ := fun u => by
    have hsegs := haltMap_empty u
    have hjoints := (haltMap_tmap u).1
    cases htm : (haltMap u).tmap
    simp_all
  simp [takeHalt, hmap]

theorem takeHalt_axes (cause : HaltCause) (s : State) : (takeHalt cause s).tc.axes = s.tc.axes.map axisOff := by
  simp [takeHalt, mapAxes]

theorem takeHalt_axesOff (cause : HaltCause) (s : State) : ∀ x ∈ (takeHalt cause s).tc.axes, x.state = .off ∧ x.torque = 0 := by
  rw [takeHalt_axes]
  intro x hx
  obtain ⟨y, -, rfl⟩ := List.mem_map.mp hx
  exact ⟨rfl, rfl⟩

theorem endJob_queue (s : State) : (endJob s).pe.queue = s.pe.queue := by
  unfold endJob
  split
  · rfl
  · simp

theorem takeHalt_queue (cause : HaltCause) (s : State) : (takeHalt cause s).pe.queue = s.pe.queue := by
  have htouch : ∀ u, (touchStart u).pe.queue = u.pe.queue := fun u => by
    obtain ⟨hold, first, h⟩ := touchStart_eq u
    rw [h]
  have habandon : ∀ u, (abandonLine u).pe.queue = u.pe.queue := fun u => by
    unfold abandonLine setJob
    split <;> simp
  simp [takeHalt, htouch, haltPrint, endJob_queue, habandon, reportStopped]

/-- What a later halt cause does beside its fault (R124). -/
theorem haltLine_later (cause : HaltCause) (h : s.wd.state = .halted) :
    haltLine cause s = { s with su := (haltLine cause s).su, ports := (haltLine cause s).ports } := by
  rw [haltLine_halted cause h]
  obtain ⟨p, he, -⟩ := offerFault_eq (.laterHalt cause) s
  rw [he]

end

theorem offerFault_wd (f : FaultInfo) (s : State) : (offerFault f s).wd = s.wd := by simp

/-- A fault finds the queue and the numbers alone. -/
theorem offerFault_faults_congr {s t : State} (f : FaultInfo) (hq : t.su.faults = s.su.faults) (hn : t.su.faultSeq = s.su.faultSeq)
    (hpos : t.web.pos = s.web.pos) : (offerFault f t).su.faults = (offerFault f s).su.faults := by
  rw [(offerFault_queue f t).1, (offerFault_queue f s).1, hq, hn, hpos]

/-- Settles O38: the equations of the two commands, and the two outcomes of a halt cause. -/
theorem inputFilterAndHaltEdges : Obligations.InputFilterAndHaltEdges := by
  refine ⟨fun i s hon hlen => ⟨fun high => exec_rawLevelChange_same hon, fun high hne => ?_, exec_filterExpiry_idle hon, fun hf => ?_⟩,
    fun i cause lvl s hon hlen hi hf hl hr => ?_⟩
  · exact ⟨_, exec_rawLevelChange_new hon hne, rfl, inputOf_setInput_same hlen i _, fun j hj => inputOf_setInput_ne hj _⟩
  · refine ⟨_, exec_filterExpiry hon hf, ?_, fun j hj => ?_, fun hq => ?_⟩
    · refine (inputOf_congr ?_ i).trans (inputOf_setInput_same (f := fun r => { r with filtering := false, level := some r.raw }) hlen i)
      split
      · rfl
      · exact inputEdge_inputs i _ _
    · refine (inputOf_congr ?_ j).trans (inputOf_setInput_ne hj fun r => { r with filtering := false, level := some r.raw })
      split
      · rfl
      · exact inputEdge_inputs i _ _
    · have hquiet := exec_filterExpiry_quiet hon hf hq
      rw [exec_filterExpiry hon hf] at hquiet
      rw [Host.Outcome.next.inj hquiet]
      exact filtered_eq i s
  · refine ⟨_, exec_filterExpiry_edge hon hf hl hr, fun hlow => ?_, fun hhigh hguard => ?_, fun hig hhigh hq => ?_⟩
    · have hne : i ≠ .paperSpliceAck ∧ i ≠ .fabricSpliceAck := by
        constructor <;> rintro rfl <;> simp at hi
      rw [hlow, decide_eq_false (by cases lvl <;> decide), inputEdge_inactive hne]
      exact filtered_eq i s
    · have hedge : inputEdge i (decide ((inputOf s i).activeHigh = !lvl)) (filtered i s) = haltLine cause (filtered i s) := by
        rw [decide_eq_true hhigh]
        exact inputEdge_halts (s := filtered i s) hi hguard
      rw [hedge]
      refine ⟨?_, fun hrun => ?_, fun hhalted => ?_⟩
      · by_cases hw : s.wd.state = .halted
        · rw [haltLine_halted (s := filtered i s) cause hw, offerFault_wd]
          exact hw
        · rw [haltLine_running (s := filtered i s) cause hw, takeHalt_wd]
      · rw [haltLine_running (s := filtered i s) cause hrun]
        exact ⟨takeHalt_wd cause _, by rw [takeHalt_tmap], by rw [takeHalt_tmap]; rfl, takeHalt_haltCause cause _,
          (takeHalt_raises cause _).2, takeHalt_queue cause _, takeHalt_axesOff cause _⟩
      · refine ⟨(haltLine_later (s := filtered i s) cause hhalted).trans rfl, ?_, ?_⟩
        · rw [haltLine_halted (s := filtered i s) cause hhalted]
          exact offerFault_faults_congr _ rfl rfl rfl
        · rw [haltLine_halted (s := filtered i s) cause hhalted, offerFault_su]
          exact faulted_haltCause [.laterHalt cause] s.web.pos (filtered i s).su
    · subst hig
      rw [decide_eq_true hhigh, inputEdge_guard_quiet (s := filtered .guard s) hq]
      exact filtered_eq .guard s

/-! ## Automatic requests (R147) -/

@[simp] theorem spliceOf_raiseEvent (e : Event) (s : State) (a : Unwind) : spliceOf (raiseEvent e s) a = spliceOf s a :=
  spliceOf_congr (by simp) a


/-- The record of a splice that an automatic request has found: the counter's sets the fired mark (R147). -/
def noteRequest (cause : SpliceCause) (r : SpliceRecord) : SpliceRecord :=
  if cause = .count then { r with fired := true, countDue := false } else r

section
variable {s : State} {a : Unwind} {cause : SpliceCause}

theorem setSplice_setSplice (a : Unwind) (f g : SpliceRecord → SpliceRecord) (s : State) :
    setSplice a f (setSplice a g s) = setSplice a (fun r => f (g r)) s := by
  cases a <;> rfl

theorem setSplice_id (a : Unwind) (s : State) : setSplice a (fun r => r) s = s := by
  cases a <;> rfl

/-- The record that an automatic request notes, and what it then does (R147). -/
theorem autoRequest_eq (a : Unwind) (cause : SpliceCause) (s : State) : autoRequest a cause s =
    if (spliceOf s a).state ≠ .idle then setSplice a (noteRequest cause) s
    else if unwindActive s a = true ∧ jointRoom s a = true then
      raiseEvent .spliceActive (setSplice a (fun r => spliceBegun cause none s (noteRequest cause r)) s)
    else setSplice a (fun r => { noteRequest cause r with pending := some cause }) s := by
  have hnote : (if (cause == .count) = true then setSplice a (fun r => { r with fired := true, countDue := false }) s else s) =
      setSplice a (noteRequest cause) s := by
    cases cause with
    | count => rfl
    | card => exact (setSplice_id a s).symm
    | rollEnd => exact (setSplice_id a s).symm
  have hstate : ∀ r, (noteRequest cause r).state = r.state := fun r => by
    unfold noteRequest
    split <;> rfl
  have hmay : spliceMayBegin (setSplice a (noteRequest cause) s) a =
      (unwindActive s a && ((spliceOf s a).state == .idle) && jointRoom s a) := by
    simp only [spliceMayBegin, spliceOf_setSplice_same, hstate]
    cases a <;> rfl
  unfold autoRequest
  simp only [hnote, hmay, spliceOf_setSplice_same, hstate, beginSplice_eq, setSplice_setSplice]
  by_cases hidle : (spliceOf s a).state = .idle
  · simp only [hidle, bne_self_eq_false, Bool.false_eq_true, if_false, ne_eq, not_true, beq_self_eq_true, Bool.and_true, Bool.and_eq_true]
    refine if_congr Iff.rfl ?_ rfl
    cases a <;> rfl
  · simp [hidle]

theorem autoRequest_absorbed (h : (spliceOf s a).state ≠ .idle) : autoRequest a cause s = setSplice a (noteRequest cause) s := by
  rw [autoRequest_eq, if_pos h]

theorem autoRequest_begins (h : (spliceOf s a).state = .idle) (hax : (axisOf s (unwindAxis a)).state = .active)
    (hroom : jointRoom s a = true) : autoRequest a cause s =
      raiseEvent .spliceActive (setSplice a (fun r => spliceBegun cause none s (noteRequest cause r)) s) := by
  rw [autoRequest_eq, if_neg (not_not_intro h), if_pos ⟨by simp [unwindActive, hax], hroom⟩]

theorem autoRequest_waits (h : (spliceOf s a).state = .idle)
    (hno : (axisOf s (unwindAxis a)).state ≠ .active ∨ jointRoom s a = false) :
    autoRequest a cause s = setSplice a (fun r => { noteRequest cause r with pending := some cause }) s := by
  rw [autoRequest_eq, if_neg (not_not_intro h), if_neg]
  rintro ⟨hact, hroom⟩
  rcases hno with hax | hno
  · exact hax (by simpa [unwindActive] using hact)
  · rw [hroom] at hno
    cases hno

/-- An automatic request reaches one splice record, and host memory not at all. -/
theorem autoRequest_other (cause : SpliceCause) (s : State) : (∀ b, b ≠ a → spliceOf (autoRequest a cause s) b = spliceOf s b) ∧
    (autoRequest a cause s).rc.joints = s.rc.joints ∧ ∀ n, hostByte (autoRequest a cause s) n = hostByte s n := by
  have hports : ∀ f n, hostByte (setSplice a f s) n = hostByte s n := fun f n => by simp [hostByte]
  rw [autoRequest_eq]
  (repeat' split)
  · exact ⟨fun b hb => spliceOf_setSplice_other hb _ _, setSplice_joints _ _ _, hports _⟩
  · exact ⟨fun b hb => (spliceOf_raiseEvent _ _ b).trans (spliceOf_setSplice_other hb _ _), by simp, fun n => by
      rw [hostByte_raiseEvent, hports]⟩
  · exact ⟨fun b hb => spliceOf_setSplice_other hb _ _, setSplice_joints _ _ _, hports _⟩

theorem exec_rollCountRequest_quiet (hon : s.power.mainOn = true) (h : (spliceOf s a).countDue = false ∨ countAsks s a = false) :
    exec (.rollCountRequest a) s = .next s := by
  refine (whenOn_on hon : execRollCountRequest a s = _).trans (congrArg _ (if_neg ?_))
  rcases h with h | h <;> simp [h]

theorem exec_rollCountRequest_asks (hon : s.power.mainOn = true) (hdue : (spliceOf s a).countDue = true)
    (hasks : countAsks s a = true) : exec (.rollCountRequest a) s = .next (autoRequest a .count s) :=
  (whenOn_on hon : execRollCountRequest a s = _).trans (congrArg _ (if_pos (by simp [hdue, hasks])))

end

/-- The roll end input of an unwind. -/
def rollEndOf : Unwind → LineInput
  | .pu => .paperRollEnd
  | .fu => .fabricRollEnd

theorem inputEdge_rollEnd (a : Unwind) (active : Bool) (s : State) :
    inputEdge (rollEndOf a) active s = if active = true then autoRequest a .rollEnd s else s := by
  cases a <;> cases active <;> rfl

/-- Settles O36: the three outcomes of an automatic request, for the counter's and the roll end's. -/
theorem automaticSpliceRequests : Obligations.AutomaticSpliceRequests := by
  refine ⟨fun a s hon => ⟨exec_rollCountRequest_quiet hon, fun hdue hvalid hpos hlen hfired => ?_⟩,
    fun a i lvl s hon hlen hi hf hl hr => ?_⟩
  · have hasks : countAsks s a = true := by simp [countAsks, hvalid, hpos, hlen, hfired]
    obtain ⟨hother, hjoints, hbytes⟩ := autoRequest_other (a := a) .count s
    refine ⟨_, exec_rollCountRequest_asks hon hdue hasks, ?_, ?_, hother, hjoints, fun hbusy => ?_, fun hidle hax hroom => ?_,
      fun hidle hno => ?_, by simp, fun n _ => hbytes n, by simp [SameBase], by simp [SameStore], by simp [SamePrint], by simp, by simp,
      by simp, by simp⟩
    · rw [autoRequest_eq]
      (repeat' split) <;> simp [noteRequest, spliceBegun]
    · rw [autoRequest_eq]
      (repeat' split) <;> simp [noteRequest, spliceBegun]
    · rw [autoRequest_absorbed hbusy]
      simp [noteRequest]
    · rw [autoRequest_begins hidle hax hroom]
      simp [noteRequest, spliceBegun, raised]
    · rw [autoRequest_waits hidle hno]
      simp [noteRequest]
  · obtain rfl : i = rollEndOf a := by
      rw [hi]
      cases a <;> rfl
    have hexec : exec (.inputFilterExpiry (rollEndOf a)) s = .next (if (inputOf s (rollEndOf a)).activeHigh = !lvl then
        autoRequest a .rollEnd (filtered (rollEndOf a) s) else filtered (rollEndOf a) s) := by
      rw [exec_filterExpiry_edge hon hf hl hr, inputEdge_rollEnd]
      simp
    obtain ⟨hother, hjoints, -⟩ := autoRequest_other (a := a) .rollEnd (filtered (rollEndOf a) s)
    have hsplice : ∀ b, spliceOf (filtered (rollEndOf a) s) b = spliceOf s b := fun b => spliceOf_congr rfl b
    have hjoint : jointRoom (filtered (rollEndOf a) s) a = jointRoom s a := by cases a <;> rfl
    by_cases hhigh : (inputOf s (rollEndOf a)).activeHigh = !lvl
    · rw [if_pos hhigh] at hexec
      have hlow : (inputOf s (rollEndOf a)).activeHigh ≠ lvl := by
        rw [hhigh]
        cases lvl <;> decide
      refine ⟨_, hexec, fun hquiet => ?_, fun _ hidle hax hroom => ?_, fun _ hidle hno => ?_, fun b hb => (hother b hb).trans (hsplice b),
        hjoints, ?_⟩
      · have hkept : autoRequest a .rollEnd (filtered (rollEndOf a) s) = filtered (rollEndOf a) s :=
          (autoRequest_absorbed ((hsplice a).symm ▸ hquiet.resolve_left hlow)).trans (setSplice_id a _)
        rw [hkept]
        exact filtered_eq _ _
      · rw [autoRequest_begins ((congrArg SpliceRecord.state (hsplice a)).trans hidle) hax (hjoint ▸ hroom)]
        refine ⟨?_, raiseEvent_hasEvent _ _⟩
        rw [spliceOf_raiseEvent, spliceOf_setSplice_same, hsplice]
        rfl
      · rw [autoRequest_waits ((congrArg SpliceRecord.state (hsplice a)).trans hidle) (hjoint ▸ hno)]
        refine ⟨?_, ?_⟩
        · rw [spliceOf_setSplice_same, hsplice]
          rfl
        · simp [filtered, setInput]
      · simp [SameBase, SameStore, SamePrint, filtered, setInput]
    · rw [if_neg hhigh] at hexec
      exact ⟨_, hexec, fun _ => filtered_eq _ _, fun h => absurd h hhigh, fun h => absurd h hhigh, fun b _ => hsplice b, rfl,
        ⟨rfl, rfl, rfl, rfl, rfl, rfl, rfl⟩, rfl, ⟨rfl, rfl, rfl⟩, ⟨rfl, rfl⟩, rfl, rfl, rfl, rfl⟩

end Sys2Proof.Machine

end

section

/-! PROOFS. The limits of a splice, a halt's withdrawal of one, and the edges of its acknowledge (R145, R148 to R152). -/

namespace Sys2Proof.Machine

/-! ## What keeps a card final -/

/-- What came between two states reached no final byte of a card, kept CARD_FINAL and added no take to the outstanding set. -/
def Spared (c : CardRef) (s t : State) : Prop :=
  (∀ a, FinalBytes c a → hostByte t a = hostByte s a) ∧ (hasEvent s .cardFinal = true → hasEvent t .cardFinal = true) ∧
    ∀ r ∈ t.ce.outstanding, r ∈ s.ce.outstanding

section
variable {c k : CardRef} {s t u : State}

theorem Spared.trans (h : Spared c s t) (h' : Spared c t u) : Spared c s u :=
  ⟨fun a ha => (h'.1 a ha).trans (h.1 a ha), fun he => h'.2.1 (h.2.1 he), fun r hr => h.2.2 r (h'.2.2 r hr)⟩

theorem Spared.of_same (hp : t.ports = s.ports) (hu : t.su = s.su) (hce : t.ce = s.ce) : Spared c s t :=
  ⟨fun _ _ => by simp [hostByte, hp], fun he => by simpa [hasEvent, hu] using he, fun _ hr => by simpa [hce] using hr⟩

theorem CardFinal.spared {st : CardState} {rc : ResultCode} (h : CardFinal c st rc s) (h' : Spared c s t) : CardFinal c st rc t := by
  obtain ⟨hst, hrc, he, hout⟩ := h
  obtain ⟨hbytes, hev, hfewer⟩ := h'
  exact ⟨(hbytes _ (.inl rfl)).trans hst, (hbytes _ (.inr (.inl rfl))).trans hrc, hev he, fun r hr => hout r (hfewer r hr)⟩

/-- A row of bytes within the results of a card that is spared. -/
theorem HostHolds.spared {off : Nat} {l : List Byte} (h : HostHolds s (c.addr + off) l) (hlo : 128 ≤ off) (hhi : off + l.length ≤ 256)
    (h' : Spared c s t) : HostHolds t (c.addr + off) l := by
  intro i b hb
  have hi : i < l.length := (List.getElem?_eq_some_iff.mp hb).1
  rw [h'.1 _ (.inr (.inr ⟨by omega, by omega⟩))]
  exact h i b hb

theorem apart_pair : Apart [c, k] ↔ c.addr + 256 ≤ k.addr ∨ k.addr + 256 ≤ c.addr := by simp [Apart]

/-- The final bytes of two cards whose areas are apart are apart. -/
theorem FinalBytes.apart {a : Nat} (h : Apart [c, k]) (ha : FinalBytes c a) : ¬FinalBytes k a := by
  have := apart_pair.mp h
  unfold FinalBytes at *
  omega

/-- The final write of a card spares another whose area is apart. -/
theorem finalWrite_spares (h : Apart [c, k]) (fields : List (Nat × List Byte)) (st : CardState) (rc : ResultCode) (s : State) :
    Spared c s (finalWrite k fields st rc s) := by
  obtain ⟨-, -, honly⟩ := finalWrite_written k fields st rc s
  refine ⟨fun a ha => honly a (ha.apart h), (finalWrite_raises (l := [.cardFinal]) (by decide) k fields st rc s).stays, fun r hr => ?_⟩
  rw [(finalWrite_outstanding k fields st rc s).1] at hr
  exact (List.mem_filter.mp hr).1

end

/-! ## A halt withdraws the splices (R152) -/

/-- The record of a splice that a halt has withdrawn. -/
def withdrawn (r : SpliceRecord) : SpliceRecord := if r.state = .idle then r else spliceIdle r

section
variable {s : State} {a : Unwind}

theorem withdrawn_state (r : SpliceRecord) : (withdrawn r).state = .idle := by
  unfold withdrawn
  split
  · assumption
  · rfl

theorem withdrawSplice_idle (h : (spliceOf s a).state = .idle) : withdrawSplice a s = s := if_pos (by simp [h])

/-- A splice in progress is withdrawn, and its card fails with the state found (R152). -/
theorem withdrawSplice_eq (h : (spliceOf s a).state ≠ .idle) : withdrawSplice a s =
    match (spliceOf s a).card with
    | none => setSplice a spliceIdle s
    | some c => finalWrite c [(129, [(spliceOf s a).state.code])] .failed .halted (setSplice a spliceIdle s) :=
  if_neg (by simp [h])

theorem setSplice_congr {f g : SpliceRecord → SpliceRecord} (h : f (spliceOf s a) = g (spliceOf s a)) :
    setSplice a f s = setSplice a g s := by
  cases a with
  | pu => exact congrArg (fun r => { s with rc := { s.rc with pu := r } }) h
  | fu => exact congrArg (fun r => { s with rc := { s.rc with fu := r } }) h

theorem withdrawSplice_rc (a : Unwind) (s : State) : (withdrawSplice a s).rc = (setSplice a withdrawn s).rc := by
  by_cases h : (spliceOf s a).state = .idle
  · have hkept : setSplice a withdrawn s = setSplice a (fun r => r) s := setSplice_congr (if_pos h)
    rw [withdrawSplice_idle h, hkept, setSplice_id]
  · have hrc : (withdrawSplice a s).rc = (setSplice a spliceIdle s).rc := by
      rw [withdrawSplice_eq h]
      split <;> simp
    have hset : setSplice a withdrawn s = setSplice a spliceIdle s := setSplice_congr (if_neg h)
    rw [hrc, hset]

/-- A halt withdraws both splices and keeps the fabric joints (R152). -/
theorem takeHalt_rc (cause : HaltCause) (s : State) :
    (takeHalt cause s).rc = { s.rc with pu := withdrawn s.rc.pu, fu := withdrawn s.rc.fu } := by
  simp [takeHalt, withdrawSplice_rc, setSplice]

theorem spliceOf_takeHalt (cause : HaltCause) (s : State) (a : Unwind) : spliceOf (takeHalt cause s) a = withdrawn (spliceOf s a) := by
  cases a <;> simp only [spliceOf, takeHalt_rc]

/-- The card of a splice that is withdrawn is final (R152). -/
theorem withdrawSplice_final {c : CardRef} (h : (spliceOf s a).state ≠ .idle) (hc : (spliceOf s a).card = some c) :
    CardFinal c .failed .halted (withdrawSplice a s) ∧
      HostHolds (withdrawSplice a s) (c.addr + 128) (area 128 [(1, [(spliceOf s a).state.code])]) := by
  rw [withdrawSplice_eq h, hc]
  have hmap : ∀ x : Byte, [(129, [x])].map (fun f : Nat × List Byte => (f.1 - 128, f.2)) = [(1, [x])] := fun _ => by simp
  obtain ⟨hfinal, hholds, -⟩ := finalWrite_written c [(129, [(spliceOf s a).state.code])] .failed .halted (setSplice a spliceIdle s)
  rw [hmap] at hholds
  exact ⟨hfinal, hholds⟩

theorem withdrawSplice_spares {c : CardRef} (h : ∀ k, (spliceOf s a).card = some k → Apart [c, k]) : Spared c s (withdrawSplice a s) := by
  by_cases hidle : (spliceOf s a).state = .idle
  · rw [withdrawSplice_idle hidle]
    exact .of_same rfl rfl rfl
  · have hset : Spared c s (setSplice a spliceIdle s) := .of_same (by simp) (by simp) (by simp)
    rw [withdrawSplice_eq hidle]
    split
    · exact hset
    · rename_i k hk
      exact hset.trans (finalWrite_spares (h k hk) _ _ _ _)

/-- What a halt has done before it withdraws the splices. -/
def haltAhead (cause : HaltCause) (s : State) : State :=
  haltPrint (haltMap (sendFrame (sendFrame (mapAxes axisOff (raiseEvent .lineHalted { s with
    wd := { s.wd with state := .halted, requested := 0, target := 0, running := 0, held := false },
    su := { s.su with haltCause := s.su.haltCause.or (some cause) } })))))

theorem takeHalt_eq (cause : HaltCause) (s : State) :
    takeHalt cause s = touchStart (reportStopped (withdrawSplice .fu (withdrawSplice .pu (haltAhead cause s)))) := rfl

theorem haltAhead_rc (cause : HaltCause) (s : State) : (haltAhead cause s).rc = s.rc := by simp [haltAhead]

/-- The card of a splice that a halt finds in progress is final after it, unless the other splice's card overlaps it (R152). -/
theorem takeHalt_splice {c : CardRef} (cause : HaltCause) (h : (spliceOf s a).state ≠ .idle) (hc : (spliceOf s a).card = some c)
    (hapart : ∀ (b : Unwind) k, b ≠ a → (spliceOf s b).card = some k → Apart [c, k]) :
    CardFinal c .failed .halted (takeHalt cause s) ∧
      HostHolds (takeHalt cause s) (c.addr + 128) (area 128 [(1, [(spliceOf s a).state.code])]) := by
  have hlast : ∀ u, Spared c u (touchStart (reportStopped u)) := fun u => .of_same (by simp) (by simp) (by simp)
  have hahead : ∀ b, spliceOf (haltAhead cause s) b = spliceOf s b := spliceOf_congr (haltAhead_rc cause s)
  have hpu : spliceOf (withdrawSplice .pu (haltAhead cause s)) .fu = spliceOf s .fu := by
    refine Eq.trans ?_ (hahead .fu)
    exact (spliceOf_congr (withdrawSplice_rc .pu _) .fu).trans (spliceOf_setSplice_other (by decide) _ _)
  suffices H : CardFinal c .failed .halted (withdrawSplice .fu (withdrawSplice .pu (haltAhead cause s))) ∧
      HostHolds (withdrawSplice .fu (withdrawSplice .pu (haltAhead cause s))) (c.addr + 128) (area 128 [(1, [(spliceOf s a).state.code])]) by
    rw [takeHalt_eq]
    exact ⟨H.1.spared (hlast _), H.2.spared (by decide) (by rw [area_length]) (hlast _)⟩
  cases a with
  | pu =>
    have hsp : Spared c (withdrawSplice .pu (haltAhead cause s)) (withdrawSplice .fu (withdrawSplice .pu (haltAhead cause s))) :=
      withdrawSplice_spares fun k hk => hapart .fu k (by decide) (hpu ▸ hk)
    rw [← hahead .pu] at h hc ⊢
    obtain ⟨hfinal, hholds⟩ := withdrawSplice_final h hc
    exact ⟨hfinal.spared hsp, hholds.spared (by decide) (by rw [area_length]) hsp⟩
  | fu =>
    rw [← hpu] at h hc ⊢
    exact withdrawSplice_final h hc

end

/-! ## The two limits -/

section
variable {s : State} {a : Unwind}

/-- The state in which the card of a splice that has run out of time is written (R148). -/
def timedOut (a : Unwind) (s : State) : State := offerFault (.spliceTimeout a ((spliceOf s a).cause.getD .card)) (setSplice a spliceIdle s)

theorem exec_spliceTimeout_else (hon : s.power.mainOn = true) (h : (spliceOf s a).state ≠ .wait) : exec (.spliceTimeout a) s = .next s :=
  (whenOn_on hon : execSpliceTimeout a s = _).trans (congrArg _ (if_pos (by simp [h])))

theorem exec_spliceTimeout (hon : s.power.mainOn = true) (h : (spliceOf s a).state = .wait) : exec (.spliceTimeout a) s = .next
    (match (spliceOf s a).card with
      | none => timedOut a s
      | some c => finalWrite c [(128, [unwindCode a]), (148, le 4 (spliceOf s a).limit)] .failed .timeout (timedOut a s)) :=
  (whenOn_on hon : execSpliceTimeout a s = _).trans (congrArg _ (if_neg (by simp [h])))

/-- A splice that has run out of time: its record, its fault, and nothing written. -/
theorem timedOut_eq (a : Unwind) (s : State) : ∃ p, timedOut a s = { setSplice a spliceIdle s with
    su := s.su.withFault (.spliceTimeout a ((spliceOf s a).cause.getD .card)) s.web.pos, ports := p } ∧
      writtenByte p = writtenByte s.ports := by
  obtain ⟨p, heq, hp⟩ := offerFault_eq (.spliceTimeout a ((spliceOf s a).cause.getD .card)) (setSplice a spliceIdle s)
  refine ⟨p, ?_, ?_⟩
  · unfold timedOut
    rw [heq]
    simp
  · rw [hp]
    simp

theorem exec_handoverLimit_else (hon : s.power.mainOn = true) (h : (spliceOf s a).state ≠ .handedOver) :
    exec (.handoverLimit a) s = .next s :=
  (whenOn_on hon : execHandoverLimit a s = _).trans (congrArg _ (if_neg (by simp [h])))

theorem exec_handoverLimit (hon : s.power.mainOn = true) (h : (spliceOf s a).state = .handedOver) (hw : s.wd.state ≠ .halted) :
    exec (.handoverLimit a) s = .next (takeHalt .handover (offerFault (.handoverLimit a) s)) := by
  refine (whenOn_on hon : execHandoverLimit a s = _).trans (congrArg _ ((if_pos (by simp [h])).trans (haltLine_running _ ?_)))
  rwa [offerFault_wd]

end

/-- Settles O37: the timeout's card is written in the state after its fault, and the handover's limit is a halt. -/
theorem spliceLimits : Obligations.SpliceLimits := by
  intro a s hon
  refine ⟨exec_spliceTimeout_else hon, exec_handoverLimit_else hon, fun k hst hcause => ?_, fun hst hw => ?_⟩
  · obtain ⟨p, heq, hp⟩ := timedOut_eq a s
    have hbytes : ∀ n, hostByte (timedOut a s) n = hostByte s n := fun n => by
      rw [heq]
      exact congrFun hp n
    have hfaults : (timedOut a s).su.faults = (offerFault (.spliceTimeout a k) s).su.faults := by
      rw [heq, offerFault_su, hcause]
      rfl
    have hce : (timedOut a s).ce = s.ce := by simp [heq]
    have hrc : (timedOut a s).rc = (setSplice a spliceIdle s).rc := by rw [heq]
    have hframe : ∀ t : State, t = timedOut a s ∨ (∃ c l, t = finalWrite c l .failed .timeout (timedOut a s)) →
        spliceOf t a = { spliceOf s a with state := .idle, cause := none, card := none, request := false } ∧
        (∀ b, b ≠ a → spliceOf t b = spliceOf s b) ∧ t.rc.joints = s.rc.joints ∧
        t.su.faults = (offerFault (.spliceTimeout a k) s).su.faults ∧ SameBase s t ∧ SameStore s t ∧ SamePrint s t ∧ t.web = s.web ∧
        t.hc = s.hc ∧ t.wd = s.wd ∧ t.tc = s.tc := by
      intro t ht
      have hrc' : t.rc = (setSplice a spliceIdle s).rc := by
        rcases ht with rfl | ⟨c, l, rfl⟩
        · exact hrc
        · simp [hrc]
      have hf' : t.su.faults = (timedOut a s).su.faults := by
        rcases ht with rfl | ⟨c, l, rfl⟩
        · rfl
        · rw [finalWrite_su]
          rfl
      refine ⟨(spliceOf_congr hrc' a).trans (spliceOf_setSplice_same a _ s), fun b hb => (spliceOf_congr hrc' b).trans
        (spliceOf_setSplice_other hb _ s), by rw [hrc', setSplice_joints], hf'.trans hfaults, ?_⟩
      rcases ht with rfl | ⟨c, l, rfl⟩ <;> simp [heq, SameBase, SameStore, SamePrint]
    have hexec := exec_spliceTimeout hon hst
    cases hcard : (spliceOf s a).card with
    | none =>
      rw [hcard] at hexec
      obtain ⟨h1, h2, h3, h4, hrest⟩ := hframe _ (.inl rfl)
      exact ⟨_, hexec, h1, h2, h3, h4, fun c hc => absurd hc (by simp), fun _ => ⟨fun n _ => hbytes n, hce⟩, hrest⟩
    | some c =>
      rw [hcard] at hexec
      obtain ⟨h1, h2, h3, h4, hrest⟩ := hframe _ (.inr ⟨_, _, rfl⟩)
      refine ⟨_, hexec, h1, h2, h3, h4, fun c' hc' => ?_, fun hn => absurd hn (by simp), hrest⟩
      obtain rfl := Option.some.inj hc'
      obtain ⟨hfinal, hholds, honly⟩ := finalWrite_written c [(128, [unwindCode a]), (148, le 4 (spliceOf s a).limit)] .failed .timeout
        (timedOut a s)
      refine ⟨?_, (finalWrite_engine _ _ _ _ _).trans (by rw [hce])⟩
      have hw : WrittenFinal c .failed .timeout [(128, [unwindCode a]), (148, le 4 (spliceOf s a).limit)] s
          (finalWrite c [(128, [unwindCode a]), (148, le 4 (spliceOf s a).limit)] .failed .timeout (timedOut a s)) :=
        ⟨hfinal, hholds, fun n hn => (honly n hn).trans (hbytes n)⟩
      cases a <;> exact hw
  · have hcall := exec_handoverLimit hon hst hw
    have hrc : (offerFault (.handoverLimit a) s).rc = s.rc := by simp
    have hsp : ∀ b, spliceOf (offerFault (.handoverLimit a) s) b = spliceOf s b := spliceOf_congr hrc
    have hne : (spliceOf s a).state ≠ .idle := by rw [hst]; decide
    have hidle : spliceOf (takeHalt .handover (offerFault (.handoverLimit a) s)) a = spliceIdle (spliceOf s a) := by
      rw [spliceOf_takeHalt, hsp]
      exact if_neg hne
    refine ⟨_, hcall, (takeHalt_wd _ _).trans (by rw [offerFault_wd]), ?_, ?_, by rw [hidle]; rfl, by rw [hidle]; rfl, ?_, ?_, ?_,
      takeHalt_axesOff _ _, fun r hr hapart => ?_⟩
    · rw [takeHalt_haltCause, offerFault_su]
      exact congrArg (fun c => Option.or c (some .handover)) (faulted_haltCause [.handoverLimit a] s.web.pos s.su)
    · rw [(takeHalt_raises _ _).1.rest]
    · cases a <;> simp [rollCounter]
    · rw [takeHalt_tmap]
      simp
    · rw [takeHalt_rc]
      simp
    · rw [← hst, ← hsp a]
      exact takeHalt_splice .handover ((hsp a).symm ▸ hne) ((hsp a).symm ▸ hr) fun b k hb hk => hapart b k hb (hsp b ▸ hk)

end Sys2Proof.Machine

end

section

/-! PROOFS. The edges of a splice acknowledge: the handover, the joint that its end makes, and the results of the card (R11, R13, R148 to
R151). -/

namespace Sys2Proof.Machine

/-! ## The coordinate of a paper joint (R11) -/

/-- With places enough, the coordinate found is the least free one from a coordinate on. -/
theorem freeCoordinate_least {taken : List Nat} {n c : Nat} (h : ∃ d, c ≤ d ∧ d < c + n ∧ d ∉ taken) :
    c ≤ freeCoordinate taken n c ∧ freeCoordinate taken n c ∉ taken ∧ ∀ y, c ≤ y → y < freeCoordinate taken n c → y ∈ taken := by
  induction n generalizing c with
  | zero =>
    obtain ⟨d, hlo, hhi, -⟩ := h
    omega
  | succ n ih =>
    rw [freeCoordinate]
    by_cases hc : c ∈ taken
    · rw [if_pos (by simpa using hc)]
      have hnext : ∃ d, c + 1 ≤ d ∧ d < c + 1 + n ∧ d ∉ taken := by
        obtain ⟨d, hlo, hhi, hd⟩ := h
        have hne : d ≠ c := fun he => hd (he ▸ hc)
        exact ⟨d, by omega, by omega, hd⟩
      obtain ⟨hle, hfree, hleast⟩ := ih hnext
      refine ⟨by omega, hfree, fun y hy hlt => ?_⟩
      by_cases hyc : y = c
      · exact hyc ▸ hc
      · exact hleast y (by omega) hlt
    · rw [if_neg (by simpa using hc)]
      exact ⟨Nat.le_refl c, hc, fun y hy hlt => by omega⟩

/-- Among more coordinates in a row than are taken, one is free. -/
theorem exists_free (taken : List Nat) (c : Nat) : ∃ d, c ≤ d ∧ d < c + (taken.length + 1) ∧ d ∉ taken := by
  by_contra hno
  push Not at hno
  have hsub : List.range' c (taken.length + 1) ⊆ taken := fun d hd => by
    rw [List.mem_range'_1] at hd
    exact hno d hd.1 hd.2
  have hlen := (List.subperm_of_subset List.nodup_range' hsub).length_le
  rw [List.length_range'] at hlen
  omega

theorem jointCoordinate_kept {m : TransitMap} {c : Nat} (h : ∀ k ∈ m.joints, k.at_ ≠ c) : jointCoordinate m c = c := by
  refine if_neg ?_
  simpa using h

/-- A coordinate that a joint holds gives way to the least greater one that no entry holds (R11). -/
theorem jointCoordinate_moved {m : TransitMap} {c : Nat} (h : ∃ k ∈ m.joints, k.at_ = c) : c < jointCoordinate m c ∧
    (∀ k ∈ m.joints, k.at_ ≠ jointCoordinate m c) ∧ (∀ g ∈ m.segs, g.start ≠ jointCoordinate m c) ∧
    ∀ y, c < y → y < jointCoordinate m c → (∃ k ∈ m.joints, k.at_ = y) ∨ ∃ g ∈ m.segs, g.start = y := by
  have hmem : ∀ y, y ∈ m.joints.map (·.at_) ++ m.segs.map (·.start) ↔ (∃ k ∈ m.joints, k.at_ = y) ∨ ∃ g ∈ m.segs, g.start = y := by
    simp
  have heq : jointCoordinate m c = freeCoordinate (m.joints.map (·.at_) ++ m.segs.map (·.start))
      ((m.joints.map (·.at_) ++ m.segs.map (·.start)).length + 1) c := if_pos (by simpa using h)
  obtain ⟨hle, hfree, hleast⟩ := freeCoordinate_least (exists_free (m.joints.map (·.at_) ++ m.segs.map (·.start)) c)
  rw [← heq] at hle hfree hleast
  have hne : jointCoordinate m c ≠ c := fun he => hfree (he.symm ▸ (hmem c).mpr (.inl h))
  rw [hmem, not_or] at hfree
  obtain ⟨hj, hg⟩ := hfree
  exact ⟨by omega, fun k hk he => hj ⟨k, hk, he⟩, fun g hg' he => hg ⟨g, hg', he⟩, fun y hy hlt => (hmem y).mp (hleast y (by omega) hlt)⟩

/-- A JOINT entry goes behind every one that lies no further and before the first that lies further (R11). -/
theorem insertJoint_splits (j : Joint) (l : List Joint) : ∃ pre post, l = pre ++ post ∧ insertJoint j l = pre ++ j :: post ∧
    (∀ k ∈ pre, k.at_ ≤ j.at_) ∧ ∀ k, post.head? = some k → j.at_ < k.at_ := by
  induction l with
  | nil => exact ⟨[], [], rfl, rfl, by simp, by simp⟩
  | cons x xs ih =>
    by_cases h : j.at_ < x.at_
    · exact ⟨[], x :: xs, rfl, by simp [insertJoint, h], by simp, by simpa using h⟩
    · obtain ⟨pre, post, hsplit, hins, hpre, hpost⟩ := ih
      refine ⟨x :: pre, post, by simp [hsplit], by simp [insertJoint, h, hins], fun k hk => ?_, hpost⟩
      rcases List.mem_cons.mp hk with rfl | hk
      · omega
      · exact hpre k hk

theorem addJoint_full {c : Nat} {s : State} (h : 2 ≤ s.tmap.joints.length) : addJoint c s = s := if_pos h

theorem addJoint_adds {c : Nat} {s : State} (h : s.tmap.joints.length < 2) : addJoint c s = { s with tmap :=
    ⟨s.tmap.segs.map (spoilByJoint (jointCoordinate s.tmap c)), insertJoint ⟨jointCoordinate s.tmap c, false⟩ s.tmap.joints⟩ } :=
  if_neg (by omega)

theorem spoilByJoint_eq (x : Nat) (g : Segment) : spoilByJoint x g =
    if g.endAt = none ∧ g.start ≤ x ∧ x < g.start + g.planned then { g with spoil := g.spoil.or (some .joint) } else g :=
  if_congr (by simp [and_assoc]) rfl rfl

/-! ## The end of a handover (R149, R150) -/

/-- The record of a splice that has completed. -/
def spliceDone (r : SpliceRecord) : SpliceRecord := { spliceIdle r with pending := none, fired := false, countDue := false }

/-- A splice has completed, but for its card: the axis is taken back, the joint made and the counter started afresh (R149, R150). -/
def completed (a : Unwind) (s : State) : State :=
  setSplice a spliceDone (clearCounter a (makeJoint a (setAxis (unwindAxis a) axisTakeBack s)).2)

/-- The results of the card of a splice that completes (chapter 12). -/
def spliceResults (a : Unwind) (s : State) : List (Nat × List Byte) :=
  [(128, [unwindCode a]), (130, mark (rollValid s a)), (136, le 6 (makeJoint a s).1), (144, le 4 (rollCounter s a).metres),
    (148, le 4 (spliceOf s a).waited), (152, le 4 (s.clock - (spliceOf s a).phaseStart))]

section
variable {s : State} {a : Unwind}

theorem completeSplice_none (h : (spliceOf s a).card = none) : completeSplice a s = completed a s := by
  unfold completeSplice
  dsimp only
  rw [h]
  cases a <;> rfl

theorem makeJoint_setAxis (a : Unwind) (b : Axis) (f : AxisRecord → AxisRecord) (s : State) :
    (makeJoint a (setAxis b f s)).1 = (makeJoint a s).1 := by
  cases a <;> rfl

theorem completed_clock (a : Unwind) (s : State) : (completed a s).clock = s.clock := by simp [completed]

theorem completeSplice_written {c : CardRef} (h : (spliceOf s a).card = some c) :
    completeSplice a s = finalWrite c (spliceResults a s) .done .ok (completed a s) := by
  have hclock : (setSplice a spliceDone (clearCounter a (makeJoint a (setAxis (unwindAxis a) axisTakeBack s)).2)).clock = s.clock :=
    completed_clock a s
  unfold completeSplice spliceResults completed
  rw [← makeJoint_setAxis a (unwindAxis a) axisTakeBack s]
  dsimp only
  rw [h]
  dsimp only
  rw [← hclock]
  rfl

/-- The card of a splice that completes leaves everything but the ports, the engine and CARD_FINAL. -/
theorem completeSplice_rest (a : Unwind) (s : State) : (completeSplice a s).rc = (completed a s).rc ∧
    (completeSplice a s).ka = (completed a s).ka ∧ (completeSplice a s).tmap = (completed a s).tmap := by
  cases h : (spliceOf s a).card with
  | none => rw [completeSplice_none h]; exact ⟨rfl, rfl, rfl⟩
  | some c => rw [completeSplice_written h]; simp

theorem completed_ports (a : Unwind) (s : State) : (completed a s).ports = s.ports := by simp [completed]

theorem completed_ce (a : Unwind) (s : State) : (completed a s).ce = s.ce := by simp [completed]

theorem spliceOf_completeSplice (a : Unwind) (s : State) : spliceOf (completeSplice a s) a = spliceDone (spliceOf s a) := by
  rw [spliceOf_congr (completeSplice_rest a s).1, completed, spliceOf_setSplice_same]
  cases a with
  | pu => simp [spliceOf, makeJoint]
  | fu => rfl

/-- The roll counter of the splice starts afresh and valid, and the lifetime counter goes on (R150). -/
theorem completeSplice_counters (a : Unwind) (s : State) : rollCounter (completeSplice a s) a = ⟨0, 0⟩ ∧
    rollValid (completeSplice a s) a = true ∧ (completeSplice a s).ka.lifetime = s.ka.lifetime := by
  obtain ⟨-, hka, -⟩ := completeSplice_rest a s
  cases a <;> simp [rollCounter, rollValid, hka, completed, clearCounter]

/-- A fabric splice makes its joint in the list of the Roll Change Unit (R150). -/
theorem completeSplice_fabric (s : State) : (completeSplice .fu s).tmap = s.tmap ∧
    (completeSplice .fu s).rc.joints = insertDue ⟨(makeJoint .fu s).1, false⟩ s.rc.joints := by
  obtain ⟨hrc, -, htmap⟩ := completeSplice_rest .fu s
  rw [hrc, htmap]
  exact ⟨rfl, rfl⟩

/-- A paper splice makes its joint in the map (R150). -/
theorem completeSplice_paper (s : State) :
    (completeSplice .pu s).tmap = (addJoint (s.web.pos + ((s.setup.map (·.lUp)).getD 0) * 1000) s).tmap ∧
      (completeSplice .pu s).rc.joints = s.rc.joints := by
  obtain ⟨hrc, -, htmap⟩ := completeSplice_rest .pu s
  rw [hrc, htmap]
  refine ⟨?_, by simp [completed, makeJoint]⟩
  by_cases h : 2 ≤ s.tmap.joints.length
  · rw [addJoint_full h, completed, makeJoint, addJoint_full (by exact h)]
    rfl
  · rw [addJoint_adds (Nat.lt_of_not_le h), completed, makeJoint, addJoint_adds (by exact Nat.lt_of_not_le h)]
    rfl

theorem setSplice_tc (f : SpliceRecord → SpliceRecord) (s : State) : (setSplice a f s).tc = s.tc := by simp

theorem setSplice_axisOf (f : SpliceRecord → SpliceRecord) (s : State) (b : Axis) : axisOf (setSplice a f s) b = axisOf s b := by
  simp [axisOf]

/-- The axis of a handover that ends is ACTIVE again (R149). -/
theorem completeSplice_axis (hlen : s.tc.axes.length = 4) (h : (axisOf s (unwindAxis a)).state = .handedOver) :
    axisOf (completeSplice a s) (unwindAxis a) = { axisOf s (unwindAxis a) with state := .active } := by
  have htc : axisOf (completeSplice a s) (unwindAxis a) = axisOf (setAxis (unwindAxis a) axisTakeBack s) (unwindAxis a) := by
    simp only [axisOf, completeSplice_axes]
  rw [htc, axisOf_setAxis_same _ hlen]
  exact if_pos (by simp [h])

end

/-! ## The edges (R148, R149, R151) -/

/-- The splice acknowledge input of an unwind. -/
def ackOf : Unwind → LineInput
  | .pu => .paperSpliceAck
  | .fu => .fabricSpliceAck

theorem inputEdge_ack (a : Unwind) (active : Bool) (s : State) :
    inputEdge (ackOf a) active s = if active = true then ackActive a s else ackInactive a s := by
  cases a <;> cases active <;> rfl

/-- The record of a splice whose handover starts (R148, R149). -/
def spliceHandOver (clock : Nat) (r : SpliceRecord) : SpliceRecord :=
  { r with state := .handedOver, request := false, waited := clock - r.phaseStart, phaseStart := clock, limit := r.handover }

section
variable {s : State} {a : Unwind}

theorem ackActive_wait (h : (spliceOf s a).state = .wait) :
    ackActive a s = setAxis (unwindAxis a) axisHandOver (setSplice a (spliceHandOver s.clock) s) := if_pos (by simp [h])

theorem ackActive_else (h : (spliceOf s a).state ≠ .wait) :
    ackActive a s = offerFault (.spliceAckUnexpected a (spliceOf s a).state) s := if_neg (by simp [h])

theorem ackInactive_completes (h : (spliceOf s a).state = .handedOver) : ackInactive a s = completeSplice a s := if_pos (by simp [h])

theorem ackInactive_else (h : (spliceOf s a).state ≠ .handedOver) : ackInactive a s = s := if_neg (by simp [h])

end

/-- What the end of a handover does, as the edge of the acknowledge finds it (R11, R13, R149, R150). -/
structure SpliceEnds (a : Unwind) (s t : State) (x : Nat) : Prop where
  fabric : a = .fu → x = s.web.pos + ((s.setup.map (·.lFn)).getD 0) * 1000 ∧ t.tmap = s.tmap ∧
    ∃ pre post, s.rc.joints = pre ++ post ∧ t.rc.joints = pre ++ ⟨x, false⟩ :: post ∧ (∀ k ∈ pre, k.due ≤ x) ∧
      ∀ k, post.head? = some k → x < k.due
  paper : a = .pu → t.rc.joints = s.rc.joints ∧ x = jointCoordinate s.tmap (s.web.pos + ((s.setup.map (·.lUp)).getD 0) * 1000) ∧
    (s.tmap.joints.length < 2 →
      (∃ pre post, s.tmap.joints = pre ++ post ∧ t.tmap.joints = pre ++ ⟨x, false⟩ :: post ∧ (∀ k ∈ pre, k.at_ ≤ x) ∧
        ∀ k, post.head? = some k → x < k.at_) ∧ t.tmap.segs = s.tmap.segs.map (spoilByJoint x)) ∧
    (2 ≤ s.tmap.joints.length → t.tmap = s.tmap)
  card : ∀ c, (spliceOf s a).card = some c → CardFinal c .done .ok t ∧ t.ce = engineFinal c s.ce ∧
    HostHolds t (c.addr + 128) [unwindCode a] ∧ HostHolds t (c.addr + 130) [if rollValid s a then 1 else 0] ∧
    HostHolds t (c.addr + 136) (le 6 x) ∧ HostHolds t (c.addr + 144) (le 4 (rollCounter s a).metres) ∧
    HostHolds t (c.addr + 148) (le 4 (spliceOf s a).waited) ∧ HostHolds t (c.addr + 152) (le 4 (s.clock - (spliceOf s a).phaseStart))
  noCard : (spliceOf s a).card = none → t.ports = s.ports

theorem completeSplice_ends (a : Unwind) (s : State) : SpliceEnds a s (completeSplice a s) (makeJoint a s).1 where
  fabric ha := by
    subst ha
    obtain ⟨htmap, hjoints⟩ := completeSplice_fabric s
    rw [hjoints]
    exact ⟨rfl, htmap, insertDue_splits _ _⟩
  paper ha := by
    subst ha
    obtain ⟨htmap, hjoints⟩ := completeSplice_paper s
    refine ⟨hjoints, rfl, fun hroom => ?_, fun hfull => ?_⟩
    · rw [htmap, addJoint_adds hroom]
      exact ⟨insertJoint_splits _ _, rfl⟩
    · rw [htmap, addJoint_full hfull]
  card c hc := by
    have hw := finalWrite_written c (spliceResults a s) .done .ok (completed a s)
    have hfields : ∀ f ∈ spliceResults a s, HostHolds (finalWrite c (spliceResults a s) .done .ok (completed a s)) (c.addr + f.1) f.2 :=
      fun f hf => hw.field hf (by simp [spliceResults]) (by simp [spliceResults, mark]) (by simp [spliceResults, FieldsApart, mark])
    obtain ⟨hfinal, -, -⟩ := hw
    rw [completeSplice_written hc]
    refine ⟨hfinal, (finalWrite_engine _ _ _ _ _).trans (by rw [completed_ce]), hfields (128, [unwindCode a]) ?_,
      hfields (130, mark (rollValid s a)) ?_, hfields (136, le 6 (makeJoint a s).1) ?_, hfields (144, le 4 (rollCounter s a).metres) ?_,
      hfields (148, le 4 (spliceOf s a).waited) ?_, hfields (152, le 4 (s.clock - (spliceOf s a).phaseStart)) ?_⟩ <;> simp [spliceResults]
  noCard hc := by rw [completeSplice_none hc, completed_ports]

/-- Settles O39: the four outcomes of an edge of the acknowledge. -/
theorem spliceAcknowledgeEdges : Obligations.SpliceAcknowledgeEdges := by
  intro a i lvl s hon hlen hax hi hf hl hr
  obtain rfl : i = ackOf a := by
    rw [hi]
    cases a <;> rfl
  have hexec := exec_filterExpiry_edge hon hf hl hr
  rw [inputEdge_ack] at hexec
  simp only [decide_eq_true_eq] at hexec
  have hsplice : ∀ b, spliceOf (filtered (ackOf a) s) b = spliceOf s b := fun b => spliceOf_congr rfl b
  by_cases hhigh : (inputOf s (ackOf a)).activeHigh = !lvl
  · have hlow : (inputOf s (ackOf a)).activeHigh ≠ lvl := by
      rw [hhigh]
      cases lvl <;> decide
    rw [if_pos hhigh] at hexec
    refine ⟨_, hexec, fun _ hw => ?_, fun _ hw => ?_, fun h => absurd h hlow, fun h => absurd h hlow⟩
    · rw [ackActive_wait ((congrArg SpliceRecord.state (hsplice a)).trans hw)]
      have hax' : (setSplice a (spliceHandOver (filtered (ackOf a) s).clock) (filtered (ackOf a) s)).tc.axes.length = 4 := by
        rw [setSplice_tc]
        exact hax
      refine ⟨?_, fun hact => ?_, fun b hb => ?_, ?_, ?_, ?_⟩
      · have hrc : spliceOf (setAxis (unwindAxis a) axisHandOver (setSplice a (spliceHandOver (filtered (ackOf a) s).clock)
            (filtered (ackOf a) s))) a = spliceHandOver s.clock (spliceOf s a) :=
          (spliceOf_congr rfl a).trans ((spliceOf_setSplice_same a _ _).trans (by rw [hsplice]; rfl))
        exact hrc
      · rw [axisOf_setAxis_same _ hax', setSplice_axisOf]
        exact if_pos (beq_iff_eq.mpr hact)
      · rw [axisOf_setAxis_ne _ hb, setSplice_axisOf]
        rfl
      · simp [setAxis]
        rfl
      · simp [setAxis]
        rfl
      · simp [setAxis]
        rfl
    · rw [ackActive_else (s := filtered (ackOf a) s) hw]
      refine ⟨by simp [filtered, setInput], by simp [filtered, setInput], ?_, by simp [filtered, setInput]⟩
      rw [hsplice]
      exact offerFault_faults_congr _ rfl rfl rfl
  · have hlow : (inputOf s (ackOf a)).activeHigh = lvl := by
      cases lvl <;> simpa using hhigh
    rw [if_neg hhigh] at hexec
    refine ⟨_, hexec, fun h => absurd h hhigh, fun h => absurd h hhigh, fun _ hw => ?_, fun _ hw => ?_⟩
    · rw [ackInactive_else ((congrArg SpliceRecord.state (hsplice a)) ▸ hw)]
      exact filtered_eq _ _
    · rw [ackInactive_completes ((congrArg SpliceRecord.state (hsplice a)).trans hw)]
      have hdone := spliceOf_completeSplice a (filtered (ackOf a) s)
      obtain ⟨hcounter, hvalid, hlife⟩ := completeSplice_counters a (filtered (ackOf a) s)
      have hends := completeSplice_ends a (filtered (ackOf a) s)
      have hcards := hends.card
      have hno := hends.noCard
      rw [hsplice] at hdone hcards hno
      refine ⟨by rw [hdone]; rfl, by rw [hdone]; rfl, by rw [hdone]; rfl, by rw [hdone]; rfl, hcounter, hvalid, hlife,
        fun hst => completeSplice_axis (s := filtered (ackOf a) s) hax hst, _, hends.fabric, fun ha => ?_, fun c hc => ?_, hno⟩
      · obtain ⟨hjoints, hx, hroom, hfull⟩ := hends.paper ha
        refine ⟨hjoints, fun hfree => ?_, fun htaken => ?_, fun h => ?_, hfull⟩
        · rw [hx]
          exact jointCoordinate_kept hfree
        · rw [hx]
          exact jointCoordinate_moved htaken
        · obtain ⟨hplace, hsegs⟩ := hroom h
          exact ⟨hplace, hsegs.trans (List.map_congr_left fun g _ => spoilByJoint_eq _ g)⟩
      · obtain ⟨h1, h2, h3, h4⟩ := hcards c hc
        refine ⟨h1, h2, ?_, ?_⟩
        · cases a <;> exact h3
        · cases a <;> exact h4

end Sys2Proof.Machine

end

section

/-! PROOFS. The milestones that end nothing, and the joints that leave (R6 to R8, R12, R14, R140, R147, R150). -/

namespace Sys2Proof.Machine

/-! ## Which milestone may be taken (R6) -/

theorem mayTake_iff {c : Settings} {pos : Nat} {g : Segment} {m : Milestone} : mayTake c pos g m = true ↔
    ∃ n, threshold c g m = some n ∧ n ≤ pos ∧ (∀ m' n', threshold c g m' = some n' → n ≤ n') ∧
      (m = .leadExit → g.leadNip = true) ∧ (m = .trailExit → g.trailNip = true) := by
  have hall : ∀ n, ([Milestone.leadNip, .trailNip, .leadExit, .trailExit].all fun m' =>
      match threshold c g m' with
      | none => true
      | some t' => decide (n ≤ t')) = true ↔ ∀ m' n', threshold c g m' = some n' → n ≤ n' := fun n => by
    rw [List.all_eq_true]
    constructor
    · intro h m' n' hm
      have := h m' (by cases m' <;> simp)
      rw [hm] at this
      simpa using this
    · intro h m' _
      cases hm : threshold c g m' with
      | none => rfl
      | some n' => simpa using h m' n' hm
  unfold mayTake
  cases threshold c g m with
  | none => simp
  | some n =>
    simp only [Bool.and_eq_true, decide_eq_true_eq, Option.some.injEq, exists_eq_left']
    have hlead : (!(m == Milestone.leadExit && !g.leadNip)) = true ↔ (m = .leadExit → g.leadNip = true) := by
      cases m <;> simp
    have htrail : (!(m == Milestone.trailExit && !g.trailNip)) = true ↔ (m = .trailExit → g.trailNip = true) := by
      cases m <;> simp
    rw [hlead, htrail, and_assoc, and_assoc]
    exact and_congr_right fun _ => and_congr_left' (hall n)

section
variable {s : State} {c : Settings} {pre rest : List Segment} {g : Segment} {m : Milestone}

/-- The first strip of which a milestone may be taken (R6). -/
theorem nextFor_first (hset : s.setup = some c) (hsegs : s.tmap.segs = pre ++ g :: rest) (hm : m ≠ .trailExit)
    (hpre : ∀ h ∈ pre, threshold c h m = none) (hg : mayTake c s.web.pos g m = true) : nextFor s m = some g := by
  have hno : pre.find? (fun h => mayTake c s.web.pos h m) = none := by
    rw [List.find?_eq_none]
    intro h hh
    simp [mayTake, hpre h hh]
  simp [nextFor, hset, hm, hsegs, List.find?_append, hno, hg]

theorem nextFor_none (h : ∀ c, s.setup = some c → ∀ g ∈ s.tmap.segs, mayTake c s.web.pos g m = false) : nextFor s m = none := by
  unfold nextFor
  cases hset : s.setup with
  | none => rfl
  | some c =>
    simp only [List.find?_eq_none]
    intro g hg
    have hmem : g ∈ s.tmap.segs := by
      split at hg
      · exact List.mem_of_mem_take hg
      · exact hg
    simp [h c hset g hmem]

theorem exec_leadAtNip (hon : s.power.mainOn = true) (h : nextFor s .leadNip = some g) : exec .leadAtNip s =
    .next (handoff g (updateSeg g.start (fun g => { g with leadNip := true, runCount := 0 }) s)) :=
  (whenOn_on hon : execLeadAtNip s = _).trans (by rw [h])

theorem exec_trailAtNip (hon : s.power.mainOn = true) (h : nextFor s .trailNip = some g) :
    exec .trailAtNip s = .next (updateSeg g.start (fun g => { g with trailNip := true }) s) :=
  (whenOn_on hon : execTrailAtNip s = _).trans (by rw [h])

theorem exec_leadExit (hon : s.power.mainOn = true) (h : nextFor s .leadExit = some g) :
    exec .leadExit s = .next (updateSeg g.start (fun g => { g with leadExit := true }) s) :=
  (whenOn_on hon : execLeadExit s = _).trans (by rw [h])

theorem exec_trailExit (hon : s.power.mainOn = true) (h : nextFor s .trailExit = some g) :
    exec .trailExit s = .next (touchStart (removeSeg g (reportStrip (judgeSeg g) (judged g) s))) :=
  (whenOn_on hon : execTrailExit s = _).trans (by rw [h])

/-- A milestone of which no strip is ready does nothing. -/
theorem exec_milestone_none (hon : s.power.mainOn = true) (h : ∀ m, nextFor s m = none) {i : Instr}
    (hi : i ∈ [Instr.leadAtNip, .trailAtNip, .leadExit, .trailExit]) : exec i s = .next s := by
  simp only [List.mem_cons, List.not_mem_nil, or_false] at hi
  rcases hi with rfl | rfl | rfl | rfl
  · exact (whenOn_on hon : execLeadAtNip s = _).trans (by rw [h])
  · exact (whenOn_on hon : execTrailAtNip s = _).trans (by rw [h])
  · exact (whenOn_on hon : execLeadExit s = _).trans (by rw [h])
  · exact (whenOn_on hon : execTrailExit s = _).trans (by rw [h])

end

section
variable {c : Settings} {g : Segment} {pos : Nat}

/-- The thresholds of a strip that are defined, each by its milestone (R6). -/
theorem threshold_cases {m : Milestone} {n : Nat} (h : threshold c g m = some n) :
    (m = .leadNip ∧ g.leadNip = false ∧ n = g.start + nipOffset c) ∨ (m = .leadExit ∧ g.leadExit = false ∧ n = g.start + exitOffset c) ∨
      (m = .trailNip ∧ g.trailNip = false ∧ ∃ e, g.endAt = some e ∧ n = e + nipOffset c) ∨
      (m = .trailExit ∧ ∃ e, g.endAt = some e ∧ n = e + exitOffset c) := by
  cases m <;> simp only [threshold, Option.ite_none_left_eq_some, Option.map_eq_some_iff, Option.some.injEq] at h
  case leadNip => exact .inl ⟨rfl, by simpa using h.1, h.2.symm⟩
  case leadExit => exact .inr (.inl ⟨rfl, by simpa using h.1, h.2.symm⟩)
  case trailNip =>
    obtain ⟨hno, e, he, hn⟩ := h
    exact .inr (.inr (.inl ⟨rfl, by simpa using hno, e, he, hn.symm⟩))
  case trailExit =>
    obtain ⟨e, he, hn⟩ := h
    exact .inr (.inr (.inr ⟨rfl, e, he, hn.symm⟩))

theorem nipOffset_le (c : Settings) : nipOffset c ≤ exitOffset c := by
  unfold nipOffset exitOffset
  omega

theorem mayTake_leadNip (hord : ∀ e, g.endAt = some e → g.start ≤ e) (hno : g.leadNip = false) (hpos : g.start + nipOffset c ≤ pos) :
    mayTake c pos g .leadNip = true := by
  have hle := nipOffset_le c
  refine mayTake_iff.mpr ⟨_, by simp [threshold, hno], hpos, fun m n h => ?_, nofun, nofun⟩
  rcases threshold_cases h with ⟨-, -, rfl⟩ | ⟨-, -, rfl⟩ | ⟨-, -, e, he, rfl⟩ | ⟨-, e, he, rfl⟩
  · exact Nat.le_refl _
  · omega
  · have := hord e he
    omega
  · have := hord e he
    omega

theorem mayTake_trailNip {e : Nat} (he : g.endAt = some e) (hlead : g.leadNip = true) (hno : g.trailNip = false)
    (hpos : e + nipOffset c ≤ pos) (hexit : g.leadExit = true ∨ e + nipOffset c ≤ g.start + exitOffset c) :
    mayTake c pos g .trailNip = true := by
  have hle := nipOffset_le c
  refine mayTake_iff.mpr ⟨_, by simp [threshold, hno, he], hpos, fun m n h => ?_, nofun, nofun⟩
  rcases threshold_cases h with ⟨-, hl, -⟩ | ⟨-, hx, rfl⟩ | ⟨-, -, e', he', rfl⟩ | ⟨-, e', he', rfl⟩
  · rw [hlead] at hl
    cases hl
  · rcases hexit with hexit | hexit
    · rw [hexit] at hx
      cases hx
    · exact hexit
  · obtain rfl := Option.some.inj (he.symm.trans he')
    exact Nat.le_refl _
  · obtain rfl := Option.some.inj (he.symm.trans he')
    omega

theorem mayTake_leadExit (hord : ∀ e, g.endAt = some e → g.start ≤ e) (hlead : g.leadNip = true) (hno : g.leadExit = false)
    (hpos : g.start + exitOffset c ≤ pos)
    (htrail : g.trailNip = true ∨ ∀ e, g.endAt = some e → g.start + exitOffset c ≤ e + nipOffset c) : mayTake c pos g .leadExit = true := by
  refine mayTake_iff.mpr ⟨_, by simp [threshold, hno], hpos, fun m n h => ?_, fun _ => hlead, nofun⟩
  rcases threshold_cases h with ⟨-, hl, -⟩ | ⟨-, -, rfl⟩ | ⟨-, hx, e, he, rfl⟩ | ⟨-, e, he, rfl⟩
  · rw [hlead] at hl
    cases hl
  · exact Nat.le_refl _
  · rcases htrail with htrail | htrail
    · rw [htrail] at hx
      cases hx
    · exact htrail e he
  · have := hord e he
    omega

/-- Before the lead reaches the nip no milestone of a strip may be taken. -/
theorem mayTake_early (hord : ∀ e, g.endAt = some e → g.start ≤ e) (hpos : pos < g.start + nipOffset c) (m : Milestone) :
    mayTake c pos g m = false := by
  have hle := nipOffset_le c
  rw [Bool.eq_false_iff]
  intro h
  obtain ⟨n, hn, hpos', -⟩ := mayTake_iff.mp h
  rcases threshold_cases hn with ⟨-, -, rfl⟩ | ⟨-, -, rfl⟩ | ⟨-, -, e, he, rfl⟩ | ⟨-, e, he, rfl⟩
  · omega
  · omega
  · have := hord e he
    omega
  · have := hord e he
    omega

end

/-! ## The fabric handoff (R140) -/

/-- A handoff reaches the two fabric axes alone. -/
theorem handoff_eq (g : Segment) (s : State) : handoff g s = { s with tc := { s.tc with axes := (handoff g s).tc.axes } } := by
  unfold handoff
  (repeat' split) <;> rfl

theorem handoff_none {g : Segment} (h : g.fabricId = none) (s : State) : handoff g s = s := by
  unfold handoff
  rw [h]

theorem axisOf_handoff {g : Segment} {s : State} {id p : Nat} {f : FabricFigures} (hid : g.fabricId = some id) (hp : g.tPlan = some p)
    (hf : (fabricOf s id).figures = some f) (hlen : s.tc.axes.length = 4) (a : Axis) : axisOf (handoff g s) a =
      if a = .fu ∨ a = .fr then handoffAxis f id g.tag p (axisOf s a) else axisOf s a := by
  have heq : handoff g s = setAxis .fr (handoffAxis f id g.tag p) (setAxis .fu (handoffAxis f id g.tag p) s) := by
    unfold handoff
    rw [hid, hp]
    dsimp only
    rw [hf]
  have hlen' := (setAxis_length .fu (handoffAxis f id g.tag p) s).trans hlen
  rw [heq]
  by_cases hfr : a = .fr
  · subst hfr
    rw [axisOf_setAxis_same _ hlen', axisOf_setAxis_ne _ (by decide), if_pos (.inr rfl)]
  · rw [axisOf_setAxis_ne _ hfr]
    by_cases hfu : a = .fu
    · subst hfu
      rw [axisOf_setAxis_same _ hlen, if_pos (.inl rfl)]
    · rw [axisOf_setAxis_ne _ hfu, if_neg (by simp [hfu, hfr])]

/-! ## A pending request is tried (R147) -/

section
variable {s : State} {a : Unwind}

theorem tryPending_begins {k : SpliceCause} (hk : (spliceOf s a).pending = some k) (hax : (axisOf s (unwindAxis a)).state = .active)
    (hidle : (spliceOf s a).state = .idle) (hroom : jointRoom s a = true) :
    tryPending a s = raiseEvent .spliceActive (setSplice a (spliceBegun k none s) s) := by
  have hmay : spliceMayBegin s a = true := by simp [spliceMayBegin, unwindActive, hax, hidle, hroom]
  unfold tryPending
  rw [hk]
  dsimp only
  rw [if_pos hmay, beginSplice_eq]

theorem tryPending_else (h : (spliceOf s a).pending = none ∨ (axisOf s (unwindAxis a)).state ≠ .active ∨ (spliceOf s a).state ≠ .idle ∨
    jointRoom s a = false) : tryPending a s = s := by
  unfold tryPending
  split
  · rename_i k hk
    refine if_neg fun hmay => ?_
    simp only [spliceMayBegin, unwindActive, Bool.and_eq_true, beq_iff_eq] at hmay
    obtain ⟨⟨hax, hidle⟩, hroom⟩ := hmay
    rcases h with h | h | h | h
    · rw [h] at hk
      cases hk
    · exact h hax
    · exact h hidle
    · rw [h] at hroom
      cases hroom
  · rfl

/-- A request that is tried reaches one splice record, and host memory not at all. -/
theorem tryPending_other (a : Unwind) (s : State) : (∀ b, b ≠ a → spliceOf (tryPending a s) b = spliceOf s b) ∧
    (tryPending a s).rc.joints = s.rc.joints ∧ ∀ n, hostByte (tryPending a s) n = hostByte s n := by
  unfold tryPending
  split
  · rename_i k hk
    split
    · exact ⟨fun b hb => (spliceOf_congr (beginSplice_rc a k none s) b).trans (spliceOf_setSplice_other hb _ _),
        by rw [beginSplice_rc, setSplice_joints], hostByte_beginSplice a k none s⟩
    · exact ⟨fun _ _ => rfl, rfl, fun _ => rfl⟩
  · exact ⟨fun _ _ => rfl, rfl, fun _ => rfl⟩

end

/-! ## The strip at the nip (R14) -/

theorem holdsCoordinate_iff {x : Nat} {g : Segment} : holdsCoordinate x g = true ↔ g.start ≤ x ∧ x < extentEnd g := by
  simp [holdsCoordinate]

/-- A fabric joint reaches the map's strips alone. -/
theorem spoilAtNip_eq (s : State) : spoilAtNip s = { s with tmap := { s.tmap with segs := (spoilAtNip s).tmap.segs } } := by
  unfold spoilAtNip
  (repeat' split) <;> rfl

theorem spoilAtNip_spoils {s : State} {c : Settings} {pre post : List Segment} {g : Segment} (hset : s.setup = some c)
    (hpos : nipOffset c ≤ s.web.pos) (hsegs : s.tmap.segs = pre ++ g :: post)
    (hg : g.start ≤ s.web.pos - nipOffset c ∧ s.web.pos - nipOffset c < extentEnd g)
    (hpre : ∀ h ∈ pre, ¬(h.start ≤ s.web.pos - nipOffset c ∧ s.web.pos - nipOffset c < extentEnd h))
    (hne : ∀ h ∈ pre ++ post, h.start ≠ g.start) : (spoilAtNip s).tmap.segs = pre ++ spoilSeg .fabricJoint g :: post := by
  have hfind : s.tmap.segs.find? (holdsCoordinate (s.web.pos - nipOffset c)) = some g := by
    have hno : pre.find? (holdsCoordinate (s.web.pos - nipOffset c)) = none := by
      rw [List.find?_eq_none]
      exact fun h hh => by rw [holdsCoordinate_iff]; exact hpre h hh
    simp [hsegs, List.find?_append, hno, holdsCoordinate_iff.mpr hg]
  have hkeep : ∀ l : List Segment, (∀ h ∈ l, h.start ≠ g.start) →
      l.map (fun h => if h.start = g.start then spoilSeg .fabricJoint h else h) = l := fun l hl =>
    (List.map_congr_left fun h hh => if_neg (hl h hh)).trans (List.map_id' l)
  unfold spoilAtNip
  rw [hset]
  dsimp only
  rw [if_neg (Nat.not_lt.mpr hpos), hfind]
  dsimp only [updateSeg]
  rw [hsegs, List.map_append, List.map_cons, if_pos rfl, hkeep pre fun h hh => hne h (List.mem_append_left _ hh),
    hkeep post fun h hh => hne h (List.mem_append_right _ hh)]

theorem spoilAtNip_none {s : State} (h : ∀ c, s.setup = some c → s.web.pos < nipOffset c ∨
    ∀ g ∈ s.tmap.segs, ¬(g.start ≤ s.web.pos - nipOffset c ∧ s.web.pos - nipOffset c < extentEnd g)) : spoilAtNip s = s := by
  unfold spoilAtNip
  split
  · rfl
  · rename_i c hset
    split
    · rfl
    · rename_i hpos
      have hno : s.tmap.segs.find? (holdsCoordinate (s.web.pos - nipOffset c)) = none := by
        rw [List.find?_eq_none]
        exact fun g hg => by rw [holdsCoordinate_iff]; exact (h c hset).resolve_left hpos g hg
      rw [hno]

/-! ## The commands of the joints -/

theorem exec_jointLeavesWrap_none {s : State} (hon : s.power.mainOn = true) (h : ∀ j ∈ s.tmap.joints, j.due = false) :
    exec .jointLeavesWrap s = .next s := by
  have hno : s.tmap.joints.find? (·.due) = none := by
    rw [List.find?_eq_none]
    exact fun j hj => by simp [h j hj]
  exact (whenOn_on hon : execJointLeavesWrap s = _).trans (by rw [hno])

/-- The map without its furthest joint. -/
def jointGone (rest : List Joint) (s : State) : State := { s with tmap := ⟨s.tmap.segs, rest⟩ }

theorem exec_jointLeavesWrap {s : State} {j : Joint} {rest : List Joint} (hon : s.power.mainOn = true) (hj : s.tmap.joints = j :: rest)
    (hdue : j.due = true) (hne : ∀ k ∈ rest, k.at_ ≠ j.at_) :
    exec .jointLeavesWrap s = .next (touchStart (tryPending .pu (jointGone rest s))) := by
  have hfind : s.tmap.joints.find? (·.due) = some j := by rw [hj, List.find?_cons_of_pos hdue]
  have hgone : s.tmap.joints.filter (fun k => k.at_ != j.at_) = rest := by
    rw [hj, List.filter_cons_of_neg (by simp), List.filter_eq_self]
    exact fun k hk => by simpa using hne k hk
  exact (whenOn_on hon : execJointLeavesWrap s = _).trans (by rw [hfind]; dsimp only; rw [hgone]; rfl)

theorem exec_fabricJointDue_none {s : State} (hon : s.power.mainOn = true) (h : ∀ j ∈ s.rc.joints, j.reached = false) :
    exec .fabricJointDue s = .next s :=
  (whenOn_on hon : execFabricJointDue s = _).trans (congrArg _ (if_neg (by simpa using h)))

/-- The Roll Change Unit with other fabric joints. -/
def fabricJoints (l : List FabricJoint) (s : State) : State := { s with rc := { s.rc with joints := l } }

theorem exec_fabricJointDue {s : State} {before rest : List FabricJoint} {j : FabricJoint} (hon : s.power.mainOn = true)
    (hj : s.rc.joints = before ++ j :: rest) (hbefore : ∀ k ∈ before, k.reached = false) (hr : j.reached = true) :
    exec .fabricJointDue s = .next (tryPending .fu (spoilAtNip (fabricJoints (before ++ rest) s))) := by
  have hany : s.rc.joints.any (·.reached) = true := by simp [hj, hr]
  have herase : s.rc.joints.eraseP (·.reached) = before ++ rest := by
    rw [hj, List.eraseP_append_right _ (fun k hk => by simp [hbefore k hk]), List.eraseP_cons_of_pos hr]
  exact (whenOn_on hon : execFabricJointDue s = _).trans (congrArg _ ((if_pos hany).trans (by rw [herase]; rfl)))

/-- Settles O40: the milestones by the first strip that may take each, the joints by the request that they let go. -/
theorem milestonesAndJoints : Obligations.MilestonesAndJoints := by
  refine ⟨fun s c pre g rest hon hset hsegs hord => ⟨fun hpre hno hpos => ?_, fun e hpre he hlead hno hpos hexit => ?_,
    fun hpre hlead hno hpos htrail => ?_, fun hearly i hi => ?_⟩, fun s hon => ⟨exec_jointLeavesWrap_none hon, fun j rest hj hdue hne => ?_⟩,
    fun s hon => ⟨exec_fabricJointDue_none hon, fun before j rest hj hbefore hr => ?_⟩⟩
  · have hnext : nextFor s .leadNip = some g := nextFor_first hset hsegs (by decide) (fun h hh => by simp [threshold, hpre h hh])
      (mayTake_leadNip hord hno hpos)
    refine ⟨_, exec_leadAtNip hon hnext, ?_, fun hid => ?_, fun id p f hid hp hf hlen => ?_, ?_⟩
    · rw [handoff_eq]
      rfl
    · rw [handoff_none hid]
      rfl
    · refine ⟨by rw [handoff_eq]; rfl, by rw [handoff_eq]; rfl, fun a => ?_⟩
      exact axisOf_handoff (s := updateSeg g.start _ s) hid hp hf hlen a
    · rw [handoff_eq]
      exact ⟨⟨rfl, rfl, rfl, rfl, rfl, rfl, rfl⟩, ⟨rfl, rfl, rfl⟩, ⟨rfl, rfl, rfl⟩, rfl, rfl, rfl, rfl, rfl⟩
  · exact exec_trailAtNip hon (nextFor_first hset hsegs (by decide) (fun h hh => by simp [threshold, hpre h hh])
      (mayTake_trailNip he hlead hno hpos hexit))
  · exact exec_leadExit hon (nextFor_first hset hsegs (by decide) (fun h hh => by simp [threshold, hpre h hh])
      (mayTake_leadExit hord hlead hno hpos htrail))
  · refine exec_milestone_none hon (fun m => nextFor_none fun c' hc' g' hg' => ?_) hi
    obtain rfl := Option.some.inj (hset.symm.trans hc')
    obtain ⟨hpos, hord'⟩ := hearly g' hg'
    exact mayTake_early hord' hpos m
  · obtain ⟨hother, hjoints, hbytes⟩ := tryPending_other .pu (jointGone rest s)
    have hhold := (touchStart_hold (tryPending .pu (jointGone rest s))).2
    have hrc : (touchStart (tryPending .pu (jointGone rest s))).rc = (tryPending .pu (jointGone rest s)).rc := by simp
    refine ⟨_, exec_jointLeavesWrap hon hj hdue hne, by simp [jointGone], by rw [hrc]; exact hother .fu (by decide), by rw [hrc]; exact hjoints,
      fun k hk hroom hax hidle => ?_, fun hno => ?_, fun n _ => ?_, by simp [jointGone], by simp [SameBase, jointGone],
      by simp [SameStore, jointGone], ?_, by simp [jointGone], by simp [jointGone], by simp [jointGone], by simp [jointGone]⟩
    · have hbegin := tryPending_begins (s := jointGone rest s) (a := .pu) hk hax hidle (by simpa [jointRoom, jointGone] using hroom)
      rw [hbegin]
      exact ⟨by simp [setSplice, spliceBegun, jointGone], by simp [raised, jointGone]⟩
    · have hkept := tryPending_else (s := jointGone rest s) (a := .pu) (hno.imp id (Or.imp id .inl))
      rw [hkept]
      simp [jointGone]
    · refine Eq.trans ?_ (hbytes n)
      simp [hostByte]
    · unfold SameButHold at hhold ⊢
      rw [hhold]
      simp [jointGone]
  · obtain ⟨u, hu⟩ : ∃ u, spoilAtNip (fabricJoints (before ++ rest) s) = u := ⟨_, rfl⟩
    have heq : u = { fabricJoints (before ++ rest) s with tmap := { s.tmap with segs := u.tmap.segs } } := by
      rw [← hu]
      exact spoilAtNip_eq _
    have hrc : u.rc = { s.rc with joints := before ++ rest } := by rw [heq]; rfl
    have htc : u.tc = s.tc := by rw [heq]; rfl
    have hlength : before.length + rest.length = u.rc.joints.length := by rw [hrc, List.length_append]
    obtain ⟨hother, hjoints, hbytes⟩ := tryPending_other .fu u
    have htmap : (tryPending .fu u).tmap = u.tmap := by simp
    have hexec := exec_fabricJointDue hon hj hbefore hr
    rw [hu] at hexec
    refine ⟨_, hexec, by rw [hjoints, hrc], (hother .pu (by decide)).trans (by simp only [spliceOf, hrc]), by rw [htmap, heq],
      fun c pre g post hset hpos hsegs hlo hhi hpre hne => ?_, fun hno => ?_, fun k hk hroom hax hidle => ?_, fun hno => ?_,
      fun n _ => (hbytes n).trans (by rw [heq]; rfl), ?_⟩
    · rw [htmap, ← hu]
      exact spoilAtNip_spoils (s := fabricJoints _ s) hset hpos hsegs ⟨hlo, hhi⟩ hpre hne
    · rw [htmap, ← hu, spoilAtNip_none (s := fabricJoints (before ++ rest) s) hno]
      rfl
    · have hbegin := tryPending_begins (s := u) (a := .fu) (k := k) (by rw [spliceOf, hrc]; exact hk) (by rw [axisOf, htc]; exact hax)
        (by rw [spliceOf, hrc]; exact hidle) (by rw [hlength] at hroom; simpa [jointRoom] using hroom)
      rw [hbegin]
      refine ⟨?_, ?_, ?_, ?_, ?_⟩
      · simp [setSplice, spliceBegun]
      · simp [setSplice, spliceBegun]
      · simp [setSplice, spliceBegun]
      · simp [setSplice, spliceBegun]
      · rw [heq]
        simp [raised, fabricJoints]
    · have hkept := tryPending_else (s := u) (a := .fu) (by
        rw [axisOf, htc, spliceOf, hrc]
        exact hno.imp id (Or.imp id .inl))
      rw [hkept, heq]
      exact ⟨rfl, rfl, rfl⟩
    · rw [heq]
      simp [SameBase, SameStore, fabricJoints]

end Sys2Proof.Machine

end

section

/-! PROOFS. The judgement of a strip and its final report (R9, R10, R92, R93, R178, R179). -/

namespace Sys2Proof.Machine

/-! ## The judgement (R92, R93) -/

/-- The worst deviation of a list with one more at its end. -/
theorem worst_append (l : List (Nat × Int)) (d : Nat × Int) : worst (l ++ [d]) =
    match worst l with
    | none => some d
    | some w => if w.2.natAbs < d.2.natAbs then some d else some w := by
  unfold worst
  rw [List.foldl_append]
  rfl

theorem worst_eq_none {l : List (Nat × Int)} : worst l = none ↔ l = [] := by
  constructor
  · intro h
    rcases List.eq_nil_or_concat l with rfl | ⟨l, d, rfl⟩
    · rfl
    · rw [List.concat_eq_append, worst_append] at h
      split at h
      · cases h
      · split at h <;> cases h
  · rintro rfl
    rfl

/-- The worst deviation is the first one of the greatest magnitude (R93). -/
theorem worst_splits {l : List (Nat × Int)} {w : Nat × Int} (h : worst l = some w) :
    ∃ pre post, l = pre ++ w :: post ∧ (∀ x ∈ pre, x.2.natAbs < w.2.natAbs) ∧ ∀ x ∈ post, x.2.natAbs ≤ w.2.natAbs := by
  induction l using List.reverseRecOn generalizing w with
  | nil => cases h
  | append_singleton l d ih =>
    rw [worst_append] at h
    cases hw : worst l with
    | none =>
      rw [hw] at h
      obtain rfl := worst_eq_none.mp hw
      obtain rfl := Option.some.inj h
      exact ⟨[], [], rfl, by simp, by simp⟩
    | some v =>
      rw [hw] at h
      obtain ⟨pre, post, hsplit, hpre, hpost⟩ := ih hw
      by_cases hlt : v.2.natAbs < d.2.natAbs
      · obtain rfl := Option.some.inj ((if_pos hlt).symm.trans h)
        refine ⟨l, [], rfl, fun x hx => ?_, by simp⟩
        rw [hsplit] at hx
        rcases List.mem_append.mp hx with hx | hx
        · exact (hpre x hx).trans hlt
        · rcases List.mem_cons.mp hx with rfl | hx
          · exact hlt
          · exact (hpost x hx).trans_lt hlt
      · obtain rfl := Option.some.inj ((if_neg hlt).symm.trans h)
        refine ⟨pre, post ++ [d], by simp [hsplit], hpre, fun x hx => ?_⟩
        rcases List.mem_append.mp hx with hx | hx
        · exact hpost x hx
        · obtain rfl := List.mem_singleton.mp hx
          exact Nat.le_of_not_lt hlt

section
variable {delivered planned : List Nat} {off : List Bool}

theorem mem_deviations {z : Nat} {d : Int} : (z, d) ∈ deviations delivered planned off ↔
    z < planned.length ∧ off[z]? = some false ∧ d = deviation ((delivered[z]?).getD 0) ((planned[z]?).getD 0) := by
  have hoff : (!nth off z true) = true ↔ off[z]? = some false := by
    unfold nth
    cases off[z]? with
    | none => simp
    | some b => cases b <;> simp
  unfold deviations
  simp only [List.mem_map, List.mem_filter, List.mem_range, Prod.mk.injEq]
  constructor
  · rintro ⟨z, ⟨hz, ho⟩, rfl, rfl⟩
    exact ⟨hz, hoff.mp ho, rfl⟩
  · rintro ⟨hz, ho, rfl⟩
    exact ⟨z, ⟨hz, hoff.mpr ho⟩, rfl, rfl⟩

/-- The deviations stand in ascending order of zone. -/
theorem deviations_ascend : ((deviations delivered planned off).map (·.1)).Pairwise (· < ·) := by
  unfold deviations
  rw [List.map_map]
  exact (List.map_id' _).symm ▸ List.Pairwise.filter _ List.pairwise_lt_range

end

theorem judgeSeg_offDose (g : Segment) : (judgeSeg g).flags.offDose = true ↔ g.flags.offDose = true ∨
    ∃ x ∈ deviations g.dLead g.dPlan g.off ++ deviations g.dTrail g.dPlan g.off, g.tol * 10 < x.2.natAbs := by
  simp only [judgeSeg, Bool.or_eq_true, List.any_eq_true, decide_eq_true_eq]

/-- The quotient of a deviation, cut towards 0: its sign and its magnitude (R92). -/
theorem tdiv_natAbs (a : Int) (p : Nat) : (a.tdiv p).natAbs = a.natAbs / p := by
  rw [Int.natAbs_tdiv]
  rfl

/-- A dose short of its plan is short by 100 % at most. -/
theorem deviation_magnitude (d p : Nat) : (p - d) * 1000 / p ≤ 1000 :=
  Nat.div_le_of_le_mul (Nat.mul_le_mul_right 1000 (Nat.sub_le p d))

theorem deviation_nonneg {d p : Nat} (h : p ≤ d) : deviation d p = ((min 32767 ((d - p) * 1000 / p) : Nat) : Int) := by
  have hnum : ((d : Int) - p) * 1000 = (((d - p) * 1000 : Nat) : Int) := by omega
  unfold deviation clampInt
  rw [hnum, ← Int.ofNat_tdiv]
  generalize (d - p) * 1000 / p = n
  omega

theorem deviation_nonpos {d p : Nat} (h : d ≤ p) : deviation d p = -(((p - d) * 1000 / p : Nat) : Int) := by
  have hnum : ((d : Int) - p) * 1000 = -(((p - d) * 1000 : Nat) : Int) := by omega
  have hle := deviation_magnitude d p
  unfold deviation clampInt
  rw [hnum, Int.neg_tdiv, ← Int.ofNat_tdiv]
  generalize (p - d) * 1000 / p = n at hle ⊢
  omega

/-- What a deviation lies between, and how near it is to the difference (R92). -/
theorem deviation_bounds {d p : Nat} (hp : 0 < p) : -1000 ≤ deviation d p ∧ deviation d p ≤ 32767 ∧ (d ≤ p → deviation d p ≤ 0) ∧
    (p ≤ d → 0 ≤ deviation d p) ∧ (deviation d p).natAbs * p ≤ ((d : Int) - p).natAbs * 1000 ∧
    (deviation d p < 32767 → ((d : Int) - p).natAbs * 1000 < ((deviation d p).natAbs + 1) * p) := by
  rcases Nat.le_total d p with h | h
  · have hle := deviation_magnitude d p
    have habs : ((d : Int) - p).natAbs = p - d := by omega
    have hlo := Nat.div_mul_le_self ((p - d) * 1000) p
    have hhi := Nat.lt_mul_div_succ ((p - d) * 1000) hp
    rw [deviation_nonpos h, Int.natAbs_neg, Int.natAbs_natCast, habs]
    have hpos : p ≤ d → (p - d) * 1000 / p = 0 := fun hpd => by simp [Nat.sub_eq_zero_of_le hpd]
    generalize (p - d) * 1000 / p = n at *
    refine ⟨by omega, by omega, fun _ => by omega, fun hpd => by rw [hpos hpd]; decide, hlo, fun _ => ?_⟩
    rwa [Nat.mul_comm _ p]
  · have habs : ((d : Int) - p).natAbs = d - p := by omega
    have hlo := Nat.div_mul_le_self ((d - p) * 1000) p
    have hhi := Nat.lt_mul_div_succ ((d - p) * 1000) hp
    have hneg : d ≤ p → (d - p) * 1000 / p = 0 := fun hdp => by simp [Nat.sub_eq_zero_of_le hdp]
    rw [deviation_nonneg h, Int.natAbs_natCast, habs]
    generalize (d - p) * 1000 / p = n at *
    refine ⟨by omega, by omega, fun hdp => by rw [hneg hdp]; decide, fun _ => by omega,
      (Nat.mul_le_mul_right p (Nat.min_le_right _ _)).trans hlo, fun hlt => ?_⟩
    rw [Nat.min_eq_right (by omega), Nat.mul_comm _ p]
    exact hhi

/-! ## The bytes of a report (R178, R179) -/

section
variable {s : State}

/-- Cells written together are as those written one after another. -/
theorem hostByte_postWrite_append (l m : List Host.Cell) (s : State) (a : Nat) :
    hostByte (postWrite (l ++ m) s) a = hostByte (postWrite m (postWrite l s)) a := by
  simp only [hostByte, postWrite, emit, writtenByte, List.reverse_append, List.find?_append]
  cases m.reverse.find? (fun c => c.1 == a) with
  | some c => rfl
  | none => rfl

theorem hostByte_postWrite_nil (s : State) (a : Nat) : hostByte (postWrite [] s) a = hostByte s a := rfl

/-- A row written elsewhere leaves a byte. -/
theorem hostByte_postWrite_apart {addr a : Nat} {l : List Byte} (h : a < addr ∨ addr + l.length ≤ a) :
    hostByte (postWrite (cellsAt addr l) s) a = hostByte s a := by
  rw [hostByte_postWrite_cellsAt, if_neg]
  omega

theorem postWrite_cellsAt_holds (addr : Nat) (l : List Byte) (s : State) : HostHolds (postWrite (cellsAt addr l) s) addr l := by
  intro i b hb
  have hi : i < l.length := (List.getElem?_eq_some_iff.mp hb).1
  rw [hostByte_postWrite_cellsAt, if_pos (by omega), Nat.add_sub_cancel_left]
  exact hb

theorem HostHolds.congr {t : State} {addr : Nat} {l : List Byte} (h : HostHolds s addr l)
    (hsame : ∀ a, addr ≤ a → a < addr + l.length → hostByte t a = hostByte s a) : HostHolds t addr l := by
  intro i b hb
  have hi : i < l.length := (List.getElem?_eq_some_iff.mp hb).1
  rw [hsame _ (by omega) (by omega)]
  exact h i b hb

/-- A row that stands within a row of bytes of host memory. -/
theorem HostHolds.of_holds {addr off : Nat} {l bs : List Byte} (h : HostHolds s addr l) (hl : Holds l off bs) : HostHolds s (addr + off) bs :=
  fun i b hb => by
    have := h (off + i) b (hl i b hb)
    rwa [← Nat.add_assoc] at this

/-- Fields written together reach no byte outside them. -/
theorem hostByte_fieldCells_else {addr a : Nat} (fields : List (Nat × List Byte)) (s : State)
    (h : ∀ f ∈ fields, a < addr + f.1 ∨ addr + f.1 + f.2.length ≤ a) : hostByte (postWrite (fieldCells addr fields) s) a = hostByte s a := by
  induction fields generalizing s with
  | nil => exact hostByte_postWrite_nil s a
  | cons f fs ih =>
    obtain ⟨hf, hfs⟩ := List.forall_mem_cons.mp h
    have heq : fieldCells addr (f :: fs) = cellsAt (addr + f.1) f.2 ++ fieldCells addr fs := rfl
    rw [heq, hostByte_postWrite_append, ih _ hfs, hostByte_postWrite_apart hf]

/-- Each of some fields that do not overlap stands in host memory once they are written. -/
theorem fieldCells_holds {addr : Nat} {fields : List (Nat × List Byte)} (hapart : fields.Pairwise FieldsApart) (s : State)
    {f : Nat × List Byte} (hf : f ∈ fields) : HostHolds (postWrite (fieldCells addr fields) s) (addr + f.1) f.2 := by
  induction fields generalizing s with
  | nil => cases hf
  | cons g gs ih =>
    obtain ⟨hg, hgs⟩ := List.pairwise_cons.mp hapart
    have heq : ∀ a, hostByte (postWrite (fieldCells addr (g :: gs)) s) a =
        hostByte (postWrite (fieldCells addr gs) (postWrite (cellsAt (addr + g.1) g.2) s)) a := hostByte_postWrite_append _ _ s
    rcases List.mem_cons.mp hf with rfl | hf
    · refine (postWrite_cellsAt_holds (addr + f.1) f.2 s).congr fun a hlo hhi => ?_
      rw [heq, hostByte_fieldCells_else gs _ fun x hx => ?_]
      have := hg x hx
      unfold FieldsApart at this
      omega
    · exact (ih hgs (postWrite (cellsAt (addr + g.1) g.2) s) hf).congr fun a _ _ => heq a

end

@[simp] theorem leOpt_length (n : Nat) (v : Option Nat) : (leOpt n v).length = n := by
  cases v <;> simp [leOpt, absent]

@[simp] theorem leInt_length (n : Nat) (v : Int) : (leInt n v).length = n := by simp [leInt]

@[simp] theorem zoneFields_length (n : Nat) (l : List Nat) : (zoneFields n l).length = 8 * n := by
  simp [zoneFields, List.range_succ]
  omega

@[simp] theorem deviationField_length (w : Option (Nat × Int)) : (deviationField w).length = 2 := by simp [deviationField]

section
variable {p : Nat} {g : Segment} {w : Option (Nat × Int) × Option (Nat × Int)}

theorem commonFields_apart : (commonFields p g).Pairwise FieldsApart := by
  simp [commonFields, FieldsApart, versionField]

theorem commonFields_fit : ∀ f ∈ commonFields p g, 128 ≤ f.1 ∧ f.1 + f.2.length ≤ 200 := by
  simp [commonFields, versionField]

theorem secondFields_apart : (secondFields g w).Pairwise FieldsApart := by
  simp [secondFields, FieldsApart]

theorem secondFields_fit : ∀ f ∈ secondFields g w, 200 ≤ f.1 ∧ f.1 + f.2.length ≤ 256 := by
  simp [secondFields]

theorem reportFields_apart : (commonFields p g ++ firstFields p g ++ secondFields g w).Pairwise FieldsApart := by
  simp [commonFields, firstFields, secondFields, FieldsApart, versionField]

theorem reportFields_fit : ∀ f ∈ commonFields p g ++ firstFields p g ++ secondFields g w, 128 ≤ f.1 ∧ f.1 + f.2.length ≤ 256 := by
  simp [commonFields, firstFields, secondFields, versionField]

end

/-- The fields of a list, laid into an area from an offset on, stand at their places (R178). -/
theorem area_field {n lo : Nat} {fields : List (Nat × List Byte)} (hfit : ∀ f ∈ fields, lo ≤ f.1 ∧ f.1 + f.2.length ≤ lo + n)
    (hapart : fields.Pairwise FieldsApart) {f : Nat × List Byte} (hf : f ∈ fields) :
    Holds (area n (fields.map fun f => (f.1 - lo, f.2))) (f.1 - lo) f.2 := by
  refine area_holds (f := (f.1 - lo, f.2)) (List.mem_map.mpr ⟨f, hf, rfl⟩) (fun x hx => ?_) ?_
  · obtain ⟨y, hy, rfl⟩ := List.mem_map.mp hx
    have := hfit y hy
    dsimp only
    omega
  · refine List.pairwise_map.mpr (hapart.imp_of_mem fun {a b} ha hb hab => ?_)
    have h1 := hfit a ha
    have h2 := hfit b hb
    unfold FieldsApart at hab ⊢
    dsimp only
    omega

section
variable {c : CardRef} {g : Segment} {w : Option (Nat × Int) × Option (Nat × Int)} {s : State}

/-- Every field of a strip's results stands once they are written, and nothing outside bytes 128 to 255 is reached (R179). -/
theorem writeStripResults_holds (c : CardRef) (g : Segment) (w : Option (Nat × Int) × Option (Nat × Int)) (s : State) :
    (∀ f ∈ commonFields (pitchOf s) g ++ secondFields g w, HostHolds (writeStripResults c g w s) (c.addr + f.1) f.2) ∧
      OnlyWrites s (writeStripResults c g w s) (fun a => c.addr + 128 ≤ a ∧ a < c.addr + 256) := by
  unfold writeStripResults
  dsimp only
  split
  · have hlen : (secondBytes g w).length = 56 := area_length 56 _
    refine ⟨fun f hf => ?_, fun a ha => ?_⟩
    · rcases List.mem_append.mp hf with hf | hf
      · have hfit := commonFields_fit f hf
        refine (fieldCells_holds commonFields_apart s hf).congr fun a _ hhi => hostByte_postWrite_apart (.inl ?_)
        omega
      · have hfit := secondFields_fit f hf
        have hfield := (postWrite_cellsAt_holds (c.addr + 200) (secondBytes g w)
          (postWrite (fieldCells c.addr (commonFields (pitchOf s) g)) s)).of_holds
          (area_field (n := 56) (lo := 200) (fun f hf => secondFields_fit f hf) secondFields_apart hf)
        rwa [show c.addr + 200 + (f.1 - 200) = c.addr + f.1 by omega] at hfield
    · rw [hostByte_postWrite_apart (by rw [hlen]; omega), hostByte_fieldCells_else _ _ fun f hf => ?_]
      have := commonFields_fit f hf
      omega
  · refine ⟨fun f hf => ?_, fun a ha => hostByte_postWrite_apart (by rw [area_length]; omega)⟩
    have hmem : f ∈ commonFields (pitchOf s) g ++ firstFields (pitchOf s) g ++ secondFields g w := by
      rcases List.mem_append.mp hf with hf | hf
      · exact List.mem_append_left _ (List.mem_append_left _ hf)
      · exact List.mem_append_right _ hf
    have hfit := reportFields_fit f hmem
    have hfield := (postWrite_cellsAt_holds (c.addr + 128) _ s).of_holds
      (area_field (n := 128) (lo := 128) reportFields_fit reportFields_apart hmem)
    rwa [show c.addr + 128 + (f.1 - 128) = c.addr + f.1 by omega] at hfield

/-- A stalled FENCE counts a final card (R164, R168). -/
theorem noteFinal_engine (s : State) : (noteFinal s).ce = { offeredAgain .fence s.ce with
    fenceCount := if s.ce.state = .stalled ∧ (s.ce.current.bind fun c => CardKind.ofByte c.ref.kind) = some .fence then
      s.ce.fenceCount + 1 else s.ce.fenceCount } := by
  have hk : (s.ce.state = .stalled ∧ (s.ce.current.bind fun c => CardKind.ofByte c.ref.kind) = some .fence) ↔
      (s.ce.state == .stalled && currentIs s .fence) = true := by simp [currentIs_eq]
  unfold noteFinal offeredAgain
  rw [← currentIs_eq, if_congr hk rfl rfl]
  cases s.ce.state == .stalled && currentIs s .fence <;> simp

/-- The header write that makes a card final (R166). -/
theorem finishCard_written (c : CardRef) (st : CardState) (rc : ResultCode) (s : State) : CardFinal c st rc (finishCard c st rc s) ∧
    OnlyWrites s (finishCard c st rc s) (fun a => a = c.addr + 8 ∨ a = c.addr + 11) ∧
    (finishCard c st rc s).ce = engineFinal c s.ce := by
  have hfinal := finalWrite_written c [] st rc s
  have hbytes : ∀ u a, hostByte (finishCard c st rc u) a = hostByte (writeHeader c.addr st rc u) a := fun u a => by
    unfold finishCard
    dsimp only
    rw [hostByte_raiseEvent, hostByte_noteFinal]
    rfl
  have hhead : ∀ u a, (a = c.addr + 8 ∨ a = c.addr + 11) → hostByte (writeHeader c.addr st rc u) a = hostByte (writeHeader c.addr st rc s) a := by
    intro u a ha
    rcases ha with rfl | rfl <;> simp [hostByte, writeHeader, postWrite, emit, writtenByte]
  obtain ⟨⟨hst, hrc, -, hout⟩, -, -⟩ := hfinal
  have hce : (finishCard c st rc s).ce = engineFinal c s.ce := by
    simp [finishCard, noteFinal_engine, writeHeader, postWrite, emit, engineFinal, offeredAgain, without]
  refine ⟨⟨?_, ?_, ?_, ?_⟩, fun a ha => ?_, hce⟩
  · have := hst
    unfold finalWrite at this
    rwa [hbytes, hhead _ _ (.inl rfl), ← hbytes] at this
  · have := hrc
    unfold finalWrite at this
    rwa [hbytes, hhead _ _ (.inr rfl), ← hbytes] at this
  · exact raiseEvent_hasEvent _ _
  · have hengine := finalWrite_engine c [] st rc s
    rw [hengine] at hout
    rw [hce]
    exact hout
  · rw [hbytes]
    exact hostByte_writeHeader_else _ _ _ _ _ (fun h => ha (.inl h)) fun h => ha (.inr h)

theorem reportStrip_none (h : g.card = none) : reportStrip g w s = s := by
  unfold reportStrip
  rw [h]

/-- The final report of a strip that has a card (R9, R15, R179). -/
theorem reportStrip_written (h : g.card = some c) :
    CardFinal c (if g.spoil.isSome then .spoiled else .transferred) .ok (reportStrip g w s) ∧
      (∀ f ∈ commonFields (pitchOf s) g ++ secondFields g w, HostHolds (reportStrip g w s) (c.addr + f.1) f.2) ∧
      OnlyWrites s (reportStrip g w s) (FinalBytes c) ∧ (reportStrip g w s).ce = engineFinal c s.ce := by
  obtain ⟨hholds, honly⟩ := writeStripResults_holds c g w s
  obtain ⟨hfinal, hhead, hce⟩ := finishCard_written c (if g.spoil.isSome then .spoiled else .transferred) .ok (writeStripResults c g w s)
  have hrep : reportStrip g w s = finishCard c (if g.spoil.isSome then .spoiled else .transferred) .ok (writeStripResults c g w s) := by
    unfold reportStrip
    rw [h]
  rw [hrep]
  refine ⟨hfinal, fun f hf => (hholds f hf).congr fun a hlo _ => hhead a ?_, fun a ha => ?_, hce.trans (by simp)⟩
  · have hfit : 128 ≤ f.1 := by
      rcases List.mem_append.mp hf with hf | hf
      · exact (commonFields_fit f hf).1
      · exact (Nat.le_trans (by decide) (secondFields_fit f hf).1)
    omega
  · unfold FinalBytes at ha
    rw [hhead a (by omega), honly a (by omega)]

end

/-! ## Trail exit (R9, R10) -/

/-- A fabric reference that is released is the fabric's alone (R138). -/
theorem releaseFabric_fabrics {id : Nat} {f : FabricRecord} {s : State} (hid : 1 ≤ id) (hf : s.tc.fabrics[id - 1]? = some f) :
    (releaseFabric id s).tc.fabrics[id - 1]? = some { f with refs := f.refs - 1 } := by
  have heq : releaseFabric id s = setFabric id (fun r => { r with refs := r.refs - 1 }) s := if_neg (by omega)
  rw [heq]
  simp [setFabric, modifyNth_getElem?_eq, hf]

theorem releaseFabric_none (s : State) : releaseFabric 0 s = s := rfl

theorem releaseFabric_eq (id : Nat) (s : State) : releaseFabric id s = { s with tc := { s.tc with fabrics := (releaseFabric id s).tc.fabrics } } := by
  unfold releaseFabric
  split <;> rfl

/-- The trail of the first strip leaves the wrap (R6, R10). -/
theorem mayTake_trailExit {c : Settings} {g : Segment} {e pos : Nat} (he : g.endAt = some e) (hlead : g.leadNip = true)
    (hexit : g.leadExit = true) (htrail : g.trailNip = true) (hpos : e + exitOffset c ≤ pos) : mayTake c pos g .trailExit = true := by
  refine mayTake_iff.mpr ⟨e + exitOffset c, by simp [threshold, he], hpos, fun m n h => ?_, nofun, fun _ => htrail⟩
  rcases threshold_cases h with ⟨-, hl, -⟩ | ⟨-, hl, -⟩ | ⟨-, hl, -⟩ | ⟨-, e', he', rfl⟩
  · simp [hlead] at hl
  · simp [hexit] at hl
  · simp [htrail] at hl
  · obtain rfl := Option.some.inj (he.symm.trans he')
    exact Nat.le_refl _

theorem mayTake_trailExit_not {c : Settings} {g : Segment} {pos : Nat} (h : g.endAt = none ∨ g.trailNip = false ∨ ∃ e, g.endAt = some e ∧
    (pos < e + exitOffset c ∨ (g.leadNip = false ∧ g.start ≤ e ∧ 0 < c.lW) ∨ (g.leadExit = false ∧ g.start < e))) :
    mayTake c pos g .trailExit = false := by
  rw [Bool.eq_false_iff]
  intro hmay
  obtain ⟨n, hn, hpos, hleast, -, htrail⟩ := mayTake_iff.mp hmay
  rcases h with h | h | ⟨e, he, h⟩
  · simp [threshold, h] at hn
  · simp [htrail rfl] at h
  · obtain rfl : e + exitOffset c = n := by simpa [threshold, he] using hn
    rcases h with h | ⟨hl, hle, hlw⟩ | ⟨hl, hlt⟩
    · omega
    · have := hleast .leadNip (g.start + nipOffset c) (by simp [threshold, hl])
      unfold exitOffset nipOffset at this
      omega
    · have := hleast .leadExit (g.start + exitOffset c) (by simp [threshold, hl])
      omega

theorem raiseEvent_tc (e : Event) (s : State) : (raiseEvent e s).tc = s.tc := by simp

/-- An entry that leaves the map reaches no byte of host memory and neither the engine nor the faults (R10). -/
theorem removeSeg_rest (g : Segment) (s : State) : (∀ a, hostByte (removeSeg g s) a = hostByte s a) ∧ (removeSeg g s).ce = s.ce ∧
    (removeSeg g s).tmap = ⟨s.tmap.segs.filter (fun h => h.start != g.start), s.tmap.joints⟩ ∧
    (removeSeg g s).tc = (releaseFabric (g.fabricId.getD 0) s).tc ∧ hasEvent (removeSeg g s) .segmentDone = true ∧
    (removeSeg g s).su.faults = s.su.faults := by
  refine ⟨fun a => ?_, by simp [removeSeg], by simp [removeSeg], ?_, raiseEvent_hasEvent _ _, ?_⟩
  · unfold removeSeg
    rw [hostByte_raiseEvent, releaseFabric_eq]
    rfl
  · unfold removeSeg
    rw [raiseEvent_tc]
    unfold releaseFabric
    split <;> rfl
  · rw [(removeSeg_raises (l := [.segmentDone]) (by decide) g s).rest]

/-- Settles O41: the report of a strip, what its removal changes, and the arithmetic of the judgement. -/
theorem trailExitReportsTheStrip : Obligations.TrailExitReportsTheStrip := by
  refine ⟨fun s c g rest e hon hset hsegs he hlead hexit htrail hpos => ?_, fun s c g rest hset hsegs h => ?_, judgeSeg_offDose,
    fun _ _ _ _ _ => mem_deviations, fun delivered planned off => ⟨deviations_ascend, fun w hw => ?_⟩, fun d p hp => deviation_bounds hp,
    fun l => ⟨worst_eq_none, fun w => worst_splits⟩⟩
  · have hmay : mayTake c s.web.pos g .trailExit = true := mayTake_trailExit he hlead hexit htrail hpos
    have hnext : nextFor s .trailExit = some g := by simp [nextFor, hset, hsegs, hmay]
    have hpitch : pitchOf s = c.pitch := by simp [pitchOf, hset]
    obtain ⟨u, hu⟩ : ∃ u, reportStrip (judgeSeg g) (judged g) s = u := ⟨_, rfl⟩
    obtain ⟨hbytes, hce, htmap, htc, hdone, hfaults⟩ := removeSeg_rest g u
    obtain ⟨t, ht⟩ : ∃ t, touchStart (removeSeg g u) = t := ⟨_, rfl⟩
    have htbytes : ∀ a, hostByte t a = hostByte u a := fun a => by
      rw [← hbytes a, ← ht]
      simp [hostByte]
    have htsu : t.su = (removeSeg g u).su := by rw [← ht]; simp
    have hutc : u.tc = s.tc := by rw [← hu]; simp
    have httc : t.tc = (releaseFabric (g.fabricId.getD 0) s).tc := by
      rw [← ht]
      refine Eq.trans (by simp) (htc.trans ?_)
      simp only [releaseFabric, setFabric]
      split
      · exact hutc
      · simp only [hutc]
    have hexec := exec_trailExit hon hnext
    rw [hu, ht] at hexec
    refine ⟨t, hexec, ?_, ?_, fun r hr => ?_, fun hno => ?_, fun id f hid h1 hf => ?_, fun hno => ?_, ?_, ?_, ?_, ?_, ?_⟩
    · rw [← ht]
      refine Eq.trans (by simp) (htmap.trans ?_)
      rw [← hu]
      simp
    · rw [hasEvent, htsu]
      exact hdone
    · obtain ⟨hfinal, hfields, honly, hengine⟩ := reportStrip_written (g := judgeSeg g) (w := judged g) (s := s) (c := r) hr
      rw [hu] at hfinal hfields honly hengine
      have hspared : Spared r u t := ⟨fun a _ => htbytes a, fun hev => by
          rw [hasEvent, htsu]
          exact (removeSeg_raises (l := [.segmentDone]) (by decide) g u).stays hev, fun x hx => by
          rw [← ht] at hx
          simpa [hce] using hx⟩
      have hholds : ∀ f ∈ commonFields (pitchOf s) (judgeSeg g) ++ secondFields (judgeSeg g) (judged g), HostHolds t (r.addr + f.1) f.2 :=
        fun f hf => (hfields f hf).congr fun a _ _ => htbytes a
      have hcommon := fun f hf => hholds f (List.mem_append_left _ hf)
      have hsecond : ∀ f ∈ secondFields g (judged g), HostHolds t (r.addr + f.1) f.2 := fun f hf => hholds f (List.mem_append_right _ hf)
      have hstart : (judgeSeg g).start = g.start := rfl
      have hemitted : (judgeSeg g).emitted = g.emitted := rfl
      have hlines := hcommon (134, leOpt 3 ((judgeSeg g).endAt.map fun e => (e - g.start) / pitchOf s)) (by simp [commonFields, hstart])
      have hspoil := hcommon (199, [((judgeSeg g).spoil.map (·.code)).getD 0]) (by simp [commonFields]) 0 _ rfl
      have hend : (judgeSeg g).endAt = some e := he
      rw [hend, hpitch] at hlines
      have honly' : OnlyWrites s t (FinalBytes r) := fun a ha => (htbytes a).trans (honly a ha)
      refine ⟨hfinal.spared hspared, hcommon (128, le 6 g.start) ?_, hlines, hcommon (189, le 3 g.emitted) ?_,
        hcommon (198, le 1 (judgeSeg g).flags.byte) ?_, hspoil, hsecond (200, zoneFields 3 (g.dLead.map (min 16777215))) ?_,
        hsecond (224, zoneFields 3 (g.dTrail.map (min 16777215))) ?_, hsecond (248, deviationField (judged g).1) ?_,
        hsecond (250, deviationField (judged g).2) ?_,
        hsecond (252, le 1 (((judged g).1.map (·.1)).getD 15 + 16 * ((judged g).2.map (·.1)).getD 15)) ?_, honly', ?_⟩
      · simp [commonFields, hstart]
      · simp [commonFields, hemitted]
      · simp [commonFields]
      · simp [secondFields]
      · simp [secondFields]
      · simp [secondFields]
      · simp [secondFields]
      · simp [secondFields]
      · rw [← ht]
        refine Eq.trans (by simp) (hce.trans hengine)
    · have hkept : u = s := hu.symm.trans (reportStrip_none hno)
      refine ⟨fun a _ => by rw [htbytes, hkept], ?_⟩
      rw [← ht]
      simp [hkept]
    · rw [httc, hid]
      exact releaseFabric_fabrics h1 hf
    · rw [httc, hno]
      rfl
    · rw [httc, releaseFabric_eq]
    · rw [httc, releaseFabric_eq]
    · have hpe : (removeSeg g u).pe = s.pe := by
        rw [← hu]
        simp [removeSeg]
      have hhold := (touchStart_hold (removeSeg g u)).2
      unfold SameButHold at hhold ⊢
      rwa [ht, hpe] at hhold
    · rw [htsu, hfaults, ← hu, (reportStrip_raises (l := [.cardFinal]) (by decide) _ _ _).rest]
    · rw [← ht, ← hu]
      simp [SameBase, SameStore, removeSeg]
  · have hnone : nextFor s .trailExit = none := by
      have := mayTake_trailExit_not (pos := s.web.pos) h
      simp [nextFor, hset, hsegs, this]
    cases hon : s.power.mainOn with
    | true => exact (whenOn_on hon : execTrailExit s = _).trans (by rw [hnone])
    | false => exact (whenOn_off hon : execTrailExit s = _)
  · obtain ⟨pre, post, hsplit, hpre, hpost⟩ := worst_splits hw
    have hasc := deviations_ascend (delivered := delivered) (planned := planned) (off := off)
    rw [hsplit] at hasc ⊢
    rw [List.pairwise_map, List.pairwise_append, List.pairwise_cons] at hasc
    obtain ⟨-, ⟨hafter, -⟩, -⟩ := hasc
    refine ⟨by simp, fun x hx => ?_⟩
    rcases List.mem_append.mp hx with hx | hx
    · have := hpre x hx
      exact ⟨this.le, fun h => absurd h this.ne⟩
    · rcases List.mem_cons.mp hx with rfl | hx
      · exact ⟨le_refl _, fun _ => le_refl _⟩
      · exact ⟨hpost x hx, fun _ => (hafter x hx).le⟩

end Sys2Proof.Machine

end

section

/-! PROOFS. The strips that a halt finds in the map (R15, R16, R94, R138). -/

namespace Sys2Proof.Machine

/-- An entry as a halt reports it: spoiled by the halt unless a reason stands, and an ORPHAN as it is (R15, R16). -/
def haltSeg (g : Segment) : Segment := if g.flags.orphan then g else spoilSeg .halt g

/-- A halt reports one entry, unjudged, and removes it (R16, R94). -/
def haltStrip (s : State) (g : Segment) : State := removeSeg g (reportStrip (haltSeg g) (none, none) s)

theorem haltMap_eq (s : State) : haltMap s = s.tmap.segs.foldl haltStrip s := rfl

theorem haltSeg_card (g : Segment) : (haltSeg g).card = g.card := by
  unfold haltSeg spoilSeg
  split <;> rfl

theorem haltMap_clears (s : State) : (haltMap s).tmap = ⟨[], s.tmap.joints⟩ := by
  have hsegs := haltMap_empty s
  have hjoints := (haltMap_tmap s).1
  cases htm : (haltMap s).tmap
  simp_all

theorem HostHolds.append {t : State} {addr : Nat} {l m : List Byte} (hl : HostHolds t addr l) (hm : HostHolds t (addr + l.length) m) :
    HostHolds t addr (l ++ m) := by
  intro i b hb
  rw [List.getElem?_append] at hb
  split at hb
  · exact hl i b hb
  · have := hm _ b hb
    rwa [show addr + l.length + (i - l.length) = addr + i by omega] at this

section
variable {s : State} {g : Segment} {r : CardRef}

/-- An entry that leaves the map spares every card. -/
theorem removeSeg_spares (c : CardRef) (g : Segment) (s : State) : Spared c s (removeSeg g s) := by
  obtain ⟨hbytes, hce, -⟩ := removeSeg_rest g s
  exact ⟨fun a _ => hbytes a, (removeSeg_raises (l := [.segmentDone]) (by decide) g s).stays, fun x hx => by rwa [hce] at hx⟩

theorem haltStrip_raises (s : State) (g : Segment) : Raises haltEvents s (haltStrip s g) :=
  (reportStrip_raises (by decide) _ _ s).trans (removeSeg_raises (by decide) g _)

/-- A strip that a halt reports reaches its own card's final bytes alone. -/
theorem haltStrip_writes (s : State) (g : Segment) : OnlyWrites s (haltStrip s g) (fun a => ∃ r, g.card = some r ∧ FinalBytes r a) := by
  intro a ha
  rw [haltStrip, (removeSeg_rest g _).1]
  cases hc : g.card with
  | none => rw [reportStrip_none ((haltSeg_card g).trans hc)]
  | some r => exact (reportStrip_written ((haltSeg_card g).trans hc)).2.2.1 a fun hr => ha ⟨r, hc, hr⟩

theorem haltStrip_outstanding (s : State) (g : Segment) :
    (haltStrip s g).ce.outstanding = s.ce.outstanding.filter (fun x => g.card.all fun r => x.take != r.take) := by
  rw [haltStrip, (removeSeg_rest g _).2.1]
  cases hc : g.card with
  | none =>
    rw [reportStrip_none ((haltSeg_card g).trans hc)]
    simp
  | some r =>
    rw [(reportStrip_written ((haltSeg_card g).trans hc)).2.2.2]
    rfl

/-- A strip whose card does not overlap another card spares it. -/
theorem haltStrip_spares (h : ∀ k, g.card = some k → Apart [r, k]) : Spared r s (haltStrip s g) := by
  refine ⟨fun a ha => haltStrip_writes s g a ?_, (haltStrip_raises s g).stays, fun x hx => ?_⟩
  · rintro ⟨k, hk, hka⟩
    exact ha.apart (h k hk) hka
  · rw [haltStrip_outstanding] at hx
    exact (List.mem_filter.mp hx).1

theorem haltStrips_spare {l : List Segment} (h : ∀ x ∈ l, ∀ k, x.card = some k → Apart [r, k]) (s : State) :
    Spared r s (l.foldl haltStrip s) := by
  induction l generalizing s with
  | nil => exact .of_same rfl rfl rfl
  | cons x l ih =>
    obtain ⟨hx, hl⟩ := List.forall_mem_cons.mp h
    exact (haltStrip_spares hx).trans (ih hl _)

theorem haltStrips_outstanding (l : List Segment) (s : State) : (l.foldl haltStrip s).ce.outstanding =
    s.ce.outstanding.filter (fun x => l.all fun g => g.card.all fun r => x.take != r.take) := by
  induction l generalizing s with
  | nil => simp
  | cons g l ih =>
    rw [List.foldl_cons, ih, haltStrip_outstanding, List.filter_filter]
    refine List.filter_congr fun x _ => ?_
    rw [List.all_cons, Bool.and_comm]

theorem haltStrips_write (l : List Segment) (s : State) :
    OnlyWrites s (l.foldl haltStrip s) (fun a => ∃ g ∈ l, ∃ r, g.card = some r ∧ FinalBytes r a) := by
  induction l generalizing s with
  | nil => exact fun _ _ => rfl
  | cons g l ih =>
    intro a ha
    rw [List.foldl_cons, ih _ a fun ⟨x, hx, hr⟩ => ha ⟨x, List.mem_cons_of_mem _ hx, hr⟩]
    exact haltStrip_writes s g a fun hr => ha ⟨g, List.mem_cons_self, hr⟩

/-- The report of a strip that carries no ORPHAN mark (R15, R16, R94). -/
theorem haltStrip_final (hc : g.card = some r) (horphan : g.flags.orphan = false) :
    CardFinal r .spoiled .ok (haltStrip s g) ∧ HostHolds (haltStrip s g) (r.addr + 199) [(g.spoil.getD .halt).code] ∧
      HostHolds (haltStrip s g) (r.addr + 200) (zoneFields 3 (g.dLead.map (min 16777215))) ∧
      HostHolds (haltStrip s g) (r.addr + 224) (zoneFields 3 (g.dTrail.map (min 16777215))) ∧
      HostHolds (haltStrip s g) (r.addr + 248) [0, 128, 0, 128, 255] ∧
      (g.endAt = none → HostHolds (haltStrip s g) (r.addr + 134) [255, 255, 255]) := by
  have hseg : haltSeg g = spoilSeg .halt g := if_neg (by simp [horphan])
  have hspoil : (spoilSeg .halt g).spoil = some (g.spoil.getD .halt) := by
    unfold spoilSeg
    cases g.spoil <;> rfl
  obtain ⟨hfinal, hfields, -⟩ := reportStrip_written (g := haltSeg g) (w := (none, none)) (s := s) ((haltSeg_card g).trans hc)
  have hspared : Spared r (reportStrip (haltSeg g) (none, none) s) (haltStrip s g) := removeSeg_spares r g _
  have hholds : ∀ f ∈ commonFields (pitchOf s) (haltSeg g) ++ secondFields (haltSeg g) (none, none),
      HostHolds (haltStrip s g) (r.addr + f.1) f.2 := fun f hf => (hfields f hf).congr fun a _ _ => (removeSeg_rest g _).1 a
  rw [hseg] at hfinal hholds hspared
  rw [hspoil] at hfinal
  have hcommon := fun f hf => hholds f (List.mem_append_left _ hf)
  have hsecond : ∀ f ∈ secondFields g (none, none), HostHolds (haltStrip s g) (r.addr + f.1) f.2 := fun f hf =>
    hholds f (List.mem_append_right _ hf)
  have hcode : (199, [(g.spoil.getD .halt).code]) ∈ commonFields (pitchOf s) (spoilSeg .halt g) := by
    simp [commonFields, hspoil]
  have hworst : HostHolds (haltStrip s g) (r.addr + 248) ((leInt 2 (-32768) ++ leInt 2 (-32768)) ++ le 1 255) := by
    refine ((hsecond (248, leInt 2 (-32768)) ?_).append (hsecond (250, leInt 2 (-32768)) ?_)).append (hsecond (252, le 1 255) ?_) <;>
      simp [secondFields, deviationField]
  refine ⟨hfinal.spared hspared, hcommon _ hcode, hsecond (200, zoneFields 3 (g.dLead.map (min 16777215))) (by simp [secondFields]),
    hsecond (224, zoneFields 3 (g.dTrail.map (min 16777215))) (by simp [secondFields]), hworst, fun hend => ?_⟩
  have hend' : (spoilSeg .halt g).endAt = none := hend
  exact hcommon (134, leOpt 3 none) (by simp [commonFields, hend'])

/-- What the references of a fabric come to by one strip (R138). -/
theorem haltStrip_fabrics {n : Nat} {f : FabricRecord} (hf : s.tc.fabrics[n]? = some f) (g : Segment) :
    (haltStrip s g).tc.fabrics[n]? = some { f with refs := f.refs - if g.fabricId = some (n + 1) then 1 else 0 } := by
  have htc : (reportStrip (haltSeg g) (none, none) s).tc = s.tc := by simp
  rw [← htc] at hf
  rw [haltStrip, (removeSeg_rest g _).2.2.2.1]
  by_cases hid : g.fabricId = some (n + 1)
  · rw [hid, if_pos rfl]
    exact releaseFabric_fabrics (id := n + 1) (by omega) hf
  · rw [if_neg hid]
    by_cases h0 : g.fabricId.getD 0 = 0
    · rw [h0]
      exact hf
    · have hne : n ≠ g.fabricId.getD 0 - 1 := fun hn => hid (by
        cases hg : g.fabricId with
        | none => rw [hg] at h0; exact absurd rfl h0
        | some id =>
          rw [hg] at h0 hn
          simp only [Option.getD_some] at h0 hn
          rw [show n + 1 = id by omega])
      rw [releaseFabric, if_neg h0]
      exact (modifyNth_getElem?_ne hne).trans hf

theorem haltStrips_fabrics {n : Nat} (l : List Segment) {s : State} {f : FabricRecord} (hf : s.tc.fabrics[n]? = some f) :
    (l.foldl haltStrip s).tc.fabrics[n]? = some { f with refs := f.refs - (l.filter (fun g => g.fabricId == some (n + 1))).length } := by
  induction l generalizing s f with
  | nil => exact hf
  | cons g l ih =>
    rw [List.foldl_cons, ih (haltStrip_fabrics hf g)]
    congr 2
    by_cases hid : g.fabricId = some (n + 1)
    · rw [if_pos hid, List.filter_cons_of_pos (by simp [hid]), List.length_cons, Nat.sub_sub, Nat.add_comm]
    · rw [if_neg hid, List.filter_cons_of_neg (by simpa using hid), Nat.sub_zero]

end

/-- Settles O26: one strip's report, spared by the later ones. -/
theorem haltReportsTheStrip : Obligations.HaltReportsTheStrip := by
  refine fun s => ⟨_, rfl, haltMap_clears s, fun hne => ?_, haltStrips_outstanding _ s, fun pre g post r hsegs hc horphan hapart => ?_,
    haltStrips_write _ s, fun n f hf => haltStrips_fabrics _ hf⟩
  · rw [haltMap_eq]
    cases hl : s.tmap.segs with
    | nil => exact absurd hl hne
    | cons g l =>
      have hdone : hasEvent (haltStrip s g) .segmentDone = true := (removeSeg_rest g _).2.2.2.2.1
      exact (Raises.foldl haltStrip haltStrip_raises l (haltStrip s g)).stays hdone
  · rw [haltMap_eq, hsegs, List.foldl_append, List.foldl_cons]
    obtain ⟨hfinal, hcode, hlead, htrail, hworst, hlines⟩ := haltStrip_final (s := pre.foldl haltStrip s) hc horphan
    have hspared := haltStrips_spare (fun x hx k hk => apart_pair.mpr ((hapart x hx k hk).symm)) (haltStrip (pre.foldl haltStrip s) g)
    exact ⟨hfinal.spared hspared, (hcode.spared (by decide) (by simp) hspared) 0 _ rfl, hlead.spared (by decide) (by simp) hspared,
      htrail.spared (by decide) (by simp) hspared, hworst.spared (by decide) (by simp) hspared, fun hend =>
      (hlines hend).spared (by decide) (by simp) hspared⟩

end Sys2Proof.Machine

end

section

/-! PROOFS. A HALT card: the parts of a halt at the ports, in the queue of takes, in the print and in the splices (R122 to R124, R130,
R152). -/

namespace Sys2Proof.Machine

/-! ## The entries that a freed profile leaves (R32, R46) -/

/-- An entry that stays when a profile's entries are discarded: another profile's, or the one whose drain write has been granted. -/
def sparesEntry (id : Nat) (busy : Option PortAccess) (e : ShadowEntry) : Bool :=
  e.id != id || (match busy with
    | some (.shadow (.drain _ cell _) true) => e.cell == cell
    | _ => false)

/-- The buffer without a profile's entries, and the port without its requests (R32, R46). -/
def withoutEntries (id : Nat) (s : State) : State :=
  setArb { s.ps.arb with
    shadowReq := s.ps.arb.shadowReq.filter (fun r => !requestFor id r), busy := dropCreation id s.ps.arb.busy }
    { s with spb := { s.spb with entries := s.spb.entries.filter (sparesEntry id s.ps.arb.busy) } }

/-- An entry that is discarded makes room for a stalled PATCH card (R46). -/
theorem discardEntries_eq (id : Nat) (s : State) : discardEntries id s =
    if s.spb.entries.length = (s.spb.entries.filter (sparesEntry id s.ps.arb.busy)).length then withoutEntries id s
    else offerTo .patch (withoutEntries id s) := rfl

/-! ## The trace only grows -/

/-- The trace of the ports has grown, and no take has joined the outstanding set. -/
def Onward (s t : State) : Prop := (∃ l, t.ports = l ++ s.ports) ∧ ∀ r ∈ t.ce.outstanding, r ∈ s.ce.outstanding

section
variable {s t u : State}

theorem Onward.of_same (hp : t.ports = s.ports) (ho : t.ce.outstanding = s.ce.outstanding) : Onward s t :=
  ⟨⟨[], hp⟩, fun r hr => by rwa [ho] at hr⟩

theorem Onward.trans (h : Onward s t) (h' : Onward t u) : Onward s u := by
  obtain ⟨⟨l, hl⟩, ho⟩ := h
  obtain ⟨⟨k, hk⟩, ho'⟩ := h'
  exact ⟨⟨k ++ l, by rw [hk, hl, List.append_assoc]⟩, fun r hr => ho r (ho' r hr)⟩

theorem Onward.foldl {α : Type} {f : State → α → State} (h : ∀ s x, Onward s (f s x)) (l : List α) (s : State) :
    Onward s (l.foldl f s) := by
  induction l generalizing s with
  | nil => exact .of_same rfl rfl
  | cons x l ih => exact (h s x).trans (ih _)

/-- A state change that reaches neither the ports nor the engine, before another. -/
theorem Onward.after (h : Onward t u) (hp : t.ports = s.ports) (ho : t.ce.outstanding = s.ce.outstanding) : Onward s u :=
  (Onward.of_same hp ho).trans h

end

theorem emit_onward (o : PortOut) (s : State) : Onward s (emit o s) := ⟨⟨[o], rfl⟩, fun _ hr => hr⟩

theorem raiseEvent_onward (e : Event) (s : State) : Onward s (raiseEvent e s) := by
  refine ⟨?_, fun r hr => by simpa using hr⟩
  rcases raiseEvent_ports e s with h | ⟨h, -⟩
  · exact ⟨[], h⟩
  · exact ⟨[.interrupt], h⟩

theorem noteFinal_onward (s : State) : Onward s (noteFinal s) := by
  unfold noteFinal
  split <;> exact .of_same rfl rfl

theorem offerTo_onward (k : CardKind) (s : State) : Onward s (offerTo k s) := by
  unfold offerTo
  split <;> exact .of_same rfl rfl

theorem finishCard_onward (c : CardRef) (st : CardState) (rc : ResultCode) (s : State) : Onward s (finishCard c st rc s) := by
  unfold finishCard
  refine Onward.trans ?_ (raiseEvent_onward _ _)
  refine Onward.trans ?_ (noteFinal_onward _)
  exact ⟨⟨[_], rfl⟩, fun r hr => (List.mem_filter.mp hr).1⟩

theorem finalWrite_onward (c : CardRef) (fields : List (Nat × List Byte)) (st : CardState) (rc : ResultCode) (s : State) :
    Onward s (finalWrite c fields st rc s) := (emit_onward _ s).trans (finishCard_onward c st rc _)

theorem endDispatch_onward (s : State) : Onward s (endDispatch s) := by
  unfold endDispatch
  dsimp only
  split
  · exact ⟨⟨[_], rfl⟩, fun _ hr => hr⟩
  · exact .of_same rfl rfl

theorem finishCurrent_onward (fields : List (Nat × List Byte)) (st : CardState) (rc : ResultCode) (s : State) :
    Onward s (finishCurrent fields st rc s) := by
  unfold finishCurrent
  split
  · exact .of_same rfl rfl
  · exact (finalWrite_onward _ _ _ _ s).trans (endDispatch_onward _)

theorem failPatchOf_onward (id : Nat) (s : State) : Onward s (failPatchOf id s) := by
  unfold failPatchOf
  (repeat' split)
  · exact .of_same rfl rfl
  · exact (finishCurrent_onward _ _ _ { s with spb := { s.spb with patch := none } }).after rfl rfl
  · exact .of_same rfl rfl

theorem discardEntries_onward (id : Nat) (s : State) : Onward s (discardEntries id s) := by
  rw [discardEntries_eq]
  split
  · exact .of_same rfl rfl
  · exact (offerTo_onward .patch _).after rfl rfl

theorem completeFree_onward (id : Nat) (s : State) : Onward s (completeFree id s) := by
  unfold completeFree
  split
  · exact .of_same rfl rfl
  · exact (raiseEvent_onward .profileFreed _).after rfl rfl

theorem freeRecord_onward (id : Nat) (s : State) : Onward s (freeRecord id s) := by
  unfold freeRecord
  refine ((discardEntries_onward id s).trans (failPatchOf_onward id _)).trans ?_
  dsimp only
  split
  · exact .of_same (by simp) (by simp)
  · exact (completeFree_onward id _).trans (.of_same (by simp) (by simp))

theorem releaseProfile_onward (id : Nat) (s : State) : Onward s (releaseProfile id s) := by
  unfold releaseProfile
  dsimp only
  split
  · exact (freeRecord_onward id _).after rfl rfl
  · exact .of_same rfl rfl

theorem endJob_onward (s : State) : Onward s (endJob s) := by
  unfold endJob
  split
  · exact .of_same rfl rfl
  · exact (releaseProfile_onward _ _).after rfl rfl

theorem haltPrint_onward (s : State) : Onward s (haltPrint s) :=
  (Onward.of_same (by simp) (by simp) : Onward s (abandonLine s)).trans (endJob_onward _)

theorem writeStripResults_onward (c : CardRef) (g : Segment) (w : Option (Nat × Int) × Option (Nat × Int)) (s : State) :
    Onward s (writeStripResults c g w s) := by
  unfold writeStripResults
  dsimp only
  split
  · exact (emit_onward _ s).trans (emit_onward _ _)
  · exact emit_onward _ s

theorem reportStrip_onward (g : Segment) (w : Option (Nat × Int) × Option (Nat × Int)) (s : State) : Onward s (reportStrip g w s) := by
  unfold reportStrip
  split
  · exact .of_same rfl rfl
  · exact (writeStripResults_onward _ g w s).trans (finishCard_onward _ _ _ _)

theorem removeSeg_onward (g : Segment) (s : State) : Onward s (removeSeg g s) :=
  (raiseEvent_onward .segmentDone _).after (by simp) (by simp)

theorem haltMap_onward (s : State) : Onward s (haltMap s) :=
  Onward.foldl (fun s g => (reportStrip_onward _ _ s).trans (removeSeg_onward g _)) _ s

theorem withdrawSplice_onward (a : Unwind) (s : State) : Onward s (withdrawSplice a s) := by
  by_cases h : (spliceOf s a).state = .idle
  · rw [withdrawSplice_idle h]
    exact .of_same rfl rfl
  · rw [withdrawSplice_eq h]
    split
    · exact .of_same (by simp) (by simp)
    · exact (finalWrite_onward _ _ _ _ _).after (by simp) (by simp)

/-! ## The load in hand stands -/

@[simp] theorem pumpPort_loader (s : State) : (pumpPort s).ps.loader = s.ps.loader := by
  have hshadow : ∀ u, (requestShadow u).ps.loader = u.ps.loader := fun u => by unfold requestShadow setArb; split <;> rfl
  have hload : ∀ u, (requestLoad u).ps.loader = u.ps.loader := fun u => by
    unfold requestLoad setArb
    (repeat' split) <;> rfl
  exact (hload _).trans (hshadow s)

@[simp] theorem setProfile_loader (id : Nat) (f : ProfileRecord → ProfileRecord) (s : State) :
    (setProfile id f s).ps.loader = s.ps.loader := rfl

@[simp] theorem freeRecord_loader (id : Nat) (s : State) : (freeRecord id s).ps.loader = s.ps.loader := by
  have hdiscard : (discardEntries id s).ps.loader = s.ps.loader := by
    rw [discardEntries_eq]
    split <;> simp [withoutEntries, setArb]
  have hcomplete : ∀ u, (completeFree id u).ps.loader = u.ps.loader := fun u => by
    unfold completeFree
    split <;> simp
  have hpatch : (failPatchOf id (discardEntries id s)).ps.loader = s.ps.loader := by simp [hdiscard]
  unfold freeRecord
  dsimp only
  rw [pumpPort_loader]
  split
  · exact hpatch
  · rw [hcomplete, hpatch]

@[simp] theorem releaseProfile_loader (id : Nat) (s : State) : (releaseProfile id s).ps.loader = s.ps.loader := by
  unfold releaseProfile
  dsimp only
  split <;> simp

@[simp] theorem endJob_loader (s : State) : (endJob s).ps.loader = s.ps.loader := by
  unfold endJob
  split <;> simp

@[simp] theorem bumpVersions_loader (ids : List Nat) (s : State) : (bumpVersions ids s).ps.loader = s.ps.loader := by
  unfold bumpVersions
  exact foldl_keeps (fun s => s.ps.loader) _ (fun s id => setProfile_loader id _ s) ids s

@[simp] theorem abandonLine_loader (s : State) : (abandonLine s).ps.loader = s.ps.loader := by
  unfold abandonLine
  dsimp only
  split
  · rw [pumpPort_loader]
    exact bumpVersions_loader _ _
  · rfl

theorem takeHalt_loader (cause : HaltCause) (s : State) : (takeHalt cause s).ps.loader = s.ps.loader := by
  simp [takeHalt, haltPrint]

/-! ## The parts of a halt -/

section
variable {s : State}

/-- What a halt does after the frames: the map, the print, the splices, the heat (R123; log entry 53). -/
def haltRest (s : State) : State :=
  touchStart (reportStopped (withdrawSplice .fu (withdrawSplice .pu (haltPrint (haltMap s)))))

/-- A halt up to its frames (R122, R123, R130, R134). -/
def haltFrames (cause : HaltCause) (s : State) : State :=
  sendFrame (sendFrame (mapAxes axisOff (raiseEvent .lineHalted { s with
    wd := { s.wd with state := .halted, requested := 0, target := 0, running := 0, held := false },
    su := { s.su with haltCause := s.su.haltCause.or (some cause) } })))

theorem takeHalt_parts (cause : HaltCause) (s : State) : takeHalt cause s = haltRest (haltFrames cause s) := rfl

theorem haltPrint_splices_onward (s : State) : Onward (haltMap s) (haltRest s) := by
  have hlast : ∀ u, Onward u (touchStart (reportStopped u)) := fun u => .of_same (by simp) (by simp)
  refine Onward.trans (haltPrint_onward _) ?_
  refine Onward.trans (withdrawSplice_onward .pu _) ?_
  exact (withdrawSplice_onward .fu _).trans (hlast _)

theorem haltRest_onward (s : State) : Onward s (haltRest s) := (haltMap_onward s).trans (haltPrint_splices_onward s)

theorem haltRest_raises (s : State) : Raises haltEvents (haltMap s) (haltRest s) := by
  have hlast : ∀ u, (touchStart (reportStopped u)).su = u.su := fun u => by simp
  have habandon : ∀ u, (abandonLine u).su = u.su := fun u => by simp
  refine Raises.trans ?_ (.of_su (hlast _))
  refine Raises.trans ?_ (withdrawSplice_raises (by decide) .fu _)
  refine Raises.trans ?_ (withdrawSplice_raises (by decide) .pu _)
  exact Raises.trans (.of_su (habandon _)) (endJob_raises (by decide) (by decide) _)

/-- Two frames with reference 0 and no torque leave the part at a halt (R123, R134). -/
theorem haltFrames_ports (cause : HaltCause) (s : State) : (haltFrames cause s).ports =
    .driveFrame 0 (s.tc.axes.map fun _ => 0) :: .driveFrame 0 (s.tc.axes.map fun _ => 0) ::
      (if irqSummary (raiseEvent .lineHalted s) && !irqSummary s then .interrupt :: s.ports else s.ports) := by
  obtain ⟨v, hv⟩ : ∃ v, { s with
    wd := { s.wd with state := .halted, requested := 0, target := 0, running := 0, held := false },
    su := { s.su with haltCause := s.su.haltCause.or (some cause) } } = v := ⟨_, rfl⟩
  have htorque : (s.tc.axes.map axisOff).map (·.torque) = s.tc.axes.map fun _ => 0 := by rw [List.map_map]; rfl
  have hrun : (raiseEvent .lineHalted v).wd.running = 0 := by simp [← hv]
  have haxes : (raiseEvent .lineHalted v).tc.axes = s.tc.axes := by simp [← hv]
  have hirq : irqSummary v = irqSummary s := by rw [← hv]; rfl
  have hirq' : irqSummary (raiseEvent .lineHalted v) = irqSummary (raiseEvent .lineHalted s) := by simp [irqSummary, ← hv]
  have hports : (raiseEvent .lineHalted v).ports =
      if irqSummary (raiseEvent .lineHalted s) && !irqSummary s then .interrupt :: s.ports else s.ports := by
    rw [raiseEvent_ports_eq, hirq, hirq', ← hv]
    exact if_congr (by simp) rfl rfl
  have hkeep : ∀ u : State, (sendFrame (sendFrame (mapAxes axisOff u))).ports =
      .driveFrame u.wd.running ((u.tc.axes.map axisOff).map (·.torque)) ::
        .driveFrame u.wd.running ((u.tc.axes.map axisOff).map (·.torque)) :: u.ports := fun u => rfl
  rw [haltFrames, hv, hkeep, hports, hrun, haxes, htorque]

theorem endJob_job (s : State) : (endJob s).pe.job = none ∧ (endJob s).pe.state = .idle ∧ (endJob s).pe.seq = s.pe.seq := by
  unfold endJob
  split
  · rename_i h
    exact ⟨h, rfl, rfl⟩
  · simp

/-- A halt ends the job and keeps the sequence numbers of the lines (R80). -/
theorem takeHalt_job (cause : HaltCause) (s : State) :
    (takeHalt cause s).pe.job = none ∧ (takeHalt cause s).pe.state = .idle ∧ (takeHalt cause s).pe.seq = s.pe.seq := by
  have htouch : ∀ u, (touchStart u).pe.job = u.pe.job ∧ (touchStart u).pe.state = u.pe.state ∧ (touchStart u).pe.seq = u.pe.seq :=
    fun u => by
      obtain ⟨hold, first, h⟩ := touchStart_eq u
      rw [h]
      exact ⟨rfl, rfl, rfl⟩
  have habandon : ∀ u, (abandonLine u).pe.seq = u.pe.seq := fun u => by
    unfold abandonLine setJob
    split <;> simp
  obtain ⟨h1, h2, h3⟩ := htouch (reportStopped (withdrawSplice .fu (withdrawSplice .pu (haltAhead cause s))))
  have hpe : (reportStopped (withdrawSplice .fu (withdrawSplice .pu (haltAhead cause s)))).pe = (haltAhead cause s).pe := by simp
  rw [takeHalt_eq, h1, h2, h3, hpe]
  obtain ⟨hj, hst, hseq⟩ := endJob_job (abandonLine (haltMap (haltFrames cause s)))
  refine ⟨hj, hst, hseq.trans ?_⟩
  rw [habandon]
  simp [haltFrames]

/-- Every zone stands under the idle cap after a halt (R104). -/
theorem takeHalt_capped (cause : HaltCause) (s : State) :
    ∀ z ∈ (takeHalt cause s).hc.zones, z.duty ≤ idleCapOf s ∧ z.onTime ≤ idleCapOf s := by
  intro z hz
  rw [takeHalt_hc] at hz
  obtain ⟨y, -, rfl⟩ := List.mem_map.mp hz
  exact ⟨Nat.min_le_right _ _, Nat.min_le_right _ _⟩

theorem withdrawn_rest (r : SpliceRecord) : (withdrawn r).request = (r.request && r.state == .idle) ∧
    (withdrawn r).pending = r.pending ∧ (withdrawn r).fired = r.fired := by
  unfold withdrawn
  split
  · rename_i h
    simp [h]
  · rename_i h
    simp [spliceIdle, h]

/-- The end of the current card spares another whose area is apart. -/
theorem finishCurrent_spares {c : CurrentCard} {r : CardRef} (hc : s.ce.current = some c) (h : Apart [r, c.ref])
    (fields : List (Nat × List Byte)) (st : CardState) (rc : ResultCode) : Spared r s (finishCurrent fields st rc s) := by
  have hfin : finishCurrent fields st rc s = endDispatch (finalWrite c.ref fields st rc s) := by simp [finishCurrent, hc]
  rw [hfin]
  refine (finalWrite_spares h fields st rc s).trans ⟨fun a _ => by simp, fun he => ?_, fun x hx => ?_⟩
  · rw [← he]
    simp [hasEvent]
  · rwa [endDispatch_ce] at hx

end

/-- Where no PATCH card was in hand, none is. -/
theorem Held.noPatch {c c' : Option CurrentCard} {st st' : EngineState} {p : Option PatchJob} (h : Held (c, st, none) c' st' p) :
    p = none := by
  rcases h with h | h
  · simp only [Prod.mk.injEq] at h
    exact h.2.2
  · exact absurd rfl h.1

theorem exec_halt {c : CurrentCard} {s : State} (h : Dispatching .drive c s) (ha : leRead c.image 16 1 = 4) :
    exec .halt s = .next (doneCurrent (driveResults 4 (haltLine .host s)) (haltLine .host s)) := by
  have hact : driveAction c = 4 := ha
  refine (onDrive_action (n := 4) (f := fun c s => driveDone c [] (haltLine .host s)) h hact (by decide)).trans ?_
  simp [driveDone, hact]

/-- Settles O25: the halt part by part, and the card's own write after it. -/
theorem haltCard : Obligations.HaltCard := by
  intro c s hd hlaw ha
  have hexec := exec_halt hd ha
  have hns := hd.not_stalled
  have hnopatch := hd.noPatch hlaw (by decide)
  obtain ⟨-, -, hc, -⟩ := hd
  refine ⟨fun hrun => ?_, fun hhalted => ?_⟩
  · rw [haltLine_running .host hrun] at hexec
    obtain ⟨u, hu⟩ : ∃ u, takeHalt .host s = u := ⟨_, rfl⟩
    have hparts : u = haltRest (haltFrames .host s) := hu.symm.trans (takeHalt_parts .host s)
    have hwd : u.wd = ⟨.halted, 0, 0, 0, s.wd.measured, false⟩ := hu ▸ takeHalt_wd .host s
    have hheld : Held (s.ce.current, s.ce.state, none) u.ce.current u.ce.state u.spb.patch := by
      rw [← hu]
      exact takeHalt_held .host (.inl (by rw [hnopatch]))
    rw [hu] at hexec
    obtain ⟨hcur, hstate⟩ := hheld.free
    have hresults : driveResults 4 u = [(128, le 1 4), (129, [(5 : Byte)]), (130, le 2 0), (132, le 2 0)] := by
      simp [driveResults, hwd, DriveState.code]
    rw [hresults] at hexec
    obtain ⟨⟨⟨hfinal, hholds, -⟩, hce⟩, hsu⟩ := finishCurrent_final (st := .done) (rc := .ok)
      (fields := [(128, le 1 4), (129, [(5 : Byte)]), (130, le 2 0), (132, le 2 0)]) (hcur.trans hc) (hstate ▸ hns)
    obtain ⟨t, ht⟩ : ∃ t, finishCurrent [(128, le 1 4), (129, [(5 : Byte)]), (130, le 2 0), (132, le 2 0)] .done .ok u = t := ⟨_, rfl⟩
    have hends : Onward u t := ht ▸ finishCurrent_onward _ _ _ u
    have hspared : ∀ r, Apart [r, c.ref] → Spared r u t := fun r hr => ht ▸ finishCurrent_spares (hcur.trans hc) hr _ _ _
    have hraises : Raises [.cardFinal] u t := ht ▸ finishCurrent_raises (by decide) _ _ _ u
    have hframe : t.wd = u.wd ∧ t.tc = u.tc ∧ t.tmap = u.tmap ∧ t.pe = u.pe ∧ t.rc = u.rc ∧ t.hc = u.hc ∧ t.ka = u.ka ∧
        t.regs = u.regs ∧ t.setup = u.setup ∧ t.web = u.web ∧ t.ps = u.ps ∧ t.spb = u.spb ∧ t.nc = u.nc := by
      rw [← ht]
      simp
    obtain ⟨htwd, httc, httmap, htpe, htrc, hthc, htka, htregs, htsetup, htweb, htps, htspb, htnc⟩ := hframe
    have hexec' : exec .halt s = .next t := hexec.trans (congrArg _ ht)
    rw [ht] at hfinal hholds hce hsu
    have hjob := takeHalt_job .host s
    have hrc := takeHalt_rc .host s
    have htmap := takeHalt_tmap .host s
    have hevents : Raises haltEvents (haltMap (haltFrames .host s)) u := hparts ▸ haltRest_raises _
    have hframes : (haltFrames .host s).tmap = s.tmap ∧ (haltFrames .host s).ce = s.ce := by simp [haltFrames]
    have hshrinks : Onward (haltMap (haltFrames .host s)) t := (hparts ▸ haltPrint_splices_onward _ : Onward _ u).trans hends
    rw [hu] at hjob hrc htmap
    refine ⟨t, hexec', htwd.trans hwd, hfinal, by rw [hce]; rfl, ?_, ?_, ?_, ?_, ?_, ?_, ?_, ?_, fun hne => ?_, fun g hg r hr x hx => ?_,
      ?_, ?_, ?_, ?_, ?_, ?_, ?_, ?_, fun a r hst hr hapart hother => ?_, ?_, ?_, ?_, ?_, ?_, ?_, ?_, ?_, ?_, ?_⟩
    · exact hholds
    · rw [hsu, ← hu]
      exact takeHalt_haltCause .host s
    · exact hraises.stays (hu ▸ (takeHalt_raises .host s).2)
    · simp [lineStop, htwd, hwd]
    · rw [httc, ← hu, takeHalt_axes]
      rfl
    · obtain ⟨⟨l, hl⟩, -⟩ := (hparts ▸ haltRest_onward (haltFrames .host s) : Onward _ u).trans hends
      exact ⟨l, by rw [hl, haltFrames_ports]⟩
    · rw [httmap, htmap]
    · rw [httmap, htmap]
    · have hdone : hasEvent (haltMap (haltFrames .host s)) .segmentDone = true := by
        obtain ⟨v, hv, -, hev, -⟩ := haltReportsTheStrip (haltFrames .host s)
        rw [hv]
        exact hev (by rw [hframes.1]; exact hne)
      exact hraises.stays (hevents.stays hdone)
    · have hx' := hshrinks.2 x hx
      rw [haltMap_eq, haltStrips_outstanding, hframes.1] at hx'
      have hall := List.all_eq_true.mp (List.mem_filter.mp hx').2 g hg
      rw [hr] at hall
      simpa using hall
    · rw [htpe, hjob.1]
    · rw [htpe, hjob.2.1]
    · rw [htpe, ← hu, takeHalt_queue]
    · rw [htpe, hjob.2.2]
    · rw [htpe, ← hu, takeHalt_bars]
    · rw [htrc, hrc]
      exact ⟨withdrawn_state _, withdrawn_rest _⟩
    · rw [htrc, hrc]
      exact ⟨withdrawn_state _, withdrawn_rest _⟩
    · rw [htrc, hrc]
    · obtain ⟨hf, hh⟩ := takeHalt_splice .host hst hr hother
      rw [hu] at hf hh
      exact ⟨hf.spared (hspared r hapart), hh.spared (by decide) (by rw [area_length]) (hspared r hapart)⟩
    · rw [hthc, ← hu]
      exact takeHalt_capped .host s
    · rw [hthc, ← hu]
      exact takeHalt_states .host s
    · simp [htka, ← hu]
    · simp [htregs, ← hu]
    · simp [htsetup, ← hu]
    · simp [htweb, ← hu]
    · simp [htps, ← hu]
    · rw [htps, ← hu, takeHalt_loader]
    · rw [htspb, hheld.noPatch, hnopatch]
    · simp [htnc, ← hu]
  · rw [haltLine_halted .host hhalted] at hexec
    obtain ⟨p, heq, hp⟩ := offerFault_eq (.laterHalt .host) s
    obtain ⟨u, hu⟩ : ∃ u, offerFault (.laterHalt .host) s = u := ⟨_, rfl⟩
    have hcur : u.ce = s.ce := by rw [← hu]; simp
    have hwd : u.wd = s.wd := by rw [← hu, offerFault_wd]
    have hbytes : ∀ a, hostByte u a = hostByte s a := fun a => by rw [← hu]; simp
    have hresults : driveResults 4 u = [(128, [(4 : Byte)]), (129, [5]), (130, le 2 s.wd.requested), (132, le 2 s.wd.running)] := by
      simp [driveResults, hwd, hhalted, DriveState.code, le]
    rw [hu, hresults] at hexec
    obtain ⟨hfinal, hsu⟩ := finishCurrent_final (st := .done) (rc := .ok)
      (fields := [(128, [(4 : Byte)]), (129, [5]), (130, le 2 s.wd.requested), (132, le 2 s.wd.running)]) (s := u) (by rw [hcur]; exact hc)
      (by rw [hcur]; exact hns)
    refine ⟨_, hexec, hfinal.of_calm hcur (by rw [← hu]; simp) hbytes, by rw [hu]; exact hsu, ?_⟩
    rw [← hu]
    simp [doneCurrent, SameBase, SameStore, SamePrint, SameLine]

end Sys2Proof.Machine

end

section

/-! PROOFS. Free extents and the order of the store port (R25 to R27, R39). -/

namespace Sys2Proof.Machine

/-! ## Free lists -/

/-- Extents in ascending order with a gap after each, none empty. -/
def Spread (l : List Extent) : Prop := (∀ e ∈ l, 0 < e.len) ∧ l.Pairwise fun e f => e.base + e.len < f.base

theorem spread_cons {e : Extent} {l : List Extent} : Spread (e :: l) ↔ 0 < e.len ∧ (∀ f ∈ l, e.base + e.len < f.base) ∧ Spread l := by
  unfold Spread
  rw [List.forall_mem_cons, List.pairwise_cons]
  constructor
  · rintro ⟨⟨he, hl⟩, hgap, hp⟩
    exact ⟨he, hgap, hl, hp⟩
  · rintro ⟨he, hgap, hl, hp⟩
    exact ⟨⟨he, hl⟩, hgap, hp⟩

theorem extentsFrom_iff {b : Nat} {l : List Extent} : extentsFrom b l ↔ (∀ e ∈ l, b < e.base) ∧ Spread l := by
  induction l generalizing b with
  | nil => simp [extentsFrom, Spread]
  | cons e l ih =>
    rw [extentsFrom, ih, spread_cons, List.forall_mem_cons]
    constructor
    · rintro ⟨hb, he, hgap, hl⟩
      exact ⟨⟨hb, fun f hf => by have := hgap f hf; omega⟩, he, hgap, hl⟩
    · rintro ⟨⟨hb, -⟩, he, hgap, hl⟩
      exact ⟨hb, he, hgap, hl⟩

theorem freeList_iff {l : List Extent} : FreeList l ↔ Spread l := by
  cases l with
  | nil => simp [FreeList, Spread]
  | cons e l => rw [FreeList, extentsFrom_iff, spread_cons]

/-- The cells of a list of extents. -/
def Cells (l : List Extent) (a : Nat) : Prop := ∃ e ∈ l, e.holds a

theorem cells_cons {e : Extent} {l : List Extent} {a : Nat} : Cells (e :: l) a ↔ (e.base ≤ a ∧ a < e.base + e.len) ∨ Cells l a := by
  simp [Cells, Extent.holds]

/-- The cells of extents that lie above a bound lie above it. -/
theorem Cells.above {l : List Extent} {a k : Nat} (h : Cells l a) (hl : ∀ f ∈ l, k < f.base) : k < a := by
  obtain ⟨f, hf, hlo, -⟩ := h
  exact (hl f hf).trans_le hlo

section
variable {n : Nat} {l : List Extent}

theorem allocate_eq_none : allocate n l = none ↔ ∀ e ∈ l, e.len < n := by
  induction l with
  | nil => simp [allocate]
  | cons e l ih =>
    rw [allocate, List.forall_mem_cons, ← ih]
    by_cases h : n ≤ e.len
    · simp [h, Nat.not_lt.mpr h]
    · simp [h, Nat.lt_of_not_le h]

/-- Allocation takes the low end of the lowest extent that is long enough (R26). -/
theorem allocate_takes {b : Nat} {l' : List Extent} (hn : 0 < n) (hl : Spread l) (h : allocate n l = some (b, l')) :
    Spread l' ∧ (∀ k, (∀ e ∈ l, k < e.base) → ∀ e ∈ l', k < e.base) ∧
      (∃ e ∈ l, e.base = b ∧ n ≤ e.len ∧ ∀ x ∈ l, x.base < b → x.len < n) ∧ ∀ a, Cells l' a ↔ Cells l a ∧ ¬(b ≤ a ∧ a < b + n) := by
  induction l generalizing b l' with
  | nil => cases h
  | cons e l ih =>
    obtain ⟨he, hgap, hspread⟩ := spread_cons.mp hl
    rw [allocate] at h
    by_cases hfit : n ≤ e.len
    · rw [if_pos hfit] at h
      obtain ⟨rfl, rfl⟩ := Prod.mk.inj (Option.some.inj h)
      have hfirst : ∃ x ∈ e :: l, x.base = e.base ∧ n ≤ x.len ∧ ∀ y ∈ e :: l, y.base < e.base → y.len < n := by
        refine ⟨e, List.mem_cons_self, rfl, hfit, fun y hy hlt => ?_⟩
        rcases List.mem_cons.mp hy with rfl | hy
        · omega
        · have := hgap y hy
          omega
      have hrest : ∀ a, Cells l a → e.base + e.len < a := fun a ha => ha.above hgap
      by_cases hall : e.len = n
      · rw [if_pos hall]
        refine ⟨hspread, fun k hk f hf => hk f (List.mem_cons_of_mem _ hf), hfirst, fun a => ?_⟩
        rw [cells_cons]
        constructor
        · intro ha
          have := hrest a ha
          exact ⟨.inr ha, by omega⟩
        · rintro ⟨ha | ha, hno⟩
          · omega
          · exact ha
      · rw [if_neg hall]
        refine ⟨spread_cons.mpr ⟨Nat.sub_pos_of_lt (by omega), fun f hf => ?_, hspread⟩, fun k hk f hf => ?_, hfirst, fun a => ?_⟩
        · have := hgap f hf
          dsimp only
          omega
        · have := hk e List.mem_cons_self
          rcases List.mem_cons.mp hf with rfl | hf
          · dsimp only
            omega
          · exact hk f (List.mem_cons_of_mem _ hf)
        · rw [cells_cons, cells_cons]
          dsimp only
          constructor
          · rintro (ha | ha)
            · exact ⟨.inl (by omega), by omega⟩
            · have := hrest a ha
              exact ⟨.inr ha, by omega⟩
          · rintro ⟨ha | ha, hno⟩
            · exact .inl (by omega)
            · exact .inr ha
    · rw [if_neg hfit, Option.map_eq_some_iff] at h
      obtain ⟨⟨b', rest⟩, hrec, heq⟩ := h
      obtain ⟨rfl, rfl⟩ := Prod.mk.inj heq
      obtain ⟨hspread', hkeep, ⟨x, hx, hxb, hxn, hfirst⟩, hcells⟩ := ih hspread hrec
      refine ⟨spread_cons.mpr ⟨he, hkeep _ hgap, hspread'⟩, fun k hk f hf => ?_, ⟨x, List.mem_cons_of_mem _ hx, hxb, hxn, fun y hy hlt => ?_⟩,
        fun a => ?_⟩
      · rcases List.mem_cons.mp hf with rfl | hf
        · exact hk f List.mem_cons_self
        · exact hkeep k (fun y hy => hk y (List.mem_cons_of_mem _ hy)) f hf
      · rcases List.mem_cons.mp hy with rfl | hy
        · omega
        · exact hfirst y hy hlt
      · have hbase := hgap x hx
        rw [cells_cons, cells_cons, hcells]
        constructor
        · rintro (ha | ⟨ha, hno⟩)
          · exact ⟨.inl ha, by omega⟩
          · exact ⟨.inr ha, hno⟩
        · rintro ⟨ha | ha, hno⟩
          · exact .inl ha
          · exact .inr ⟨ha, hno⟩

/-- Release returns cells and joins what it touches (R27). -/
theorem release_returns {b n : Nat} {l : List Extent} (hn : 0 < n) (hl : Spread l)
    (hapart : ∀ e ∈ l, e.base + e.len ≤ b ∨ b + n ≤ e.base) : Spread (release b n l) ∧
      (∀ k, k < b → (∀ e ∈ l, k < e.base) → ∀ e ∈ release b n l, k < e.base) ∧
      ∀ a, Cells (release b n l) a ↔ Cells l a ∨ (b ≤ a ∧ a < b + n) := by
  induction l generalizing b n with
  | nil => simp [release, Spread, Cells, Extent.holds, hn]
  | cons e l ih =>
    obtain ⟨he, hgap, hspread⟩ := spread_cons.mp hl
    obtain ⟨heap, hlap⟩ := List.forall_mem_cons.mp hapart
    rw [release]
    by_cases hbelow : b + n < e.base
    · rw [if_pos hbelow]
      refine ⟨spread_cons.mpr ⟨hn, fun f hf => ?_, hl⟩, fun k hk hle f hf => ?_, fun a => ?_⟩
      · rcases List.mem_cons.mp hf with rfl | hf
        · exact hbelow
        · have := hgap f hf
          dsimp only
          omega
      · rcases List.mem_cons.mp hf with rfl | hf
        · exact hk
        · exact hle f hf
      · rw [cells_cons, or_comm]
    · rw [if_neg hbelow]
      by_cases htouch : b + n = e.base
      · rw [if_pos htouch]
        refine ⟨spread_cons.mpr ⟨by dsimp only; omega, fun f hf => ?_, hspread⟩, fun k hk hle f hf => ?_, fun a => ?_⟩
        · have := hgap f hf
          dsimp only
          omega
        · rcases List.mem_cons.mp hf with rfl | hf
          · exact hk
          · exact hle f (List.mem_cons_of_mem _ hf)
        · rw [cells_cons, cells_cons]
          dsimp only
          constructor
          · rintro (ha | ha)
            · by_cases hlo : a < b + n
              · exact .inr (by omega)
              · exact .inl (.inl (by omega))
            · exact .inl (.inr ha)
          · rintro ((ha | ha) | ha)
            · exact .inl (by omega)
            · exact .inr ha
            · exact .inl (by omega)
      · rw [if_neg htouch]
        by_cases hjoin : e.base + e.len = b
        · rw [if_pos hjoin]
          have hrest : ∀ f ∈ l, f.base + f.len ≤ e.base ∨ e.base + (e.len + n) ≤ f.base := fun f hf => by
            have h1 := hgap f hf
            have h2 := hlap f hf
            omega
          obtain ⟨hspread', hkeep, hcells⟩ := ih (b := e.base) (n := e.len + n) (by omega) hspread hrest
          refine ⟨hspread', fun k hk hle f hf => ?_, fun a => ?_⟩
          · exact hkeep k (hle e List.mem_cons_self) (fun y hy => hle y (List.mem_cons_of_mem _ hy)) f hf
          · rw [hcells, cells_cons]
            constructor
            · rintro (ha | ha)
              · exact .inl (.inr ha)
              · by_cases hlo : a < e.base + e.len
                · exact .inl (.inl (by omega))
                · exact .inr (by omega)
            · rintro ((ha | ha) | ha)
              · exact .inr (by omega)
              · exact .inl ha
              · exact .inr (by omega)
        · rw [if_neg hjoin]
          obtain ⟨hspread', hkeep, hcells⟩ := ih hn hspread hlap
          refine ⟨spread_cons.mpr ⟨he, hkeep _ (by omega) hgap, hspread'⟩, fun k hk hle f hf => ?_, fun a => ?_⟩
          · rcases List.mem_cons.mp hf with rfl | hf
            · exact hle f List.mem_cons_self
            · exact hkeep k hk (fun y hy => hle y (List.mem_cons_of_mem _ hy)) f hf
          · rw [cells_cons, cells_cons, hcells, or_assoc]

end

/-! ## The order of the port (R39) -/

section
variable {a : Arbiter}

theorem grant_busy (h : a.busy ≠ none) : grant a = a := by
  unfold grant
  split
  · rfl
  · rename_i hb
    exact absurd hb h

theorem grant_quiet (hs : a.shadowReq = none) (hl : a.loaderReq = none) (hf : a.fillReq = none) : grant a = a := by
  unfold grant
  rw [hs, hl, hf]
  split <;> rfl

theorem grant_shadowCredit {r : ShadowRequest} (hb : a.busy = none) (hs : a.shadowReq = some r) (hc : a.shadowCredit = true) :
    grant a = { a with busy := some (.shadow r true), shadowReq := none, shadowCredit := false } := by
  unfold grant
  rw [hb, hs, hc]

theorem grant_loaderCredit {r : LoadRequest} (hb : a.busy = none) (hl : a.loaderReq = some r) (hc : a.loaderCredit = true)
    (hs : a.shadowReq = none ∨ a.shadowCredit = false) :
    grant a = { a with busy := some (.loader r true), loaderReq := none, loaderCredit := false } := by
  unfold grant
  rw [hb, hl, hc]
  rcases hs with hs | hs <;> rw [hs]
  cases a.shadowReq <;> rfl

/-- Without a request that has credit, a fill is granted first, then the shadow requester, then the loader. -/
theorem grant_rest (hb : a.busy = none) (hs : a.shadowReq = none ∨ a.shadowCredit = false)
    (hl : a.loaderReq = none ∨ a.loaderCredit = false) :
    (∀ r, a.fillReq = some r → grant a = { a with busy := some (.fill r true), fillReq := none }) ∧
    (∀ r, a.fillReq = none → a.shadowReq = some r → grant a = { a with busy := some (.shadow r true), shadowReq := none }) ∧
    ∀ r, a.fillReq = none → a.shadowReq = none → a.loaderReq = some r →
      grant a = { a with busy := some (.loader r true), loaderReq := none } := by
  obtain ⟨busy, fillReq, shadowReq, loaderReq, shadowCredit, loaderCredit⟩ := a
  dsimp only at hb hs hl ⊢
  subst hb
  refine ⟨fun r hf => ?_, fun r hf hr => ?_, fun r hf hn hr => ?_⟩
  · subst hf
    rcases hs with rfl | rfl <;> rcases hl with rfl | rfl
    · rfl
    · cases loaderReq <;> rfl
    · cases shadowReq <;> rfl
    · cases shadowReq <;> cases loaderReq <;> rfl
  · subst hf hr
    obtain rfl : shadowCredit = false := hs.resolve_left (by simp)
    rcases hl with rfl | rfl
    · rfl
    · cases loaderReq <;> rfl
  · subst hf hn hr
    obtain rfl : loaderCredit = false := hl.resolve_left (by simp)
    rfl

/-- A free port with a request waiting is granted at once. -/
theorem grant_grants (hb : a.busy = none) (h : a.shadowReq ≠ none ∨ a.loaderReq ≠ none ∨ a.fillReq ≠ none) : (grant a).busy ≠ none := by
  by_cases hs : a.shadowReq = none ∨ a.shadowCredit = false
  · by_cases hl : a.loaderReq = none ∨ a.loaderCredit = false
    · obtain ⟨hfill, hshadow, hload⟩ := grant_rest hb hs hl
      cases hf : a.fillReq with
      | some r => simp [hfill r hf]
      | none =>
        cases hsr : a.shadowReq with
        | some r => simp [hshadow r hf hsr]
        | none =>
          cases hlr : a.loaderReq with
          | some r => simp [hload r hf hsr hlr]
          | none => simp [hf, hsr, hlr] at h
    · push Not at hl
      obtain ⟨r, hr⟩ := Option.ne_none_iff_exists'.mp hl.1
      simp [grant_loaderCredit hb hr (by simpa using hl.2) hs]
  · push Not at hs
    obtain ⟨r, hr⟩ := Option.ne_none_iff_exists'.mp hs.1
    simp [grant_shadowCredit hb hr (by simpa using hs.2)]

end

/-- A pump of the port changes the arbiter alone. -/
theorem pumpPort_eq (s : State) : pumpPort s = { s with ps := { s.ps with arb := (pumpPort s).ps.arb } } := by
  have hshadow : requestShadow s = { s with ps := { s.ps with arb := (requestShadow s).ps.arb } } := by
    unfold requestShadow setArb
    split <;> rfl
  have hload : ∀ u, requestLoad u = { u with ps := { u.ps with arb := (requestLoad u).ps.arb } } := fun u => by
    unfold requestLoad setArb
    (repeat' split) <;> rfl
  unfold pumpPort
  dsimp only [setArb]
  rw [hload, hshadow]

/-- Settles O42. -/
theorem freeExtentsAndThePortOrder : Obligations.FreeExtentsAndThePortOrder := by
  refine ⟨fun n l hn hl => ⟨allocate_eq_none, fun b l' h => ?_⟩, fun b n l hn hl hapart => ?_, fun a => ⟨grant_busy, grant_quiet,
    fun hb r => grant_shadowCredit hb, fun hb r hr hc => grant_loaderCredit hb hr hc, grant_rest⟩, fun s t ht => ?_⟩
  · obtain ⟨hspread, -, hfirst, hcells⟩ := allocate_takes hn (freeList_iff.mp hl) h
    exact ⟨freeList_iff.mpr hspread, hfirst, hcells⟩
  · obtain ⟨hspread, -, hcells⟩ := release_returns hn (freeList_iff.mp hl) hapart
    exact ⟨freeList_iff.mpr hspread, hcells⟩
  · obtain ⟨sr, lr, harb, hsr, hlr⟩ := pumpPort_arb s
    rw [← ht] at harb
    refine ⟨by rw [ht]; exact pumpPort_eq s, fun b hb => ?_, ⟨sr, lr, harb, hsr, hlr⟩, fun hb hreq => ⟨?_, fun hsc hlc => ⟨fun r hr => ?_,
      fun w hr hw => ?_⟩⟩⟩
    · rw [harb, grant_busy (by rw [hb]; exact Option.some_ne_none b)]
      exact ⟨hb, rfl, rfl⟩
    · rw [harb]
      refine grant_grants hb ?_
      rcases hreq with h | h | h
      · obtain ⟨w, hw⟩ := Option.ne_none_iff_exists'.mp h
        exact .inl (by rw [hsr w hw]; exact Option.some_ne_none w)
      · obtain ⟨w, hw⟩ := Option.ne_none_iff_exists'.mp h
        exact .inr (.inl (by rw [hlr w hw]; exact Option.some_ne_none w))
      · exact .inr (.inr h)
    · rw [harb]
      exact congrArg Arbiter.busy ((grant_rest (a := { s.ps.arb with shadowReq := sr, loaderReq := lr }) hb (.inr hsc) (.inr hlc)).1 r hr)
    · rw [harb]
      exact congrArg Arbiter.busy
        ((grant_rest (a := { s.ps.arb with shadowReq := sr, loaderReq := lr }) hb (.inr hsc) (.inr hlc)).2.1 w hr (hsr w hw))

end Sys2Proof.Machine

end

section

/-! PROOFS. LOAD and PRINT cards at their dispatch: the order of the checks and what an accepted card changes (R21, R28, R29, R60, R61). -/

namespace Sys2Proof.Machine

/-! ## The checks of the fields -/

theorem loadError_decides (b : List Byte) : ∃ l, loadError b = firstError l ∧ Decides l
    [(16, 1 ≤ leRead b 16 1 ∧ leRead b 16 1 ≤ 16), (17, leRead b 17 1 = 9 ∨ leRead b 17 1 = 17 ∨ leRead b 17 1 = 33),
     (18, 4 ≤ leRead b 18 1 ∧ leRead b 18 1 ≤ 6), (19, 1 ≤ leRead b 19 1 ∧ leRead b 19 1 ≤ 30),
     (20, 1000 ≤ leRead b 20 2 ∧ leRead b 20 2 ≤ 2000), (22, 2048 ≤ leRead b 22 2 ∧ leRead b 22 2 ≤ 4096),
     (24, 4096 ≤ leRead b 24 2 ∧ leRead b 24 2 ≤ 8192), (26, 1000 ≤ leRead b 26 4 ∧ leRead b 26 4 ≤ 9000000),
     (32, leRead b 32 8 ≠ 0 ∧ leRead b 32 8 % 8 = 0)] := by
  refine ⟨_, rfl, ?_⟩
  repeat' apply Decides.cons
  case hl => exact decides_nil
  all_goals simp [within_eq_true, loadHeader, or_assoc]

theorem printError_decides (w : Nat) (q : QueuedPrint) : ∃ l, printError w q = firstError l ∧ Decides l
    [(16, q.raster ≠ 0), (24, 3 * q.width ≤ q.stride ∧ q.stride ≤ 1048576), (28, 1 ≤ q.width ∧ q.width ≤ w), (30, 1 ≤ q.lines),
     (33, q.fabricId ≤ 8), (34, q.fabricId = 0 ∨ (20 ≤ q.tPlan ∧ q.tPlan ≤ 1000))] := by
  refine ⟨_, rfl, ?_⟩
  repeat' apply Decides.cons
  case hl => exact decides_nil
  all_goals simp [within]

theorem patchError_decides (b : List Byte) : ∃ l, patchError b = firstError l ∧ Decides l
    [(16, 1 ≤ leRead b 16 1 ∧ leRead b 16 1 ≤ 16), (18, 1 ≤ leRead b 18 2 ∧ leRead b 18 2 ≤ 128),
     (24, leRead b 24 8 ≠ 0 ∧ leRead b 24 8 % 8 = 0)] := by
  refine ⟨_, rfl, ?_⟩
  repeat' apply Decides.cons
  case hl => exact decides_nil
  all_goals simp [within]

section
variable {s : State} {c : CurrentCard}

/-- A card that its block cannot accept stalls the chain, unless it carries NO_WAIT (R164). -/
theorem waitOrFail_stalls (rc : ResultCode) (fields : List (Nat × List Byte)) (hc : s.ce.current = some c) (hn : c.noWait = false) :
    waitOrFail rc fields s = stallCurrent s := by simp [waitOrFail, hc, hn]

theorem waitOrFail_fails (rc : ResultCode) (fields : List (Nat × List Byte)) (hc : s.ce.current = some c) (hn : c.noWait = true) :
    waitOrFail rc fields s = failCurrent rc fields s := by simp [waitOrFail, hc, hn]

theorem profileOf_eq {id : Nat} {r : ProfileRecord} (h : s.ps.records[id - 1]? = some r) : profileOf s id = r := by
  simp [profileOf, nth, h]

theorem setProfile_same {id : Nat} {r : ProfileRecord} (h : s.ps.records[id - 1]? = some r) (f : ProfileRecord → ProfileRecord) :
    (setProfile id f s).ps.records[id - 1]? = some (f r) := by
  simp [setProfile, modifyNth_getElem?_eq, h]

theorem setProfile_ne {id n : Nat} (h : n ≠ id - 1) (f : ProfileRecord → ProfileRecord) :
    (setProfile id f s).ps.records[n]? = s.ps.records[n]? := modifyNth_getElem?_ne h

/-! ## A LOAD card -/

theorem exec_load (h : Dispatching .load c s) : exec .load s = .next (dispatchLoad c s) := h.next (f := dispatchLoad) rfl

theorem dispatchLoad_busy (h : s.ps.loader.isSome = true) : dispatchLoad c s = waitOrFail .busy [] s := if_pos h

theorem dispatchLoad_idle (h : s.ps.loader = none) : dispatchLoad c s = acceptLoad c s := if_neg (by simp [h])

/-- The end of a dispatch adds at most the read that begins the next chain read. -/
theorem endDispatch_ports (s : State) : ∃ l, (endDispatch s).ports = l ++ s.ports := by
  obtain ⟨h, -⟩ := endDispatch_onward s
  exact h

/-- What an accepted LOAD card changes (R29). -/
theorem loadAccepted_eq {base : Nat} {free : List Extent} {r : ProfileRecord} (h : s.ps.records[leRead c.image 16 1 - 1]? = some r) :
    loadAccepted c base free s = { s with
      ps := { s.ps with
        free := free
        records := modifyNth s.ps.records (leRead c.image 16 1 - 1) fun _ => ⟨.loading, some (loadHeader c.image base), 0, 0, 0, false⟩
        loader := some ⟨c.ref, leRead c.image 16 1, leRead c.image 32 8, 0, [], true⟩ }
      ports := .hostRead (leRead c.image 32 8) (8 * min 64 (leRead c.image 17 1 ^ 3)) :: s.ports } := by
  have hnodes : loadNodes (setProfile (leRead c.image 16 1) (fun _ => ⟨.loading, some (loadHeader c.image base), 0, 0, 0, false⟩)
      { s with ps := { s.ps with free := free } }) ⟨c.ref, leRead c.image 16 1, leRead c.image 32 8, 0, [], true⟩ =
      leRead c.image 17 1 ^ 3 := by
    unfold loadNodes
    rw [profileOf_eq (setProfile_same (s := { s with ps := { s.ps with free := free } }) h _)]
    rfl
  unfold loadAccepted readBlock
  rw [hnodes]
  simp [blockLength, emit, setLoader, setProfile]

end

/-- Settles O43. -/
theorem loadCardObligation : Obligations.LoadCard := by
  refine ⟨fun c s hd => ⟨fun hbusy hw => ?_, fun hbusy hw => ?_, fun hidle off hoff => ?_, fun id r hidle hok hid hr => ?_⟩, fun b => ?_,
    fun b off => ?_⟩
  · rw [exec_load hd, dispatchLoad_busy hbusy, waitOrFail_stalls _ _ hd.2.2.1 hw]
    exact ⟨_, rfl, stallCurrent_stalls hd.not_stalled⟩
  · rw [exec_load hd, dispatchLoad_busy hbusy, waitOrFail_fails _ _ hd.2.2.1 hw]
    exact ⟨_, rfl, hd.fails _ _⟩
  · rw [exec_load hd, dispatchLoad_idle hidle, acceptLoad_badField hoff]
    exact ⟨_, rfl, failField_fails _ hd⟩
  · subst hid
    have hprofile := profileOf_eq hr
    rw [exec_load hd, dispatchLoad_idle hidle]
    refine ⟨fun hst => ?_, fun hst hroom => ?_, fun b free hst hroom => ?_⟩
    · rw [acceptLoad_inUse hok (by rw [hprofile]; exact hst)]
      exact ⟨_, rfl, hd.fails _ _⟩
    · rw [acceptLoad_noRoom hok (by rw [hprofile]; exact hst) hroom]
      exact ⟨_, rfl, hd.fails _ _⟩
    · rw [acceptLoad_accepts hok (by rw [hprofile]; exact hst) hroom]
      have heq := loadAccepted_eq (base := b) (free := free) hr
      obtain ⟨l, hl⟩ := endDispatch_ports (loadAccepted c b free s)
      have hps : (endDispatch (loadAccepted c b free s)).ps = (loadAccepted c b free s).ps := by simp
      have hce := endDispatch_ce (loadAccepted c b free s)
      have hbytes : ∀ a, hostByte (endDispatch (loadAccepted c b free s)) a = hostByte (loadAccepted c b free s) a :=
        hostByte_endDispatch _
      rw [heq] at hl hps hce hbytes ⊢
      refine ⟨_, rfl, by rw [hps], ?_, fun n hn => ?_, by rw [hps], ?_, by rw [hps], by rw [hps], by simp, by simp, hce, by simp,
        fun a _ => hbytes a, by simp [SameBase], by simp [SamePrint], by simp [SameLine]⟩
      · rw [hps]
        exact setProfile_same hr _
      · rw [hps]
        exact setProfile_ne hn _
      · rw [hl]
        exact List.mem_append_right _ List.mem_cons_self
  · obtain ⟨l, hl, hdec⟩ := loadError_decides b
    rw [hl, hdec.none]
    simp
  · obtain ⟨l, hl, hdec⟩ := loadError_decides b
    rw [hl]
    exact hdec.firstError

/-! ## A PRINT card -/

section
variable {s : State} {c : CurrentCard} {g : Settings} {q : QueuedPrint}

theorem exec_print (h : Dispatching .print c s) : exec .print s = .next (printCard c s) := h.next (f := printCard) rfl

theorem printRefusal_profile (h : q.profileId = 0 ∨ 16 < q.profileId) : printRefusal s g q = some (failField 32) := by
  have hno : within 1 q.profileId 16 = false := within_eq_false.mpr (by omega)
  simp [printRefusal, hno]

theorem printRefusal_unknown {r : ProfileRecord} (hid : 1 ≤ q.profileId ∧ q.profileId ≤ 16)
    (hr : s.ps.records[q.profileId - 1]? = some r) (h : r.state = .empty ∨ r.state = .retiring ∨ r.freeing = true) :
    printRefusal s g q = some (failCurrent .unknownProfile []) := by
  have hseen : stateSeen r = .empty ∨ stateSeen r = .retiring := by
    unfold stateSeen
    rcases h with h | h | h <;> cases hf : r.freeing <;> simp_all
  unfold printRefusal
  rw [profileOf_eq hr, within_eq_true.mpr hid, if_neg (by decide), if_pos]
  rcases hseen with h | h <;> simp [h]

/-- The checks that remain for a card whose profile is READY or LOADING: its channels, and its fabric (R60). -/
theorem printRefusal_open {r : ProfileRecord} {h : ProfileHeader} (hid : 1 ≤ q.profileId ∧ q.profileId ≤ 16)
    (hr : s.ps.records[q.profileId - 1]? = some r) (hst : r.state = .ready ∨ r.state = .loading) (hfree : r.freeing = false)
    (hh : r.header = some h) : printRefusal s g q =
      if h.channels ≠ g.bars then some (failField 32)
      else if q.fabricId ≠ 0 ∧ (fabricOf s q.fabricId).figures = none then some (failField 33) else none := by
  have hseen : ¬((stateSeen r == .empty || stateSeen r == .retiring) = true) := by
    rcases hst with hst | hst <;> simp [stateSeen, hfree, hst]
  unfold printRefusal
  rw [profileOf_eq hr, within_eq_true.mpr hid, if_neg (by decide), if_neg hseen, hh]
  exact if_congr (by simp) rfl (if_congr (by simp) rfl rfl)

theorem printRefusal_passes {r : ProfileRecord} {h : ProfileHeader} (hid : 1 ≤ q.profileId ∧ q.profileId ≤ 16)
    (hr : s.ps.records[q.profileId - 1]? = some r) (hst : r.state = .ready ∨ r.state = .loading) (hfree : r.freeing = false)
    (hh : r.header = some h) (hch : h.channels = g.bars) (hfab : q.fabricId = 0 ∨ (fabricOf s q.fabricId).figures ≠ none) :
    printRefusal s g q = none := by
  rw [printRefusal_open hid hr hst hfree hh, if_neg (not_not_intro hch), if_neg]
  exact fun hno => hfab.elim hno.1 fun hsome => hsome hno.2

theorem takeFabric_eq (id : Nat) (s : State) : takeFabric id s = { s with tc := { s.tc with fabrics := (takeFabric id s).tc.fabrics } } := by
  unfold takeFabric
  split <;> rfl

theorem takeFabric_same {id : Nat} {f : FabricRecord} (hid : id ≠ 0) (hf : s.tc.fabrics[id - 1]? = some f) :
    (takeFabric id s).tc.fabrics[id - 1]? = some { f with refs := f.refs + 1 } := by
  rw [takeFabric, if_neg hid]
  simp [setFabric, modifyNth_getElem?_eq, hf]

theorem takeFabric_ne {id n : Nat} (hn : n ≠ id - 1) : (takeFabric id s).tc.fabrics[n]? = s.tc.fabrics[n]? := by
  unfold takeFabric
  split
  · rfl
  · exact modifyNth_getElem?_ne hn

theorem takeFabric_zero (s : State) : takeFabric 0 s = s := rfl

/-- What a card that joins the queue changes (R61). -/
theorem printQueued_eq (q : QueuedPrint) (s : State) : printQueued q s = { s with
    pe := { s.pe with queue := s.pe.queue ++ [q] }
    ps := { s.ps with records := modifyNth s.ps.records (q.profileId - 1) fun r => { r with refs := r.refs + 1 } }
    tc := { s.tc with fabrics := (takeFabric q.fabricId s).tc.fabrics } } := by
  unfold printQueued takeFabric
  split <;> rfl

/-- A card that joins the queue is held; the first of the queue is tested at once (R61, R63). -/
theorem enqueuePrint_rest (q : QueuedPrint) (s : State) : ∃ hold first ports, enqueuePrint q s = { printQueued q s with
    pe := { (printQueued q s).pe with hold := hold, firstTest := first }, ce := engineAfter s s.ce.outstanding, ports := ports } ∧
      writtenByte ports = writtenByte s.ports := by
  have hce : (endDispatch (printQueued q s)).ce = engineAfter s s.ce.outstanding := by
    rw [endDispatch_ce, printQueued_eq]
    rfl
  have heq : endDispatch (printQueued q s) = { printQueued q s with
      ce := (endDispatch (printQueued q s)).ce, ports := (endDispatch (printQueued q s)).ports } := by
    unfold endDispatch beginChainRead emit
    dsimp only
    split <;> rfl
  have hports : writtenByte (endDispatch (printQueued q s)).ports = writtenByte s.ports := by
    funext a
    refine (hostByte_endDispatch (printQueued q s) a).trans ?_
    rw [printQueued_eq]
    rfl
  rw [enqueuePrint_eq]
  split
  · obtain ⟨hold, first, htouch⟩ := touchStart_eq (endDispatch (printQueued q s))
    refine ⟨hold, first, _, ?_, hports⟩
    rw [htouch, heq, hce]
  · refine ⟨(printQueued q s).pe.hold, (printQueued q s).pe.firstTest, _, ?_, hports⟩
    rw [heq, hce]

end

/-- Settles O49. -/
theorem printCardObligation : Obligations.PrintCard := by
  refine ⟨fun c s hd => ⟨fun hno => ?_, fun g q hg hq => ⟨fun off hoff => ?_, fun hok hid => ?_, fun r hok h1 h16 hr =>
    ⟨fun hst => ?_, fun h hst hfree hh => ⟨fun hch => ?_, fun hch hfab hfig => ?_, fun hch hfab => ⟨fun hfull hw => ?_,
      fun hfull hw => ?_, fun hroom => ?_⟩⟩⟩⟩⟩, fun w q => ?_, fun w q off => ?_⟩
  · rw [exec_print hd, printCard_noSetup hno]
    exact ⟨_, rfl, hd.fails _ _⟩
  · subst hq
    rw [exec_print hd, printCard_badField hg hoff]
    exact ⟨_, rfl, failField_fails _ hd⟩
  · subst hq
    rw [exec_print hd, printCard_refused hg hok (printRefusal_profile hid)]
    exact ⟨_, rfl, failField_fails _ hd⟩
  · subst hq
    rw [exec_print hd, printCard_refused hg hok (printRefusal_unknown ⟨h1, h16⟩ hr hst)]
    exact ⟨_, rfl, hd.fails _ _⟩
  · subst hq
    have href := printRefusal_open (g := g) ⟨h1, h16⟩ hr hst hfree hh
    rw [if_pos hch] at href
    rw [exec_print hd, printCard_refused hg hok href]
    exact ⟨_, rfl, failField_fails _ hd⟩
  · subst hq
    have href := printRefusal_open (g := g) ⟨h1, h16⟩ hr hst hfree hh
    rw [if_neg (not_not_intro hch), if_pos ⟨hfab, hfig⟩] at href
    rw [exec_print hd, printCard_refused hg hok href]
    exact ⟨_, rfl, failField_fails _ hd⟩
  · subst hq
    rw [exec_print hd, printCard_joins hg hok (printRefusal_passes ⟨h1, h16⟩ hr hst hfree hh hch hfab)]
    rw [if_pos hfull, waitOrFail_stalls _ _ hd.2.2.1 hw]
    exact ⟨_, rfl, stallCurrent_stalls hd.not_stalled⟩
  · subst hq
    rw [exec_print hd, printCard_joins hg hok (printRefusal_passes ⟨h1, h16⟩ hr hst hfree hh hch hfab)]
    rw [if_pos hfull, waitOrFail_fails _ _ hd.2.2.1 hw]
    exact ⟨_, rfl, hd.fails _ _⟩
  · subst hq
    rw [exec_print hd, printCard_joins hg hok (printRefusal_passes ⟨h1, h16⟩ hr hst hfree hh hch hfab)]
    rw [if_neg (by omega)]
    obtain ⟨hold, first, ports, heq, hports⟩ := enqueuePrint_rest (parsePrint c) s
    rw [printQueued_eq] at heq
    refine ⟨_, rfl, ?_⟩
    rw [heq]
    refine ⟨rfl, setProfile_same hr _, fun n hn => setProfile_ne hn _, fun hz => ?_, fun f hz hf => takeFabric_same hz hf,
      fun n hn => takeFabric_ne hn, rfl, rfl, rfl, fun a _ => congrFun hports a, ⟨rfl, rfl, rfl, rfl, rfl, rfl, rfl⟩, rfl, rfl, rfl, rfl,
      rfl, rfl, rfl, rfl⟩
    dsimp only
    rw [hz, takeFabric_zero]
  · obtain ⟨l, hl, hdec⟩ := printError_decides w q
    rw [hl, hdec.none]
    simp
  · obtain ⟨l, hl, hdec⟩ := printError_decides w q
    rw [hl]
    exact hdec.firstError

end Sys2Proof.Machine

end

section

/-! PROOFS. The freeing of a profile: what it leaves of the store, the buffer and the port, and the release of a reference (R32, R37,
R46). -/

namespace Sys2Proof.Machine

/-! ## The parts of a freeing -/

/-- The arbiter without the requests of the shadow requester for a profile (R46). -/
def withoutRequests (id : Nat) (a : Arbiter) : Arbiter :=
  { a with shadowReq := a.shadowReq.filter (fun r => !requestFor id r), busy := dropCreation id a.busy }

/-- The PATCH card in hand, unless it applies edits to a profile that is freed (R46). -/
def patchKept (id : Nat) (p : Option PatchJob) : Option PatchJob := p.filter fun p => !(p.id == id && p.phase != .reading)

/-- A write of the profile's has been granted and has not completed (R32). -/
def writeGranted (id : Nat) (s : State) : Bool := drainGranted s id || loadWriteGranted s id

section
variable {s : State} {id n : Nat}

theorem writeGranted_eq_false : writeGranted id s = false ↔ drainGranted s id = false ∧ loadWriteGranted s id = false := by
  simp [writeGranted]

theorem writeGranted_eq_true : writeGranted id s = true ↔ drainGranted s id = true ∨ loadWriteGranted s id = true := by
  simp [writeGranted]

theorem discardEntries_ps (id : Nat) (s : State) :
    (discardEntries id s).ps = { s.ps with arb := withoutRequests id s.ps.arb } := by
  rw [discardEntries_eq]
  split
  · rfl
  · simp [withoutEntries, setArb, withoutRequests]

theorem discardEntries_spb (id : Nat) (s : State) :
    (discardEntries id s).spb = { s.spb with entries := s.spb.entries.filter (sparesEntry id s.ps.arb.busy) } := by
  rw [discardEntries_eq]
  split
  · rfl
  · simp [withoutEntries, setArb]

theorem failPatchOf_spb (id : Nat) (s : State) :
    (failPatchOf id s).spb = { s.spb with patch := patchKept id s.spb.patch } := by
  unfold failPatchOf patchKept
  split
  · rename_i h
    rw [h]
    exact congrArg (fun p => { s.spb with patch := p }) h
  · rename_i p h
    rw [h, Option.filter_some]
    split
    · rename_i hp
      simp [hp]
    · rename_i hp
      rw [if_pos (by simpa [← imp_iff_not_or] using hp)]
      exact congrArg (fun p => { s.spb with patch := p }) h

theorem drainGranted_congr {t : State} (h : t.ps.arb.busy = s.ps.arb.busy) : drainGranted t n = drainGranted s n := by
  unfold drainGranted
  rw [h]

theorem loadWriteGranted_congr {t : State} (h : t.ps.arb.busy = s.ps.arb.busy) : loadWriteGranted t n = loadWriteGranted s n := by
  unfold loadWriteGranted
  rw [h]

/-- A creation read that is no longer wanted is no write (R32). -/
theorem discardEntries_granted (id n : Nat) (s : State) : drainGranted (discardEntries id s) n = drainGranted s n ∧
    loadWriteGranted (discardEntries id s) n = loadWriteGranted s n := by
  unfold drainGranted loadWriteGranted
  rw [discardEntries_ps]
  dsimp only [withoutRequests]
  cases hb : s.ps.arb.busy with
  | none => exact ⟨rfl, rfl⟩
  | some b =>
    cases b with
    | fill r live => exact ⟨rfl, rfl⟩
    | loader r live => exact ⟨rfl, rfl⟩
    | shadow r live => cases r <;> exact ⟨rfl, rfl⟩

theorem completeFree_none (h : (profileOf s id).header = none) : completeFree id s = s := by
  unfold completeFree
  rw [h]

theorem completeFree_ps {h : ProfileHeader} (hh : (profileOf s id).header = some h) : (completeFree id s).ps = { s.ps with
    free := release h.base h.nodes s.ps.free, records := modifyNth s.ps.records (id - 1) fun _ => emptyRecord } := by
  unfold completeFree
  rw [hh]
  simp [setProfile]

/-- A state whose store differs in the arbiter alone, with a buffer's entries and PATCH card. -/
theorem profileOf_congr {t : State} (h : t.ps.records = s.ps.records) : profileOf t id = profileOf s id := by
  unfold profileOf
  rw [h]

/-! ## A freeing as a whole -/

/-- The freeing of a record up to the pump of the port. -/
def freeSettled (id : Nat) (s : State) : State :=
  if writeGranted id s then setProfile id (fun r => { r with freeing := true }) (failPatchOf id (discardEntries id s))
  else completeFree id (failPatchOf id (discardEntries id s))

theorem freed_before_ps (id : Nat) (s : State) :
    (failPatchOf id (discardEntries id s)).ps = { s.ps with arb := withoutRequests id s.ps.arb } := by
  rw [← discardEntries_ps]
  simp

theorem freeRecord_eq (id : Nat) (s : State) : freeRecord id s = pumpPort (freeSettled id s) := by
  have hbusy : (failPatchOf id (discardEntries id s)).ps.arb.busy = (discardEntries id s).ps.arb.busy := by simp
  have hgranted : (drainGranted (failPatchOf id (discardEntries id s)) id || loadWriteGranted (failPatchOf id (discardEntries id s)) id) =
      writeGranted id s := by
    rw [drainGranted_congr hbusy, loadWriteGranted_congr hbusy, (discardEntries_granted id id s).1, (discardEntries_granted id id s).2]
    rfl
  unfold freeRecord freeSettled
  dsimp only
  rw [hgranted]

/-- A record with a granted write waits to be freed (R32). -/
theorem freeSettled_waits (hg : writeGranted id s = true) : (freeSettled id s).ps = { s.ps with
    arb := withoutRequests id s.ps.arb, records := modifyNth s.ps.records (id - 1) fun r => { r with freeing := true } } := by
  have hset : ∀ u, (setProfile id (fun r => { r with freeing := true }) u).ps =
      { u.ps with records := modifyNth u.ps.records (id - 1) fun r => { r with freeing := true } } := fun _ => rfl
  rw [freeSettled, if_pos hg, hset, freed_before_ps]

theorem freed_before_header (id : Nat) (s : State) :
    (profileOf (failPatchOf id (discardEntries id s)) id).header = (profileOf s id).header := by
  rw [profileOf_congr (s := s) (by rw [freed_before_ps])]

/-- A record without a granted write becomes EMPTY, and its extent returns to the free list (R32). -/
theorem freeSettled_frees {h : ProfileHeader} (hg : writeGranted id s = false) (hh : (profileOf s id).header = some h) :
    (freeSettled id s).ps = { s.ps with
      arb := withoutRequests id s.ps.arb
      free := release h.base h.nodes s.ps.free
      records := modifyNth s.ps.records (id - 1) fun _ => emptyRecord } ∧
      hasEvent (freeSettled id s) .profileFreed = true := by
  have hheader := (freed_before_header id s).trans hh
  have hg' : ¬ writeGranted id s = true := by simp [hg]
  rw [freeSettled, if_neg hg']
  refine ⟨by rw [completeFree_ps hheader, freed_before_ps], ?_⟩
  unfold completeFree
  rw [hheader]
  simp [raiseEvent_hasEvent]

/-- A record that holds no profile stays as it is. -/
theorem freeSettled_none (hg : writeGranted id s = false) (hh : (profileOf s id).header = none) :
    (freeSettled id s).ps = { s.ps with arb := withoutRequests id s.ps.arb } := by
  have hg' : ¬ writeGranted id s = true := by simp [hg]
  rw [freeSettled, if_neg hg', completeFree_none ((freed_before_header id s).trans hh), freed_before_ps]

/-- What a freeing makes of the store, up to the pump of the port. -/
theorem freeSettled_ps (id : Nat) (s : State) : (freeSettled id s).ps = { s.ps with
    arb := withoutRequests id s.ps.arb, records := (freeSettled id s).ps.records, free := (freeSettled id s).ps.free } := by
  cases hg : writeGranted id s with
  | true => rw [freeSettled_waits hg]
  | false =>
    cases hh : (profileOf s id).header with
    | none => rw [freeSettled_none hg hh]
    | some h => rw [(freeSettled_frees hg hh).1]

theorem freeSettled_spb (id : Nat) (s : State) : (freeSettled id s).spb = { s.spb with
    entries := s.spb.entries.filter (sparesEntry id s.ps.arb.busy), patch := patchKept id s.spb.patch } := by
  have hspb : (failPatchOf id (discardEntries id s)).spb = { s.spb with
      entries := s.spb.entries.filter (sparesEntry id s.ps.arb.busy), patch := patchKept id s.spb.patch } := by
    rw [failPatchOf_spb, discardEntries_spb]
  rw [← hspb]
  unfold freeSettled
  split <;> simp

theorem freeRecord_spb (id : Nat) (s : State) : (freeRecord id s).spb = { s.spb with
    entries := s.spb.entries.filter (sparesEntry id s.ps.arb.busy), patch := patchKept id s.spb.patch } := by
  rw [freeRecord_eq, ← freeSettled_spb]
  simp

/-- The pump of the port at the end of a freeing changes the arbiter alone. -/
theorem freeRecord_settled (id : Nat) (s : State) :
    (freeRecord id s).ps = { (freeSettled id s).ps with arb := (freeRecord id s).ps.arb } ∧ (freeRecord id s).su = (freeSettled id s).su := by
  rw [freeRecord_eq, pumpPort_eq]
  exact ⟨rfl, rfl⟩

theorem freeRecord_ps (id : Nat) (s : State) : (freeRecord id s).ps = { s.ps with
    arb := (freeRecord id s).ps.arb, records := (freeRecord id s).ps.records, free := (freeRecord id s).ps.free } := by
  rw [(freeRecord_settled id s).1, freeSettled_ps]

theorem freeRecord_waits (hg : writeGranted id s = true) : (freeRecord id s).ps.free = s.ps.free ∧
    (freeRecord id s).ps.records = modifyNth s.ps.records (id - 1) fun r => { r with freeing := true } := by
  rw [(freeRecord_settled id s).1, freeSettled_waits hg]
  exact ⟨rfl, rfl⟩

theorem freeRecord_frees {h : ProfileHeader} (hg : writeGranted id s = false) (hh : (profileOf s id).header = some h) :
    (freeRecord id s).ps.free = release h.base h.nodes s.ps.free ∧
      (freeRecord id s).ps.records = (modifyNth s.ps.records (id - 1) fun _ => emptyRecord) ∧
      hasEvent (freeRecord id s) .profileFreed = true := by
  obtain ⟨hps, hevent⟩ := freeSettled_frees hg hh
  refine ⟨by rw [(freeRecord_settled id s).1, hps], by rw [(freeRecord_settled id s).1, hps], ?_⟩
  unfold hasEvent at hevent ⊢
  rwa [(freeRecord_settled id s).2]

/-- The freeing of a record leaves every other record. -/
theorem freeRecord_ne (hn : n ≠ id - 1) : (freeRecord id s).ps.records[n]? = s.ps.records[n]? := by
  cases hg : writeGranted id s with
  | true => rw [(freeRecord_waits hg).2, modifyNth_getElem?_ne hn]
  | false =>
    cases hh : (profileOf s id).header with
    | some h => rw [(freeRecord_frees hg hh).2.1, modifyNth_getElem?_ne hn]
    | none => rw [(freeRecord_settled id s).1, freeSettled_none hg hh]

end

/-! ## The requests of the port -/

/-- The request that the shadow requester holds once it has made its request (R49). -/
def shadowAsked (s : State) : Option ShadowRequest :=
  if s.ps.arb.shadowReq.isSome || shadowAtPort s.ps.arb then s.ps.arb.shadowReq else nextShadowRequest s

/-- The write that a load asks for next (R29). -/
def nextLoadRequest (s : State) : Option LoadRequest :=
  match s.ps.loader with
  | none => none
  | some j =>
    match j.buffer, (profileOf s j.id).header with
    | v :: _, some h => some ⟨j.id, h.base + j.cursor, v⟩
    | _, _ => none

/-- The request that the loader holds once it has made its request (R29). -/
def loadAsked (s : State) : Option LoadRequest :=
  if s.ps.arb.loaderReq.isSome || loaderAtPort s.ps.arb then s.ps.arb.loaderReq else nextLoadRequest s

section
variable {s t : State} {id n : Nat}

theorem requestShadow_arb (s : State) : (requestShadow s).ps.arb = { s.ps.arb with shadowReq := shadowAsked s } := by
  unfold requestShadow shadowAsked
  split <;> rfl

theorem requestLoad_arb (s : State) : (requestLoad s).ps.arb = { s.ps.arb with loaderReq := loadAsked s } := by
  unfold requestLoad loadAsked
  by_cases h : (s.ps.arb.loaderReq.isSome || loaderAtPort s.ps.arb) = true
  · rw [if_pos h, if_pos h]
  · have hnone : s.ps.arb.loaderReq = none := by
      cases hl : s.ps.arb.loaderReq with
      | none => rfl
      | some w => simp [hl] at h
    have harb : s.ps.arb = { s.ps.arb with loaderReq := none } := by rw [← hnone]
    rw [if_neg h, if_neg h]
    unfold nextLoadRequest
    cases s.ps.loader with
    | none => exact harb
    | some j =>
      dsimp only
      cases j.buffer with
      | nil => exact harb
      | cons v l =>
        cases (profileOf s j.id).header with
        | none => exact harb
        | some h => rfl

/-- A pump of the port: the requesters ask, and a free port is granted (R39). -/
theorem pumpPort_asked (s : State) :
    (pumpPort s).ps.arb = grant { s.ps.arb with shadowReq := shadowAsked s, loaderReq := loadAsked s } := by
  have hload : loadAsked (requestShadow s) = loadAsked s := by
    unfold requestShadow
    split <;> rfl
  have harb : (pumpPort s).ps.arb = grant (requestLoad (requestShadow s)).ps.arb := rfl
  rw [harb, requestLoad_arb, hload, requestShadow_arb]

/-- What a grant can do: nothing, or one of the requests that wait takes the free port. -/
theorem grant_cases (a : Arbiter) : grant a = a ∨ a.busy = none ∧
    ((∃ r c, a.shadowReq = some r ∧ grant a = { a with busy := some (.shadow r true), shadowReq := none, shadowCredit := c }) ∨
      (∃ r c, a.loaderReq = some r ∧ grant a = { a with busy := some (.loader r true), loaderReq := none, loaderCredit := c }) ∨
      ∃ r, a.fillReq = some r ∧ grant a = { a with busy := some (.fill r true), fillReq := none }) := by
  by_cases hb : a.busy = none
  · by_cases hs : a.shadowReq = none ∨ a.shadowCredit = false
    · by_cases hl : a.loaderReq = none ∨ a.loaderCredit = false
      · obtain ⟨hfill, hshadow, hload⟩ := grant_rest hb hs hl
        cases hf : a.fillReq with
        | some r => exact .inr ⟨hb, .inr (.inr ⟨r, rfl, hfill r hf⟩)⟩
        | none =>
          cases hsr : a.shadowReq with
          | some r => exact .inr ⟨hb, .inl ⟨r, a.shadowCredit, rfl, (hshadow r hf hsr).trans (by rw [hf])⟩⟩
          | none =>
            cases hlr : a.loaderReq with
            | some r => exact .inr ⟨hb, .inr (.inl ⟨r, a.loaderCredit, rfl, (hload r hf hsr hlr).trans (by rw [hf, hsr])⟩)⟩
            | none => exact .inl (grant_quiet hsr hlr hf)
      · push Not at hl
        obtain ⟨r, hr⟩ := Option.ne_none_iff_exists'.mp hl.1
        exact .inr ⟨hb, .inr (.inl ⟨r, false, hr, grant_loaderCredit hb hr (by simpa using hl.2) hs⟩)⟩
    · push Not at hs
      obtain ⟨r, hr⟩ := Option.ne_none_iff_exists'.mp hs.1
      exact .inr ⟨hb, .inl ⟨r, false, hr, grant_shadowCredit hb hr (by simpa using hs.2)⟩⟩
  · exact .inl (grant_busy hb)

/-- A request for a drain is made for an entry of the buffer. -/
theorem nextShadowRequest_drain {cell : Nat} {v : CellValue} (h : nextShadowRequest s = some (.drain id cell v)) :
    ∃ e ∈ s.spb.entries, e.id = id := by
  unfold nextShadowRequest at h
  split at h
  · rename_i e he
    obtain ⟨rfl, -⟩ := ShadowRequest.drain.inj (Option.some.inj h)
    exact ⟨e, List.mem_of_find?_eq_some he, rfl⟩
  · (repeat' split at h) <;> simp at h

theorem nextLoadRequest_id {w : LoadRequest} (h : nextLoadRequest s = some w) : ∃ j, s.ps.loader = some j ∧ j.id = w.id := by
  unfold nextLoadRequest at h
  split at h
  · exact absurd h (by simp)
  · rename_i j hj
    split at h
    · obtain rfl := Option.some.inj h
      exact ⟨j, hj, rfl⟩
    · exact absurd h (by simp)

end

/-! ## No work is left for a freed profile -/

/-- Nothing but a granted write is at work for a profile: its entries are gone but for the one whose drain holds the port, and no request
for a write of it is made or waits. -/
def Quit (id : Nat) (s : State) : Prop :=
  (∀ e ∈ s.spb.entries, e.id = id → ∃ i v, s.ps.arb.busy = some (.shadow (.drain i e.cell v) true)) ∧
    (∀ cell v, s.ps.arb.shadowReq ≠ some (.drain id cell v)) ∧ NoLoadFor id s

/-- The writes granted for a profile are those of another state. -/
def SameGrants (id : Nat) (s t : State) : Prop :=
  drainGranted t id = drainGranted s id ∧ loadWriteGranted t id = loadWriteGranted s id

section
variable {s t u : State} {id n : Nat}

theorem SameGrants.trans (h : SameGrants id s t) (h' : SameGrants id t u) : SameGrants id s u :=
  ⟨h'.1.trans h.1, h'.2.trans h.2⟩

theorem SameGrants.of_busy (h : t.ps.arb.busy = s.ps.arb.busy) : SameGrants id s t :=
  ⟨drainGranted_congr h, loadWriteGranted_congr h⟩

theorem NoLoadFor.congr (h : NoLoadFor id s) (harb : t.ps.arb.loaderReq = s.ps.arb.loaderReq) (hload : t.ps.loader = s.ps.loader) :
    NoLoadFor id t := by
  unfold NoLoadFor
  rwa [harb, hload]

theorem Quit.congr (h : Quit id s) (harb : t.ps.arb = s.ps.arb) (hload : t.ps.loader = s.ps.loader)
    (hentries : t.spb.entries = s.spb.entries) : Quit id t := by
  unfold Quit NoLoadFor
  rwa [harb, hload, hentries]

/-- The loader asks for writes of its own load alone. -/
theorem NoLoadFor.asked (h : NoLoadFor id s) : ∀ w, loadAsked s = some w → w.id ≠ id := by
  intro w hw
  unfold loadAsked at hw
  split at hw
  · exact h.1 w hw
  · obtain ⟨j, hj, hid⟩ := nextLoadRequest_id hw
    rw [← hid]
    exact h.2 j hj

theorem NoLoadFor.pump (h : NoLoadFor id s) : NoLoadFor id (pumpPort s) := by
  refine ⟨fun w hw => ?_, fun j hj => h.2 j (by rwa [pumpPort_loader] at hj)⟩
  rw [pumpPort_asked] at hw
  rcases grant_cases { s.ps.arb with shadowReq := shadowAsked s, loaderReq := loadAsked s } with he | ⟨-, ⟨r, c, -, he⟩ | ⟨r, c, -, he⟩ |
    ⟨r, -, he⟩⟩
  all_goals rw [he] at hw
  · exact h.asked w hw
  · exact h.asked w hw
  · exact absurd hw (by simp)
  · exact h.asked w hw

/-- No drain of the profile is asked for: its one entry is at the port, which holds the shadow requester back. -/
theorem Quit.asked (h : Quit id s) : ∀ cell v, shadowAsked s ≠ some (.drain id cell v) := by
  obtain ⟨hentries, hreq, -⟩ := h
  intro cell v hask
  unfold shadowAsked at hask
  split at hask
  · exact hreq cell v hask
  · rename_i hno
    obtain ⟨e, he, hid⟩ := nextShadowRequest_drain hask
    obtain ⟨i, w, hbusy⟩ := hentries e he hid
    simp [shadowAtPort, hbusy] at hno

/-- A pump of the port grants no write of the profile. -/
theorem Quit.pump (h : Quit id s) : Quit id (pumpPort s) ∧ SameGrants id s (pumpPort s) := by
  have hasked := h.asked
  have hload := NoLoadFor.asked h.2.2
  have hnoload := NoLoadFor.pump h.2.2
  have hspb : (pumpPort s).spb = s.spb := by simp
  obtain ⟨hentries, -, -⟩ := h
  have harb := pumpPort_asked s
  rcases grant_cases { s.ps.arb with shadowReq := shadowAsked s, loaderReq := loadAsked s } with he | ⟨hb, ⟨r, c, hr, he⟩ | ⟨r, c, hr, he⟩ |
    ⟨r, hr, he⟩⟩
  all_goals rw [he] at harb
  · refine ⟨⟨?_, ?_, hnoload⟩, .of_busy (by rw [harb])⟩
    · rw [hspb, harb]
      exact hentries
    · rw [harb]
      exact hasked
  all_goals
    dsimp only at hb hr
    have hgone : ∀ e ∈ s.spb.entries, e.id ≠ id := fun e he hid => by
      obtain ⟨i, v, hbusy⟩ := hentries e he hid
      rw [hb] at hbusy
      exact absurd hbusy (by simp)
    have hold : drainGranted s id = false ∧ loadWriteGranted s id = false := by
      unfold drainGranted loadWriteGranted
      rw [hb]
      exact ⟨rfl, rfl⟩
    refine ⟨⟨fun e hm hid => absurd hid (hgone e (hspb ▸ hm)), ?_, hnoload⟩, ?_⟩
  · rw [harb]
    exact fun _ _ => by simp
  · unfold SameGrants drainGranted loadWriteGranted
    rw [harb, hb]
    refine ⟨?_, rfl⟩
    cases r with
    | creation i node cell k => rfl
    | drain i cell v =>
      have hne : i ≠ id := fun hi => hasked cell v (by rw [hr, hi])
      simpa using hne
  · rw [harb]
    exact hasked
  · unfold SameGrants drainGranted loadWriteGranted
    rw [harb, hb]
    exact ⟨rfl, by simpa using hload r hr⟩
  · rw [harb]
    exact hasked
  · unfold SameGrants drainGranted loadWriteGranted
    rw [harb, hb]
    exact ⟨rfl, rfl⟩

/-- A creation read that is no longer wanted is no write (R32). -/
theorem SameGrants.of_dropped (h : t.ps.arb.busy = dropCreation n s.ps.arb.busy) : SameGrants id s t := by
  unfold SameGrants drainGranted loadWriteGranted
  rw [h]
  cases s.ps.arb.busy with
  | none => exact ⟨rfl, rfl⟩
  | some b =>
    cases b with
    | fill r live => exact ⟨rfl, rfl⟩
    | loader r live => exact ⟨rfl, rfl⟩
    | shadow r live => cases r <;> exact ⟨rfl, rfl⟩

theorem freeSettled_arb (id : Nat) (s : State) : (freeSettled id s).ps.arb = withoutRequests id s.ps.arb := by rw [freeSettled_ps]

theorem freeSettled_grants (n : Nat) (s : State) : SameGrants id s (freeSettled n s) := by
  refine .of_dropped (n := n) ?_
  rw [freeSettled_arb]
  rfl

theorem NoLoadFor.settled (h : NoLoadFor id s) (n : Nat) : NoLoadFor id (freeSettled n s) :=
  h.congr (by rw [freeSettled_arb]; rfl) (by rw [freeSettled_ps])

theorem NoLoadFor.freeRecord (h : NoLoadFor id s) (n : Nat) : NoLoadFor id (freeRecord n s) := by
  rw [freeRecord_eq]
  exact (h.settled n).pump

/-- A freeing, of this profile or another, leaves no work for a profile that had none. -/
theorem Quit.freeRecord (h : Quit id s) (n : Nat) : Quit id (freeRecord n s) ∧ SameGrants id s (freeRecord n s) := by
  obtain ⟨hentries, hreq, hload⟩ := h
  have hquit : Quit id (freeSettled n s) := by
    refine ⟨fun e he hid => ?_, fun cell v hr => ?_, hload.settled n⟩
    · rw [freeSettled_spb] at he
      obtain ⟨i, v, hbusy⟩ := hentries e (List.mem_filter.mp he).1 hid
      exact ⟨i, v, by rw [freeSettled_arb, withoutRequests, hbusy]; rfl⟩
    · rw [freeSettled_arb] at hr
      exact hreq cell v (Option.filter_eq_some_iff.mp hr).1
  obtain ⟨hpumped, hgrants⟩ := hquit.pump
  rw [freeRecord_eq]
  exact ⟨hpumped, (freeSettled_grants n s).trans hgrants⟩

/-- The freeing of a profile that no load works for leaves nothing but a granted write of it (R32). -/
theorem freeRecord_quits (h : NoLoadFor id s) : Quit id (freeRecord id s) ∧ SameGrants id s (freeRecord id s) := by
  have hquit : Quit id (freeSettled id s) := by
    refine ⟨fun e he hid => ?_, fun cell v hr => ?_, h.settled id⟩
    · rw [freeSettled_spb] at he
      have hspared := (List.mem_filter.mp he).2
      rw [freeSettled_arb]
      unfold sparesEntry at hspared
      split at hspared
      · rename_i i cell v hbusy
        rw [hid] at hspared
        obtain rfl : e.cell = cell := by simpa using hspared
        exact ⟨i, v, by rw [withoutRequests, hbusy]; rfl⟩
      · simp [hid] at hspared
    · rw [freeSettled_arb] at hr
      simpa [requestFor] using (Option.filter_eq_some_iff.mp hr).2
  obtain ⟨hpumped, hgrants⟩ := hquit.pump
  rw [freeRecord_eq]
  exact ⟨hpumped, (freeSettled_grants id s).trans hgrants⟩

end

/-! ## The release of a reference (R37) -/

section
variable {s t u : State} {id n : Nat} {p : ProfileRecord}

/-- A reference to a profile is gone, and nothing follows (R37). -/
def uncounted (id : Nat) (s : State) : State := setProfile id (fun r => { r with refs := r.refs - 1 }) s

/-- The release of a reference frees no record that is not RETIRING or has another reference. -/
theorem releaseProfile_kept (h : NotFreed id s) : releaseProfile id s = uncounted id s := by
  unfold releaseProfile
  refine if_neg fun hfree => ?_
  simp only [Bool.and_eq_true, beq_iff_eq] at hfree
  obtain ⟨hst, hrefs⟩ := hfree
  cases hr : s.ps.records[id - 1]? with
  | none =>
    have hprofile : profileOf (setProfile id (fun r => { r with refs := r.refs - 1 }) s) id = emptyRecord := by
      simp [profileOf, nth, setProfile, modifyNth_getElem?_eq, hr]
    rw [hprofile] at hst
    exact absurd hst (by decide)
  | some r =>
    rw [profileOf_eq (setProfile_same hr _)] at hst hrefs
    unfold NotFreed at h
    rw [profileOf_eq hr] at h
    dsimp only at hst hrefs
    rcases h with h | h
    · exact h hst
    · omega

/-- The release of the last reference to a RETIRING record frees it (R37). -/
theorem releaseProfile_last (hr : s.ps.records[id - 1]? = some p) (hst : p.state = .retiring) (hrefs : p.refs ≤ 1) :
    releaseProfile id s = freeRecord id (uncounted id s) := by
  have hprofile : profileOf (uncounted id s) id = { p with refs := p.refs - 1 } := profileOf_eq (setProfile_same hr _)
  have hzero : p.refs - 1 = 0 := by omega
  unfold releaseProfile
  refine if_pos ?_
  change ((profileOf (uncounted id s) id).state == .retiring && (profileOf (uncounted id s) id).refs == 0) = true
  rw [hprofile]
  simp [hst, hzero]

theorem releaseProfile_cases (id : Nat) (s : State) :
    releaseProfile id s = uncounted id s ∨ releaseProfile id s = freeRecord id (uncounted id s) := by
  unfold releaseProfile
  dsimp only
  split
  · exact .inr rfl
  · exact .inl rfl

theorem uncounted_ne (hn : n ≠ id - 1) : (uncounted id s).ps.records[n]? = s.ps.records[n]? := setProfile_ne hn _

theorem releaseProfile_ne (hn : n ≠ id - 1) : (releaseProfile id s).ps.records[n]? = s.ps.records[n]? := by
  rcases releaseProfile_cases id s with h | h
  · rw [h, uncounted_ne hn]
  · rw [h, freeRecord_ne hn, uncounted_ne hn]

theorem NoLoadFor.releaseProfile (h : NoLoadFor id s) (n : Nat) : NoLoadFor id (releaseProfile n s) := by
  have huncounted : NoLoadFor id (uncounted n s) := h.congr rfl rfl
  rcases releaseProfile_cases n s with he | he
  · rw [he]
    exact huncounted
  · rw [he]
    exact huncounted.freeRecord n

theorem Quit.releaseProfile (h : Quit id s) (n : Nat) : Quit id (releaseProfile n s) ∧ SameGrants id s (releaseProfile n s) := by
  have huncounted : Quit id (uncounted n s) := h.congr rfl rfl rfl
  rcases releaseProfile_cases n s with he | he
  · rw [he]
    exact ⟨huncounted, .of_busy rfl⟩
  · rw [he]
    obtain ⟨hquit, hgrants⟩ := huncounted.freeRecord n
    exact ⟨hquit, (SameGrants.of_busy rfl).trans hgrants⟩

/-- The last reference of a RETIRING profile has been released, and nothing but a granted write is at work for it. -/
def Released (id : Nat) (p : ProfileRecord) (t : State) : Prop := FreedAtRelease id p t ∧ Quit id t

/-- What leaves the record, the work for it and the event leaves a profile released. -/
theorem Released.later (h : Released id p s) (hquit : Quit id t) (hgrants : SameGrants id s t)
    (hrecord : t.ps.records[id - 1]? = s.ps.records[id - 1]?) (hevent : hasEvent s .profileFreed = true → hasEvent t .profileFreed = true) :
    Released id p t := by
  obtain ⟨⟨hfreed, hwaits, -⟩, -⟩ := h
  obtain ⟨hdrain, hload⟩ := hgrants
  refine ⟨⟨fun h1 h2 => ?_, fun hg => ?_, hquit.1⟩, hquit⟩
  · obtain ⟨hr, he⟩ := hfreed (hdrain ▸ h1) (hload ▸ h2)
    exact ⟨hrecord.trans hr, hevent he⟩
  · exact hrecord.trans (hwaits (by rwa [hdrain, hload] at hg))

theorem releaseProfile_released {h : ProfileHeader} (hr : s.ps.records[id - 1]? = some p) (hst : p.state = .retiring)
    (hrefs : p.refs ≤ 1) (hh : p.header = some h) (hload : NoLoadFor id s) :
    Released id p (releaseProfile id s) ∧ ExtentAtRelease id h s (releaseProfile id s) := by
  have hsame : (uncounted id s).ps.records[id - 1]? = some { p with refs := p.refs - 1 } := setProfile_same hr _
  have hzero : p.refs - 1 = 0 := by omega
  have hheader : (profileOf (uncounted id s) id).header = some h := by rw [profileOf_eq hsame, ← hh]
  obtain ⟨hquit, hgrants⟩ := freeRecord_quits (hload.congr rfl rfl : NoLoadFor id (uncounted id s))
  rw [releaseProfile_last hr hst hrefs]
  obtain ⟨hdrain, hloading⟩ := hgrants
  refine ⟨⟨⟨fun h1 h2 => ?_, fun hg => ?_, hquit.1⟩, hquit⟩, fun h1 h2 => ?_, fun hg => ?_⟩
  · have hg := writeGranted_eq_false.mpr ⟨hdrain.symm.trans h1, hloading.symm.trans h2⟩
    obtain ⟨-, hrecords, hevent⟩ := freeRecord_frees hg hheader
    exact ⟨by rw [hrecords, modifyNth_getElem?_eq, hsame]; rfl, hevent⟩
  · rw [hdrain, hloading] at hg
    rw [(freeRecord_waits (writeGranted_eq_true.mpr hg)).2, modifyNth_getElem?_eq, hsame, hzero]
    rfl
  · have hg := writeGranted_eq_false.mpr ⟨hdrain.symm.trans h1, hloading.symm.trans h2⟩
    exact (freeRecord_frees hg hheader).1
  · rw [hdrain, hloading] at hg
    exact (freeRecord_waits (writeGranted_eq_true.mpr hg)).1

end

end Sys2Proof.Machine

end

section

/-! PROOFS. Cards that fail in the queue (R35, R62, R125): their writes, the references they release, and what they leave. -/

namespace Sys2Proof.Machine

/-! ## A release writes nothing -/

theorem writtenByte_writesOf (l : List PortOut) (a : Nat) : writtenByte (writesOf l) a = writtenByte l a := by
  induction l with
  | nil => rfl
  | cons o l ih =>
    have hskip : ∀ o, (∀ cells, o ≠ .hostWrite cells) → writesOf (o :: l) = writesOf l ∧ writtenByte (o :: l) a = writtenByte l a := by
      intro o ho
      cases o with
      | hostWrite cells => exact absurd rfl (ho cells)
      | _ => exact ⟨rfl, rfl⟩
    by_cases ho : ∃ cells, o = .hostWrite cells
    · obtain ⟨cells, rfl⟩ := ho
      have hcons : writesOf (.hostWrite cells :: l) = .hostWrite cells :: writesOf l := rfl
      rw [hcons, writtenByte, writtenByte, ih]
    · obtain ⟨hw, hb⟩ := hskip o fun cells h => ho ⟨cells, h⟩
      rw [hw, hb, ih]

section
variable {s t u : State} {id n : Nat} {k : CardRef}

/-- The writes into host memory, and so its bytes, stand. -/
def SameWrites (s t : State) : Prop := writesOf t.ports = writesOf s.ports

theorem SameWrites.trans (h : SameWrites s t) (h' : SameWrites t u) : SameWrites s u := Eq.trans h' h

theorem SameWrites.of_ports (h : t.ports = s.ports) : SameWrites s t := congrArg writesOf h

theorem SameWrites.bytes (h : SameWrites s t) (a : Nat) : hostByte t a = hostByte s a := by
  unfold hostByte
  rw [← writtenByte_writesOf t.ports, h, writtenByte_writesOf]

theorem raiseEvent_writes (e : Event) (s : State) : SameWrites s (raiseEvent e s) := by
  rcases raiseEvent_ports e s with h | ⟨h, -⟩
  · exact .of_ports h
  · exact (congrArg writesOf h).trans rfl

theorem completeFree_writes (id : Nat) (s : State) : SameWrites s (completeFree id s) := by
  unfold completeFree
  split
  · exact .of_ports rfl
  · exact SameWrites.trans (.of_ports rfl) (raiseEvent_writes _ _)

theorem failPatchOf_none (h : s.spb.patch = none) : failPatchOf id s = s := by
  unfold failPatchOf
  rw [h]

/-- A freeing with no PATCH card in hand writes nothing, and makes due a stalled PATCH card alone. -/
theorem freeRecord_free (h : s.spb.patch = none) : SameWrites s (freeRecord id s) ∧ (freeRecord id s).spb.patch = none ∧
    ((freeRecord id s).ce = s.ce ∨ (freeRecord id s).ce = offeredAgain .patch s.ce) := by
  have hpatch : (discardEntries id s).spb.patch = none := by rw [discardEntries_spb, h]
  have hce : (discardEntries id s).ce = s.ce ∨ (discardEntries id s).ce = offeredAgain .patch s.ce := by
    rw [discardEntries_eq]
    split
    · exact .inl rfl
    · exact .inr (offerTo_ce .patch _)
  have hsettled : SameWrites s (freeSettled id s) ∧ (freeSettled id s).ce = (discardEntries id s).ce := by
    unfold freeSettled
    rw [failPatchOf_none hpatch]
    split
    · exact ⟨.of_ports (by simp), by simp⟩
    · exact ⟨(SameWrites.of_ports (by simp)).trans (completeFree_writes _ _), by simp⟩
  obtain ⟨hwrites, hsame⟩ := hsettled
  refine ⟨?_, ?_, ?_⟩
  · rw [freeRecord_eq]
    exact hwrites.trans (.of_ports (by simp))
  · rw [freeRecord_spb]
    simp [patchKept, h]
  · have hpump : (freeRecord id s).ce = (freeSettled id s).ce := by
      rw [freeRecord_eq]
      simp
    rwa [hpump, hsame]

theorem releaseProfile_free (h : s.spb.patch = none) : SameWrites s (releaseProfile id s) ∧ (releaseProfile id s).spb.patch = none ∧
    ((releaseProfile id s).ce = s.ce ∨ (releaseProfile id s).ce = offeredAgain .patch s.ce) := by
  rcases releaseProfile_cases id s with he | he
  · rw [he]
    exact ⟨.of_ports rfl, h, .inl rfl⟩
  · rw [he]
    exact freeRecord_free (s := uncounted id s) h

/-- No event offers a card again to an engine that is not STALLED. -/
theorem offeredAgain_awake {k : CardKind} {e : CardEngine} (h : e.state ≠ .stalled) : offeredAgain k e = e := by
  have hb : (e.state == .stalled) = false := by simpa using h
  simp [offeredAgain, hb]

theorem engineFinal_awake {c : CardRef} {e : CardEngine} (h : e.state ≠ .stalled) :
    engineFinal c e = { e with outstanding := without c e.outstanding } := by
  unfold engineFinal
  rw [offeredAgain_awake h]
  simp [h]

theorem offeredAgain_outstanding (k : CardKind) (e : CardEngine) : (offeredAgain k e).outstanding = e.outstanding := rfl

theorem releaseProfile_spares (h : s.spb.patch = none) : Spared k s (releaseProfile id s) := by
  obtain ⟨hwrites, -, hce⟩ := releaseProfile_free (id := id) h
  refine ⟨fun a _ => hwrites.bytes a,
    (releaseProfile_raises (l := [.cardFinal, .profileFreed]) (by decide) (by decide) id s).stays, fun r hr => ?_⟩
  rcases hce with he | he <;> rwa [he] at hr

theorem freeRecord_spares (h : s.spb.patch = none) : Spared k s (freeRecord id s) := by
  obtain ⟨hwrites, -, hce⟩ := freeRecord_free (id := id) h
  refine ⟨fun a _ => hwrites.bytes a,
    (freeRecord_raises (l := [.cardFinal, .profileFreed]) (by decide) (by decide) id s).stays, fun r hr => ?_⟩
  rcases hce with he | he <;> rwa [he] at hr

end

/-! ## A card that fails in the queue (R62) -/

/-- A card out of the queue, before its references are released. -/
def dequeued (q : QueuedPrint) (s : State) : State :=
  { s with pe := { s.pe with queue := s.pe.queue.filter (fun r => r.card.take != q.card.take), hold := none } }

section
variable {s t : State} {rc : ResultCode} {fields : List (Nat × List Byte)} {q : QueuedPrint} {id n : Nat} {p : ProfileRecord}
  {k : CardRef}

theorem failQueued_eq (rc : ResultCode) (fields : List (Nat × List Byte)) (q : QueuedPrint) (s : State) :
    failQueued rc fields q s = offerTo .print (finalWrite q.card fields .failed rc
      (releaseFabric q.fabricId (releaseProfile q.profileId (dequeued q s)))) := rfl

theorem failQueued_pe : (failQueued rc fields q s).pe = (dequeued q s).pe := by
  rw [failQueued_eq]
  simp

theorem failQueued_store : (failQueued rc fields q s).ps = (releaseProfile q.profileId (dequeued q s)).ps ∧
    (failQueued rc fields q s).spb = (releaseProfile q.profileId (dequeued q s)).spb := by
  rw [failQueued_eq]
  simp

theorem failQueued_fabrics : (failQueued rc fields q s).tc.fabrics = (releaseFabric q.fabricId s).tc.fabrics := by
  have htc : (releaseProfile q.profileId (dequeued q s)).tc = s.tc := by
    rw [(releaseProfile_frame _ _).2.2.2.2.2.2.2.2.2.2.2.2.2.1]
    rfl
  have hfab : ∀ u : State, u.tc = s.tc → (releaseFabric q.fabricId u).tc = (releaseFabric q.fabricId s).tc := fun u hu => by
    unfold releaseFabric setFabric
    split
    · exact hu
    · rw [hu]
  rw [failQueued_eq]
  simp only [offerTo_frame, finalWrite_frame]
  rw [hfab _ htc]

theorem failQueued_raises {l : List Event} (he : .cardFinal ∈ l) (he' : .profileFreed ∈ l) :
    Raises l s (failQueued rc fields q s) := by
  have hprofile : Raises l s (releaseProfile q.profileId (dequeued q s)) :=
    Raises.trans (.of_su rfl) (releaseProfile_raises he he' q.profileId (dequeued q s))
  have hfabric : Raises l s (releaseFabric q.fabricId (releaseProfile q.profileId (dequeued q s))) := hprofile.trans (.of_su (by simp))
  rw [failQueued_eq]
  exact (hfabric.trans (finalWrite_raises he q.card fields .failed rc _)).trans (.of_su (by simp))

theorem offerTo_spares (j : CardKind) (s : State) : Spared k s (offerTo j s) :=
  ⟨fun a _ => by simp [hostByte], fun he => by simpa [hasEvent] using he, fun r hr => by rwa [offerTo_ce] at hr⟩

theorem releaseFabric_spares (id : Nat) (s : State) : Spared k s (releaseFabric id s) :=
  .of_same (by simp) (by simp) (by simp)

/-- A card that fails in the queue spares another whose area is apart. -/
theorem failQueued_spares (hp : s.spb.patch = none) (h : Apart [k, q.card]) : Spared k s (failQueued rc fields q s) := by
  rw [failQueued_eq]
  refine Spared.trans ?_ (offerTo_spares _ _)
  refine Spared.trans ?_ (finalWrite_spares h _ _ _ _)
  refine Spared.trans ?_ (releaseFabric_spares _ _)
  exact Spared.trans (.of_same rfl rfl rfl) (releaseProfile_spares (s := dequeued q s) hp)

theorem failQueued_patch (hp : s.spb.patch = none) : (failQueued rc fields q s).spb.patch = none := by
  rw [failQueued_store.2]
  exact (releaseProfile_free (s := dequeued q s) hp).2.1

/-- The card itself is final once it has failed (R62). -/
theorem failQueued_written (hp : s.spb.patch = none) : WrittenFinal q.card .failed rc fields s (failQueued rc fields q s) := by
  obtain ⟨hfinal, hholds, honly⟩ := finalWrite_written q.card fields .failed rc
    (releaseFabric q.fabricId (releaseProfile q.profileId (dequeued q s)))
  have hlast := offerTo_spares (k := q.card) .print (finalWrite q.card fields .failed rc
    (releaseFabric q.fabricId (releaseProfile q.profileId (dequeued q s))))
  have hbytes : ∀ a, hostByte (releaseFabric q.fabricId (releaseProfile q.profileId (dequeued q s))) a = hostByte s a := fun a => by
    have hfab : ∀ u, hostByte (releaseFabric q.fabricId u) a = hostByte u a := fun u => by simp [hostByte]
    rw [hfab, (releaseProfile_free (s := dequeued q s) hp).1.bytes]
    rfl
  rw [failQueued_eq]
  refine ⟨hfinal.spared hlast, hholds.spared (by decide) (by rw [area_length]) hlast, fun a ha => ?_⟩
  have hoffer : ∀ u, hostByte (offerTo .print u) a = hostByte u a := fun u => by simp [hostByte]
  rw [hoffer, honly a ha, hbytes]

/-- Where no card is stalled, the take leaves the outstanding set and its two writes are the only ones. -/
theorem failQueued_calm (hp : s.spb.patch = none) (hst : s.ce.state ≠ .stalled) :
    (failQueued rc fields q s).ce = { s.ce with outstanding := without q.card s.ce.outstanding } ∧
      writesOf (failQueued rc fields q s).ports = finalWrites q.card .failed rc fields ++ writesOf s.ports := by
  obtain ⟨hwrites, -, hce⟩ := releaseProfile_free (s := dequeued q s) (id := q.profileId) hp
  have hsame : (releaseProfile q.profileId (dequeued q s)).ce = s.ce := by
    rcases hce with he | he
    · exact he
    · exact he.trans (offeredAgain_awake hst)
  have hfab : ∀ u, (releaseFabric q.fabricId u).ce = u.ce ∧ (releaseFabric q.fabricId u).ports = u.ports := fun u => by simp
  rw [failQueued_eq]
  constructor
  · rw [offerTo_ce, finalWrite_engine, (hfab _).1, hsame, engineFinal_awake hst]
    exact offeredAgain_awake (by exact hst)
  · simp only [offerTo_frame]
    rw [finalWrite_writes, (hfab _).2, hwrites]
    rfl

theorem failQueued_kept (h : NotFreed q.profileId s) : (failQueued rc fields q s).ps = (uncounted q.profileId s).ps ∧
    (failQueued rc fields q s).spb = s.spb := by
  obtain ⟨hps, hspb⟩ := failQueued_store (rc := rc) (fields := fields) (q := q) (s := s)
  rw [releaseProfile_kept (s := dequeued q s) h] at hps hspb
  exact ⟨hps, hspb⟩

theorem failQueued_ne (hn : n ≠ q.profileId - 1) : (failQueued rc fields q s).ps.records[n]? = s.ps.records[n]? := by
  rw [failQueued_store.1, releaseProfile_ne hn]
  rfl

theorem NoLoadFor.failQueued (h : NoLoadFor id s) : NoLoadFor id (failQueued rc fields q s) := by
  obtain ⟨hps, -⟩ := failQueued_store (rc := rc) (fields := fields) (q := q) (s := s)
  exact (NoLoadFor.releaseProfile (s := dequeued q s) h q.profileId).congr (by rw [hps]) (by rw [hps])

/-- A card of another profile fails, and a released profile stays released. -/
theorem Released.failQueued (h : Released id p s) (hne : id - 1 ≠ q.profileId - 1) : Released id p (failQueued rc fields q s) := by
  obtain ⟨hps, hspb⟩ := failQueued_store (rc := rc) (fields := fields) (q := q) (s := s)
  obtain ⟨hquit, hgrants⟩ := Quit.releaseProfile (s := dequeued q s) (h.2.congr rfl rfl rfl) q.profileId
  refine h.later (hquit.congr (by rw [hps]) (by rw [hps]) (by rw [hspb])) ?_ (failQueued_ne hne)
    (failQueued_raises (l := [.cardFinal, .profileFreed]) (by decide) (by decide)).stays
  exact (SameGrants.of_busy rfl).trans (hgrants.trans (.of_busy (by rw [hps])))

end

/-! ## The cards of a list fail in turn (R35, R125) -/

/-- The cards of a list fail in the queue, in its order. -/
def failAll (rc : ResultCode) (l : List QueuedPrint) (s : State) : State := l.foldl (fun s q => failQueued rc [] q s) s

theorem flushQueue_eq (s : State) : flushQueue s = failAll .aborted s.pe.queue s := rfl

theorem failQueuedOf_eq (id : Nat) (s : State) :
    failQueuedOf id s = failAll .unknownProfile (s.pe.queue.filter fun q => q.profileId == id) s := rfl

section
variable {s t : State} {rc : ResultCode} {l : List QueuedPrint} {q : QueuedPrint} {id n : Nat} {p : ProfileRecord} {k : CardRef}

theorem failAll_cons (rc : ResultCode) (q : QueuedPrint) (l : List QueuedPrint) (s : State) :
    failAll rc (q :: l) s = failAll rc l (failQueued rc [] q s) := rfl

theorem failAll_pe (rc : ResultCode) (l : List QueuedPrint) (s : State) : (failAll rc l s).pe = { s.pe with
    queue := s.pe.queue.filter fun r => l.all fun q => r.card.take != q.card.take, hold := (failAll rc l s).pe.hold } := by
  induction l generalizing s with
  | nil =>
    have hall : s.pe.queue.filter (fun _ => true) = s.pe.queue := List.filter_eq_self.mpr fun _ _ => rfl
    exact (congrArg (fun x => { s.pe with queue := x }) hall.symm)
  | cons q l ih =>
    rw [failAll_cons, ih, failQueued_pe]
    dsimp only [dequeued]
    rw [List.filter_filter]
    simp only [List.all_cons, Bool.and_comm]

theorem failAll_fabrics {f : FabricRecord} (hf : s.tc.fabrics[n]? = some f) : (failAll rc l s).tc.fabrics[n]? =
    some { f with refs := f.refs - (l.filter fun q => q.fabricId == n + 1).length } := by
  induction l generalizing s f with
  | nil => exact hf
  | cons q l ih =>
    rw [failAll_cons]
    by_cases hq : q.fabricId = n + 1
    · have hone : (failQueued rc [] q s).tc.fabrics[n]? = some { f with refs := f.refs - 1 } := by
        rw [failQueued_fabrics, hq]
        exact releaseFabric_fabrics (id := n + 1) (Nat.le_add_left 1 n) hf
      rw [ih hone, List.filter_cons_of_pos (by simp [hq]), List.length_cons]
      simp only [Option.some.injEq, FabricRecord.mk.injEq, true_and]
      omega
    · have hsame : (failQueued rc [] q s).tc.fabrics[n]? = some f := by
        rw [failQueued_fabrics]
        unfold releaseFabric
        split
        · exact hf
        · exact (modifyNth_getElem?_ne (by omega)).trans hf
      rw [ih hsame, List.filter_cons_of_neg (by simp [hq])]

theorem failAll_raises {e : List Event} (he : .cardFinal ∈ e) (he' : .profileFreed ∈ e) : Raises e s (failAll rc l s) :=
  Raises.foldl _ (fun _ _ => failQueued_raises he he') l s

theorem failAll_patch (hp : s.spb.patch = none) : (failAll rc l s).spb.patch = none := by
  induction l generalizing s with
  | nil => exact hp
  | cons q l ih => exact ih (failQueued_patch hp)

theorem failAll_spares (hp : s.spb.patch = none) (h : ∀ q ∈ l, Apart [k, q.card]) : Spared k s (failAll rc l s) := by
  induction l generalizing s with
  | nil => exact .of_same rfl rfl rfl
  | cons q l ih =>
    obtain ⟨hq, hl⟩ := List.forall_mem_cons.mp h
    exact (failQueued_spares hp hq).trans (ih (failQueued_patch hp) hl)

theorem apart_cons {c : CardRef} {l : List CardRef} : Apart (c :: l) ↔ (∀ r ∈ l, Apart [c, r]) ∧ Apart l := by
  simp only [Apart, List.pairwise_cons, List.mem_singleton, forall_eq, List.not_mem_nil, false_imp_iff, implies_true, List.Pairwise.nil,
    and_true]

/-- Every card of the list is final where no two of the list overlap. -/
theorem failAll_final (hp : s.spb.patch = none) (h : Apart (l.map (·.card))) : ∀ q ∈ l,
    CardFinal q.card .failed rc (failAll rc l s) ∧ HostHolds (failAll rc l s) (q.card.addr + 128) (area 128 []) := by
  induction l generalizing s with
  | nil => simp
  | cons q l ih =>
    obtain ⟨hq, hl⟩ := apart_cons.mp h
    have hp' := failQueued_patch (rc := rc) (fields := []) (q := q) hp
    intro r hr
    rcases List.mem_cons.mp hr with rfl | hr
    · obtain ⟨hfinal, hholds, -⟩ := failQueued_written (rc := rc) (fields := []) (q := r) hp
      have hspared : Spared r.card _ (failAll rc l (failQueued rc [] r s)) :=
        failAll_spares hp' fun x hx => hq _ (List.mem_map_of_mem hx)
      exact ⟨hfinal.spared hspared, hholds.spared (by decide) (by rw [area_length]) hspared⟩
    · exact ih hp' hl r hr

/-- Nothing but the final bytes of the list's cards is written. -/
theorem failAll_writes (hp : s.spb.patch = none) : OnlyWrites s (failAll rc l s) fun a => ∃ q ∈ l, FinalBytes q.card a := by
  induction l generalizing s with
  | nil => exact fun _ _ => rfl
  | cons q l ih =>
    intro a ha
    obtain ⟨-, -, honly⟩ := failQueued_written (rc := rc) (fields := []) (q := q) hp
    rw [failAll_cons, ih (failQueued_patch hp) a fun ⟨r, hr, h⟩ => ha ⟨r, List.mem_cons_of_mem _ hr, h⟩]
    exact honly a fun h => ha ⟨q, List.mem_cons_self, h⟩

/-- Where no card is stalled, the takes leave the outstanding set, and each card's two writes are the only ones, in the list's order. -/
theorem failAll_calm (hp : s.spb.patch = none) (hst : s.ce.state ≠ .stalled) :
    (failAll rc l s).ce = { s.ce with outstanding := s.ce.outstanding.filter fun x => l.all fun q => x.take != q.card.take } ∧
      writesOf (failAll rc l s).ports = (l.reverse.flatMap fun q => finalWrites q.card .failed rc []) ++ writesOf s.ports := by
  induction l generalizing s with
  | nil =>
    have hall : s.ce.outstanding.filter (fun _ => true) = s.ce.outstanding := List.filter_eq_self.mpr fun _ _ => rfl
    exact ⟨congrArg (fun x => { s.ce with outstanding := x }) hall.symm, rfl⟩
  | cons q l ih =>
    obtain ⟨hce, hwrites⟩ := failQueued_calm (rc := rc) (fields := []) (q := q) hp hst
    obtain ⟨hce', hwrites'⟩ := ih (failQueued_patch (rc := rc) (fields := []) (q := q) hp) (by rw [hce]; exact hst)
    rw [failAll_cons, hce', hwrites', hce, hwrites]
    constructor
    · simp only [without, List.filter_filter, List.all_cons, Bool.and_comm]
    · simp

/-- No record is freed where none that the list names is RETIRING. -/
theorem failAll_kept (h : ∀ q ∈ l, (profileOf s q.profileId).state ≠ .retiring) :
    (failAll rc l s).ps = { s.ps with records := (failAll rc l s).ps.records } ∧ (failAll rc l s).spb = s.spb := by
  induction l generalizing s with
  | nil => exact ⟨rfl, rfl⟩
  | cons q l ih =>
    obtain ⟨hps, hspb⟩ := failQueued_kept (rc := rc) (fields := []) (.inl (h q List.mem_cons_self))
    have hstate : ∀ r ∈ l, (profileOf (failQueued rc [] q s) r.profileId).state ≠ .retiring := fun r hr => by
      have hold := h r (List.mem_cons_of_mem _ hr)
      have hsame : profileOf (failQueued rc [] q s) r.profileId = profileOf (uncounted q.profileId s) r.profileId := by
        simp only [profileOf, hps]
      have hstate : (profileOf (uncounted q.profileId s) r.profileId).state = (profileOf s r.profileId).state := by
        unfold uncounted setProfile profileOf nth
        by_cases hid : r.profileId - 1 = q.profileId - 1
        · rw [hid, modifyNth_getElem?_eq]
          cases s.ps.records[q.profileId - 1]? <;> rfl
        · rw [modifyNth_getElem?_ne hid]
      rwa [hsame, hstate]
    obtain ⟨hps', hspb'⟩ := ih hstate
    rw [failAll_cons]
    refine ⟨?_, by rw [hspb', hspb]⟩
    rw [hps', hps]
    rfl

theorem NoLoadFor.failAll (h : NoLoadFor id s) : NoLoadFor id (failAll rc l s) := by
  induction l generalizing s with
  | nil => exact h
  | cons q l ih => exact ih h.failQueued

theorem Released.failAll (h : Released id p s) (hne : ∀ q ∈ l, id - 1 ≠ q.profileId - 1) : Released id p (failAll rc l s) := by
  induction l generalizing s with
  | nil => exact h
  | cons q l ih =>
    obtain ⟨hq, hl⟩ := List.forall_mem_cons.mp hne
    exact ih (h.failQueued hq) hl

/-- How many cards of a list name a profile. -/
def uses (id : Nat) (l : List QueuedPrint) : Nat := (l.filter fun q => q.profileId == id).length

theorem uses_cons_same (h : q.profileId = id) : uses id (q :: l) = uses id l + 1 := by simp [uses, h]

theorem uses_cons_other (h : q.profileId ≠ id) : uses id (q :: l) = uses id l := by simp [uses, h]

theorem uses_eq_zero (h : uses id l = 0) : ∀ q ∈ l, q.profileId ≠ id := by
  intro q hq hid
  have hmem : q ∈ l.filter fun q => q.profileId == id := List.mem_filter.mpr ⟨hq, by simp [hid]⟩
  rw [uses] at h
  rw [List.length_eq_zero_iff.mp h] at hmem
  simp at hmem

/-- A record keeps its place where the cards of a list are not its last references. -/
theorem failAll_counts (hids : ∀ q ∈ l, 1 ≤ q.profileId) (hr : s.ps.records[n]? = some p)
    (h : p.state ≠ .retiring ∨ uses (n + 1) l = 0 ∨ uses (n + 1) l < p.refs) :
    (failAll rc l s).ps.records[n]? = some { p with refs := p.refs - uses (n + 1) l } := by
  induction l generalizing s p with
  | nil => exact hr
  | cons q l ih =>
    obtain ⟨hq, hl⟩ := List.forall_mem_cons.mp hids
    rw [failAll_cons]
    by_cases hid : q.profileId = n + 1
    · rw [uses_cons_same hid] at h ⊢
      have hplace : q.profileId - 1 = n := by omega
      have hprofile : profileOf s q.profileId = p := profileOf_eq (by rw [hplace, hr])
      have hkept : NotFreed q.profileId s := by
        unfold NotFreed
        rw [hprofile]
        exact h.imp id fun h => by omega
      have hone : (failQueued rc [] q s).ps.records[n]? = some { p with refs := p.refs - 1 } := by
        rw [(failQueued_kept hkept).1, ← hplace]
        exact setProfile_same (by rw [hplace, hr]) _
      rw [ih hl hone (h.imp id fun h => .inr (by dsimp only; omega))]
      simp only [Option.some.injEq, ProfileRecord.mk.injEq, true_and, and_true]
      omega
    · rw [uses_cons_other hid] at h ⊢
      exact ih hl ((failQueued_ne (by omega)).trans hr) h

/-- The last references of a RETIRING profile are released by the cards of a list (R37, R62). -/
theorem failAll_released {h : ProfileHeader} (hids : ∀ q ∈ l, 1 ≤ q.profileId) (hr : s.ps.records[n]? = some p)
    (hst : p.state = .retiring) (huses : p.refs = uses (n + 1) l) (hpos : 0 < uses (n + 1) l) (hh : p.header = some h)
    (hload : NoLoadFor (n + 1) s) : Released (n + 1) p (failAll rc l s) := by
  induction l generalizing s p with
  | nil => exact absurd hpos (Nat.lt_irrefl 0)
  | cons q l ih =>
    obtain ⟨hq, hl⟩ := List.forall_mem_cons.mp hids
    rw [failAll_cons]
    by_cases hid : q.profileId = n + 1
    · rw [uses_cons_same hid] at huses
      by_cases hlast : uses (n + 1) l = 0
      · obtain ⟨hps, hspb⟩ := failQueued_store (rc := rc) (fields := []) (q := q) (s := s)
        obtain ⟨⟨hfreed, hquit⟩, -⟩ := releaseProfile_released (s := dequeued q s) (id := n + 1) (p := p) hr hst (by omega) hh hload
        have hreleased : Released (n + 1) p (failQueued rc [] q s) := by
          have hevents : Raises [.cardFinal] (releaseProfile (n + 1) (dequeued q s)) (failQueued rc [] q s) := by
            have hfab : Raises [.cardFinal] (releaseProfile (n + 1) (dequeued q s))
                (releaseFabric q.fabricId (releaseProfile (n + 1) (dequeued q s))) := .of_su (by simp)
            rw [failQueued_eq, hid]
            exact (hfab.trans (finalWrite_raises (by decide) q.card [] .failed rc _)).trans (.of_su (by simp))
          rw [hid] at hps hspb
          refine Released.later ⟨hfreed, hquit⟩ (hquit.congr (by rw [hps]) (by rw [hps]) (by rw [hspb])) (.of_busy (by rw [hps])) (by rw [hps])
            hevents.stays
        refine hreleased.failAll fun r hr' hne => ?_
        have := hl r hr'
        exact uses_eq_zero hlast r hr' (by omega)
      · have hplace : q.profileId - 1 = n := by omega
        have hprofile : profileOf s q.profileId = p := profileOf_eq (by rw [hplace, hr])
        have hkept : NotFreed q.profileId s := .inr (by rw [hprofile]; omega)
        have hone : (failQueued rc [] q s).ps.records[n]? = some { p with refs := p.refs - 1 } := by
          rw [(failQueued_kept hkept).1, ← hplace]
          exact setProfile_same (by rw [hplace, hr]) _
        have hreleased := ih hl hone hst (by dsimp only; omega) (by omega) hh hload.failQueued
        exact hreleased
    · rw [uses_cons_other hid] at huses hpos
      exact ih hl ((failQueued_ne (by omega)).trans hr) hst huses hpos hh hload.failQueued

end

end Sys2Proof.Machine

end

section

/-! PROOFS. CLEAR and its flush (R125). -/

namespace Sys2Proof.Machine

section
variable {s t u x : State} {c : CurrentCard}

/-! ## What CLEAR leaves before the writes -/

/-- The part once a halt has ended, before a pending splice request is tried (R125, R130). -/
def haltCleared (s : State) : State := { s with
  wd := { s.wd with state := .idle, requested := 0, target := 0, running := 0 }
  su := { s.su with haltCause := none }
  tc := { s.tc with axes := s.tc.axes.map fun a => { a with state := .active, integ := 0 } } }

theorem clearHalt_eq (s : State) : clearHalt s = tryPending .fu (tryPending .pu (haltCleared s)) := rfl

theorem tryPending_raises (a : Unwind) (s : State) : Raises [.spliceActive] s (tryPending a s) := by
  unfold tryPending
  (repeat' split)
  · exact ⟨[.spliceActive], by simp, beginSplice_su _ _ _ _⟩
  · exact .of_su rfl
  · exact .of_su rfl

theorem tryPending_writes (a : Unwind) (s : State) : SameWrites s (tryPending a s) := by
  unfold tryPending
  (repeat' split)
  · rw [beginSplice_eq]
    exact SameWrites.trans (.of_ports (by simp)) (raiseEvent_writes _ _)
  · exact .of_ports rfl
  · exact .of_ports rfl

theorem clearHalt_raises (s : State) : Raises [.spliceActive] (haltCleared s) (clearHalt s) := by
  rw [clearHalt_eq]
  exact (tryPending_raises .pu _).trans (tryPending_raises .fu _)

theorem clearHalt_writes (s : State) : SameWrites s (clearHalt s) := by
  rw [clearHalt_eq]
  exact SameWrites.trans (t := haltCleared s) (.of_ports rfl) ((tryPending_writes .pu _).trans (tryPending_writes .fu _))

theorem clearHalt_line (s : State) : (clearHalt s).wd = (haltCleared s).wd ∧ (clearHalt s).tc = (haltCleared s).tc := by
  rw [clearHalt_eq]
  simp

/-- Every axis is ACTIVE once a halt has been cleared. -/
theorem haltCleared_active (h : s.tc.axes.length = 4) (a : Axis) : (axisOf (haltCleared s) a).state = .active := by
  have hlt : a.place < s.tc.axes.length := by
    rw [h]
    cases a <;> decide
  simp [axisOf, nth, haltCleared, List.getElem?_eq_getElem hlt]

/-- A pending request begins its splice where the axis has joint room (R147). -/
theorem clearHalt_begins {a : Unwind} {k : SpliceCause} (hk : (spliceOf s a).pending = some k) (hidle : (spliceOf s a).state = .idle)
    (hroom : jointRoom s a = true) (hlen : s.tc.axes.length = 4) :
    spliceOf (clearHalt s) a = spliceBegun k none s (spliceOf s a) ∧ hasEvent (clearHalt s) .spliceActive = true := by
  have hactive := haltCleared_active hlen (unwindAxis a)
  rw [clearHalt_eq]
  cases a with
  | pu =>
    have hbegin := tryPending_begins (s := haltCleared s) (a := .pu) hk hactive hidle hroom
    obtain ⟨hother, -, -⟩ := tryPending_other .fu (tryPending .pu (haltCleared s))
    refine ⟨?_, (tryPending_raises .fu _).stays ?_⟩
    · rw [hother .pu (by decide), hbegin, spliceOf_raiseEvent, spliceOf_setSplice_same]
      rfl
    · rw [hbegin]
      exact raiseEvent_hasEvent _ _
  | fu =>
    obtain ⟨hother, hjoints, -⟩ := tryPending_other .pu (haltCleared s)
    have hsame := hother .fu (by decide)
    have hframe : (tryPending .pu (haltCleared s)).tc = (haltCleared s).tc ∧ (tryPending .pu (haltCleared s)).clock = s.clock ∧
        (tryPending .pu (haltCleared s)).setup = s.setup := by simp [haltCleared]
    obtain ⟨htc, hclock, hsetup⟩ := hframe
    have hbegin := tryPending_begins (s := tryPending .pu (haltCleared s)) (a := .fu) (k := k) (by rw [hsame]; exact hk)
      (by rw [axisOf, htc]; exact hactive) (by rw [hsame]; exact hidle) (by rw [jointRoom, hjoints]; exact hroom)
    rw [hbegin, spliceOf_raiseEvent, spliceOf_setSplice_same, hsame]
    refine ⟨?_, raiseEvent_hasEvent _ _⟩
    simp only [spliceBegun, hclock, hsetup]
    rfl

/-- Without a pending request, or where none may begin, the splice of an axis stands. -/
theorem clearHalt_keeps {a : Unwind}
    (h : (spliceOf s a).pending = none ∨ (spliceOf s a).state ≠ .idle ∨ jointRoom s a = false) :
    spliceOf (clearHalt s) a = spliceOf s a := by
  rw [clearHalt_eq]
  cases a with
  | pu =>
    obtain ⟨hother, -, -⟩ := tryPending_other .fu (tryPending .pu (haltCleared s))
    rw [hother .pu (by decide), tryPending_else (s := haltCleared s) (a := .pu) (h.imp id .inr)]
    rfl
  | fu =>
    obtain ⟨hother, hjoints, -⟩ := tryPending_other .pu (haltCleared s)
    have hsame : spliceOf (tryPending .pu (haltCleared s)) .fu = spliceOf s .fu := hother .fu (by decide)
    have hroom : jointRoom (tryPending .pu (haltCleared s)) .fu = jointRoom s .fu := by
      unfold jointRoom
      rw [hjoints]
      rfl
    rw [tryPending_else, hsame]
    rw [hsame, hroom]
    exact h.imp id .inr

theorem clearHalt_joints (s : State) : (clearHalt s).rc.joints = s.rc.joints := by
  rw [clearHalt_eq, (tryPending_other .fu _).2.1, (tryPending_other .pu _).2.1]
  rfl

/-- With no request pending nothing but the drive, the cause and the axes changes. -/
theorem clearHalt_quiet (hpu : s.rc.pu.pending = none) (hfu : s.rc.fu.pending = none) : clearHalt s = haltCleared s := by
  have h1 : tryPending .pu (haltCleared s) = haltCleared s := tryPending_else (.inl hpu)
  rw [clearHalt_eq, h1]
  exact tryPending_else (.inl hfu)

/-! ## The card -/

theorem endDispatch_writes (s : State) : SameWrites s (endDispatch s) := by
  unfold endDispatch beginChainRead emit
  dsimp only
  split
  · exact List.filter_cons_of_neg (by simp)
  · exact .of_ports rfl

theorem finishCurrent_writes {fields : List (Nat × List Byte)} {st : CardState} {rc : ResultCode} (hc : s.ce.current = some c) :
    writesOf (finishCurrent fields st rc s).ports = finalWrites c.ref st rc fields ++ writesOf s.ports := by
  have hfin : finishCurrent fields st rc s = endDispatch (finalWrite c.ref fields st rc s) := by simp [finishCurrent, hc]
  rw [hfin, endDispatch_writes, finalWrite_writes]

theorem exec_clear (h : Dispatching .drive c s) (ha : leRead c.image 16 1 = 5) : exec .clear s = .next (clearCard c s) :=
  onDrive_action (n := 5) (f := clearCard) h ha (by decide)

theorem clearRefused_iff (s : State) : clearRefused s = true ↔ s.wd.state ≠ .halted ∨ s.setup = none ∨
    (inputOf s .paperBreak).countsActive = true ∨ (inputOf s .fabricBreak).countsActive = true ∨
    (inputOf s .estop).countsActive = true := by
  simp [clearRefused, or_assoc]

/-- The part once CLEAR has ended the halt and, with flush, failed the queue. -/
def clearFlushed (flush : Nat) (s : State) : State := if flush = 1 then flushQueue (clearHalt s) else clearHalt s

theorem clearCard_accepted (hno : clearRefused s = false) (hflush : leRead c.image 17 1 ≤ 1) : clearCard c s =
    touchStart (driveDone c [(134, le 1 (if leRead c.image 17 1 = 1 then s.pe.queue.length else 0))]
      (clearFlushed (leRead c.image 17 1) s)) := by
  have hqueue : (clearHalt s).pe = s.pe := by simp
  unfold clearCard clearFlushed
  rw [hno, if_neg (by decide), if_neg (by omega)]
  dsimp only
  rw [hqueue]
  split <;> rfl

theorem failAll_all (h : s.pe.queue = l) (rc : ResultCode) : (failAll rc l s).pe.queue = [] := by
  rw [failAll_pe, h]
  refine List.filter_eq_nil_iff.mpr fun q hq hall => ?_
  simpa using List.all_eq_true.mp hall q hq

/-- What CLEAR and its flush leave but for the queue's cards. -/
theorem clearFlushed_rest (flush : Nat) (s : State) : SameBase s (clearFlushed flush s) ∧
    (clearFlushed flush s).wd = (haltCleared s).wd ∧ (clearFlushed flush s).tc.axes = (haltCleared s).tc.axes ∧
    (clearFlushed flush s).tmap = s.tmap ∧ (clearFlushed flush s).web = s.web ∧ (clearFlushed flush s).hc = s.hc ∧
    (clearFlushed flush s).nc = s.nc ∧ (clearFlushed flush s).ps.mem = s.ps.mem ∧ (clearFlushed flush s).ps.loader = s.ps.loader ∧
    (clearFlushed flush s).rc = (clearHalt s).rc ∧
    Raises [.cardFinal, .profileFreed] (clearHalt s) (clearFlushed flush s) := by
  have hload : ∀ u, (flushQueue u).ps.loader = u.ps.loader := fun u =>
    foldl_keeps (fun s => s.ps.loader) _ (fun s q => by rw [failQueued_store.1, releaseProfile_loader]; rfl) _ u
  obtain ⟨hwd, htc⟩ := clearHalt_line s
  unfold clearFlushed
  split
  · exact ⟨by simp [SameBase], by simp [hwd], by simp [htc], by simp, by simp, by simp, by simp, by simp, by rw [hload]; simp, by simp,
      failAll_raises (by decide) (by decide)⟩
  · exact ⟨by simp [SameBase], hwd, by simp [htc], by simp, by simp, by simp, by simp, by simp, by simp, rfl, .of_su rfl⟩

end

/-- Settles O27. -/
theorem clearEndsAHalt : Obligations.ClearEndsAHalt := by
  intro c s hd hlaw ha
  have hexec := exec_clear hd ha
  refine ⟨fun hrefused => ?_, fun hhalted hsetup hpb hfb hes => ?_⟩
  · have heq : clearCard c s = driveWrong c [(135, le 1 (activeInputs s))] s := if_pos ((clearRefused_iff s).mpr hrefused)
    have hfails := driveWrong_fails [(135, le 1 (activeInputs s))] hd
    refine ⟨_, hexec.trans (congrArg _ heq), ?_⟩
    have hact : driveAction c = 5 := ha
    rw [hact] at hfails
    exact hfails
  · have hno : clearRefused s = false := by
      rw [Bool.eq_false_iff]
      intro h
      rcases (clearRefused_iff s).mp h with h | h | h | h | h <;> simp_all
    refine ⟨fun hflush => ?_, fun hflush => ?_⟩
    · have heq : clearCard c s = failField 17 s := by
        rw [clearCard, hno, if_neg (by decide), if_pos (by omega)]
      exact ⟨_, hexec.trans (congrArg _ heq), failField_fails 17 hd⟩
    · have hns := hd.not_stalled
      have hnopatch := hd.noPatch hlaw (by decide)
      obtain ⟨-, -, hc, -⟩ := hd
      rw [clearCard_accepted hno hflush] at hexec
      obtain ⟨flush, hf⟩ : ∃ n, leRead c.image 17 1 = n := ⟨_, rfl⟩
      rw [hf] at hexec hflush ⊢
      obtain ⟨x, hx⟩ : ∃ x, clearFlushed flush s = x := ⟨_, rfl⟩
      obtain ⟨hbase, hwd, haxes, htmap, hweb, hhc, hnc, hmem, hload, hrc, hraises⟩ := clearFlushed_rest flush s
      rw [hx] at hexec hbase hwd haxes htmap hweb hhc hnc hmem hload hrc hraises
      have hpe0 : (clearHalt s).pe = s.pe := by simp
      have hce0 : (clearHalt s).ce = s.ce := by simp
      have hspb0 : (clearHalt s).spb = s.spb := by simp
      have hps0 : (clearHalt s).ps = s.ps := by simp
      have hcalm := failAll_calm (rc := .aborted) (l := s.pe.queue) (s := clearHalt s) (by rw [hspb0, hnopatch]) (by rw [hce0]; exact hns)
      have hxflush : flush = 1 → x = failAll .aborted s.pe.queue (clearHalt s) := fun h => by
        rw [← hx, clearFlushed, if_pos h, flushQueue_eq, hpe0]
      have hxkeep : flush = 0 → x = clearHalt s := fun h => by rw [← hx, clearFlushed, if_neg (by omega)]
      have hxce : x.ce = { s.ce with outstanding := x.ce.outstanding } := by
        rcases (by omega : flush = 0 ∨ flush = 1) with h | h
        · rw [hxkeep h, hce0]
        · rw [hxflush h, hcalm.1, hce0]
      have hxcur : x.ce.current = some c := by rw [hxce]; exact hc
      have hxns : x.ce.state ≠ .stalled := by rw [hxce]; exact hns
      have hresults : driveResults (driveAction c) x ++ [(134, le 1 (if flush = 1 then s.pe.queue.length else 0))] =
          [(128, [5]), (129, [0]), (130, [0, 0]), (132, [0, 0]), (134, le 1 (if flush = 1 then s.pe.queue.length else 0))] := by
        have hact : driveAction c = 5 := ha
        have hle : le 1 5 = [5] ∧ le 2 0 = [0, 0] := by decide
        simp [driveResults, hwd, hact, haltCleared, hle, DriveState.code]
      obtain ⟨hfinal, hsu⟩ := finishCurrent_final (st := .done) (rc := .ok)
        (fields := [(128, [5]), (129, [0]), (130, [0, 0]), (132, [0, 0]), (134, le 1 (if flush = 1 then s.pe.queue.length else 0))])
        hxcur hxns
      have hwrites := finishCurrent_writes (st := .done) (rc := .ok)
        (fields := [(128, [5]), (129, [0]), (130, [0, 0]), (132, [0, 0]), (134, le 1 (if flush = 1 then s.pe.queue.length else 0))])
        hxcur
      have hspares : ∀ r, Apart [r, c.ref] → Spared r x (finishCurrent [(128, [5]), (129, [0]), (130, [0, 0]), (132, [0, 0]),
          (134, le 1 (if flush = 1 then s.pe.queue.length else 0))] .done .ok x) := fun r hr => finishCurrent_spares hxcur hr _ _ _
      rw [driveDone, doneCurrent, hresults] at hexec
      obtain ⟨y, hy⟩ : ∃ y, finishCurrent [(128, [5]), (129, [0]), (130, [0, 0]), (132, [0, 0]),
          (134, le 1 (if flush = 1 then s.pe.queue.length else 0))] .done .ok x = y := ⟨_, rfl⟩
      have hyframe : SameBase x y ∧ y.wd = x.wd ∧ y.tc = x.tc ∧ y.tmap = x.tmap ∧ y.web = x.web ∧ y.hc = x.hc ∧ y.nc = x.nc ∧
          y.ps = x.ps ∧ y.spb = x.spb ∧ y.rc = x.rc ∧ y.pe = x.pe := by
        rw [← hy]
        simp [SameBase]
      rw [hy] at hexec hfinal hsu hwrites hspares
      obtain ⟨hybase, hywd, hytc, hytmap, hyweb, hyhc, hync, hyps, hyspb, hyrc, hype⟩ := hyframe
      obtain ⟨t, ht⟩ : ∃ t, touchStart y = t := ⟨_, rfl⟩
      have htframe : SameBase y t ∧ t.wd = y.wd ∧ t.tc = y.tc ∧ t.tmap = y.tmap ∧ t.web = y.web ∧ t.hc = y.hc ∧ t.nc = y.nc ∧
          t.ps = y.ps ∧ t.spb = y.spb ∧ t.rc = y.rc ∧ t.su = y.su ∧ t.ce = y.ce ∧ t.ports = y.ports := by
        rw [← ht]
        simp [SameBase]
      have htempty : y.pe.queue = [] → t.pe = { y.pe with hold := none } := fun h => by
        rw [← ht, touchStart_empty h]
        rfl
      have htpe : SameButHold y t := by
        rw [← ht]
        exact (touchStart_hold y).2
      obtain ⟨⟨hcard, hholds, honly⟩, hce⟩ := dispatchFinal_touchStart hfinal
      rw [ht] at hexec hcard hholds honly hce
      obtain ⟨htbase, htwd, httc, httmap, htweb, hthc, htnc, htps, htspb, htrc, htsu, htce, htports⟩ := htframe
      have htqueue : t.pe.queue = x.pe.queue := by rw [htpe, hype]
      have hbytes : ∀ a, hostByte t a = hostByte y a := fun a => by simp [hostByte, htports]
      have hsplice : ∀ a, spliceOf t a = spliceOf (clearHalt s) a := spliceOf_congr (htrc.trans (hyrc.trans hrc))
      have hevents : Raises [.cardFinal, .profileFreed] (clearHalt s) t :=
        hraises.trans ⟨[.cardFinal], by simp, htsu.trans hsu⟩
      have hall : Raises [.spliceActive, .cardFinal, .profileFreed] (haltCleared s) t := by
        obtain ⟨l, hl, h1⟩ := clearHalt_raises s
        obtain ⟨m, hm, h2⟩ := hevents
        exact Raises.trans ⟨l, fun e he => List.mem_cons.mpr (.inl (by simpa using hl e he)), h1⟩
          ⟨m, fun e he => List.mem_cons_of_mem _ (hm e he), h2⟩
      refine ⟨t, hexec, ?_, ?_, ?_, ?_, ?_, hcard, ?_, ?_, ?_, ?_, ?_, ?_, ?_, ?_, ?_, ?_, ?_, ?_, fun a => ⟨fun k hk hidle hroom hlen => ?_,
        fun hno => ?_⟩, fun hz hpu hfu => ?_, fun hone => ?_⟩
      · rw [htwd, hywd, hwd]
        rfl
      · rw [hall.rest]
        rfl
      · simp [lineStop, htwd, hywd, hwd, haltCleared]
      · rw [httc, hytc, haxes]
        rfl
      · rw [htqueue]
        split
        · rename_i h
          rw [hxflush h]
          exact failAll_all (congrArg (·.queue) hpe0) .aborted
        · rw [hxkeep (by omega), hpe0]
      · have hmap : ∀ b : List Byte, [(128, [5]), (129, [0]), (130, [0, 0]), (132, [0, 0]), (134, b)].map
            (fun f : Nat × List Byte => (f.1 - 128, f.2)) = [(0, [5]), (1, [0]), (2, [0, 0]), (4, [0, 0]), (6, b)] := fun _ => by simp
        rwa [hmap] at hholds
      · rw [hce]
        rfl
      · intro q hq hone r hr
        rw [hce] at hr
        have hr' : r ∈ x.ce.outstanding := (List.mem_filter.mp hr).1
        rw [hxflush hone, hcalm.1] at hr'
        simpa using List.all_eq_true.mp (List.mem_filter.mp hr').2 q hq
      · exact (hbase.trans hybase).trans htbase
      · rw [httmap, hytmap, htmap]
      · rw [htweb, hyweb, hweb]
      · rw [hthc, hyhc, hhc]
      · rw [htnc, hync, hnc]
      · rw [htps, hyps, hmem]
      · rw [htps, hyps, hload]
      · rw [hall.rest]
        rfl
      · rw [htrc, hyrc, hrc, clearHalt_joints]
      · obtain ⟨hbegun, hevent⟩ := clearHalt_begins hk hidle hroom hlen
        exact ⟨(hsplice a).trans hbegun, hevents.stays hevent⟩
      · exact (hsplice a).trans (clearHalt_keeps hno)
      · have hquiet : x = haltCleared s := (hxkeep hz).trans (clearHalt_quiet hpu hfu)
        have hxsame : x.rc = s.rc ∧ x.tc.fabrics = s.tc.fabrics ∧ x.ps = s.ps ∧ x.spb = s.spb ∧ x.nc = s.nc ∧ x.tmap = s.tmap ∧
            x.pe = s.pe ∧ x.su.events = s.su.events ∧ ∀ a, hostByte x a = hostByte s a := by
          rw [hquiet]
          exact ⟨rfl, rfl, rfl, rfl, rfl, rfl, rfl, rfl, fun _ => rfl⟩
        obtain ⟨h1, h2, h3, h4, h5, h6, h7, h8, h9⟩ := hxsame
        refine ⟨by rw [htrc, hyrc, h1], by rw [httc, hytc, h2], ⟨by rw [htps, hyps, h3], by rw [htspb, hyspb, h4], by rw [htnc, hync, h5]⟩,
          ⟨by rw [httmap, hytmap, h6], ?_⟩, ?_, fun b hb => (honly b hb).trans (h9 b)⟩
        · unfold SameButHold at htpe ⊢
          rwa [hype, h7] at htpe
        · rw [htsu, hsu, ← h8]
          rfl
      · have hxall := hxflush hone
        have hids : t.ps = x.ps ∧ t.spb = x.spb := ⟨htps.trans hyps, htspb.trans hyspb⟩
        refine ⟨?_, ?_, ?_, fun hapart q hq => ?_, fun n f hf' => ?_, fun hno => ?_, fun hpos n k p hp hk => ⟨fun h => ?_,
          fun h hst hrefs hk0 hh hnl => ?_⟩, fun b hb => ?_⟩
        · rw [htports, hwrites, hxall, hcalm.2, clearHalt_writes, if_pos hone, List.append_assoc]
        · have hxpe : x.pe = { s.pe with queue := [], hold := x.pe.hold } := by
            have hq : x.pe.queue = [] := by rw [hxall]; exact failAll_all (congrArg (·.queue) hpe0) .aborted
            have hpe := failAll_pe .aborted s.pe.queue (clearHalt s)
            rw [← hxall, hpe0] at hpe
            rw [hpe] at hq ⊢
            exact congrArg (fun l => { s.pe with queue := l, hold := x.pe.hold }) hq
          rw [htempty (by rw [hype, hxpe]), hype, hxpe]
        · have hout : x.ce.outstanding = s.ce.outstanding.filter fun r => s.pe.queue.all fun q => r.take != q.card.take := by
            rw [hxall, hcalm.1, hce0]
          have hregs : x.regs = s.regs := hbase.2.2.2.2.1
          rw [hce, engineAfter, hregs, hxce, hout, without, List.filter_filter]
          rfl
        · obtain ⟨hfirst, hrest⟩ := apart_cons.mp hapart
          obtain ⟨hf, hh⟩ := failAll_final (rc := .aborted) (s := clearHalt s) (by rw [hspb0, hnopatch]) hrest q hq
          have hpair : Apart [q.card, c.ref] := apart_pair.mpr (apart_pair.mp (hfirst _ (List.mem_map_of_mem hq))).symm
          rw [← hxall] at hf hh
          have hsp : Spared q.card x t := (hspares _ hpair).trans (.of_same htports htsu htce)
          exact ⟨hf.spared hsp, hh.spared (by decide) (by rw [area_length]) hsp⟩
        · have hfab : (clearHalt s).tc.fabrics[n]? = some f := by
            rw [(clearHalt_line s).2]
            exact hf'
          rw [httc, hytc, hxall]
          exact failAll_fabrics hfab
        · have hno' : ∀ q ∈ s.pe.queue, (profileOf (clearHalt s) q.profileId).state ≠ .retiring := fun q hq => by
            rw [profileOf_congr (congrArg (·.records) hps0)]
            exact hno q hq
          obtain ⟨h1, h2⟩ := failAll_kept (rc := .aborted) hno'
          rw [← hxall, hps0] at h1
          rw [← hxall, hspb0] at h2
          rw [hids.1, hids.2]
          exact ⟨h1, h2⟩
        · subst hk
          rw [hids.1, hxall]
          exact failAll_counts hpos (by rw [hps0]; exact hp) h
        · subst hk
          have hnl' : NoLoadFor (n + 1) (clearHalt s) := hnl.congr (by rw [hps0]) (by rw [hps0])
          have hfreed := failAll_released (rc := .aborted) hpos (by rw [hps0]; exact hp) hst hrefs hk0 hh hnl'
          rw [← hxall] at hfreed
          have hlater : Released (n + 1) p t := hfreed.later (hfreed.2.congr (by rw [hids.1]) (by rw [hids.1]) (by rw [hids.2]))
            (.of_busy (by rw [hids.1])) (by rw [hids.1])
            (Raises.stays (⟨[.cardFinal], by simp, htsu.trans hsu⟩ : Raises [.cardFinal] x t))
          exact hlater.1
        · rw [honly b fun h => hb (.inl h), hxall,
            failAll_writes (by rw [hspb0, hnopatch]) b fun ⟨q, hq, h⟩ => hb (.inr ⟨q, hq, h⟩)]
          exact (clearHalt_writes s).bytes b

end Sys2Proof.Machine

end

section

/-! PROOFS. DROP, FREEING, and the end of a profile whose queued cards fail with it (R32 to R35). -/

namespace Sys2Proof.Machine

/-! ## A profile goes with its queued cards (R35, R32) -/

section
variable {s t u v : State} {id n : Nat} {r : ProfileRecord} {h : ProfileHeader} {k : CardRef}

/-- The profile's queued cards fail, and its record is freed. -/
def freeQueued (id : Nat) (s : State) : State := freeRecord id (failQueuedOf id s)

theorem freeRecord_pe (id : Nat) (s : State) : (freeRecord id s).pe = s.pe ∧ (freeRecord id s).tc = s.tc := by simp

/-- The cards of a list leave a queue whose takes are its own. -/
theorem filter_takes {l : List QueuedPrint} (h : (l.map (·.card.take)).Nodup) (p : QueuedPrint → Bool) :
    (l.filter fun r => (l.filter p).all fun q => r.card.take != q.card.take) = l.filter fun r => !p r := by
  refine List.filter_congr fun r hr => ?_
  cases hp : p r with
  | true =>
    rw [Bool.not_true, Bool.eq_false_iff]
    intro hall
    simpa using List.all_eq_true.mp hall r (List.mem_filter.mpr ⟨hr, hp⟩)
  | false =>
    rw [Bool.not_false, List.all_eq_true]
    intro q hq
    obtain ⟨hq, hpq⟩ := List.mem_filter.mp hq
    rw [bne_iff_ne]
    intro htake
    rw [List.inj_on_of_nodup_map h hr hq htake, hpq] at hp
    cases hp

/-- What the cards of a profile that is not RETIRING leave of its record (R35). -/
theorem failQueuedOf_record (hid : 1 ≤ id) (hr : s.ps.records[id - 1]? = some r) (hst : r.state ≠ .retiring) :
    (failQueuedOf id s).ps.records[id - 1]? = some { r with refs := r.refs - uses id s.pe.queue } ∧
      (failQueuedOf id s).ps = { s.ps with records := (failQueuedOf id s).ps.records } ∧ (failQueuedOf id s).spb = s.spb := by
  have hnames : ∀ q ∈ s.pe.queue.filter (fun q => q.profileId == id), q.profileId = id := fun q hq => by
    simpa using (List.mem_filter.mp hq).2
  have huses : uses id (s.pe.queue.filter fun q => q.profileId == id) = uses id s.pe.queue := by
    simp [uses, List.filter_filter]
  have hplace : id - 1 + 1 = id := by omega
  have hcounts := failAll_counts (rc := .unknownProfile) (l := s.pe.queue.filter fun q => q.profileId == id)
    (fun q hq => by rw [hnames q hq]; exact hid) hr (.inl hst)
  rw [hplace, huses] at hcounts
  rw [failQueuedOf_eq]
  refine ⟨hcounts, failAll_kept fun q hq => ?_⟩
  rw [hnames q hq, profileOf_eq hr]
  exact hst

/-- A record whose queued cards have failed is freed, or waits for a granted write (R32, R35). -/
theorem freeQueued_freed (hid : 1 ≤ id) (hr : s.ps.records[id - 1]? = some r) (hst : r.state ≠ .retiring) (hh : r.header = some h) :
    FreedOrWaiting id r h s (freeQueued id s) := by
  obtain ⟨hrecord, hps, hspb⟩ := failQueuedOf_record hid hr hst
  have hheader : (profileOf (failQueuedOf id s) id).header = some h := by rw [profileOf_eq hrecord, ← hh]
  have hgranted : writeGranted id (failQueuedOf id s) = writeGranted id s := by
    have hbusy : (failQueuedOf id s).ps.arb.busy = s.ps.arb.busy := by rw [hps]
    rw [writeGranted, writeGranted, drainGranted_congr hbusy, loadWriteGranted_congr hbusy]
  have hfree : (failQueuedOf id s).ps.free = s.ps.free := by rw [hps]
  refine ⟨fun h1 h2 => ?_, fun hg => ?_⟩
  · obtain ⟨h3, h4, h5⟩ := freeRecord_frees (hgranted.trans (writeGranted_eq_false.mpr ⟨h1, h2⟩)) hheader
    refine ⟨?_, ?_, h5⟩
    · rw [freeQueued, h4, modifyNth_getElem?_eq, hrecord]
      rfl
    · rw [freeQueued, h3, hfree]
  · obtain ⟨h3, h4⟩ := freeRecord_waits (hgranted.trans (writeGranted_eq_true.mpr hg))
    refine ⟨by rw [freeQueued, h3, hfree], ?_⟩
    rw [freeQueued, h4, modifyNth_getElem?_eq, hrecord]
    rfl

theorem freeQueued_patch (hp : s.spb.patch = none) : (freeQueued id s).spb.patch = none :=
  (freeRecord_free (failAll_patch hp)).2.1

theorem freeQueued_spares (hp : s.spb.patch = none) (h : ∀ q ∈ s.pe.queue, Apart [k, q.card]) : Spared k s (freeQueued id s) :=
  (failAll_spares hp fun q hq => h q (List.mem_filter.mp hq).1).trans (freeRecord_spares (failAll_patch hp))

/-- The profile's queued cards have failed (R35). -/
theorem freeQueued_queue (hp : s.spb.patch = none) (hnodup : (s.pe.queue.map (·.card.take)).Nodup)
    (hapart : Apart (s.pe.queue.map (·.card))) : QueueFailed id s (freeQueued id s) := by
  obtain ⟨hpe, htc⟩ := freeRecord_pe id (failQueuedOf id s)
  refine ⟨?_, fun q hq hid => ?_, fun n f hf => ?_⟩
  · rw [freeQueued, hpe, failQueuedOf_eq, failAll_pe]
    exact filter_takes hnodup _
  · have hsub : Apart ((s.pe.queue.filter fun q => q.profileId == id).map (·.card)) :=
      hapart.sublist (List.Sublist.map _ List.filter_sublist)
    obtain ⟨hfinal, -⟩ := failAll_final (rc := .unknownProfile) hp hsub q (List.mem_filter.mpr ⟨hq, by simp [hid]⟩)
    exact hfinal.spared (freeRecord_spares (failAll_patch hp))
  · rw [freeQueued, htc, failQueuedOf_eq, failAll_fabrics hf, List.filter_filter]
    simp only [Bool.and_comm]

/-- Where no card is stalled, only the outstanding set of the engine changes. -/
theorem freeQueued_calm (hp : s.spb.patch = none) (hst : s.ce.state ≠ .stalled) :
    (freeQueued id s).ce = { s.ce with outstanding := (freeQueued id s).ce.outstanding } := by
  obtain ⟨hce, -⟩ := failAll_calm (rc := .unknownProfile) (l := s.pe.queue.filter fun q => q.profileId == id) hp hst
  have hfree : (freeQueued id s).ce = (failQueuedOf id s).ce := by
    rcases (freeRecord_free (id := id) (failAll_patch hp)).2.2 with he | he
    · exact he
    · exact he.trans (offeredAgain_awake (by rw [hce]; exact hst))
  rw [hfree, failQueuedOf_eq, hce]

/-- A loader write that holds the port holds it through a freeing. -/
theorem freeRecord_busyLoader {w : LoadRequest} {live : Bool} (hb : s.ps.arb.busy = some (.loader w live)) :
    (freeRecord id s).ps.arb.busy = some (.loader w live) := by
  have hsettled : (freeSettled id s).ps.arb.busy = some (.loader w live) := by
    rw [freeSettled_arb, withoutRequests, hb]
    rfl
  rw [freeRecord_eq, pumpPort_asked, grant_busy (by simp [hsettled])]
  exact hsettled

/-! ## A profile that nothing is at work for -/

/-- The freeing of a profile without entries and without a PATCH card leaves the buffer and the engine. -/
theorem freeRecord_loose (hentries : ∀ e ∈ s.spb.entries, e.id ≠ id) (hp : s.spb.patch = none) :
    (freeRecord id s).spb = s.spb ∧ (freeRecord id s).ce = s.ce := by
  have hall : s.spb.entries.filter (sparesEntry id s.ps.arb.busy) = s.spb.entries :=
    List.filter_eq_self.mpr fun e he => by simp [sparesEntry, hentries e he]
  have hdiscard : discardEntries id s = withoutEntries id s := by
    rw [discardEntries_eq, if_pos (by rw [hall])]
  have hpatch : (discardEntries id s).spb.patch = none := by rw [discardEntries_spb, hp]
  constructor
  · rw [freeRecord_spb, hall, hp]
    exact congrArg (fun p => { s.spb with patch := p }) hp.symm
  · have hsettled : (freeSettled id s).ce = (discardEntries id s).ce := by
      unfold freeSettled
      rw [failPatchOf_none hpatch]
      split <;> simp
    have hpump : (freeRecord id s).ce = (freeSettled id s).ce := by
      rw [freeRecord_eq]
      simp
    rw [hpump, hsettled, hdiscard]
    rfl

/-- No queued card names the profile, and none fails. -/
theorem failQueuedOf_loose (h : ∀ q ∈ s.pe.queue, q.profileId ≠ id) : failQueuedOf id s = s := by
  have hnil : (s.pe.queue.filter fun q => q.profileId == id) = [] :=
    List.filter_eq_nil_iff.mpr fun q hq hid => h q hq (by simpa using hid)
  rw [failQueuedOf_eq, hnil]
  rfl

/-- A record is freed at once where no granted write stands. -/
theorem freeRecord_freed (hg : writeGranted id s = false) (hr : s.ps.records[id - 1]? = some r) (hh : r.header = some h) :
    Freed id h s (freeRecord id s) := by
  obtain ⟨h1, h2, h3⟩ := freeRecord_frees hg (by rw [profileOf_eq hr, hh])
  refine ⟨?_, h1, h3⟩
  rw [h2, modifyNth_getElem?_eq, hr]
  rfl

end

/-! ## A DROP card (R33, R34) -/

section
variable {s t u : State} {c : CurrentCard} {id : Nat} {r : ProfileRecord} {h : ProfileHeader} {j : LoadJob} {k : CardRef}

theorem exec_drop (hd : Dispatching .drop c s) : exec .drop s = .next (touchStart (dropCard c s)) :=
  hd.next (f := fun c s => touchStart (dropCard c s)) rfl

theorem dropCard_badField (h : leRead c.image 16 1 = 0 ∨ 16 < leRead c.image 16 1) : dropCard c s = failField 16 s := by
  have hno : within 1 (leRead c.image 16 1) 16 = false := within_eq_false.mpr (by omega)
  unfold dropCard
  dsimp only
  rw [hno]
  rfl

/-- What DROP does at a record it can see, by the state it sees (R34). -/
theorem dropCard_seen (hlo : 1 ≤ leRead c.image 16 1) (hhi : leRead c.image 16 1 ≤ 16)
    (hr : s.ps.records[leRead c.image 16 1 - 1]? = some r) : dropCard c s =
      match stateSeen r with
      | .empty => failCurrent .unknownProfile [] s
      | .loading => doneCurrent (dropResults .loading 1)
          (freeQueued (leRead c.image 16 1) (abortLoad (leRead c.image 16 1) s))
      | .ready =>
        if r.refs = 0 then doneCurrent (dropResults .ready 1) (freeRecord (leRead c.image 16 1) s)
        else doneCurrent (dropResults .ready 2) (setProfile (leRead c.image 16 1) (fun r => { r with state := .retiring }) s)
      | .retiring => doneCurrent (dropResults .retiring 2) s := by
  unfold dropCard
  dsimp only
  rw [within_eq_true.mpr ⟨hlo, hhi⟩, profileOf_eq hr, if_neg (by decide)]
  cases stateSeen r <;> rfl

theorem stateSeen_kept (h : r.freeing = false) : stateSeen r = r.state := by simp [stateSeen, h]

/-- The end of a DROP card after a step that has left host memory and the engine. -/
theorem doneCurrent_after {fields : List (Nat × List Byte)} (hd : Dispatching .drop c s) (hce : u.ce = s.ce) (hregs : u.regs = s.regs)
    (hbyte : ∀ a, hostByte u a = hostByte s a) : DispatchFinal c .done .ok fields s (touchStart (doneCurrent fields u)) := by
  have hns := hd.not_stalled
  obtain ⟨-, -, hc, -⟩ := hd
  obtain ⟨hfinal, -⟩ := finishCurrent_final (c := c) (st := .done) (rc := .ok) (fields := fields) (s := u) (by rw [hce, hc])
    (by rw [hce]; exact hns)
  exact dispatchFinal_touchStart (hfinal.of_calm hce hregs hbyte)

theorem touchStart_samePrint (s : State) : SamePrintButHold s (touchStart s) := samePrintButHold_touchStart ⟨rfl, rfl⟩

/-! ## A load that is aborted (R33) -/

theorem stopLoader_noLoad (id : Nat) (s : State) : NoLoadFor id (stopLoader s) :=
  ⟨fun w hw => (nomatch (hw : none = some w)), fun j hj => (nomatch (hj : none = some j))⟩

/-- A granted write of an aborted load completes on its own (R33). -/
theorem stopLoader_grants (id : Nat) (s : State) : SameGrants id s (stopLoader s) := by
  unfold SameGrants drainGranted loadWriteGranted stopLoader
  dsimp only
  cases s.ps.arb.busy with
  | none => exact ⟨rfl, rfl⟩
  | some b => cases b <;> exact ⟨rfl, rfl⟩

theorem stopLoader_busy {w : LoadRequest} {live : Bool} (hb : s.ps.arb.busy = some (.loader w live)) :
    (stopLoader s).ps.arb.busy = some (.loader w false) := by
  unfold stopLoader
  dsimp only
  rw [hb]

theorem stopLoader_stale (hj : s.ps.loader = some j) : (stopLoader s).ps.stale = s.ps.stale + (if j.reading then 1 else 0) := by
  unfold stopLoader
  dsimp only
  rw [hj]

theorem abortLoad_eq (hj : s.ps.loader = some j) (hid : j.id = id) :
    abortLoad id s = finalWrite j.card [] .failed .aborted (stopLoader s) := by
  unfold abortLoad
  rw [hj]
  exact if_pos hid

theorem abortLoad_rest (hj : s.ps.loader = some j) (hid : j.id = id) : (abortLoad id s).ps = (stopLoader s).ps ∧
    (abortLoad id s).spb = s.spb ∧ (abortLoad id s).pe = s.pe ∧ (abortLoad id s).tc = s.tc ∧ (abortLoad id s).regs = s.regs := by
  rw [abortLoad_eq hj hid]
  simp

/-- The end of the current card after other writes: it is final, and what does not overlap it is spared. -/
theorem doneCurrent_final {fields : List (Nat × List Byte)} (hc : u.ce.current = some c) (hst : u.ce.state ≠ .stalled) :
    DispatchFinal c .done .ok fields u (touchStart (doneCurrent fields u)) ∧
      (∀ k, Apart [k, c.ref] → Spared k u (touchStart (doneCurrent fields u))) ∧
      Raises [.cardFinal] u (touchStart (doneCurrent fields u)) := by
  obtain ⟨hfinal, hsu⟩ := finishCurrent_final (c := c) (st := .done) (rc := .ok) (fields := fields) (s := u) hc hst
  have htouch : ∀ v, (touchStart v).ports = v.ports ∧ (touchStart v).su = v.su ∧ (touchStart v).ce = v.ce := fun v => by simp
  refine ⟨dispatchFinal_touchStart hfinal, fun k hk => ?_, ⟨[.cardFinal], by simp, ((htouch _).2.1).trans hsu⟩⟩
  obtain ⟨h1, h2, h3⟩ := htouch (doneCurrent fields u)
  exact (finishCurrent_spares hc hk fields .done .ok).trans (.of_same h1 h2 h3)

/-- A DROP of a profile that is LOADING: the load is given up, its card is written before the DROP card's, and the freeing follows. -/
theorem drop_loading {t : State} (hd : Dispatching .drop c s) (hp : s.spb.patch = none) (hj : s.ps.loader = some j) (hid : j.id = id)
    (hlo : 1 ≤ id) (hr : s.ps.records[id - 1]? = some r) (hst : r.state = .loading) (hh : r.header = some h)
    (hspare : Spared j.card (abortLoad id s) (freeQueued id (abortLoad id s))) (hapart : Apart [j.card, c.ref])
    (ht : touchStart (doneCurrent (dropResults .loading 1) (freeQueued id (abortLoad id s))) = t) :
    t.ps.loader = none ∧ t.ps.stale = s.ps.stale + (if j.reading then 1 else 0) ∧ FreedOrWaiting id r h s t ∧
      (∀ w live, s.ps.arb.busy = some (.loader w live) → t.ps.arb.busy = some (.loader w false)) ∧ CardFinal j.card .failed .aborted t ∧
      CardFinal c.ref .done .ok t ∧ HostHolds t (c.ref.addr + 128) [1, 1] ∧ t.ce = engineAfter s t.ce.outstanding ∧
      (t.pe.queue = (freeQueued id (abortLoad id s)).pe.queue ∧ t.tc = (freeQueued id (abortLoad id s)).tc) ∧
      ∀ k, Apart [k, c.ref] → Spared k (freeQueued id (abortLoad id s)) t := by
  have hns := hd.not_stalled
  obtain ⟨-, -, hc, -⟩ := hd
  obtain ⟨hps, hspb, hpe, htc, hregs⟩ := abortLoad_rest hj hid
  obtain ⟨u, hu⟩ : ∃ u, abortLoad id s = u := ⟨_, rfl⟩
  have hce : u.ce = { s.ce with outstanding := without j.card s.ce.outstanding } := by
    rw [← hu, abortLoad_eq hj hid, finalWrite_ce (by simpa using hns)]
    simp
  have hwritten : CardFinal j.card .failed .aborted u := by
    rw [← hu, abortLoad_eq hj hid]
    exact (finalWrite_written _ _ _ _ _).1
  rw [hu] at hspare ht hps hspb hpe htc hregs ⊢
  have hup : u.spb.patch = none := by rw [hspb, hp]
  have hrecord : u.ps.records[id - 1]? = some r := by rw [hps]; exact hr
  have hfreed := freeQueued_freed hlo hrecord (by rw [hst]; decide) hh
  have hcalm := freeQueued_calm (id := id) hup (by rw [hce]; exact hns)
  obtain ⟨-, hqps, -⟩ := failQueuedOf_record hlo hrecord (by rw [hst]; decide)
  obtain ⟨v, hv⟩ : ∃ v, freeQueued id u = v := ⟨_, rfl⟩
  have hvps : v.ps.loader = none ∧ v.ps.stale = s.ps.stale + (if j.reading then 1 else 0) := by
    rw [← hv, freeQueued, freeRecord_ps, hqps, hps, ← stopLoader_stale hj]
    exact ⟨rfl, rfl⟩
  have hvregs : v.regs = s.regs := by
    rw [← hv, freeQueued]
    simp [hregs]
  rw [hv] at hspare ht hcalm hfreed ⊢
  obtain ⟨⟨hwritten', hce'⟩, hspares, hraises⟩ := doneCurrent_final (fields := dropResults .loading 1) (u := v) (c := c)
    (by rw [hcalm, hce, hc]) (by rw [hcalm, hce]; exact hns)
  have hframe : (touchStart (doneCurrent (dropResults .loading 1) v)).ps = v.ps ∧
      (touchStart (doneCurrent (dropResults .loading 1) v)).tc = v.tc ∧
      (touchStart (doneCurrent (dropResults .loading 1) v)).pe.queue = v.pe.queue := by
    have htouch := (touchStart_hold (doneCurrent (dropResults .loading 1) v)).2
    unfold SameButHold at htouch
    rw [htouch]
    simp
  obtain ⟨htps, httc, htqueue⟩ := hframe
  have hfield : ∀ f ∈ dropResults .loading 1,
      HostHolds (touchStart (doneCurrent (dropResults .loading 1) v)) (c.ref.addr + f.1) f.2 := fun f hf =>
    hwritten'.field hf (by decide) (by decide) (by simp [dropResults, FieldsApart, ProfileState.code])
  have hgrants := stopLoader_grants id s
  rw [ht] at hwritten' hce' hspares hraises htps httc htqueue hfield
  refine ⟨by rw [htps, hvps.1], by rw [htps, hvps.2], ⟨fun h1 h2 => ?_, fun hg => ?_⟩, fun w live hb => ?_,
    (hwritten.spared hspare).spared (hspares _ hapart), hwritten'.1, ?_, ?_, ⟨htqueue, httc⟩, hspares⟩
  · obtain ⟨f1, f2, f3⟩ := hfreed.1 (by rw [drainGranted_congr (congrArg (·.arb.busy) hps), hgrants.1, h1])
      (by rw [loadWriteGranted_congr (congrArg (·.arb.busy) hps), hgrants.2, h2])
    refine ⟨by rw [htps, f1], ?_, hraises.stays f3⟩
    rw [htps, f2, hps]
    rfl
  · obtain ⟨f1, f2⟩ := hfreed.2 (by
      rw [drainGranted_congr (congrArg (·.arb.busy) hps), hgrants.1, loadWriteGranted_congr (congrArg (·.arb.busy) hps), hgrants.2]
      exact hg)
    rw [hpe] at f2
    refine ⟨?_, by rw [htps, f2]⟩
    rw [htps, f1, hps]
    rfl
  · rw [htps, ← hv]
    refine freeRecord_busyLoader ?_
    rw [hqps, hps]
    exact stopLoader_busy hb
  · exact (hfield (128, [1]) (by simp [dropResults, ProfileState.code])).append
      (hfield (129, [1]) (by simp [dropResults, ProfileState.code]))
  · rw [hce']
    rw [engineAfter, engineAfter, hcalm, hce, hvregs]

end

section
variable {s : State} {id : Nat} {r : ProfileRecord} {h : ProfileHeader}

/-- FREEING acts on a record that waits to be freed and has no granted write (R32). -/
theorem exec_freeing_waits (hon : s.power.mainOn = true) (hr : s.ps.records[id - 1]? = some r)
    (hno : r.freeing = false ∨ drainGranted s id = true ∨ loadWriteGranted s id = true) : exec (.freeing id) s = .next s := by
  refine (whenOn_on hon : execFreeing id s = _).trans ?_
  rw [profileOf_eq hr, if_neg]
  rcases hno with h | h | h <;> simp [h]

theorem exec_freeing_frees (hon : s.power.mainOn = true) (hlo : 1 ≤ id) (hhi : id ≤ 16) (hr : s.ps.records[id - 1]? = some r)
    (hfr : r.freeing = true) (h1 : drainGranted s id = false) (h2 : loadWriteGranted s id = false) :
    exec (.freeing id) s = .next (touchStart (completeFree id s)) := by
  refine (whenOn_on hon : execFreeing id s = _).trans ?_
  rw [profileOf_eq hr, within_eq_true.mpr ⟨hlo, hhi⟩, hfr, h1, h2]
  rfl

/-- The freeing proper (R32). -/
theorem completeFree_eq (hr : s.ps.records[id - 1]? = some r) (hh : r.header = some h) : completeFree id s =
    raiseEvent .profileFreed (setProfile id (fun _ => emptyRecord) { s with ps := { s.ps with
      free := release h.base h.nodes s.ps.free } }) := by
  unfold completeFree
  rw [profileOf_eq hr, hh]

end

/-- Settles O45. -/
theorem dropAndFreeing : Obligations.DropAndFreeing := by
  refine ⟨fun c s id hd hid => ⟨fun hout => ?_, fun r hlo hhi hr => ⟨fun hst => ?_, fun h hst hfr hrefs hh hloose => ?_,
    fun hst hfr hrefs hp hg => ?_, fun hst hfr hrefs => ?_, fun hst hfr => ?_, fun h j hst hfr hh hloose hj hjid hapart => ?_,
    fun h j hst hfr hh hj hjid hp hpos hnodup hapart => ?_⟩⟩, fun s id r hon hlo hhi hr => ⟨fun hno => ?_, fun h hfr hh h1 h2 => ?_⟩⟩
  · subst hid
    obtain ⟨hfinal, -⟩ := failField_fails 16 hd
    have hexec := exec_drop hd
    rw [dropCard_badField hout] at hexec
    exact ⟨_, hexec, dispatchFinal_touchStart hfinal, by simp [SameStore]⟩
  · subst hid
    obtain ⟨hfinal, hsu, -, -, hprint, -⟩ := hd.fails .unknownProfile []
    have hseen : stateSeen r = .empty := by
      unfold stateSeen
      rcases hst with h | h
      · rw [h]
        exact ite_self _
      · rw [if_pos h]
    have hexec := exec_drop hd
    rw [dropCard_seen hlo hhi hr, hseen] at hexec
    refine ⟨_, hexec, dispatchFinal_touchStart hfinal, by simp [SameStore], by simpa using hsu, by simp [SameBase],
      samePrintButHold_touchStart hprint, by simp [SameLine]⟩
  · subst hid
    obtain ⟨hentries, hp, h1, h2, -⟩ := hloose
    have hexec := exec_drop hd
    rw [dropCard_seen hlo hhi hr, stateSeen_kept hfr, hst] at hexec
    obtain ⟨hspb, hce⟩ := freeRecord_loose hentries hp
    obtain ⟨hwrites, -, -⟩ := freeRecord_free (id := leRead c.image 16 1) hp
    obtain ⟨hrecord, hfree, hevent⟩ := freeRecord_freed (writeGranted_eq_false.mpr ⟨h1, h2⟩) hr hh
    obtain ⟨u, hu⟩ : ∃ u, freeRecord (leRead c.image 16 1) s = u := ⟨_, rfl⟩
    have hframe : SameBase s u ∧ SameLine s u ∧ u.pe = s.pe ∧ u.tmap = s.tmap ∧ u.ps.mem = s.ps.mem := by
      rw [← hu]
      simp [SameBase, SameLine]
    have hne : ∀ n, n ≠ leRead c.image 16 1 - 1 → u.ps.records[n]? = s.ps.records[n]? := fun n hn => hu ▸ freeRecord_ne hn
    obtain ⟨hbase, hline, hpe, htmap, hmem⟩ := hframe
    dsimp only at hexec
    rw [if_pos hrefs, hu] at hexec
    rw [hu] at hspb hce hwrites hrecord hfree hevent
    have hfinal := doneCurrent_after (fields := dropResults .ready 1) hd hce hbase.2.2.2.2.1 hwrites.bytes
    refine ⟨_, hexec, ⟨by simp [hrecord], by simp [hfree], ?_⟩, fun n hn => ?_, by simp [hmem], by simp [hspb], hfinal, ?_,
      samePrintButHold_touchStart ⟨by simp [htmap], by simp [hpe]⟩, ?_⟩
    · have hraises : Raises [.cardFinal] u (doneCurrent (dropResults .ready 1) u) := finishCurrent_raises (by decide) _ _ _ u
      exact (hraises.trans (.of_su (by simp))).stays hevent
    · rw [← hne n hn]
      simp
    · exact hbase.trans (by simp [SameBase])
    · exact hline.trans (by simp [SameLine])
  · subst hid
    have hexec := exec_drop hd
    rw [dropCard_seen hlo hhi hr, stateSeen_kept hfr, hst] at hexec
    obtain ⟨hwrites, -, hce⟩ := freeRecord_free (id := leRead c.image 16 1) hp
    obtain ⟨hfree, hrecords⟩ := freeRecord_waits (writeGranted_eq_true.mpr hg)
    have hce' : (freeRecord (leRead c.image 16 1) s).ce = s.ce := by
      rcases hce with he | he
      · exact he
      · exact he.trans (offeredAgain_awake hd.not_stalled)
    dsimp only at hexec
    rw [if_pos hrefs] at hexec
    refine ⟨_, hexec, ?_, by simp [hfree], doneCurrent_after hd hce' (by simp) hwrites.bytes⟩
    simp [hrecords, modifyNth_getElem?_eq, hr]
  · subst hid
    have hexec := exec_drop hd
    rw [dropCard_seen hlo hhi hr, stateSeen_kept hfr, hst] at hexec
    dsimp only at hexec
    rw [if_neg (by omega)] at hexec
    refine ⟨_, hexec, ?_, fun n hn => ?_, by simp [setProfile], by simp [setProfile],
      doneCurrent_after (u := setProfile (leRead c.image 16 1) (fun r => { r with state := .retiring }) s) hd (by simp) (by simp)
        fun a => by simp [hostByte],
      by simp, by simp [SameBase], samePrintButHold_touchStart ⟨by simp, by simp⟩, by simp [SameLine]⟩
    · simp [setProfile, modifyNth_getElem?_eq, hr]
    · simp [setProfile, modifyNth_getElem?_ne hn]
  · subst hid
    have hexec := exec_drop hd
    rw [dropCard_seen hlo hhi hr, stateSeen_kept hfr, hst] at hexec
    refine ⟨_, hexec, by simp [SameStore], doneCurrent_after hd rfl rfl fun _ => rfl, by simp [SameBase],
      samePrintButHold_touchStart ⟨by simp, by simp⟩, by simp [SameLine]⟩
  · subst hid
    have hexec := exec_drop hd
    rw [dropCard_seen hlo hhi hr, stateSeen_kept hfr, hst] at hexec
    obtain ⟨hentries, hp, h1, h2, hqueue⟩ := hloose
    obtain ⟨-, hspb, hpe, -⟩ := abortLoad_rest hj hjid
    have hspare : Spared j.card (abortLoad (leRead c.image 16 1) s) (freeQueued (leRead c.image 16 1) (abortLoad (leRead c.image 16 1) s)) := by
      rw [freeQueued, failQueuedOf_loose (by rw [hpe]; exact hqueue)]
      exact freeRecord_spares (by rw [hspb, hp])
    obtain ⟨hload, hstale, hfreed, -, hjob, hcard, hholds, -⟩ :=
      drop_loading hd hp hj hjid hlo hr hst hh hspare (apart_pair.mpr hapart) rfl
    exact ⟨_, hexec, hfreed.1 h1 h2, hload, hstale, hjob, hcard, hholds⟩
  · subst hid
    have hexec := exec_drop hd
    rw [dropCard_seen hlo hhi hr, stateSeen_kept hfr, hst] at hexec
    obtain ⟨-, hspb, hpe, htc, -⟩ := abortLoad_rest hj hjid
    obtain ⟨hcards, hrest⟩ := apart_cons.mp hapart
    obtain ⟨hjobs, hqueue⟩ := apart_cons.mp hrest
    have hup : (abortLoad (leRead c.image 16 1) s).spb.patch = none := by rw [hspb, hp]
    have hspare := freeQueued_spares (id := leRead c.image 16 1) (k := j.card) hup
      (fun q hq => hjobs _ (List.mem_map_of_mem (by rwa [hpe] at hq)))
    have hpair : ∀ k ∈ j.card :: s.pe.queue.map (·.card), Apart [k, c.ref] := fun k hk =>
      apart_pair.mpr (apart_pair.mp (hcards k hk)).symm
    obtain ⟨hload, hstale, hfreed, hbusy, hjob, hcard, hholds, hce, ⟨hq, htc'⟩, hspares⟩ :=
      drop_loading hd hp hj hjid hlo hr hst hh hspare (hpair _ List.mem_cons_self) rfl
    obtain ⟨hqueue1, hqueue2, hqueue3⟩ := freeQueued_queue (id := leRead c.image 16 1) hup (by rw [hpe]; exact hnodup) (by rw [hpe]; exact hqueue)
    rw [hpe] at hqueue1 hqueue2 hqueue3
    refine ⟨_, hexec, hload, hstale, ⟨hq.trans hqueue1, fun q hq hid => ?_, fun n f hf => ?_⟩, hfreed, hbusy, hjob, hcard, hholds, hce⟩
    · exact (hqueue2 q hq hid).spared (hspares _ (hpair _ (List.mem_cons_of_mem _ (List.mem_map_of_mem hq))))
    · have hfab := hqueue3 n f (by rw [htc]; exact hf)
      rw [← htc'] at hfab
      exact hfab
  · exact exec_freeing_waits hon hr hno
  · have hexec := exec_freeing_frees hon hlo hhi hr hfr h1 h2
    obtain ⟨hps, hevent⟩ : (completeFree id s).ps = _ ∧ hasEvent (completeFree id s) .profileFreed = true :=
      ⟨completeFree_ps (by rw [profileOf_eq hr, hh]), by rw [completeFree_eq hr hh]; exact raiseEvent_hasEvent _ _⟩
    have hsu : (completeFree id s).su = raised [.profileFreed] s.su := by
      rw [completeFree_eq hr hh, raiseEvent_su]
      simp [raised]
    have hbyte := (completeFree_writes id s).bytes
    refine ⟨_, hexec, ⟨?_, ?_, ?_⟩, fun n hn => ?_, by simp, ?_, ?_, by simp, by simp, by simp, by simpa using hsu, fun a _ => ?_,
      by simp [SameBase], samePrintButHold_touchStart ⟨by simp, by simp⟩, by simp [SameLine]⟩
    · simp [hps, modifyNth_getElem?_eq, hr]
    · simp [hps]
    · simpa [hasEvent] using hevent
    · simp [hps, modifyNth_getElem?_ne hn]
    · simp [hps]
    · simp [hps]
    · rw [← hbyte a]
      simp [hostByte]

end Sys2Proof.Machine

end

section

/-! PROOFS. The loader's reads and writes (R29 to R31, R33). -/

namespace Sys2Proof.Machine

/-! ## The source records -/

theorem leRead_lt (l : List Byte) (off n : Nat) : leRead l off n < 256 ^ n := by
  induction n generalizing off with
  | zero => simp [leRead]
  | succ n ih =>
    have hbyte := (byteAt l off).isLt
    have hrest := ih (off + 1)
    rw [leRead, Nat.pow_succ]
    omega

/-- A byte of a field, counted from its least significant one. -/
theorem leRead_byte (l : List Byte) (off n c : Nat) :
    leRead l off n / 256 ^ c % 256 = if c < n then (byteAt l (off + c)).toNat else 0 := by
  induction n generalizing off c with
  | zero => simp [leRead]
  | succ n ih =>
    have hbyte := (byteAt l off).isLt
    rw [leRead]
    cases c with
    | zero =>
      simp only [Nat.pow_zero, Nat.div_one, Nat.add_zero, Nat.zero_lt_succ, if_true]
      omega
    | succ c =>
      have hshift : ((byteAt l off).toNat + 256 * leRead l (off + 1) n) / 256 ^ (c + 1) = leRead l (off + 1) n / 256 ^ c := by
        rw [Nat.pow_succ', ← Nat.div_div_eq_div_mul, Nat.add_mul_div_left _ _ (by decide), Nat.div_eq_of_lt hbyte, Nat.zero_add]
      rw [hshift, ih, Nat.add_right_comm, Nat.add_assoc]
      exact if_congr (by omega) rfl rfl

theorem channel_toNat (v : CellValue) (c : Nat) : (channel v c).toNat = v.toNat / 256 ^ c % 256 := by
  rw [channel, BitVec.toNat_setWidth, BitVec.toNat_ushiftRight, Nat.shiftRight_eq_div_pow, Nat.pow_mul]

theorem channel_sourceRecord (data : List Byte) {i k c : Nat} (hk : k ≤ 8) :
    channel (sourceRecord data i k) c = if c < k then byteAt data (8 * i + c) else 0 := by
  have hlt : leRead data (8 * i) k < 2 ^ 64 :=
    Nat.lt_of_lt_of_le (leRead_lt _ _ _) (Nat.le_trans (Nat.pow_le_pow_right (by decide) hk) (by decide))
  apply BitVec.eq_of_toNat_eq
  rw [channel_toNat, sourceRecord, BitVec.toNat_ofNat, Nat.mod_eq_of_lt hlt, leRead_byte]
  split <;> rfl

/-! ## The reads -/

section
variable {s t u v : State} {j : LoadJob} {h : ProfileHeader} {f : LoadJob → State → State} {i : Instr} {n : Nat} {c : CardRef}

theorem onLoadRead_stale (hn : s.ps.stale = n + 1) : onLoadRead s f = { s with ps := { s.ps with stale := n } } := by
  unfold onLoadRead
  rw [if_pos (by omega), hn]
  rfl

theorem onLoadRead_off (hz : s.ps.stale = 0) (hno : s.ps.loader = none ∨ ∃ j, s.ps.loader = some j ∧ j.reading = false) :
    onLoadRead s f = s := by
  unfold onLoadRead
  rw [if_neg (by omega)]
  rcases hno with h | ⟨j, h, hr⟩
  · rw [h]
  · rw [h]
    exact if_neg (by simp [hr])

theorem onLoadRead_reading (hz : s.ps.stale = 0) (hj : s.ps.loader = some j) (hr : j.reading = true) : onLoadRead s f = f j s := by
  unfold onLoadRead
  rw [if_neg (by omega), hj]
  exact if_pos hr

/-- The three ends of a source read act on a load that is reading (R33). -/
theorem exec_loadRead {data : List Byte} (hon : s.power.mainOn = true)
    (hi : i ∈ [Instr.loadReadComplete data, .loadReadError, .loadReadTimeout]) : ∃ f, exec i s = .next (onLoadRead s f) := by
  simp only [List.mem_cons, List.not_mem_nil, or_false] at hi
  rcases hi with rfl | rfl | rfl
  · exact ⟨_, (whenOn_on hon : execLoadReadComplete data s = _)⟩
  · exact ⟨_, (whenOn_on hon : execLoadReadError s = _)⟩
  · exact ⟨_, (whenOn_on hon : execLoadReadTimeout s = _)⟩

/-- A load with records buffered, at the port. -/
theorem exec_loadReadComplete (data : List Byte) (hon : s.power.mainOn = true) (hz : s.ps.stale = 0) (hj : s.ps.loader = some j)
    (hr : j.reading = true) (hh : (profileOf s j.id).header = some h) : exec (.loadReadComplete data) s = .next (pumpPort
      (setLoader (some { j with
        buffer := (List.range (min 64 (h.nodes - j.cursor))).map fun i => sourceRecord data i h.channels, reading := false }) s)) := by
  refine (whenOn_on hon : execLoadReadComplete data s = _).trans ?_
  rw [onLoadRead_reading hz hj hr]
  simp [loadNodes, hh, blockLength]

/-- A free port with no other request goes to the loader's. -/
theorem grant_loads {a : Arbiter} {r : LoadRequest} (hb : a.busy = none) (hs : a.shadowReq = none) (hf : a.fillReq = none)
    (hl : a.loaderReq = some r) : (grant a).busy = some (.loader r true) := by
  cases hc : a.loaderCredit with
  | true => rw [grant_loaderCredit hb hl hc (.inl hs)]
  | false => rw [(grant_rest hb (.inl hs) (.inr hc)).2.2 r hf hs hl]

/-- With no entry VISIBLE and no PATCH card in hand the shadow requester asks for nothing. -/
theorem shadowAsked_none (hb : s.ps.arb.busy = none) (hs : s.ps.arb.shadowReq = none) (hp : s.spb.patch = none)
    (he : ∀ e ∈ s.spb.entries, e.visible = false) : shadowAsked s = none := by
  have hfind : s.spb.entries.find? (·.visible) = none := List.find?_eq_none.mpr fun e hm => by simp [he e hm]
  unfold shadowAsked
  rw [hs, if_neg (by simp [shadowAtPort, hb]), nextShadowRequest, hfind, hp]

/-! ## The writes -/

/-- A completed write of a cell leaves the cell with fresh parity, the port free, and the lines of the cache (R24, R53). -/
theorem cellWritten_eq (cell : Nat) (x : CellValue) (s : State) : ∃ lines, portDone (writeCell cell x s) = { s with
    ps := { s.ps with mem := storeWrite s.ps.mem cell (freshCell x), arb := { s.ps.arb with busy := none } }
    nc := { s.nc with lines := lines } } := by
  unfold writeCell cacheInvalidate
  dsimp only
  split
  · exact ⟨_, rfl⟩
  · exact ⟨_, rfl⟩

theorem exec_loaderWrite {r : LoadRequest} {live : Bool} (hon : s.power.mainOn = true)
    (hb : s.ps.arb.busy = some (.loader r live)) : exec .loaderWriteComplete s = .next
      (pumpPort (if live then advanceLoad (portDone (writeCell r.cell r.value s)) else portDone (writeCell r.cell r.value s))) := by
  refine (whenOn_on hon : execLoaderWriteComplete s = _).trans ?_
  dsimp only
  rw [hb]

theorem exec_loaderWrite_off (hon : s.power.mainOn = true) (hb : ∀ r live, s.ps.arb.busy ≠ some (.loader r live)) :
    exec .loaderWriteComplete s = .next s := by
  refine (whenOn_on hon : execLoaderWriteComplete s = _).trans ?_
  split
  · rename_i r live hbusy
    exact absurd hbusy (hb r live)
  · rfl

theorem advanceLoad_eq (hj : s.ps.loader = some j) (hh : (profileOf s j.id).header = some h) : advanceLoad s =
    if j.cursor + 1 = h.nodes then loadDone { j with cursor := j.cursor + 1, buffer := j.buffer.drop 1 } h s
    else if (j.buffer.drop 1).isEmpty then readBlock { j with cursor := j.cursor + 1, buffer := j.buffer.drop 1 } s
    else setLoader (some { j with cursor := j.cursor + 1, buffer := j.buffer.drop 1 }) s := by
  unfold advanceLoad
  rw [hj]
  dsimp only
  rw [hh]

/-- A start test after an offer leaves what is written and the state's records. -/
theorem advanceLoad_hold (s : State) : SameButHold s (advanceLoad s) := by
  cases hj : s.ps.loader with
  | none =>
    unfold advanceLoad
    rw [hj]
    rfl
  | some j =>
    cases hh : (profileOf s j.id).header with
    | none =>
      unfold advanceLoad
      rw [hj]
      dsimp only
      rw [hh]
      rfl
    | some h =>
      rw [advanceLoad_eq hj hh]
      (repeat' split)
      · have hdone : ∀ x : State, x.pe = s.pe → SameButHold s (touchStart x) := fun x hx => by
          have := (touchStart_hold x).2
          unfold SameButHold at this ⊢
          rwa [hx] at this
        exact hdone _ (by simp)
      · simp [SameButHold]
      · simp [SameButHold]

theorem advanceLoad_free (s : State) : (advanceLoad s).ps.free = s.ps.free := by
  unfold advanceLoad
  dsimp only
  (repeat' split) <;> simp [loadDone, setLoader, readBlock]

/-- What comes before and after a card's writes leaves them the only ones. -/
theorem WrittenFinal.around {st : CardState} {rc : ResultCode} {fields : List (Nat × List Byte)} (hw : WrittenFinal c st rc fields u v)
    (hbefore : ∀ a, hostByte u a = hostByte s a) (hafter : Spared c v t) (hbytes : ∀ a, hostByte t a = hostByte v a) :
    WrittenFinal c st rc fields s t := by
  obtain ⟨hfinal, hholds, honly⟩ := hw
  exact ⟨hfinal.spared hafter, hholds.spared (by decide) (by rw [area_length]) hafter,
    fun a ha => (hbytes a).trans ((honly a ha).trans (hbefore a))⟩

/-! ## A read that fails (R31) -/

/-- The part once a failed read has stopped the loader. -/
def loadStopped (j : LoadJob) (s : State) : State :=
  stopLoader (setLoader (some { j with reading := false }) (offerFault (.loadReadError j.id j.cursor) s))

theorem exec_loadFails (hon : s.power.mainOn = true) (hi : i = .loadReadError ∨ i = .loadReadTimeout) (hz : s.ps.stale = 0)
    (hj : s.ps.loader = some j) (hr : j.reading = true) : exec i s = .next (touchStart (offerTo .load
      (finalWrite j.card [(136, le 4 j.cursor)] .failed .readError (freeQueued j.id (loadStopped j s))))) := by
  have hexec : exec i s = .next (loadReadFails s) := by
    rcases hi with rfl | rfl
    · exact (whenOn_on hon : execLoadReadError s = _)
    · exact (whenOn_on hon : execLoadReadTimeout s = _)
  rw [hexec, loadReadFails, onLoadRead_reading hz hj hr]
  rfl

theorem loadStopped_ps (j : LoadJob) (s : State) : (loadStopped j s).ps.records = s.ps.records ∧
    (loadStopped j s).ps.free = s.ps.free ∧ (loadStopped j s).ps.loader = none ∧ (loadStopped j s).ps.stale = s.ps.stale ∧
    (loadStopped j s).ps.mem = s.ps.mem := by
  simp [loadStopped, stopLoader, setLoader]

theorem loadStopped_grants (j : LoadJob) (s : State) (id : Nat) : SameGrants id s (loadStopped j s) := by
  refine SameGrants.trans (.of_busy ?_) (stopLoader_grants id _)
  simp [setLoader]

theorem loadStopped_rest (j : LoadJob) (s : State) : (loadStopped j s).spb = s.spb ∧ (loadStopped j s).pe = s.pe ∧
    (loadStopped j s).tc = s.tc ∧ (loadStopped j s).ce = s.ce ∧
    (loadStopped j s).su = (offerFault (.loadReadError j.id j.cursor) s).su ∧
    ∀ a, hostByte (loadStopped j s) a = hostByte s a := by
  refine ⟨by simp [loadStopped], by simp [loadStopped], by simp [loadStopped], by simp [loadStopped], by simp [loadStopped], fun a => ?_⟩
  rw [← hostByte_offerFault (.loadReadError j.id j.cursor) s a]
  simp [hostByte, loadStopped]

/-- The end of a load writes its card, and offers a stalled LOAD card again (R30, R31). -/
theorem loadCard_final {fields : List (Nat × List Byte)} {st : CardState} {rc : ResultCode} (j : LoadJob) (u : State)
    (ht : touchStart (offerTo .load (finalWrite j.card fields st rc u)) = t) :
    WrittenFinal j.card st rc fields u t ∧ t.ce = offeredAgain .load (engineFinal j.card u.ce) ∧ t.ps = u.ps ∧ t.spb = u.spb ∧
      Raises [.cardFinal] u t ∧ (∀ k, Apart [k, j.card] → Spared k u t) ∧ SameButHold u t := by
  have hsame : ∀ k, Spared k (finalWrite j.card fields st rc u) t := fun k => by
    rw [← ht]
    exact (offerTo_spares .load _).trans (.of_same (by simp) (by simp) (by simp))
  have hbytes : ∀ a, hostByte t a = hostByte (finalWrite j.card fields st rc u) a := fun a => by
    rw [← ht]
    simp [hostByte]
  refine ⟨(finalWrite_written j.card fields st rc u).around (fun _ => rfl) (hsame _) hbytes, ?_, ?_, ?_, ?_, fun k hk => ?_, ?_⟩
  · rw [← ht, ← finalWrite_engine j.card fields st rc, ← offerTo_ce]
    simp
  · rw [← ht]
    simp
  · rw [← ht]
    simp
  · rw [← ht]
    exact (finalWrite_raises (by decide) j.card fields st rc u).trans (.of_su (by simp))
  · exact (finalWrite_spares hk fields st rc u).trans (hsame k)
  · have htouch := (touchStart_hold (offerTo .load (finalWrite j.card fields st rc u))).2
    rw [ht] at htouch
    unfold SameButHold at htouch ⊢
    rw [htouch]
    simp

end

/-- Settles O44. -/
theorem loaderReadsAndWrites : Obligations.LoaderReadsAndWrites := by
  refine ⟨fun data i k c _ hk => channel_sourceRecord data hk, fun data s hon => ⟨fun i hi => ⟨fun n hn => ?_, fun hz hno => ?_⟩,
    fun j h hz hj hr hh => ?_⟩, fun s r live hon hwf hb => ?_, fun s hon hb => exec_loaderWrite_off hon hb,
    fun i s j p h hon hi hz hj hr hp hh => ⟨?_, fun hloose => ?_⟩⟩
  · obtain ⟨f, hf⟩ := exec_loadRead hon hi
    rw [hf, onLoadRead_stale hn]
  · obtain ⟨f, hf⟩ := exec_loadRead hon hi
    rw [hf, onLoadRead_off hz hno]
  · refine ⟨_, exec_loadReadComplete data hon hz hj hr hh, by rw [pumpPort_loader]; rfl, ?_, fun hb hf hs hl hpatch he hlt => ?_⟩
    · rw [pumpPort_eq]
      rfl
    · have hpos : 0 < min 64 (h.nodes - j.cursor) := by omega
      obtain ⟨n, hn⟩ := Nat.exists_eq_succ_of_ne_zero (Nat.ne_of_gt hpos)
      obtain ⟨v, hv⟩ : ∃ v, setLoader (some { j with
        buffer := (List.range (min 64 (h.nodes - j.cursor))).map fun i => sourceRecord data i h.channels, reading := false }) s = v :=
        ⟨_, rfl⟩
      have harb : v.ps.arb = s.ps.arb := by rw [← hv]; rfl
      have hnext : nextLoadRequest v = some ⟨j.id, h.base + j.cursor, sourceRecord data 0 h.channels⟩ := by
        have hheader : (profileOf v j.id).header = some h := by rw [← hv]; exact hh
        have hload : v.ps.loader = some { j with
            buffer := sourceRecord data 0 h.channels :: ((List.range n).map Nat.succ).map fun i => sourceRecord data i h.channels,
            reading := false } := by
          rw [← hv, hn, List.range_succ_eq_map]
          rfl
        unfold nextLoadRequest
        rw [hload]
        dsimp only
        rw [hheader]
      have hasked : loadAsked v = some ⟨j.id, h.base + j.cursor, sourceRecord data 0 h.channels⟩ := by
        unfold loadAsked
        rw [if_neg (by simp [harb, hl, loaderAtPort, hb]), hnext]
      rw [hv, pumpPort_asked]
      refine grant_loads (by rw [harb]; exact hb) (shadowAsked_none (by rw [harb, hb]) (by rw [harb, hs]) ?_ ?_) (by rw [harb]; exact hf) hasked
      · rw [← hv]
        exact hpatch
      · rw [← hv]
        exact he
  · obtain ⟨lines, hu⟩ := cellWritten_eq r.cell r.value s
    have hread := fun a => storeRead_storeWrite (m := s.ps.mem) r.cell a (freshCell r.value) hwf
    obtain ⟨u, hname⟩ : ∃ u, portDone (writeCell r.cell r.value s) = u := ⟨_, rfl⟩
    have hmem : u.ps.mem = storeWrite s.ps.mem r.cell (freshCell r.value) := by rw [← hname, hu]
    have hsame : u.ps.loader = s.ps.loader ∧ u.ps.records = s.ps.records ∧ u.ps.free = s.ps.free ∧ u.ports = s.ports ∧ u.su = s.su ∧
        u.ce = s.ce ∧ u.pe = s.pe ∧ u.spb = s.spb ∧ u.tmap = s.tmap ∧ SameBase s u ∧ SameLine s u := by
      rw [← hname, hu]
      exact ⟨rfl, rfl, rfl, rfl, rfl, rfl, rfl, rfl, rfl, ⟨rfl, rfl, rfl, rfl, rfl, rfl, rfl⟩, rfl, rfl, rfl, rfl, rfl⟩
    obtain ⟨hload, hrecords, hfree, hports, hsu, hce, hpe, hspb, htmap, hbase, hline⟩ := hsame
    have hexec := exec_loaderWrite hon hb
    rw [hname] at hexec
    obtain ⟨x, hx⟩ : ∃ x, (if live then advanceLoad u else u) = x := ⟨_, rfl⟩
    have hxframe : x.ps.mem = u.ps.mem ∧ x.ps.free = u.ps.free ∧ x.spb = u.spb ∧ x.tmap = u.tmap ∧ SameBase u x ∧ SameLine u x ∧
        SameButHold u x := by
      rw [← hx]
      split
      · exact ⟨by simp, advanceLoad_free u, by simp, by simp, by simp [SameBase], by simp [SameLine], advanceLoad_hold u⟩
      · exact ⟨rfl, rfl, rfl, rfl, ⟨rfl, rfl, rfl, rfl, rfl, rfl, rfl⟩, ⟨rfl, rfl, rfl, rfl, rfl⟩, rfl⟩
    rw [hx] at hexec
    refine ⟨_, hexec, fun a => ?_, ?_, ?_, ?_, ?_, ?_, ?_, fun hlive => ?_, fun j p h hlive hj hp hh => ⟨fun hlast hmore => ?_,
      fun hlast hmore => ?_, fun hlast => ?_⟩⟩
    · rw [pumpPort_mem, hxframe.1, hmem]
      exact hread a
    · rw [pumpPort_eq, hxframe.2.1, hfree]
    · simp [hxframe.2.2.1, hspb]
    · simp [hxframe.2.2.2.1, htmap]
    · exact (hbase.trans hxframe.2.2.2.2.1).trans (by simp [SameBase])
    · exact (hline.trans hxframe.2.2.2.2.2.1).trans (by simp [SameLine])
    · have hhold := hxframe.2.2.2.2.2.2
      unfold SameButHold at hhold ⊢
      have hpump : (pumpPort x).pe = x.pe := by simp
      rw [hpe] at hhold
      rwa [hpump]
    · have hxu : x = u := by rw [← hx, hlive]; rfl
      rw [hxu]
      simp [hload, hrecords, hports, hsu, hce]
    all_goals
      have hheader : (profileOf u j.id).header = some h := by rw [profileOf_congr hrecords, profileOf_eq hp, hh]
      have hadvance := advanceLoad_eq (hload.trans hj) hheader
      rw [if_pos hlive, hadvance] at hx
    · rw [if_neg hlast, if_neg (by simpa using hmore)] at hx
      rw [← hx]
      simp [setLoader, hrecords, hports, hsu, hce]
    · rw [if_neg hlast, if_pos (by simp [hmore])] at hx
      rw [← hx]
      simp [readBlock, setLoader, emit, loadNodes, hheader, blockLength, hrecords, hports, hsu, hce]
    · rw [if_pos hlast] at hx
      obtain ⟨y, hy⟩ : ∃ y, setLoader none (setProfile j.id (fun r => { r with state := .ready, version := 0 }) u) = y := ⟨_, rfl⟩
      have hyu : y.ce = u.ce ∧ y.su = u.su ∧ y.ports = u.ports ∧ y.ps.loader = none ∧
          y.ps.records = modifyNth u.ps.records (j.id - 1) fun r => { r with state := .ready, version := 0 } := by
        rw [← hy]
        exact ⟨rfl, rfl, rfl, rfl, rfl⟩
      obtain ⟨hyce, hysu, hyports, hyload, hyrecords⟩ := hyu
      have hdone : touchStart (offerTo .load (finalWrite j.card [(128, le 4 h.base), (132, le 4 h.nodes)] .done .ok y)) = x := by
        rw [← hx, ← hy]
        rfl
      obtain ⟨hwritten, hxce, hxps, -, hraises, -⟩ := loadCard_final j y hdone
      have hpump : Spared j.card x (pumpPort x) := .of_same (by simp) (by simp) (by simp)
      refine ⟨by rw [pumpPort_loader, hxps, hyload], ?_, fun n hn => ?_, ?_, ?_, ?_⟩
      · rw [pumpPort_records, hxps, hyrecords, hrecords, modifyNth_getElem?_eq, hp]
        rfl
      · rw [pumpPort_records, hxps, hyrecords, hrecords, modifyNth_getElem?_ne hn]
      · exact hwritten.around (fun a => by simp [hostByte, hyports, hports]) hpump fun a => by simp [hostByte]
      · simp [hxce, hyce, hce]
      · have hrest := hraises.rest
        simp only [pumpPort_frame]
        rw [hrest, hysu, hsu]
  · refine ⟨_, exec_loadFails hon hi hz hj hr, fun hpatch hlo hst hpos hnodup hapart => ?_⟩
    obtain ⟨hcards, hqueue⟩ := apart_cons.mp hapart
    obtain ⟨hrecords, hfree, hload, -, -⟩ := loadStopped_ps j s
    obtain ⟨hspb, hpe, htc, -, -, -⟩ := loadStopped_rest j s
    have hgrants := loadStopped_grants j s j.id
    obtain ⟨u, hu⟩ : ∃ u, loadStopped j s = u := ⟨_, rfl⟩
    have hnoload : NoLoadFor j.id u := hu ▸ stopLoader_noLoad j.id _
    rw [hu] at hrecords hfree hload hspb hpe htc hgrants ⊢
    have hup : u.spb.patch = none := by rw [hspb, hpatch]
    have hfreed := freeQueued_freed hlo (by rw [hrecords, hp]) (by rw [hst]; decide) hh
    obtain ⟨hq1, hq2, hq3⟩ := freeQueued_queue (id := j.id) hup (by rw [hpe]; exact hnodup) (by rw [hpe]; exact hqueue)
    obtain ⟨hquit, -⟩ := freeRecord_quits (id := j.id) (s := failQueuedOf j.id u) hnoload.failAll
    have hvload : (freeQueued j.id u).ps.loader = none := by
      obtain ⟨-, hps, -⟩ := failQueuedOf_record hlo (s := u) (by rw [hrecords, hp]) (by rw [hst]; decide)
      rw [freeQueued, freeRecord_loader, hps, hload]
    have hvquit : Quit j.id (freeQueued j.id u) := hquit
    obtain ⟨v, hv⟩ : ∃ v, freeQueued j.id u = v := ⟨_, rfl⟩
    rw [hv] at hfreed hq1 hq2 hq3 hvload hvquit ⊢
    obtain ⟨⟨hfinal, hholds, -⟩, -, hps, htspb, hraises, hspares, hhold⟩ := loadCard_final (fields := [(136, le 4 j.cursor)])
      (st := .failed) (rc := .readError) j v rfl
    have hmap : ∀ b : List Byte, [(136, b)].map (fun f : Nat × List Byte => (f.1 - 128, f.2)) = [(8, b)] := fun _ => by simp
    rw [hmap] at hholds
    have htfab : (touchStart (offerTo .load (finalWrite j.card [(136, le 4 j.cursor)] .failed .readError v))).tc = v.tc := by simp
    refine ⟨by rw [hps, hvload], ⟨?_, fun q hq hid => ?_, fun n f hf => ?_⟩, ⟨fun h1 h2 => ?_, fun hg => ?_⟩, hfinal, hholds,
      fun e he hid => ?_⟩
    · unfold SameButHold at hhold
      rw [hhold, ← hpe]
      exact hq1
    · rw [hpe] at hq2
      exact (hq2 q hq hid).spared (hspares _ (apart_pair.mpr (apart_pair.mp (hcards _ (List.mem_map_of_mem hq))).symm))
    · rw [htfab, ← hpe]
      exact hq3 n f (by rw [htc]; exact hf)
    · obtain ⟨f1, f2, f3⟩ := hfreed.1 (hgrants.1.trans h1) (hgrants.2.trans h2)
      exact ⟨by rw [hps, f1], by rw [hps, f2, hfree], hraises.stays f3⟩
    · obtain ⟨f1, f2⟩ := hfreed.2 (by rwa [hgrants.1, hgrants.2])
      exact ⟨by rw [hps, f1, hfree], by rw [hps, f2, hpe]⟩
    · rw [htspb] at he
      rw [hps]
      exact hvquit.1 e he hid
  · obtain ⟨hentries, hpatch, h1, h2, hqueue⟩ := hloose
    obtain ⟨hrecords, hfree, hload, hstale, hmem⟩ := loadStopped_ps j s
    obtain ⟨hspb, hpe, htc, hce, hsu, hbytes⟩ := loadStopped_rest j s
    have hgrants := loadStopped_grants j s j.id
    have hexec := exec_loadFails hon hi hz hj hr
    have hbase : SameBase s (loadStopped j s) ∧ SameLine s (loadStopped j s) ∧ (loadStopped j s).nc = s.nc ∧
        (loadStopped j s).tmap = s.tmap := by simp [SameBase, SameLine, loadStopped]
    obtain ⟨u, hu⟩ : ∃ u, loadStopped j s = u := ⟨_, rfl⟩
    rw [hu] at hrecords hfree hload hstale hmem hspb hpe htc hce hsu hbytes hgrants hbase hexec
    have hup : u.spb.patch = none := by rw [hspb, hpatch]
    rw [freeQueued, failQueuedOf_loose (by rw [hpe]; exact hqueue)] at hexec
    obtain ⟨hfreespb, hfreece⟩ := freeRecord_loose (s := u) (id := j.id) (by rw [hspb]; exact hentries) hup
    obtain ⟨hwrites, -, -⟩ := freeRecord_free (id := j.id) hup
    have hgranted : writeGranted j.id u = false := writeGranted_eq_false.mpr ⟨hgrants.1.trans h1, hgrants.2.trans h2⟩
    obtain ⟨hf1, hf2, hf3⟩ := freeRecord_freed hgranted (by rw [hrecords, hp]) hh
    have hne : ∀ n, n ≠ j.id - 1 → (freeRecord j.id u).ps.records[n]? = u.ps.records[n]? := fun n hn => freeRecord_ne hn
    have hvps := freeRecord_ps j.id u
    have hvframe : SameBase u (freeRecord j.id u) ∧ SameLine u (freeRecord j.id u) ∧ (freeRecord j.id u).nc = u.nc ∧
        (freeRecord j.id u).tmap = u.tmap ∧ (freeRecord j.id u).pe = u.pe := by simp [SameBase, SameLine]
    have hvfaults : Raises [.cardFinal, .profileFreed] u (freeRecord j.id u) := freeRecord_raises (by decide) (by decide) _ _
    obtain ⟨v, hv⟩ : ∃ v, freeRecord j.id u = v := ⟨_, rfl⟩
    rw [hv] at hexec hfreespb hfreece hwrites hf1 hf2 hf3 hne hvps hvframe hvfaults
    obtain ⟨hwritten, htce, hps, htspb, hraises, -, hhold⟩ := loadCard_final (fields := [(136, le 4 j.cursor)])
      (st := .failed) (rc := .readError) j v rfl
    refine ⟨_, hexec, by rw [hps, hvps, hload], ⟨by rw [hps, hf1], by rw [hps, hf2, hfree], hraises.stays hf3⟩,
      fun n hn => by rw [hps, hne n hn, hrecords], by rw [hps, hvps, hmem], by rw [hps, hvps, hstale, hz],
      hwritten.around (fun a => (hwrites.bytes a).trans (hbytes a)) (.of_same rfl rfl rfl) fun _ => rfl,
      by rw [htce, hfreece, hce], ?_, by rw [htspb, hfreespb, hspb], by simp [hvframe.2.2.1, hbase.2.2.1],
      by simp [hvframe.2.2.2.1, hbase.2.2.2], ?_, (hbase.1.trans hvframe.1).trans (by simp [SameBase]),
      (hbase.2.1.trans hvframe.2.1).trans (by simp [SameLine])⟩
    · rw [hraises.rest, hvfaults.rest, hsu]
    · unfold SameButHold at hhold ⊢
      rwa [hvframe.2.2.2.2, hpe] at hhold

end Sys2Proof.Machine

end

section

/-! PROOFS. Visibility steps (R48), the end of a job and the abandonment of a line (R78, R80), and the PATCH card that a freeing fails
(R46). -/

namespace Sys2Proof.Machine

/-! ## A visibility step (R48) -/

theorem nodup_eraseDups (l : List Nat) : l.eraseDups.Nodup := by
  match l with
  | [] => simp
  | a :: l =>
    rw [List.eraseDups_cons, List.nodup_cons, List.mem_eraseDups]
    have hlen : (l.filter fun b => !b == a).length ≤ l.length := List.length_filter_le _ l
    exact ⟨by simp, nodup_eraseDups _⟩
termination_by l.length

section
variable {s t u : State} {id n : Nat} {r : ProfileRecord} {c : CurrentCard}

theorem bumpVersions_cons (id : Nat) (ids : List Nat) (s : State) :
    bumpVersions (id :: ids) s = bumpVersions ids (setProfile id (fun r => { r with version := r.version + 1 }) s) := rfl

theorem bumpVersions_eq (ids : List Nat) (s : State) :
    bumpVersions ids s = { s with ps := { s.ps with records := (bumpVersions ids s).ps.records } } := by
  induction ids generalizing s with
  | nil => rfl
  | cons id ids ih =>
    rw [bumpVersions_cons, ih]
    rfl

theorem bumpVersions_records {ids : List Nat} (hnodup : ids.Nodup) (hpos : ∀ id ∈ ids, 1 ≤ id) (hr : s.ps.records[n]? = some r) :
    (bumpVersions ids s).ps.records[n]? = some { r with version := if n + 1 ∈ ids then r.version + 1 else r.version } := by
  induction ids generalizing s r with
  | nil => exact hr.trans (by simp)
  | cons id ids ih =>
    obtain ⟨hid, hids⟩ := List.forall_mem_cons.mp hpos
    obtain ⟨hnot, hrest⟩ := List.nodup_cons.mp hnodup
    rw [bumpVersions_cons]
    by_cases hn : n + 1 = id
    · have hone : (setProfile id (fun r => { r with version := r.version + 1 }) s).ps.records[n]? =
          some { r with version := r.version + 1 } := by
        have hplace : id - 1 = n := by omega
        rw [← hplace]
        exact setProfile_same (by rw [hplace, hr]) _
      rw [ih hrest hids hone, if_neg (by rw [hn]; exact hnot), if_pos (by rw [hn]; exact List.mem_cons_self)]
    · have hsame : (setProfile id (fun r => { r with version := r.version + 1 }) s).ps.records[n]? = some r :=
        (setProfile_ne (by omega) _).trans hr
      rw [ih hrest hids hsame]
      simp only [List.mem_cons, hn, false_or]

/-- A visibility step changes the entries and the records alone. -/
theorem visibilityStep_eq (s : State) : visibilityStep s = { s with
    spb := { s.spb with entries := s.spb.entries.map fun e => { e with visible := true } }
    ps := { s.ps with records := (visibilityStep s).ps.records } } := by
  unfold visibilityStep
  dsimp only
  rw [bumpVersions_eq]

theorem visibilityStep_record (hpos : ∀ e ∈ s.spb.entries, 1 ≤ e.id) (hr : s.ps.records[n]? = some r) :
    (visibilityStep s).ps.records[n]? = some (afterVisibility s (n + 1) r) := by
  have hids : ∀ id ∈ ((s.spb.entries.filter (fun e => !e.visible)).map (·.id)).eraseDups, 1 ≤ id := fun id hid => by
    obtain ⟨e, he, rfl⟩ := List.mem_map.mp (List.mem_eraseDups.mp hid)
    exact hpos e (List.mem_filter.mp he).1
  have hany : n + 1 ∈ ((s.spb.entries.filter (fun e => !e.visible)).map (·.id)).eraseDups ↔
      (s.spb.entries.any fun e => e.id == n + 1 && !e.visible) = true := by
    simp only [List.mem_eraseDups, List.mem_map, List.mem_filter, List.any_eq_true, Bool.and_eq_true, beq_iff_eq]
    constructor
    · rintro ⟨e, ⟨he, hv⟩, hid⟩
      exact ⟨e, he, hid, hv⟩
    · rintro ⟨e, he, hid, hv⟩
      exact ⟨e, ⟨he, hv⟩, hid⟩
  have hbump := bumpVersions_records (n := n) (r := r)
    (s := { s with spb := { s.spb with entries := s.spb.entries.map (fun e => { e with visible := true }) } }) (nodup_eraseDups _) hids hr
  unfold visibilityStep afterVisibility
  dsimp only
  rw [hbump]
  simp only [hany]

/-! ## What a pump leaves -/

theorem pumpPort_ps (s : State) : (pumpPort s).ps = { s.ps with arb := (pumpPort s).ps.arb } := by
  rw [pumpPort_eq]

/-! ## The PATCH card that a freeing fails (R46) -/

/-- The end of the current card sets what the engine keeps for a stalled card back. -/
theorem finishCurrent_ends {fields : List (Nat × List Byte)} {st : CardState} {rc : ResultCode} (hc : s.ce.current = some c) :
    DispatchFinal c st rc fields s (finishCurrent fields st rc s) := by
  have hfin : finishCurrent fields st rc s = endDispatch (finalWrite c.ref fields st rc s) := by simp [finishCurrent, hc]
  have hbytes : ∀ a, hostByte (endDispatch (finalWrite c.ref fields st rc s)) a = hostByte (finalWrite c.ref fields st rc s) a :=
    hostByte_endDispatch _
  have hspared : Spared c.ref (finalWrite c.ref fields st rc s) (endDispatch (finalWrite c.ref fields st rc s)) :=
    ⟨fun a _ => hbytes a, fun he => by simpa [hasEvent] using he, fun r hr => by rwa [endDispatch_ce] at hr⟩
  rw [hfin]
  refine ⟨(finalWrite_written c.ref fields st rc s).around (fun _ => rfl) hspared hbytes, ?_⟩
  have hregs : (finalWrite c.ref fields st rc s).regs = s.regs := by simp
  rw [endDispatch_ce, engineAfter, engineAfter, finalWrite_engine, hregs]
  rfl

/-- What follows the end of a dispatch and writes nothing leaves the card final. -/
theorem DispatchFinal.later {st : CardState} {rc : ResultCode} {fields : List (Nat × List Byte)} (h : DispatchFinal c st rc fields s u)
    (hw : SameWrites u t) (hce : t.ce = u.ce) (hevent : hasEvent u .cardFinal = true → hasEvent t .cardFinal = true) :
    DispatchFinal c st rc fields s t := by
  obtain ⟨hwritten, hengine⟩ := h
  exact ⟨hwritten.around (fun _ => rfl) ⟨fun a _ => hw.bytes a, hevent, fun r hr => by rwa [hce] at hr⟩ hw.bytes, hce.trans hengine⟩

/-- An offer to a stalled card is gone with the end of a dispatch. -/
theorem DispatchFinal.of_offered {st : CardState} {rc : ResultCode} {fields : List (Nat × List Byte)} {k : CardKind}
    (h : DispatchFinal c st rc fields u t) (hce : u.ce = s.ce ∨ u.ce = offeredAgain k s.ce) (hregs : u.regs = s.regs)
    (hbyte : ∀ a, hostByte u a = hostByte s a) : DispatchFinal c st rc fields s t := by
  obtain ⟨⟨hfinal, hholds, honly⟩, hengine⟩ := h
  refine ⟨⟨hfinal, hholds, fun a ha => (honly a ha).trans (hbyte a)⟩, ?_⟩
  rw [hengine, engineAfter, engineAfter, hregs]
  rcases hce with he | he <;> rw [he]
  rfl

theorem discardEntries_ce (id : Nat) (s : State) :
    (discardEntries id s).ce = s.ce ∨ (discardEntries id s).ce = offeredAgain .patch s.ce := by
  rw [discardEntries_eq]
  split
  · exact .inl rfl
  · exact .inr (offerTo_ce .patch _)

/-- A PATCH card past READING fails NOT_READY when its profile is freed (R46). -/
theorem freeRecord_failsPatch {p : PatchJob} (hc : s.ce.current = some c) (hp : s.spb.patch = some p) (hid : p.id = id)
    (hphase : p.phase ≠ .reading) : (freeRecord id s).spb.patch = none ∧
      DispatchFinal c .failed .notReady [(128, le 2 p.cursor)] s (freeRecord id s) := by
  have hpatch : (discardEntries id s).spb.patch = some p := by rw [discardEntries_spb, hp]
  have hfail : failPatchOf id (discardEntries id s) = finishCurrent [(128, le 2 p.cursor)] .failed .notReady
      { discardEntries id s with spb := { (discardEntries id s).spb with patch := none } } := by
    unfold failPatchOf
    rw [hpatch]
    exact if_pos (by simp [hid, hphase])
  have hce := discardEntries_ce id s
  have hcur : (discardEntries id s).ce.current = some c := by rcases hce with he | he <;> rw [he] <;> exact hc
  have hends : DispatchFinal c .failed .notReady [(128, le 2 p.cursor)] s (failPatchOf id (discardEntries id s)) := by
    rw [hfail]
    refine (finishCurrent_ends (c := c)
      (s := { discardEntries id s with spb := { (discardEntries id s).spb with patch := none } }) hcur).of_offered hce ?_ fun a => ?_
    · exact (discardEntries_frame s id).2.2.2.2.1
    · simp [hostByte]
  refine ⟨by rw [freeRecord_spb, hp]; simp [patchKept, hid, hphase], ?_⟩
  rw [freeRecord_eq]
  have hsettled : DispatchFinal c .failed .notReady [(128, le 2 p.cursor)] s (freeSettled id s) := by
    unfold freeSettled
    split
    · exact hends.later (.of_ports (by simp)) (by simp) fun he => by simpa [hasEvent] using he
    · exact hends.later (completeFree_writes _ _) (by simp)
        (completeFree_raises (l := [.profileFreed]) (by decide) _ _).stays
  exact hsettled.later (.of_ports (by simp)) (by simp) fun he => by simpa [hasEvent] using he

/-- The release of the last reference of a RETIRING profile fails the PATCH card that edits it (R37, R46). -/
theorem releaseProfile_failsPatch {p : PatchJob} (hc : s.ce.current = some c) (hp : s.spb.patch = some p) (hid : p.id = id)
    (hphase : p.phase ≠ .reading) (hr : s.ps.records[id - 1]? = some r) (hst : r.state = .retiring) (hrefs : r.refs ≤ 1) :
    (releaseProfile id s).spb.patch = none ∧
      DispatchFinal c .failed .notReady [(128, le 2 p.cursor)] s (releaseProfile id s) := by
  rw [releaseProfile_last hr hst hrefs]
  obtain ⟨hnone, hends⟩ := freeRecord_failsPatch (s := uncounted id s) hc hp hid hphase
  exact ⟨hnone, hends.of_calm rfl rfl fun _ => rfl⟩

/-- An entry that stays when a profile is freed is the one whose drain holds the port. -/
theorem freeRecord_entries : ∀ e ∈ (freeRecord id s).spb.entries, e.id = id →
    ∃ i v, s.ps.arb.busy = some (.shadow (.drain i e.cell v) true) := by
  intro e he hid
  rw [freeRecord_spb] at he
  have hspared := (List.mem_filter.mp he).2
  unfold sparesEntry at hspared
  split at hspared
  · rename_i i cell v hbusy
    rw [hid] at hspared
    obtain rfl : e.cell = cell := by simpa using hspared
    exact ⟨i, v, hbusy⟩
  · simp [hid] at hspared

end

end Sys2Proof.Machine

end

section

/-! PROOFS. A PATCH card, its edit list, and the freeing of its profile (R42, R46). -/

namespace Sys2Proof.Machine

/-! ## The end of a job and the line boundary -/

/-- The engine once its job has ended, before the profile's reference is released (R78). -/
def jobEnded (s : State) : State := { s with pe := { s.pe with
  job := none, state := .idle, read := s.pe.read.map fun r => { r with live := false } } }

/-- The part at a line boundary: the line is placed, the credits set, the entries VISIBLE, and the port granted (R39, R48, R72). -/
def boundary (k : Computation) (s : State) : State :=
  pumpPort (visibilityStep (setJob (placeLine k) (setArb { s.ps.arb with shadowCredit := true, loaderCredit := true } s)))

section
variable {s t u : State} {j : PrintJob} {k : Computation} {c : CurrentCard} {n : Nat} {r : ProfileRecord} {p : PatchJob}

theorem endJob_eq (h : s.pe.job = some j) : endJob s = releaseProfile j.card.profileId (jobEnded s) := by
  unfold endJob
  rw [h]
  rfl

theorem exec_lineBoundary (hon : s.power.mainOn = true) (hj : s.pe.job = some j) (hk : j.comp = some k) (hfill : k.filling = false)
    (hcol : j.card.width ≤ k.column) : exec .lineBoundary s = .next
      (if s.pe.state = .ending then touchStart (endJob (boundary k s)) else fetchRaster (boundary k s)) := by
  have hpe : (boundary k s).pe.state = s.pe.state := by simp [boundary, setJob]
  have hif : (k.filling || decide (k.column < j.card.width)) = false := by simp [hfill, hcol]
  refine (whenOn_on hon : execLineBoundary s = _).trans ?_
  rw [hj]
  dsimp only
  rw [hk]
  dsimp only
  rw [hif, if_neg (by decide)]
  change Host.Outcome.next (if ((boundary k s).pe.state == .ending) = true then touchStart (endJob (boundary k s))
    else fetchRaster (boundary k s)) = _
  rw [hpe]
  simp only [beq_iff_eq]

/-- What a line boundary leaves but for the records and the arbiter. -/
theorem boundary_eq (k : Computation) (s : State) : boundary k s = { s with
    pe := { s.pe with job := s.pe.job.map (placeLine k) }
    spb := { s.spb with entries := s.spb.entries.map fun e => { e with visible := true } }
    ps := { s.ps with records := (boundary k s).ps.records, arb := (boundary k s).ps.arb } } := by
  unfold boundary
  rw [pumpPort_eq, visibilityStep_eq]
  rfl

theorem boundary_record (hpos : ∀ e ∈ s.spb.entries, 1 ≤ e.id) (hr : s.ps.records[n]? = some r) :
    (boundary k s).ps.records[n]? = some (afterVisibility s (n + 1) r) := by
  unfold boundary
  rw [pumpPort_records]
  exact visibilityStep_record
    (s := setJob (placeLine k) (setArb { s.ps.arb with shadowCredit := true, loaderCredit := true } s)) hpos hr

/-- A record's state, header and references are no matter of a visibility step. -/
theorem visibilityStep_kept (hr : s.ps.records[n]? = some r) :
    ∃ v, (visibilityStep s).ps.records[n]? = some { r with version := v } := by
  have hbump : ∀ ids u (r : ProfileRecord), u.ps.records[n]? = some r →
      ∃ v, (bumpVersions ids u).ps.records[n]? = some { r with version := v } := by
    intro ids
    induction ids with
    | nil => exact fun u r hu => ⟨r.version, hu⟩
    | cons id ids ih =>
      intro u r hu
      rw [bumpVersions_cons]
      by_cases hid : n = id - 1
      · obtain ⟨v, hv⟩ := ih (setProfile id (fun r => { r with version := r.version + 1 }) u) { r with version := r.version + 1 }
          (by rw [hid]; exact setProfile_same (by rw [← hid, hu]) _)
        exact ⟨v, hv⟩
      · exact ih _ r ((setProfile_ne hid _).trans hu)
  exact hbump _ _ r hr

theorem boundary_kept (hr : s.ps.records[n]? = some r) : ∃ v, (boundary k s).ps.records[n]? = some { r with version := v } := by
  unfold boundary
  rw [pumpPort_records]
  exact visibilityStep_kept (s := setJob (placeLine k) (setArb { s.ps.arb with shadowCredit := true, loaderCredit := true } s)) hr

/-! ## The card and its list (R42) -/

theorem exec_patch (hd : Dispatching .patch c s) (hp : s.spb.patch = none) : exec .patch s = .next (patchCard c s) := by
  refine (hd.next (f := fun c s => if s.spb.patch.isSome then s else patchCard c s) rfl).trans ?_
  rw [hp]
  rfl

theorem patchCard_badField {off : Nat} (h : patchError c.image = some off) : patchCard c s = failField off s := by
  unfold patchCard
  rw [h]

theorem patchCard_notReady (h : patchError c.image = none) (hr : s.ps.records[leRead c.image 16 1 - 1]? = some r)
    (hst : stateSeen r = .empty ∨ stateSeen r = .loading) : patchCard c s = failCurrent .notReady [] s := by
  unfold patchCard
  rw [h]
  dsimp only
  rw [profileOf_eq hr]
  exact if_pos (by rcases hst with h | h <;> simp [h])

theorem patchCard_reads (h : patchError c.image = none) (hr : s.ps.records[leRead c.image 16 1 - 1]? = some r)
    (hst : stateSeen r = .ready ∨ stateSeen r = .retiring) : patchCard c s =
      emit (.hostRead (leRead c.image 24 8) (16 * leRead c.image 18 2)) (setPatch (some ⟨c.ref, c.noWait, leRead c.image 16 1,
        leRead c.image 18 2, leRead c.image 24 8, .reading, [], 0, false⟩) s) := by
  unfold patchCard
  rw [h]
  dsimp only
  rw [profileOf_eq hr]
  exact if_neg (by rcases hst with h | h <;> simp [h])

section
variable {f : PatchJob → State → State} {i : Instr} {data : List Byte}

theorem onListRead_stale (hn : s.spb.stale = n + 1) : onListRead s f = { s with spb := { s.spb with stale := n } } := by
  unfold onListRead
  rw [if_pos (by omega), hn]
  rfl

theorem onListRead_off (hz : s.spb.stale = 0) (hno : s.spb.patch = none ∨ ∃ p, s.spb.patch = some p ∧ p.phase ≠ .reading) :
    onListRead s f = s := by
  unfold onListRead
  rw [if_neg (by omega)]
  rcases hno with h | ⟨p, h, hp⟩
  · rw [h]
  · rw [h]
    exact if_neg (by simp [hp])

theorem onListRead_reading (hz : s.spb.stale = 0) (hp : s.spb.patch = some p) (hr : p.phase = .reading) : onListRead s f = f p s := by
  unfold onListRead
  rw [if_neg (by omega), hp]
  exact if_pos (by simp [hr])

/-- The three ends of an edit list's read act on a card that is READING (R59). -/
theorem exec_listRead (hon : s.power.mainOn = true)
    (hi : i ∈ [Instr.editListReadComplete data, .patchReadError, .editListReadTimeout]) : ∃ f, exec i s = .next (onListRead s f) := by
  simp only [List.mem_cons, List.not_mem_nil, or_false] at hi
  rcases hi with rfl | rfl | rfl
  · exact ⟨_, (whenOn_on hon : execEditListReadComplete data s = _)⟩
  · exact ⟨_, (whenOn_on hon : execPatchReadError s = _)⟩
  · exact ⟨_, (whenOn_on hon : execEditListReadTimeout s = _)⟩

/-- What an edit list that has been read does, by its first edit in error and the record's state (R42, checks 4 and 5). -/
theorem exec_listComplete (hon : s.power.mainOn = true) (hz : s.spb.stale = 0) (hp : s.spb.patch = some p) (hph : p.phase = .reading) :
    exec (.editListReadComplete data) s = .next
      (match (parseEdits data p.count).findIdx? (editInError (profileOf s p.id)) with
      | some i => failPatch .badField [(128, le 2 i)] s
      | none =>
        match stateSeen (profileOf s p.id), (profileOf s p.id).header with
        | .ready, some _ | .retiring, some _ => setPatch (some { p with phase := .applying, edits := parseEdits data p.count }) s
        | _, _ => failPatch .notReady [] s) := by
  refine (whenOn_on hon : execEditListReadComplete data s = _).trans (congrArg _ ?_)
  exact (onListRead_reading hz hp hph).trans rfl

theorem findIdx?_first {α : Type} {l : List α} {e : α → Bool} {m : Nat} (hm : ∃ x, l[m]? = some x ∧ e x = true)
    (hbefore : ∀ k x, k < m → l[k]? = some x → e x = false) : l.findIdx? e = some m := by
  obtain ⟨x, hx, he⟩ := hm
  obtain ⟨hlt, hget⟩ := List.getElem?_eq_some_iff.mp hx
  refine List.findIdx?_eq_some_iff_getElem.mpr ⟨hlt, by rw [hget]; exact he, fun k hk => ?_⟩
  rw [hbefore k _ hk (List.getElem?_eq_getElem (Nat.lt_trans hk hlt))]
  decide

/-- A PATCH card in hand fails, and leaves the rest of the part. -/
theorem failPatch_fails {rc : ResultCode} {fields : List (Nat × List Byte)} (hd : Dispatching .patch c s) :
    DispatchFinal c .failed rc fields s (failPatch rc fields s) ∧ (failPatch rc fields s).spb = { s.spb with patch := none } ∧
      (failPatch rc fields s).su = raised [.cardFinal] s.su ∧ (failPatch rc fields s).ps = s.ps ∧ (failPatch rc fields s).nc = s.nc ∧
      SameBase s (failPatch rc fields s) ∧ SamePrint s (failPatch rc fields s) ∧ SameLine s (failPatch rc fields s) := by
  have hd' : Dispatching .patch c (setPatch none s) := hd
  obtain ⟨hfinal, hsu, hbase, ⟨hps, hspb, hnc⟩, hprint, hline⟩ := hd'.fails rc fields
  exact ⟨hfinal.of_calm rfl rfl fun _ => rfl, hspb, hsu, hps, hnc, hbase, hprint, hline⟩

theorem exec_listFails (hon : s.power.mainOn = true) (hi : i ∈ [Instr.patchReadError, .editListReadTimeout]) (hz : s.spb.stale = 0)
    (hp : s.spb.patch = some p) (hph : p.phase = .reading) :
    exec i s = .next (failPatch .readError [] (offerFault (.patchReadError p.id) s)) := by
  have hexec : exec i s = .next (listReadFails s) := by
    simp only [List.mem_cons, List.not_mem_nil, or_false] at hi
    rcases hi with rfl | rfl
    · exact (whenOn_on hon : execPatchReadError s = _)
    · exact (whenOn_on hon : execEditListReadTimeout s = _)
  rw [hexec, listReadFails, onListRead_reading hz hp hph]

end

/-- A PATCH card past READING fails at the line boundary that ends its profile's last job (R46, R78). -/
theorem lineBoundary_failsPatch (hc : s.ce.current = some c) (hp : s.spb.patch = some p) (hphase : p.phase ≠ .reading)
    (hr : s.ps.records[p.id - 1]? = some r) (hst : r.state = .retiring) (hrefs : r.refs ≤ 1) (hj : s.pe.job = some j)
    (hid : j.card.profileId = p.id) : (touchStart (endJob (boundary k s))).spb.patch = none ∧
      DispatchFinal c .failed .notReady [(128, le 2 p.cursor)] s (touchStart (endJob (boundary k s))) := by
  obtain ⟨v, hv⟩ := boundary_kept (k := k) hr
  have heq := boundary_eq k s
  obtain ⟨b, hb⟩ : ∃ b, boundary k s = b := ⟨_, rfl⟩
  rw [hb] at heq hv ⊢
  have hjob : b.pe.job = some (placeLine k j) := by
    rw [heq]
    simp [hj]
  have hcur : b.ce.current = some c := by rw [heq]; exact hc
  have hpatch : b.spb.patch = some p := by rw [heq]; exact hp
  have hname : (placeLine k j).card.profileId = p.id := hid
  obtain ⟨hnone, hends⟩ := releaseProfile_failsPatch (s := jobEnded b) (id := p.id) hcur hpatch rfl hphase hv hst hrefs
  rw [endJob_eq hjob, hname]
  refine ⟨by simp [hnone], dispatchFinal_touchStart (hends.of_calm ?_ ?_ fun a => ?_)⟩
  · rw [heq]
    rfl
  · rw [heq]
    rfl
  · rw [heq]
    rfl

end

/-- Settles O46. -/
theorem patchCardAndItsList : Obligations.PatchCardAndItsList := by
  refine ⟨fun c s hd hp => ⟨fun off hoff => ?_, fun id r hok hid hr => ⟨fun hst => ?_, fun hst hfr => ?_⟩⟩, fun b => ?_, fun b off => ?_,
    fun h e => ?_, fun s data hon => ⟨fun i hi => ⟨fun n hn => ?_, fun hz hno => ?_⟩, fun c p hz hp hph hd =>
      ⟨fun h hst hh => ⟨fun hall => ?_, fun n hm hbefore => ?_⟩, fun hst => ⟨fun hall => ?_, fun n hm hbefore => ?_⟩, fun i hi => ?_⟩⟩,
    fun s c p r h hc hk hp hcard hph hlo hr hst hrefs hh => ⟨?_, fun j k hon hend hj hid hcomp hfill hcol => ?_⟩⟩
  · rw [exec_patch hd hp, patchCard_badField hoff]
    exact ⟨_, rfl, failField_fails off hd⟩
  · subst hid
    have hseen : stateSeen r = .empty ∨ stateSeen r = .loading := by
      unfold stateSeen
      cases hf : r.freeing <;> simp_all
    rw [exec_patch hd hp, patchCard_notReady hok hr hseen]
    exact ⟨_, rfl, hd.fails .notReady []⟩
  · subst hid
    rw [exec_patch hd hp, patchCard_reads hok hr (by rw [stateSeen_kept hfr]; exact hst)]
    rfl
  · obtain ⟨l, hl, hdec⟩ := patchError_decides b
    rw [hl, hdec.none]
    simp
  · obtain ⟨l, hl, hdec⟩ := patchError_decides b
    rw [hl]
    exact hdec.firstError
  · simp [editOk, and_assoc]
  · obtain ⟨f, hf⟩ := exec_listRead hon hi
    rw [hf, onListRead_stale hn]
  · obtain ⟨f, hf⟩ := exec_listRead hon hi
    rw [hf, onListRead_off hz hno]
  · have hne : stateSeen (profileOf s p.id) ≠ .empty := by rcases hst with h | h <;> rw [h] <;> decide
    have hfind : (parseEdits data p.count).findIdx? (editInError (profileOf s p.id)) = none := by
      refine List.findIdx?_eq_none_iff.mpr fun e he => ?_
      rw [(editInError_eq _ e).2 h hne hh, hall e he]
      rfl
    rw [exec_listComplete hon hz hp hph, hfind, hh]
    rcases hst with h | h <;> rw [h] <;> rfl
  · have hne : stateSeen (profileOf s p.id) ≠ .empty := by rcases hst with h | h <;> rw [h] <;> decide
    have hfind : (parseEdits data p.count).findIdx? (editInError (profileOf s p.id)) = some n := by
      obtain ⟨e, he, hbad⟩ := hm
      refine findIdx?_first ⟨e, he, by rw [(editInError_eq _ e).2 h hne hh, hbad]; rfl⟩ fun m x hlt hx => ?_
      rw [(editInError_eq _ x).2 h hne hh, hbefore m x hlt hx]
      rfl
    rw [exec_listComplete hon hz hp hph, hfind]
    exact ⟨_, rfl, failPatch_fails hd⟩
  · have hfind : (parseEdits data p.count).findIdx? (editInError (profileOf s p.id)) = none := by
      refine List.findIdx?_eq_none_iff.mpr fun e he => ?_
      rw [(editInError_eq _ e).1 hst]
      simpa using hall e he
    rw [exec_listComplete hon hz hp hph, hfind, hst]
    obtain ⟨h1, h2, -, h3⟩ := failPatch_fails (rc := .notReady) (fields := []) hd
    exact ⟨_, rfl, h1, h2, h3⟩
  · have hfind : (parseEdits data p.count).findIdx? (editInError (profileOf s p.id)) = some n := by
      obtain ⟨e, he, hbad⟩ := hm
      refine findIdx?_first ⟨e, he, by rw [(editInError_eq _ e).1 hst]; simp [hbad]⟩ fun m x hlt hx => ?_
      rw [(editInError_eq _ x).1 hst]
      simpa using hbefore m x hlt hx
    rw [exec_listComplete hon hz hp hph, hfind]
    obtain ⟨h1, h2, -, h3⟩ := failPatch_fails (rc := .badField) (fields := [(128, le 2 n)]) hd
    exact ⟨_, rfl, h1, h2, h3⟩
  · have hframe : (offerFault (.patchReadError p.id) s).spb = s.spb ∧ (offerFault (.patchReadError p.id) s).ps = s.ps ∧
        (offerFault (.patchReadError p.id) s).nc = s.nc ∧ (offerFault (.patchReadError p.id) s).ce = s.ce ∧
        (offerFault (.patchReadError p.id) s).regs = s.regs ∧ SameBase s (offerFault (.patchReadError p.id) s) ∧
        SamePrint s (offerFault (.patchReadError p.id) s) ∧ SameLine s (offerFault (.patchReadError p.id) s) := by
      simp [SameBase, SamePrint, SameLine]
    obtain ⟨fspb, fps, fnc, fce, fregs, fbase, fprint, fline⟩ := hframe
    have hd' : Dispatching .patch c (offerFault (.patchReadError p.id) s) := by
      unfold Dispatching
      rw [fce, fbase.2.2.1]
      exact hd
    obtain ⟨hfinal, hspb, hsu, hps, hnc, hbase, hprint, hline⟩ := failPatch_fails (rc := .readError) (fields := []) hd'
    refine ⟨_, exec_listFails hon hi hz hp hph, hfinal.of_calm fce fregs (hostByte_offerFault _ s), by rw [hspb, fspb], hsu, by rw [hps, fps],
      by rw [hnc, fnc], fbase.trans hbase, fprint.trans hprint, fline.trans hline⟩
  · obtain ⟨hnone, hends⟩ := releaseProfile_failsPatch hc hp rfl hph hr hst (by omega)
    have hsame : (uncounted p.id s).ps.records[p.id - 1]? = some { r with refs := r.refs - 1 } := setProfile_same hr _
    have hlast := releaseProfile_last hr hst (Nat.le_of_eq hrefs)
    refine ⟨hnone, hends, fun h1 h2 => ?_, fun hg => ?_, ?_⟩
    · rw [hlast]
      exact freeRecord_freed (s := uncounted p.id s) (writeGranted_eq_false.mpr ⟨h1, h2⟩) hsame hh
    · obtain ⟨hfree, hrecords⟩ := freeRecord_waits (s := uncounted p.id s) (writeGranted_eq_true.mpr hg)
      rw [hlast]
      refine ⟨hfree, ?_⟩
      rw [hrecords, modifyNth_getElem?_eq, hsame, hrefs]
      rfl
    · rw [hlast]
      exact freeRecord_entries (s := uncounted p.id s)
  · obtain ⟨hnone, hends⟩ := lineBoundary_failsPatch (k := k) hc hp hph hr hst (by omega) hj hid
    refine ⟨_, (exec_lineBoundary hon hj hcomp hfill hcol).trans (congrArg _ (if_pos hend)), hnone, hends⟩

end Sys2Proof.Machine

end

section

/-! PROOFS. The raster window, print end with its PRINTED write, and the end of a job (R70, R78, R79). -/

namespace Sys2Proof.Machine

section
variable {s t u : State} {j : PrintJob} {c : CardRef} {g : Segment} {n : Nat} {p : ProfileRecord} {h : ProfileHeader}

/-! ## The raster fetch (R70) -/

/-- A fetch trims the window, and changes else at most the read in flight and the trace. -/
theorem fetchRaster_eq (s : State) : fetchRaster s = { s with
    pe := { s.pe with job := s.pe.job.map trimWindow, read := (fetchRaster s).pe.read }, ports := (fetchRaster s).ports } := by
  unfold fetchRaster
  dsimp only [setJob]
  (repeat' split) <;> rfl

theorem fetchRaster_bytes (s : State) (a : Nat) : hostByte (fetchRaster s) a = hostByte s a := by
  unfold fetchRaster emit setJob hostByte
  dsimp only
  (repeat' split) <;> rfl

/-- The next read is issued while none is in flight and the window has room (R70). -/
theorem fetchRaster_reads {line : Nat} (hj : s.pe.job = some j) (hr : s.pe.read = none) (hst : s.pe.state = .printing)
    (hn : nextRaster (trimWindow j) = some line) : (fetchRaster s).pe.read = some ⟨line, true⟩ ∧
      (fetchRaster s).ports = .hostRead (j.card.raster + line * j.card.stride) (3 * j.card.width) :: s.ports := by
  unfold fetchRaster
  dsimp only [setJob]
  rw [hj, hr, hst]
  dsimp only [Option.map_some]
  rw [hn]
  exact ⟨rfl, rfl⟩

theorem fetchRaster_waits (hj : s.pe.job = some j)
    (hno : s.pe.read ≠ none ∨ s.pe.state ≠ .printing ∨ nextRaster (trimWindow j) = none) :
    (fetchRaster s).pe.read = s.pe.read ∧ (fetchRaster s).ports = s.ports := by
  unfold fetchRaster
  dsimp only [setJob]
  rw [hj]
  dsimp only [Option.map_some]
  split
  · rename_i j' hjob hr hst
    rcases hno with h | h | h
    · exact absurd hr h
    · exact absurd hst h
    · rw [← Option.some.inj hjob, h]
      exact ⟨rfl, rfl⟩
  · exact ⟨rfl, rfl⟩

/-! ## The PRINTED write (R79) -/

theorem PrintedCard.congr {pitch lines : Nat} (hp : PrintedCard s c pitch lines g) (hb : ∀ a, hostByte t a = hostByte s a) :
    PrintedCard t c pitch lines g := by
  unfold PrintedCard HostHolds at *
  simp only [hb]
  exact hp

/-- The PRINTED write of a strip's card, whose print has ended after a number of lines. -/
theorem writePrinted_printed {lines e : Nat} (hc : g.card = some c) (he : g.endAt = some e)
    (hlines : (e - g.start) / pitchOf s = lines) : PrintedCard (writePrinted g s) c (pitchOf s) lines g := by
  have hfit : ∀ f ∈ commonFields (pitchOf s) g ++ firstFields (pitchOf s) g, 128 ≤ f.1 ∧ f.1 + f.2.length ≤ 128 + 72 := by
    simp [commonFields, firstFields, versionField]
  have hapart : (commonFields (pitchOf s) g ++ firstFields (pitchOf s) g).Pairwise FieldsApart := by
    simp [commonFields, firstFields, FieldsApart, versionField]
  obtain ⟨l, hl⟩ : ∃ l, commonFields (pitchOf s) g ++ firstFields (pitchOf s) g = l := ⟨_, rfl⟩
  rw [hl] at hfit hapart
  obtain ⟨u, hu⟩ : ∃ u, postWrite (cellsAt (c.addr + 128) (area 72 (l.map fun f => (f.1 - 128, f.2)))) s = u := ⟨_, rfl⟩
  have hholds : HostHolds u (c.addr + 128) (area 72 (l.map fun f => (f.1 - 128, f.2))) := hu ▸ postWrite_cellsAt_holds _ _ s
  have heq : writePrinted g s = writeHeader c.addr .printed .ok u := by
    unfold writePrinted
    rw [hc]
    dsimp only
    rw [hl, hu]
  have hfield : ∀ f ∈ l, HostHolds (writePrinted g s) (c.addr + f.1) f.2 := by
    intro f hf
    have hin := hfit f hf
    have hplace := hholds.of_holds (area_field (n := 72) (lo := 128) hfit hapart hf)
    rw [show c.addr + 128 + (f.1 - 128) = c.addr + f.1 by omega] at hplace
    rw [heq]
    exact hplace.congr fun a hlo _ => hostByte_writeHeader_else _ _ _ _ a (by omega) (by omega)
  have hfirst : ∀ f ∈ firstFields (pitchOf s) g, HostHolds (writePrinted g s) (c.addr + f.1) f.2 := fun f hf =>
    hfield f (hl ▸ List.mem_append_right _ hf)
  have hcommon : ∀ f ∈ commonFields (pitchOf s) g, HostHolds (writePrinted g s) (c.addr + f.1) f.2 := fun f hf =>
    hfield f (hl ▸ List.mem_append_left _ hf)
  obtain ⟨hstate, hcode⟩ := hostByte_writeHeader c.addr .printed .ok u
  rw [← heq] at hstate hcode
  simp only [commonFields, List.forall_mem_cons] at hcommon
  simp only [firstFields, List.forall_mem_cons] at hfirst
  obtain ⟨f128, f134, f188, f189, f192, f194, f196, f198, f199, -⟩ := hcommon
  obtain ⟨f137, f140, f142, f144, f146, f147, f148, f164, -⟩ := hfirst
  rw [he, Option.map_some, hlines] at f134
  exact ⟨hstate, hcode, f128, f134, f137, f140, f142, f144, f146, f147, f148, f164, f188, f189, f192, f194, f196, f198, f199 0 _ rfl⟩

/-- A strip's entry after a change that keeps its start. -/
theorem find?_updated {l : List Segment} {start : Nat} {f : Segment → Segment} (hf : ∀ g, (f g).start = g.start)
    (hg : (l.map fun g => if g.start = start then f g else g).find? (fun g => g.start == start) = some g) :
    ∃ x, l.find? (fun g => g.start == start) = some x ∧ g = f x := by
  induction l with
  | nil => cases hg
  | cons x l ih =>
    rw [List.map_cons] at hg
    by_cases hx : x.start = start
    · have hfx : (f x).start = start := (hf x).trans hx
      rw [if_pos hx, List.find?_cons_of_pos (by simp [hfx])] at hg
      exact ⟨x, by rw [List.find?_cons_of_pos (by simp [hx])], (Option.some.inj hg).symm⟩
    · rw [if_neg hx, List.find?_cons_of_neg (by simpa using hx)] at hg
      rw [List.find?_cons_of_neg (by simpa using hx)]
      exact ih hg

/-- Print end changes the strip's end coordinate and the trace alone (R5, R79). -/
theorem endPrint_eq (hj : s.pe.job = some j) : endPrint s = { s with
    tmap := ⟨s.tmap.segs.map (fun g => if g.start = j.start then { g with endAt := some (g.start + max 1 j.fallen * pitchOf s) } else g),
      s.tmap.joints⟩
    ports := (endPrint s).ports } := by
  have hset : setPrintEnd s = updateSeg j.start (fun g => { g with endAt := some (g.start + max 1 j.fallen * pitchOf s) }) s := by
    unfold setPrintEnd
    rw [hj]
  have hwrite : ∀ (g : Segment) (u : State), writePrinted g u = { u with ports := (writePrinted g u).ports } := fun g u => by
    unfold writePrinted
    split <;> rfl
  have hjob : (updateSeg j.start (fun g => { g with endAt := some (g.start + max 1 j.fallen * pitchOf s) }) s).pe.job = some j := hj
  unfold endPrint
  rw [hset]
  dsimp only
  rw [hjob]
  dsimp only
  split
  · rw [hwrite]
    rfl
  · rfl

/-- The strip's card is written PRINTED at print end, with the lines that fell due (R79). -/
theorem endPrint_printed (hj : s.pe.job = some j) (hp : 0 < pitchOf s)
    (hg : (endPrint s).tmap.segs.find? (fun g => g.start == j.start) = some g) (hc : g.card = some c) :
    PrintedCard (endPrint s) c (pitchOf s) (max 1 j.fallen) g := by
  rw [endPrint_eq hj] at hg
  obtain ⟨x, -, hx⟩ := find?_updated (f := fun g => { g with endAt := some (g.start + max 1 j.fallen * pitchOf s) }) (fun _ => rfl) hg
  have hset : setPrintEnd s = updateSeg j.start (fun g => { g with endAt := some (g.start + max 1 j.fallen * pitchOf s) }) s := by
    unfold setPrintEnd
    rw [hj]
  have hjob : (setPrintEnd s).pe.job = some j := by rw [hset]; exact hj
  have hseg : segAt (setPrintEnd s) j.start = some g := by rw [hset]; exact hg
  have heq : endPrint s = writePrinted g (setPrintEnd s) := by
    unfold endPrint
    dsimp only
    rw [hjob]
    dsimp only
    rw [hseg]
  have hpitch : pitchOf (setPrintEnd s) = pitchOf s := by rw [hset]; rfl
  have hprinted := writePrinted_printed (s := setPrintEnd s) (lines := max 1 j.fallen) hc
    (e := g.start + max 1 j.fallen * pitchOf s) (by rw [hx])
    (by rw [hpitch, Nat.add_sub_cancel_left, Nat.mul_div_cancel _ hp])
  rwa [hpitch, ← heq] at hprinted

/-! ## The end of a job (R78) -/

/-- The end of a job whose profile keeps a reference, or is not RETIRING, changes the count alone. -/
theorem endJob_kept (hj : s.pe.job = some j) (h : NotFreed j.card.profileId s) :
    endJob s = uncounted j.card.profileId (jobEnded s) := by
  rw [endJob_eq hj]
  exact releaseProfile_kept (s := jobEnded s) h

/-- The end of the job that holds a RETIRING profile's last reference frees the profile (R37, R78). -/
theorem endJob_released (hj : s.pe.job = some j) (hr : s.ps.records[j.card.profileId - 1]? = some p) (hst : p.state = .retiring)
    (hrefs : p.refs ≤ 1) (hh : p.header = some h) (hload : NoLoadFor j.card.profileId s) :
    Released j.card.profileId p (endJob s) ∧ ExtentAtRelease j.card.profileId h s (endJob s) := by
  rw [endJob_eq hj]
  exact releaseProfile_released (s := jobEnded s) hr hst hrefs hh hload

/-- The end of a job writes nothing into host memory but a PATCH card that it fails. -/
theorem endJob_bytes (h : s.pe.job = some j) (hno : (profileOf s j.card.profileId).state ≠ .retiring ∨ s.spb.patch = none) (a : Nat) :
    hostByte (endJob s) a = hostByte s a := by
  rcases hno with hst | hp
  · rw [endJob_kept h (.inl hst)]
    rfl
  · rw [endJob_eq h]
    exact (releaseProfile_free (s := jobEnded s) hp).1.bytes a

/-- A start test leaves a released profile released. -/
theorem Released.touched (h : Released n p s) : Released n p (touchStart s) :=
  h.later (h.2.congr (by simp) (by simp) (by simp)) (.of_busy (by simp)) (by simp) fun he => by simpa [hasEvent] using he

theorem ExtentAtRelease.touched (he : ExtentAtRelease n h s t) : ExtentAtRelease n h s (touchStart t) := by
  obtain ⟨h1, h2⟩ := he
  have hb : (touchStart t).ps.arb.busy = t.ps.arb.busy := by simp
  have hf : (touchStart t).ps.free = t.ps.free := by simp
  exact ⟨fun a b => hf.trans (h1 ((drainGranted_congr hb).symm.trans a) ((loadWriteGranted_congr hb).symm.trans b)),
    fun hg => hf.trans (h2 (by rwa [drainGranted_congr hb, loadWriteGranted_congr hb] at hg))⟩

end

end Sys2Proof.Machine

end

section

/-! PROOFS. The line boundary (R72, R39, R48, R78). -/

namespace Sys2Proof.Machine

section
variable {s t u : State} {j : PrintJob} {k : Computation} {n : Nat} {r : ProfileRecord} {h : ProfileHeader}

/-- The part at a line boundary, with the line placed and both credits set. -/
def credited (k : Computation) (s : State) : State :=
  setJob (placeLine k) (setArb { s.ps.arb with shadowCredit := true, loaderCredit := true } s)

/-- The shadow requester's request at a line boundary: what it holds, or the drain of the first entry, all of which are VISIBLE now. -/
def boundaryRequest (k : Computation) (s : State) : Option ShadowRequest :=
  shadowAsked (visibilityStep (credited k s))

/-- The loader's request at a line boundary. -/
def boundaryLoad (k : Computation) (s : State) : Option LoadRequest :=
  loadAsked (visibilityStep (credited k s))

/-- The arbiter of a line boundary before the grant. -/
def boundaryArb (k : Computation) (s : State) : Arbiter :=
  { s.ps.arb with shadowReq := boundaryRequest k s, loaderReq := boundaryLoad k s, shadowCredit := true, loaderCredit := true }

/-- Both credits are set before the port is granted (R39). -/
theorem boundary_arb (k : Computation) (s : State) : (boundary k s).ps.arb = grant (boundaryArb k s) := by
  have harb : ∀ u, (visibilityStep u).ps.arb = u.ps.arb := fun u => by rw [visibilityStep_eq]
  unfold boundary
  rw [pumpPort_asked, harb]
  rfl

theorem boundaryRequest_held {w : ShadowRequest} (hs : s.ps.arb.shadowReq = some w) : boundaryRequest k s = some w := by
  unfold boundaryRequest shadowAsked
  rw [visibilityStep_eq]
  exact (if_pos (by simp [credited, setJob, setArb, hs])).trans hs

theorem boundaryRequest_next (hb : s.ps.arb.busy = none) (hs : s.ps.arb.shadowReq = none) :
    (∀ e rest, s.spb.entries = e :: rest → boundaryRequest k s = some (.drain e.id e.cell e.value)) ∧
      (s.spb.entries = [] → s.spb.patch = none → boundaryRequest k s = none) := by
  have hno : ¬((visibilityStep (credited k s)).ps.arb.shadowReq.isSome
      || shadowAtPort (visibilityStep (credited k s)).ps.arb) =
      true := by
    rw [visibilityStep_eq]
    simp [credited, setJob, setArb, hs, hb, shadowAtPort]
  unfold boundaryRequest shadowAsked
  rw [if_neg hno]
  unfold nextShadowRequest
  rw [visibilityStep_eq]
  refine ⟨fun e rest he => ?_, fun he hp => ?_⟩
  · dsimp only [credited, setJob, setArb]
    rw [he]
    rfl
  · dsimp only [credited, setJob, setArb]
    rw [he, hp]
    rfl

theorem boundaryLoad_held {w : LoadRequest} (hl : s.ps.arb.loaderReq = some w) : boundaryLoad k s = some w := by
  unfold boundaryLoad loadAsked
  rw [visibilityStep_eq]
  exact (if_pos (by simp [credited, setJob, setArb, hl])).trans hl

/-- An IDLE loader asks for nothing. -/
theorem loadAsked_idle (hl : s.ps.arb.loaderReq = none) (hload : s.ps.loader = none) : loadAsked s = none := by
  have hnext : nextLoadRequest s = none := by
    unfold nextLoadRequest
    rw [hload]
  unfold loadAsked
  rw [hl, hnext, ite_self]

theorem boundaryLoad_quiet (hl : s.ps.arb.loaderReq = none) (hload : s.ps.loader = none) : boundaryLoad k s = none :=
  loadAsked_idle (by rw [visibilityStep_eq]; exact hl) (by rw [visibilityStep_eq]; exact hload)

/-- Who takes the port at a line boundary, by the credits just set (R39). -/
theorem boundary_grants (k : Computation) (s : State) :
    (∀ b, s.ps.arb.busy = some b → (boundary k s).ps.arb.busy = some b ∧ (boundary k s).ps.arb.shadowCredit = true ∧
      (boundary k s).ps.arb.loaderCredit = true) ∧
    (s.ps.arb.busy = none →
      (∀ w, s.ps.arb.shadowReq = some w → (boundary k s).ps.arb.busy = some (.shadow w true) ∧ (boundary k s).ps.arb.shadowReq = none ∧
        (boundary k s).ps.arb.shadowCredit = false ∧ (boundary k s).ps.arb.loaderCredit = true) ∧
      (∀ e rest, s.ps.arb.shadowReq = none → s.spb.entries = e :: rest →
        (boundary k s).ps.arb.busy = some (.shadow (.drain e.id e.cell e.value) true) ∧ (boundary k s).ps.arb.shadowCredit = false ∧
        (boundary k s).ps.arb.loaderCredit = true) ∧
      (∀ w, s.ps.arb.shadowReq = none → s.spb.entries = [] → s.spb.patch = none → s.ps.arb.loaderReq = some w →
        (boundary k s).ps.arb.busy = some (.loader w true) ∧ (boundary k s).ps.arb.shadowCredit = true ∧
        (boundary k s).ps.arb.loaderCredit = false)) := by
  rw [boundary_arb]
  refine ⟨fun b hb => ?_, fun hb => ⟨fun w hw => ?_, fun e rest hs he => ?_, fun w hs he hp hw => ?_⟩⟩
  · rw [grant_busy (a := boundaryArb k s) (by simp [boundaryArb, hb])]
    exact ⟨hb, rfl, rfl⟩
  · rw [grant_shadowCredit (a := boundaryArb k s) hb (boundaryRequest_held hw) rfl]
    exact ⟨rfl, rfl, rfl, rfl⟩
  · rw [grant_shadowCredit (a := boundaryArb k s) hb ((boundaryRequest_next hb hs).1 e rest he) rfl]
    exact ⟨rfl, rfl, rfl⟩
  · rw [grant_loaderCredit (a := boundaryArb k s) hb (boundaryLoad_held hw) rfl (.inl ((boundaryRequest_next hb hs).2 he hp))]
    exact ⟨rfl, rfl, rfl⟩

/-- With nothing to grant, both credits stand. -/
theorem boundary_quiet (hq : PortQuiet s) (he : s.spb.entries = []) : (boundary k s).ps.arb = ⟨none, none, none, none, true, true⟩ := by
  obtain ⟨hb, hf, hs, hl, -, hp, hload⟩ := hq
  have harb : boundaryArb k s = ⟨none, none, none, none, true, true⟩ := by
    rw [boundaryArb, (boundaryRequest_next hb hs).2 he hp, boundaryLoad_quiet hl hload, hb, hf]
  rw [boundary_arb, harb, grant_quiet rfl rfl rfl]

/-- A visibility step leaves a profile's state and references. -/
theorem visibilityStep_profile (id : Nat) (s : State) : (profileOf (visibilityStep s) id).state = (profileOf s id).state ∧
    (profileOf (visibilityStep s) id).refs = (profileOf s id).refs := by
  have hlen : ∀ ids u, (bumpVersions ids u).ps.records.length = u.ps.records.length := fun ids u => by
    unfold bumpVersions
    exact foldl_keeps (fun s => s.ps.records.length) _ (fun s id => by simp [setProfile, modifyNth_eq_modify]) ids u
  cases hr : s.ps.records[id - 1]? with
  | some r =>
    obtain ⟨v, hv⟩ := visibilityStep_kept hr
    rw [profileOf_eq hr, profileOf_eq hv]
    exact ⟨rfl, rfl⟩
  | none =>
    have hnone : (visibilityStep s).ps.records[id - 1]? = none := by
      rw [List.getElem?_eq_none_iff] at hr ⊢
      unfold visibilityStep
      dsimp only
      rw [hlen]
      exact hr
    simp [profileOf, nth, hnone, hr]

/-- What decides a freeing is the profile's state and references. -/
theorem NotFreed.congr {id : Nat} (h : NotFreed id s) (hst : (profileOf t id).state = (profileOf s id).state)
    (hrefs : (profileOf t id).refs = (profileOf s id).refs) : NotFreed id t := by
  unfold NotFreed
  rwa [hst, hrefs]

theorem boundary_profile (id : Nat) (k : Computation) (s : State) : (profileOf (boundary k s) id).state = (profileOf s id).state ∧
    (profileOf (boundary k s) id).refs = (profileOf s id).refs := by
  have hpump : ∀ u, profileOf (pumpPort u) id = profileOf u id := fun u => by
    unfold profileOf
    rw [pumpPort_records]
  unfold boundary
  rw [hpump]
  exact visibilityStep_profile id _

theorem boundary_notFreed {id : Nat} (hno : NotFreed id s) : NotFreed id (boundary k s) := by
  obtain ⟨hst, hrefs⟩ := boundary_profile id k s
  exact hno.congr hst hrefs

theorem boundary_noLoad {id : Nat} (hl : NoLoadFor id s) : NoLoadFor id (boundary k s) := by
  unfold boundary
  exact NoLoadFor.pump (hl.congr (by rw [visibilityStep_eq]; rfl) (by rw [visibilityStep_eq]; rfl))

/-- What a line boundary in ENDING leaves once its job has ended (R78). -/
theorem boundary_jobEnded (hj : s.pe.job = some j) : ∃ q, (boundary k s).pe.job = some q ∧ q.card = j.card := by
  refine ⟨placeLine k j, ?_, rfl⟩
  rw [boundary_eq, hj]
  rfl

theorem exec_lineBoundary_off (hon : s.power.mainOn = true) (h : s.pe.job = none ∨ (∃ j, s.pe.job = some j ∧ (j.comp = none ∨ ∃ c,
    j.comp = some c ∧ (c.filling = true ∨ c.column < j.card.width)))) : exec .lineBoundary s = .next s := by
  refine (whenOn_on hon : execLineBoundary s = _).trans ?_
  rcases h with h | ⟨j, hj, h | ⟨c, hc, h⟩⟩
  · rw [h]
  · rw [hj]
    dsimp only
    rw [h]
  · rw [hj]
    dsimp only
    rw [hc]
    exact congrArg _ (if_pos (by rcases h with h | h <;> simp [h]))

/-! ## The end of a job -/

theorem uncounted_record (id : Nat) (hr : s.ps.records[n]? = some r) : (uncounted id s).ps.records[n]? = some { r with
    refs := if n = id - 1 then r.refs - 1 else r.refs } := by
  by_cases hn : n = id - 1
  · rw [if_pos hn, hn]
    exact setProfile_same (hn ▸ hr) _
  · rw [if_neg hn, uncounted_ne hn, hr]

theorem endJob_pe (hj : s.pe.job = some j) : (endJob s).pe = (jobEnded s).pe := by
  rw [endJob_eq hj, (releaseProfile_frame (jobEnded s) j.card.profileId).2.2.2.2.2.2.2.2.2.2.1]

/-- The end of a job brings no entry into the shadow buffer. -/
theorem endJob_entries (hj : s.pe.job = some j) : ∀ e ∈ (endJob s).spb.entries, e ∈ s.spb.entries := by
  intro e he
  rw [endJob_eq hj] at he
  rcases releaseProfile_cases j.card.profileId (jobEnded s) with h | h
  · rw [h] at he
    exact he
  · rw [h, freeRecord_spb] at he
    exact (List.mem_filter.mp he).1

/-! ## The line boundary -/

theorem exec_boundaryPrinting (hon : s.power.mainOn = true) (hj : s.pe.job = some j) (hk : j.comp = some k) (hfill : k.filling = false)
    (hcol : j.card.width ≤ k.column) (hst : s.pe.state = .printing) :
    exec .lineBoundary s = .next (fetchRaster (boundary k s)) := by
  rw [exec_lineBoundary hon hj hk hfill hcol, if_neg (by rw [hst]; decide)]

theorem exec_boundaryEnding (hon : s.power.mainOn = true) (hj : s.pe.job = some j) (hk : j.comp = some k) (hfill : k.filling = false)
    (hcol : j.card.width ≤ k.column) (hst : s.pe.state = .ending) :
    exec .lineBoundary s = .next (touchStart (endJob (boundary k s))) := by
  rw [exec_lineBoundary hon hj hk hfill hcol, if_pos hst]

end

end Sys2Proof.Machine

end

section

/-! PROOFS. A line that falls due (R75 to R78), and with it the line boundary and the line due as one statement. -/

namespace Sys2Proof.Machine

section
variable {s t u : State} {j : PrintJob} {k : Computation} {c : Settings} {l : LineSlot} {n : Nat}
  {p r : ProfileRecord} {h : ProfileHeader}

/-- A job whose line has fallen due. -/
def fellDue (n : Nat) (j : PrintJob) : PrintJob := { j with fallen := n + 1, slots := j.slots.filter (fun l => l.line != n) }

/-- What a line which falls due leaves but for its strip, the bars and the trace. -/
theorem dueLine_eq (c : Settings) (j : PrintJob) (n : Nat) (s : State) : dueLine c j n s = { s with
    pe := { s.pe with
      job := s.pe.job.map (fellDue n), seq := (dueLine c j n s).pe.seq
      sent := (dueLine c j n s).pe.sent, bars := (dueLine c j n s).pe.bars }
    tmap := ⟨(dueLine c j n s).tmap.segs, s.tmap.joints⟩
    ports := (dueLine c j n s).ports } := by
  unfold dueLine
  dsimp only
  (repeat' split) <;> rfl

theorem dueLine_bytes (c : Settings) (j : PrintJob) (n : Nat) (s : State) (a : Nat) :
    hostByte (dueLine c j n s) a = hostByte s a := by
  unfold dueLine
  dsimp only
  (repeat' split) <;> rfl

/-- A line with a slot goes to the bars if all can receive it (R75, R76). -/
theorem dueLine_sent (hset : s.setup = some c) (hl : j.slots.find? (fun l => l.line == n) = some l)
    (hbars : ∀ b ∈ s.pe.bars.take c.bars, b.ready = true ∧ 1 ≤ b.room) :
    dueLine c j n s = setJob (fellDue n) (sendLine c j l s) := by
  have huse : barsInUse s Bar.canReceive = true := by
    simpa [barsInUse, Bar.canReceive, hset] using hbars
  unfold dueLine
  rw [hl]
  dsimp only
  rw [if_pos huse]
  rfl

/-- A line without a slot, or that a bar cannot receive, is late (R76, R77). -/
theorem dueLine_late (hset : s.setup = some c) (hno : j.slots.find? (fun l => l.line == n) = none ∨
    (∃ b ∈ s.pe.bars.take c.bars, b.ready = false ∨ b.room = 0)) :
    dueLine c j n s = setJob (fellDue n) (updateSeg j.start (lateSeg c.lateLimit) s) := by
  unfold dueLine
  split
  · rename_i l hl
    rcases hno with hno | ⟨b, hb, hbad⟩
    · rw [hno] at hl
      cases hl
    · have huse : barsInUse s Bar.canReceive = false := by
        unfold barsInUse
        rw [hset, List.all_eq_false]
        exact ⟨b, hb, by rcases hbad with h | h <;> simp [Bar.canReceive, h]⟩
      rw [huse]
      rfl
  · rfl

theorem lateSeg_eq (limit : Nat) (g : Segment) : lateSeg limit g = { g with
    late := g.late + 1, flags := { g.flags with late := true },
    spoil := if limit < g.late + 1 then g.spoil.or (some .late) else g.spoil } := by
  unfold lateSeg spoilSeg
  dsimp only
  split <;> rfl

/-- Print end at the last line leaves a computation that runs, in ENDING (R78). -/
theorem finishPrint_ending (hj : s.pe.job = some j) (hk : j.comp ≠ none) :
    finishPrint s = { endPrint s with pe := { s.pe with
      job := some { j with window := [] }, state := .ending, read := s.pe.read.map fun r => { r with live := false } } } := by
  have hpe : (endPrint s).pe = s.pe := by rw [endPrint_eq hj]
  have hcomp : computing (endPrint s) = true := by
    unfold computing
    rw [hpe, hj]
    exact Option.isSome_iff_ne_none.mpr hk
  unfold finishPrint
  dsimp only
  rw [hcomp]
  unfold setJob
  rw [if_pos rfl]
  dsimp only
  rw [hpe, hj]
  rfl

/-- Print end at the last line ends the job if no computation runs (R78). -/
theorem finishPrint_ends (hj : s.pe.job = some j) (hk : j.comp = none) : finishPrint s = touchStart (endJob (endPrint s)) := by
  have hcomp : computing (endPrint s) = false := by
    have hpe : (endPrint s).pe = s.pe := by rw [endPrint_eq hj]
    unfold computing
    rw [hpe, hj]
    simp [hk]
  unfold finishPrint
  dsimp only
  rw [hcomp]
  rfl

/-- A fetch adds to the trace. -/
theorem fetchRaster_ports (s : State) {o : PortOut} (ho : o ∈ s.ports) : o ∈ (fetchRaster s).ports := by
  unfold fetchRaster
  dsimp only
  (repeat' split) <;> simp [emit, setJob, ho]

theorem Onward.mem {o : PortOut} (h : Onward s t) (ho : o ∈ s.ports) : o ∈ t.ports := by
  obtain ⟨⟨l, hl⟩, -⟩ := h
  rw [hl]
  exact List.mem_append_right _ ho

theorem endPrint_onward (s : State) : Onward s (endPrint s) := by
  have hset : Onward s (setPrintEnd s) := .of_same (by simp) (by simp)
  have hwrite : ∀ g u, Onward u (writePrinted g u) := fun g u => by
    unfold writePrinted
    split
    · exact .of_same rfl rfl
    · exact (emit_onward _ u).trans (emit_onward _ _)
  unfold endPrint
  dsimp only
  split
  · exact hset
  · split
    · exact hset.trans (hwrite _ _)
    · exact hset

/-! ## The line boundary, by the engine's state -/

/-- What a line boundary in PRINTING leaves but for the records, the port, the read in flight and the trace. -/
theorem fetchRaster_boundary (hj : s.pe.job = some j) : fetchRaster (boundary k s) = { s with
    pe := { s.pe with job := some (trimWindow (placeLine k j)), read := (fetchRaster (boundary k s)).pe.read }
    spb := { s.spb with entries := s.spb.entries.map fun e => { e with visible := true } }
    ps := { s.ps with records := (boundary k s).ps.records, arb := (boundary k s).ps.arb }
    ports := (fetchRaster (boundary k s)).ports } := by
  have hrecord : ∀ (b : State) read ports records arb, b = { s with
      pe := { s.pe with job := s.pe.job.map (placeLine k) }
      spb := { s.spb with entries := s.spb.entries.map fun e => { e with visible := true } }
      ps := { s.ps with records := records, arb := arb } } →
      { b with pe := { b.pe with job := b.pe.job.map trimWindow, read := read }, ports := ports } = { s with
        pe := { s.pe with job := some (trimWindow (placeLine k j)), read := read }
        spb := { s.spb with entries := s.spb.entries.map fun e => { e with visible := true } }
        ps := { s.ps with records := records, arb := arb }
        ports := ports } := by
    rintro b read ports records arb rfl
    dsimp only
    rw [hj]
    rfl
  exact (fetchRaster_eq _).trans (hrecord _ _ _ _ _ (boundary_eq k s))

/-- A line boundary in PRINTING (R48, R72). -/
theorem boundary_prints (hj : s.pe.job = some j) (hst : s.pe.state = .printing) (hpos : ∀ e ∈ s.spb.entries, 1 ≤ e.id)
    (ht : fetchRaster (boundary k s) = t) :
    t.spb = { s.spb with entries := s.spb.entries.map fun e => { e with visible := true } } ∧
    (∀ (n : Nat) r, s.ps.records[n]? = some r → t.ps.records[n]? = some { r with
      version := if (s.spb.entries.any fun e => e.id == n + 1 && !e.visible) then r.version + 1 else r.version }) ∧
    ∃ q, t.pe.job = some q ∧ q.comp = none ∧ q.cursor = max (k.line + 1) j.fallen ∧ q.acc = q.cursor * j.step ∧
      q.slots = (if k.line < j.reached then j.slots else j.slots ++ [⟨k.line, k.version, k.cols.reverse⟩]) ∧
      q.window = j.window.filter (fun l => sourceLine q.acc ≤ l.1) ∧ q.fallen = j.fallen ∧ q.reached = j.reached ∧
      t.pe.queue = s.pe.queue ∧ t.pe.state = .printing ∧ t.tmap = s.tmap ∧ t.su = s.su ∧ t.ce = s.ce ∧
      OnlyWrites s t (fun _ => False) ∧ SameBase s t ∧ t.nc = s.nc ∧ SameLine s t := by
  have hbytes : ∀ a, hostByte t a = hostByte s a := fun a => by
    rw [← ht, fetchRaster_bytes, boundary_eq]
    rfl
  have heq := fetchRaster_boundary (k := k) hj
  rw [ht] at heq
  refine ⟨by rw [heq], fun n r hr => ?_, trimWindow (placeLine k j), by rw [heq], rfl, rfl, rfl, rfl, rfl, rfl, rfl, by rw [heq],
    by rw [heq]; exact hst, by rw [heq], by rw [heq], by rw [heq], fun a _ => hbytes a, by rw [heq]; exact ⟨rfl, rfl, rfl, rfl, rfl, rfl, rfl⟩,
    by rw [heq], by rw [heq]; exact ⟨rfl, rfl, rfl, rfl, rfl⟩⟩
  rw [heq]
  exact boundary_record hpos hr

/-- A line boundary in ENDING ends the job (R78). -/
theorem boundary_ends (hj : s.pe.job = some j) (ht : touchStart (endJob (boundary k s)) = t) :
    t.pe.job = none ∧ t.pe.state = .idle ∧ t.pe.queue = s.pe.queue ∧ t.pe.read = s.pe.read.map (fun r => { r with live := false }) ∧
      t.tmap = s.tmap ∧ t.ps.mem = s.ps.mem ∧ t.su.faults = s.su.faults ∧ t.nc = s.nc ∧ SameBase s t ∧ SameLine s t ∧
      (∀ e ∈ t.spb.entries, e.visible = true) := by
  obtain ⟨q, hq, -⟩ := boundary_jobEnded (k := k) hj
  have hpe : (endJob (boundary k s)).pe = { s.pe with job := none, state := .idle, read := s.pe.read.map fun r => { r with live := false } } := by
    rw [endJob_pe hq, boundary_eq]
    rfl
  obtain ⟨hold, first, htouch⟩ := touchStart_eq (endJob (boundary k s))
  rw [ht, hpe] at htouch
  have hsu : (boundary k s).su = s.su := by rw [boundary_eq]
  refine ⟨by rw [htouch], by rw [htouch], by rw [htouch], by rw [htouch], ?_, ?_, ?_, ?_, ?_, ?_, fun e he => ?_⟩
  · simp [htouch, boundary]
  · simp [htouch, boundary]
  · rw [htouch]
    exact (endJob_faults _).1.trans (congrArg _ hsu)
  · simp [htouch, boundary]
  · simp [htouch, boundary, SameBase]
  · simp [htouch, boundary, SameLine]
  · rw [htouch] at he
    have hin := endJob_entries hq e he
    rw [boundary_eq] at hin
    obtain ⟨x, -, rfl⟩ := List.mem_map.mp hin
    rfl

/-- A line boundary in ENDING where the profile keeps a reference (R37). -/
theorem boundary_endsKept (hj : s.pe.job = some j) (hpos : ∀ e ∈ s.spb.entries, 1 ≤ e.id) (hno : NotFreed j.card.profileId s)
    (ht : touchStart (endJob (boundary k s)) = t) :
    t.spb = { s.spb with entries := s.spb.entries.map fun e => { e with visible := true } } ∧
      (∀ (n : Nat) r, s.ps.records[n]? = some r → t.ps.records[n]? = some { afterVisibility s (n + 1) r with
        refs := if n = j.card.profileId - 1 then r.refs - 1 else r.refs }) ∧
      t.ps.free = s.ps.free ∧ t.su = s.su ∧ t.ce = s.ce ∧ OnlyWrites s t (fun _ => False) := by
  obtain ⟨q, hq, hcard⟩ := boundary_jobEnded (k := k) hj
  have hkept := endJob_kept hq (hcard ▸ boundary_notFreed hno)
  rw [hcard] at hkept
  have hparts : (boundary k s).spb = { s.spb with entries := s.spb.entries.map fun e => { e with visible := true } } ∧
      (boundary k s).ps.free = s.ps.free ∧ (boundary k s).su = s.su ∧ (boundary k s).ce = s.ce ∧ (boundary k s).ports = s.ports := by
    rw [boundary_eq]
    exact ⟨rfl, rfl, rfl, rfl, rfl⟩
  have hrecords := fun n r hr => boundary_record (k := k) (n := n) (r := r) hpos hr
  rw [hkept] at ht
  obtain ⟨b, hb⟩ : ∃ b, boundary k s = b := ⟨_, rfl⟩
  rw [hb] at ht hparts hrecords
  obtain ⟨hspb, hfree, hsu, hce, hports⟩ := hparts
  refine ⟨?_, fun n r hr => ?_, ?_, ?_, ?_, fun a _ => ?_⟩ <;> rw [← ht]
  · exact (touchStart_frame _).2.2.2.2.2.2.2.2.2.2.2.2.1.trans hspb
  · rw [(touchStart_frame _).2.2.2.2.2.2.2.2.2.2.2.1]
    exact uncounted_record (s := jobEnded b) j.card.profileId (hrecords n r hr)
  · simpa [uncounted, jobEnded, setProfile] using hfree
  · simpa [uncounted, jobEnded, setProfile] using hsu
  · simpa [uncounted, jobEnded, setProfile] using hce
  · simp [hostByte, uncounted, jobEnded, setProfile, hports]

/-- A line boundary in ENDING that releases the last reference of a RETIRING profile (R32, R37). -/
theorem boundary_frees (hj : s.pe.job = some j) (hpos : ∀ e ∈ s.spb.entries, 1 ≤ e.id) (hid : 1 ≤ j.card.profileId)
    (hr : s.ps.records[j.card.profileId - 1]? = some r) (hst : r.state = .retiring) (hrefs : r.refs ≤ 1) (hh : r.header = some h)
    (hload : NoLoadFor j.card.profileId s) (ht : touchStart (endJob (boundary k s)) = t) :
    FreedAtRelease j.card.profileId (afterVisibility s j.card.profileId r) t ∧ ExtentAtRelease j.card.profileId h s t := by
  obtain ⟨q, hq, hcard⟩ := boundary_jobEnded (k := k) hj
  have hrecord := boundary_record (k := k) hpos hr
  rw [Nat.sub_add_cancel hid] at hrecord
  obtain ⟨hreleased, hextent⟩ := endJob_released (p := afterVisibility s j.card.profileId r) hq (hcard ▸ hrecord) hst hrefs hh
    (hcard ▸ boundary_noLoad hload)
  rw [hcard] at hreleased hextent
  have hfree : (boundary k s).ps.free = s.ps.free := by rw [boundary_eq]
  have hextent' : ExtentAtRelease j.card.profileId h s (endJob (boundary k s)) := by
    unfold ExtentAtRelease at hextent ⊢
    rwa [hfree] at hextent
  exact ht ▸ ⟨hreleased.touched.1, hextent'.touched⟩

/-! ## The line that falls due -/

/-- What becomes of a strip whose line is sent or late (R76, R77). -/
theorem dueLine_outcome (hset : s.setup = some c) (ht : dueLine c j n s = t) :
    (∀ l, j.slots.find? (fun l => l.line == n) = some l → (∀ b ∈ s.pe.bars.take c.bars, b.ready = true ∧ 1 ≤ b.room) →
      .headLine s.pe.seq ((List.range c.bars).map fun k => (List.range c.width).map fun i =>
        ((l.columns[i]?).getD [])[k]?.getD 0) ∈ t.ports ∧
      t.pe.seq = s.pe.seq + 1 ∧
      t.pe.bars = (s.pe.bars.take c.bars).map (fun b => { b with room := b.room - 1 }) ++ s.pe.bars.drop c.bars ∧
      t.tmap.segs = s.tmap.segs.map (fun g => if g.start = j.start then { g with emitted := g.emitted + 1 } else g)) ∧
    (j.slots.find? (fun l => l.line == n) = none ∨ (∃ b ∈ s.pe.bars.take c.bars, b.ready = false ∨ b.room = 0) →
      t.pe.seq = s.pe.seq ∧ t.pe.bars = s.pe.bars ∧
      t.tmap.segs = s.tmap.segs.map (fun g => if g.start = j.start then { g with
        late := g.late + 1, flags := { g.flags with late := true },
        spoil := if c.lateLimit < g.late + 1 then g.spoil.or (some .late) else g.spoil } else g)) := by
  subst ht
  refine ⟨fun l hl hbars => ?_, fun hno => ?_⟩
  · rw [dueLine_sent hset hl hbars]
    exact ⟨List.mem_cons_self, rfl, rfl, rfl⟩
  · rw [dueLine_late hset hno]
    refine ⟨rfl, rfl, List.map_congr_left fun g _ => ?_⟩
    rw [lateSeg_eq]

/-- A line due moves the line cursor with it where no line computes (R72, R76). -/
theorem exec_lineDue (hon : s.power.mainOn = true) (hj : s.pe.job = some j) (hset : s.setup = some c) (hst : s.pe.state = .printing)
    (hdue : j.fallen < j.reached) : exec .lineDue s = .next
      (if j.fallen + 1 = j.nOut then finishPrint (dueLine c j j.fallen s)
      else if j.comp = none ∧ j.cursor = j.fallen then fetchRaster (setJob (moveCursor (j.fallen + 1)) (dueLine c j j.fallen s))
      else dueLine c j j.fallen s) := by
  refine (whenOn_on hon : execLineDue s = _).trans ?_
  rw [hst, hj, hset]
  dsimp only
  rw [if_pos hdue]
  simp only [Bool.and_eq_true, Option.isNone_iff_eq_none, decide_eq_true_eq]

theorem exec_lineDue_off (hon : s.power.mainOn = true) (hj : s.pe.job = some j) (h : j.reached ≤ j.fallen ∨ s.pe.state ≠ .printing) :
    exec .lineDue s = .next s := by
  refine (whenOn_on hon : execLineDue s = _).trans (congrArg _ ?_)
  split
  · rename_i j' c' hst hj' hc'
    rw [hj] at hj'
    cases hj'
    exact if_neg fun hlt => by
      rcases h with h | h
      · omega
      · exact h hst
  · rfl

/-- A line that falls due before the last one. -/
theorem lineDue_goesOn (hon : s.power.mainOn = true) (hj : s.pe.job = some j) (hset : s.setup = some c) (hst : s.pe.state = .printing)
    (hdue : j.fallen < j.reached) (hlast : j.fallen + 1 ≠ j.nOut) : ∃ t q, exec .lineDue s = .next t ∧
      t.pe.job = some q ∧ q.fallen = j.fallen + 1 ∧ q.reached = j.reached ∧ q.comp = j.comp ∧
      q.slots = j.slots.filter (fun l => l.line != j.fallen) ∧
      q.cursor = (if j.comp = none ∧ j.cursor = j.fallen then j.fallen + 1 else j.cursor) ∧
      (q.cursor = j.cursor → q.acc = j.acc) ∧ (q.cursor ≠ j.cursor → q.acc = q.cursor * j.step) ∧
      t = { dueLine c j j.fallen s with
        pe := { (dueLine c j j.fallen s).pe with job := some q, read := t.pe.read }, ports := t.ports } ∧
      (∀ o ∈ (dueLine c j j.fallen s).ports, o ∈ t.ports) ∧ ∀ a, hostByte t a = hostByte s a := by
  have hjob : (dueLine c j j.fallen s).pe.job = some (fellDue j.fallen j) := by rw [dueLine_eq, hj]; rfl
  rw [exec_lineDue hon hj hset hst hdue, if_neg hlast]
  by_cases hmove : j.comp = none ∧ j.cursor = j.fallen
  · obtain ⟨hcomp, hcur⟩ := hmove
    rw [if_pos ⟨hcomp, hcur⟩]
    have hmoved : (setJob (moveCursor (j.fallen + 1)) (dueLine c j j.fallen s)).pe.job =
        some (moveCursor (j.fallen + 1) (fellDue j.fallen j)) := by
      unfold setJob
      rw [hjob]
      rfl
    refine ⟨_, trimWindow (moveCursor (j.fallen + 1) (fellDue j.fallen j)), rfl, ?_, rfl, rfl, rfl, rfl, (if_pos ⟨hcomp, hcur⟩).symm,
      fun h => ?_, fun _ => rfl, (fetchRaster_eq _).trans ?_, fun o ho => ?_, fun a => ?_⟩
    · rw [fetchRaster_eq, hmoved]
      rfl
    · exact absurd (hcur.symm.trans h.symm) (by change j.fallen ≠ j.fallen + 1; omega)
    · rw [hmoved]
      rfl
    · exact fetchRaster_ports _ ho
    · rw [fetchRaster_bytes]
      exact dueLine_bytes c j j.fallen s a
  · rw [if_neg hmove]
    refine ⟨_, fellDue j.fallen j, rfl, hjob, rfl, rfl, rfl, rfl, (if_neg hmove).symm, fun _ => rfl, fun h => absurd rfl h,
      ?_, fun o ho => ho, dueLine_bytes c j j.fallen s⟩
    rw [← hjob]

/-- A strip's entries at print end, after its last line (R5). -/
def endedSegs (j : PrintJob) (c : Settings) (l : List Segment) : List Segment :=
  l.map fun g => if g.start = j.start then { g with endAt := some (g.start + j.nOut * c.pitch) } else g

theorem endedSegs_map (j : PrintJob) (c : Settings) (f : Segment → Segment) (hf : ∀ g, (f g).start = g.start) (l : List Segment) :
    endedSegs j c (l.map fun g => if g.start = j.start then f g else g) =
      l.map fun g => if g.start = j.start then { f g with endAt := some (g.start + j.nOut * c.pitch) } else g := by
  unfold endedSegs
  rw [List.map_map]
  refine List.map_congr_left fun g _ => ?_
  dsimp only [Function.comp_apply]
  by_cases hg : g.start = j.start
  · rw [if_pos hg, if_pos hg, if_pos ((hf g).trans hg), hf g]
  · rw [if_neg hg, if_neg hg, if_neg hg]

/-- The part at print end, by its last line. -/
theorem endPrint_dueLine (hset : s.setup = some c) (hj : s.pe.job = some j) (hlast : j.fallen + 1 = j.nOut) :
    endPrint (dueLine c j j.fallen s) = { dueLine c j j.fallen s with
      tmap := ⟨endedSegs j c (dueLine c j j.fallen s).tmap.segs, s.tmap.joints⟩
      ports := (endPrint (dueLine c j j.fallen s)).ports } ∧
    ∀ g r, 0 < c.pitch → (endPrint (dueLine c j j.fallen s)).tmap.segs.find? (fun g => g.start == j.start) = some g → g.card = some r →
      PrintedCard (endPrint (dueLine c j j.fallen s)) r c.pitch j.nOut g := by
  have hjob : (dueLine c j j.fallen s).pe.job = some (fellDue j.fallen j) := by rw [dueLine_eq, hj]; rfl
  have hjoints : (dueLine c j j.fallen s).tmap.joints = s.tmap.joints := by rw [dueLine_eq]
  have hpitch : pitchOf (dueLine c j j.fallen s) = c.pitch := by
    rw [dueLine_eq]
    unfold pitchOf
    rw [hset]
    rfl
  have hlines : max 1 (fellDue j.fallen j).fallen = j.nOut := by
    change max 1 (j.fallen + 1) = j.nOut
    omega
  refine ⟨?_, fun g r hp hg hr => ?_⟩
  · have heq := endPrint_eq hjob
    rw [hlines, hpitch, hjoints] at heq
    exact heq
  · have hprinted := endPrint_printed hjob (hpitch ▸ hp) hg hr
    rwa [hlines, hpitch] at hprinted

/-- What the last line leaves, whether or not its computation still runs (R78). -/
def AfterLastLine (j : PrintJob) (c : Settings) (s t : State) : Prop :=
  t.pe.read = s.pe.read.map (fun r => { r with live := false }) ∧ t.pe.seq = (dueLine c j j.fallen s).pe.seq ∧
    t.pe.bars = (dueLine c j j.fallen s).pe.bars ∧
    t.tmap = ⟨endedSegs j c (dueLine c j j.fallen s).tmap.segs, s.tmap.joints⟩ ∧
    (∀ o ∈ (dueLine c j j.fallen s).ports, o ∈ t.ports) ∧ t.pe.queue = s.pe.queue ∧ t.su.faults = s.su.faults ∧
    t.ps.mem = s.ps.mem ∧ t.nc = s.nc ∧ SameBase s t ∧ SameLine s t

/-- The last line where its computation still runs. -/
theorem lineDue_ending (hset : s.setup = some c) (hj : s.pe.job = some j) (hlast : j.fallen + 1 = j.nOut) (hk : j.comp ≠ none)
    (ht : finishPrint (dueLine c j j.fallen s) = t) : AfterLastLine j c s t ∧ t.pe.state = .ending ∧
      t.pe.job = some { j with fallen := j.nOut, slots := j.slots.filter (fun l => l.line != j.fallen), window := [] } ∧
      t.su = s.su ∧ t.ce = s.ce ∧ SameStore s t ∧ ∀ a, hostByte t a = hostByte (endPrint (dueLine c j j.fallen s)) a := by
  have hjob : (dueLine c j j.fallen s).pe.job = some (fellDue j.fallen j) := by rw [dueLine_eq, hj]; rfl
  rw [finishPrint_ending hjob hk] at ht
  have hports : ∀ o ∈ (dueLine c j j.fallen s).ports, o ∈ t.ports := fun o ho => ht ▸ (endPrint_onward _).mem ho
  obtain ⟨hend, -⟩ := endPrint_dueLine hset hj hlast
  obtain ⟨e, he⟩ : ∃ e, endPrint (dueLine c j j.fallen s) = e := ⟨_, rfl⟩
  rw [he] at ht hend ⊢
  have hdue := dueLine_eq c j j.fallen s
  obtain ⟨d, hd⟩ : ∃ d, dueLine c j j.fallen s = d := ⟨_, rfl⟩
  unfold AfterLastLine
  rw [hd] at ht hend hdue hports ⊢
  subst ht
  have hfell : fellDue j.fallen j = { j with fallen := j.nOut, slots := j.slots.filter (fun l => l.line != j.fallen) } := by
    unfold fellDue
    rw [hlast]
  rw [hend, hfell]
  refine ⟨⟨?_, rfl, rfl, rfl, fun o ho => hend ▸ hports o ho, ?_, ?_, ?_, ?_, ?_, ?_⟩, rfl, rfl, ?_, ?_, ?_, fun a => rfl⟩ <;> rw [hdue]
  · exact ⟨rfl, rfl, rfl, rfl, rfl, rfl, rfl⟩
  · exact ⟨rfl, rfl, rfl, rfl, rfl⟩
  · exact ⟨rfl, rfl, rfl⟩

/-- The last line where no computation runs: the job ends. -/
theorem lineDue_ends (hset : s.setup = some c) (hj : s.pe.job = some j) (hlast : j.fallen + 1 = j.nOut) (hk : j.comp = none)
    (ht : finishPrint (dueLine c j j.fallen s) = t) : AfterLastLine j c s t ∧ t.pe.job = none ∧ t.pe.state = .idle := by
  have hjob : (dueLine c j j.fallen s).pe.job = some (fellDue j.fallen j) := by rw [dueLine_eq, hj]; rfl
  rw [finishPrint_ends hjob hk] at ht
  have hports : ∀ o ∈ (dueLine c j j.fallen s).ports, o ∈ t.ports := fun o ho => by
    rw [← ht, (touchStart_frame _).2.2.2.2.2.2.2.2.1]
    exact ((endPrint_onward _).trans (endJob_onward _)).mem ho
  obtain ⟨hend, -⟩ := endPrint_dueLine hset hj hlast
  obtain ⟨e, he⟩ : ∃ e, endPrint (dueLine c j j.fallen s) = e := ⟨_, rfl⟩
  rw [he] at ht hend
  have hdue := dueLine_eq c j j.fallen s
  obtain ⟨d, hd⟩ : ∃ d, dueLine c j j.fallen s = d := ⟨_, rfl⟩
  unfold AfterLastLine
  rw [hd] at hend hdue hports hjob ⊢
  have hejob : e.pe.job = some (fellDue j.fallen j) := by rw [hend]; exact hjob
  have hpe := endJob_pe hejob
  have hfaults := (endJob_faults e).1
  obtain ⟨hold, first, htouch⟩ := touchStart_eq (endJob e)
  rw [ht, hpe] at htouch
  have hepe : e.pe = d.pe := by rw [hend]
  have heparts : e.su = s.su ∧ e.ps.mem = s.ps.mem ∧ e.nc = s.nc ∧ SameBase s e ∧ SameLine s e := by
    rw [hend]
    unfold SameBase SameLine
    rw [hdue]
    exact ⟨rfl, rfl, rfl, ⟨rfl, rfl, rfl, rfl, rfl, rfl, rfl⟩, rfl, rfl, rfl, rfl, rfl⟩
  obtain ⟨hesu, hmem, hnc, hbase, hline⟩ := heparts
  refine ⟨⟨?_, ?_, ?_, ?_, fun o ho => hports o ho, ?_, ?_, ?_, ?_, ?_, ?_⟩, ?_, ?_⟩
  · simp [htouch, jobEnded, hepe]
    rw [hdue]
  · simp [htouch, jobEnded, hepe]
  · simp [htouch, jobEnded, hepe]
  · rw [htouch]
    exact (endJob_frame e).2.2.2.2.2.2.2.2.1.trans (by rw [hend])
  · simp [htouch, jobEnded, hepe]
    rw [hdue]
  · rw [htouch]
    exact hfaults.trans (congrArg _ hesu)
  · rw [htouch]
    exact (endJob_mem e).trans hmem
  · rw [htouch]
    exact (endJob_frame e).2.2.2.2.2.2.2.2.2.1.trans hnc
  · rw [htouch]
    exact hbase.trans (by simp [SameBase])
  · rw [htouch]
    exact hline.trans (by simp [SameLine])
  · rw [htouch]
    rfl
  · rw [htouch]
    rfl

/-- What the last line's print end leaves of the profile, the port and the card, before the job ends. -/
theorem endPrint_dueLine_store (hset : s.setup = some c) (hj : s.pe.job = some j) (hlast : j.fallen + 1 = j.nOut) :
    (endPrint (dueLine c j j.fallen s)).ps = s.ps ∧ (endPrint (dueLine c j j.fallen s)).spb = s.spb ∧
      (endPrint (dueLine c j j.fallen s)).su = s.su ∧ (endPrint (dueLine c j j.fallen s)).ce = s.ce ∧
      (endPrint (dueLine c j j.fallen s)).pe.job = some (fellDue j.fallen j) := by
  obtain ⟨hend, -⟩ := endPrint_dueLine hset hj hlast
  have hdue := dueLine_eq c j j.fallen s
  rw [hend]
  refine ⟨?_, ?_, ?_, ?_, ?_⟩ <;> rw [hdue]
  rw [hj]
  rfl

/-- The job's end after the last line where the profile keeps a reference (R37). -/
theorem lineDue_kept (hset : s.setup = some c) (hj : s.pe.job = some j) (hlast : j.fallen + 1 = j.nOut) (hk : j.comp = none)
    (hno : NotFreed j.card.profileId s) (ht : finishPrint (dueLine c j j.fallen s) = t) :
    t.su = s.su ∧ t.ce = s.ce ∧ t.ps = { s.ps with records := t.ps.records } ∧ t.spb = s.spb ∧
      ∀ (n : Nat) p, s.ps.records[n]? = some p → t.ps.records[n]? = some { p with
        refs := if n = j.card.profileId - 1 then p.refs - 1 else p.refs } := by
  have hjob : (dueLine c j j.fallen s).pe.job = some (fellDue j.fallen j) := by rw [dueLine_eq, hj]; rfl
  obtain ⟨hps, hspb, hsu, hce, hejob⟩ := endPrint_dueLine_store hset hj hlast
  rw [finishPrint_ends hjob hk] at ht
  obtain ⟨e, he⟩ : ∃ e, endPrint (dueLine c j j.fallen s) = e := ⟨_, rfl⟩
  rw [he] at ht hps hspb hsu hce hejob
  have hkept : endJob e = uncounted j.card.profileId (jobEnded e) := endJob_kept (j := fellDue j.fallen j) hejob (by
    change NotFreed j.card.profileId e
    unfold NotFreed profileOf at hno ⊢
    rwa [hps])
  obtain ⟨hold, first, htouch⟩ := touchStart_eq (endJob e)
  rw [ht, hkept] at htouch
  rw [htouch]
  have hps' : (jobEnded e).ps = s.ps := hps
  refine ⟨hsu, hce, ?_, hspb, fun n p hp => uncounted_record (s := jobEnded e) j.card.profileId (hps ▸ hp)⟩
  unfold uncounted setProfile
  dsimp only
  rw [hps']

/-- The job's end after the last line that releases the last reference of a RETIRING profile (R32, R37). -/
theorem lineDue_frees (hset : s.setup = some c) (hj : s.pe.job = some j) (hlast : j.fallen + 1 = j.nOut) (hk : j.comp = none)
    (hr : s.ps.records[j.card.profileId - 1]? = some p) (hst : p.state = .retiring) (hrefs : p.refs ≤ 1) (hh : p.header = some h)
    (hload : NoLoadFor j.card.profileId s) (ht : finishPrint (dueLine c j j.fallen s) = t) :
    FreedAtRelease j.card.profileId p t ∧ ExtentAtRelease j.card.profileId h s t := by
  have hjob : (dueLine c j j.fallen s).pe.job = some (fellDue j.fallen j) := by rw [dueLine_eq, hj]; rfl
  obtain ⟨hps, hspb, hsu, hce, hejob⟩ := endPrint_dueLine_store hset hj hlast
  rw [finishPrint_ends hjob hk] at ht
  obtain ⟨e, he⟩ : ∃ e, endPrint (dueLine c j j.fallen s) = e := ⟨_, rfl⟩
  rw [he] at ht hps hejob
  obtain ⟨hreleased, hextent⟩ := endJob_released (p := p) (h := h) hejob (hps ▸ hr) hst hrefs hh
    (hload.congr (by rw [hps]) (by rw [hps]))
  have hextent' : ExtentAtRelease j.card.profileId h s (endJob e) := by
    unfold ExtentAtRelease at hextent ⊢
    rw [hps] at hextent
    exact hextent
  exact ht ▸ ⟨hreleased.touched.1, hextent'.touched⟩

/-- The strip's card after its last line, unless the end of the job fails a PATCH card. -/
theorem lineDue_printed (hset : s.setup = some c) (hj : s.pe.job = some j) (hlast : j.fallen + 1 = j.nOut)
    (hno : (profileOf s j.card.profileId).state ≠ .retiring ∨ s.spb.patch = none ∨ j.comp ≠ none)
    (ht : finishPrint (dueLine c j j.fallen s) = t) {g : Segment} {x : CardRef} (hp : 0 < c.pitch)
    (hg : t.tmap.segs.find? (fun g => g.start == j.start) = some g) (hx : g.card = some x) : PrintedCard t x c.pitch j.nOut g := by
  obtain ⟨hend, hprinted⟩ := endPrint_dueLine hset hj hlast
  have htmap : (endPrint (dueLine c j j.fallen s)).tmap = ⟨endedSegs j c (dueLine c j j.fallen s).tmap.segs, s.tmap.joints⟩ := by
    rw [hend]
  by_cases hk : j.comp = none
  · have hno' : (profileOf s j.card.profileId).state ≠ .retiring ∨ s.spb.patch = none := by
      rcases hno with h | h | h
      · exact .inl h
      · exact .inr h
      · exact absurd hk h
    obtain ⟨⟨-, -, -, htmap', -⟩, -⟩ := lineDue_ends hset hj hlast hk ht
    rw [htmap', ← htmap] at hg
    have hjob : (dueLine c j j.fallen s).pe.job = some (fellDue j.fallen j) := by rw [dueLine_eq, hj]; rfl
    obtain ⟨hps, hspb, hsu, hce, hejob⟩ := endPrint_dueLine_store hset hj hlast
    rw [finishPrint_ends hjob hk] at ht
    refine (hprinted g x hp hg hx).congr fun a => ?_
    rw [← ht]
    refine Eq.trans (by simp [hostByte]) (endJob_bytes hejob ?_ a)
    unfold profileOf at hno' ⊢
    rwa [hps, hspb]
  · obtain ⟨⟨-, -, -, htmap', -⟩, -, -, -, -, -, hbytes⟩ := lineDue_ending hset hj hlast hk ht
    rw [htmap', ← htmap] at hg
    exact (hprinted g x hp hg hx).congr hbytes
end

/-- Settles O53. -/
theorem lineBoundaryAndLineDue : Obligations.LineBoundaryAndLineDue := by
  refine ⟨fun s hon => ⟨exec_lineBoundary_off hon, fun j k hj hk hfill hcol => ?_⟩, fun s j c hon hj hset =>
    ⟨exec_lineDue_off hon hj, fun hst hdue hlast => ?_, fun hst hdue hlast => ?_⟩⟩
  · by_cases hst : s.pe.state = .printing
    · have hne : ¬ s.pe.state = .ending := by rw [hst]; decide
      have harb : (fetchRaster (boundary k s)).ps.arb = (boundary k s).ps.arb := by rw [fetchRaster_eq]
      refine ⟨_, exec_boundaryPrinting hon hj hk hfill hcol hst, fun _ hpos => boundary_prints hj hst hpos rfl,
        fun _ hq he => harb.trans (boundary_quiet hq he), fun _ => ?_, fun h => absurd h hne, fun h => absurd h hne,
        fun r h hend => absurd hend hne⟩
      rw [harb]
      exact boundary_grants k s
    · by_cases hend : s.pe.state = .ending
      · obtain ⟨q, hq, hcard⟩ := boundary_jobEnded (k := k) hj
        refine ⟨_, exec_boundaryEnding hon hj hk hfill hcol hend, fun h => absurd h hst, fun h => absurd h hst, fun h => ?_,
          fun _ => boundary_ends hj rfl, fun _ hpos hno => boundary_endsKept hj hpos hno rfl,
          fun r h _ hpos hid hr hret hrefs hh hload => boundary_frees hj hpos hid hr hret hrefs hh hload rfl⟩
        obtain ⟨-, hno⟩ := h.resolve_left hst
        have harb : (touchStart (endJob (boundary k s))).ps.arb = (boundary k s).ps.arb := by
          rw [(touchStart_frame _).2.2.2.2.2.2.2.2.2.2.2.1, endJob_kept hq (hcard ▸ boundary_notFreed hno)]
          rfl
        rw [harb]
        exact boundary_grants k s
      · refine ⟨_, (exec_lineBoundary hon hj hk hfill hcol).trans (congrArg _ (if_neg hend)), fun h => absurd h hst,
          fun h => absurd h hst, fun h => ?_, fun h => absurd h hend, fun h => absurd h hend, fun r h he => absurd he hend⟩
        rcases h with h | ⟨h, -⟩
        · exact absurd h hst
        · exact absurd h hend
  · obtain ⟨t, q, hexec, hjob, hf, hr, hcomp, hslots, hcur, hacc, hacc', heq, hports, hbytes⟩ :=
      lineDue_goesOn hon hj hset hst hdue hlast
    obtain ⟨hsent, hlate⟩ := dueLine_outcome (j := j) (n := j.fallen) hset rfl
    have hdue := dueLine_eq c j j.fallen s
    obtain ⟨d, hd⟩ : ∃ d, dueLine c j j.fallen s = d := ⟨_, rfl⟩
    rw [hd] at heq hsent hlate hdue hports
    refine ⟨t, q, hexec, hjob, hf, hr, hcomp, hslots, hcur, hacc, hacc', fun l hl hb => ?_, fun hno => ?_, ?_, ?_, ?_, ?_, ?_, ?_, ?_,
      fun a _ => hbytes a, ?_⟩
    · obtain ⟨h1, h2, h3, h4⟩ := hsent l hl hb
      rw [heq]
      exact ⟨hports _ h1, h2, h3, h4⟩
    · obtain ⟨h1, h2, h3⟩ := hlate hno
      rw [heq]
      exact ⟨h1, h2, h3⟩
    all_goals rw [heq, hdue]
    · exact hst
    · exact ⟨rfl, rfl, rfl⟩
    · exact ⟨rfl, rfl, rfl, rfl, rfl, rfl, rfl⟩
    · exact ⟨rfl, rfl, rfl, rfl, rfl⟩
  · obtain ⟨t, ht⟩ : ∃ t, finishPrint (dueLine c j j.fallen s) = t := ⟨_, rfl⟩
    have hafter : AfterLastLine j c s t := by
      by_cases hk : j.comp = none
      · exact (lineDue_ends hset hj hlast hk ht).1
      · exact (lineDue_ending hset hj hlast hk ht).1
    obtain ⟨hread, hseq, hbars, htmap, hports, hqueue, hfaults, hmem, hnc, hbase, hline⟩ := hafter
    obtain ⟨hsent, hlate⟩ := dueLine_outcome (j := j) (n := j.fallen) hset rfl
    refine ⟨t, ((exec_lineDue hon hj hset hst hdue).trans (congrArg _ (if_pos hlast))).trans (congrArg _ ht),
      fun hk => (lineDue_ends hset hj hlast hk ht).2, fun hk => ?_, hread, fun l hl hb => ?_, fun hno => ?_,
      fun hno hp g x => lineDue_printed hset hj hlast hno ht hp, fun hk => ?_, fun hk hno => lineDue_kept hset hj hlast hk hno ht,
      fun p h hk hr hret hrefs hh hload => lineDue_frees hset hj hlast hk hr hret hrefs hh hload ht, by rw [htmap], hqueue, hfaults,
      hmem, hnc, hbase, hline⟩
    · obtain ⟨-, hstate, hjob, -⟩ := lineDue_ending hset hj hlast hk ht
      exact ⟨hstate, _, hjob, rfl⟩
    · obtain ⟨h1, h2, h3, h4⟩ := hsent l hl hb
      refine ⟨hports _ h1, hseq.trans h2, hbars.trans h3, ?_⟩
      rw [htmap, h4]
      exact endedSegs_map j c (fun g => { g with emitted := g.emitted + 1 }) (fun _ => rfl) _
    · obtain ⟨h1, h2, h3⟩ := hlate hno
      refine ⟨hseq.trans h1, hbars.trans h2, ?_⟩
      rw [htmap, h3]
      exact endedSegs_map j c (fun g => { g with
        late := g.late + 1, flags := { g.flags with late := true },
        spoil := if c.lateLimit < g.late + 1 then g.spoil.or (some .late) else g.spoil }) (fun _ => rfl) _
    · obtain ⟨-, -, -, hsu, hce, hstore, -⟩ := lineDue_ending hset hj hlast hk ht
      exact ⟨hsu, hce, hstore⟩

end Sys2Proof.Machine

end

section

/-! PROOFS. An abandoned computation (R48, R80) and the raster reads (R70, R71). -/

namespace Sys2Proof.Machine

section
variable {s t : State} {j : PrintJob} {r : ProfileRecord} {n id : Nat} {w : List (Nat × List Byte)} {x : RasterRead}

/-! ## An abandoned computation -/

/-- The part with its computation abandoned, before the entries turn VISIBLE: the fill in flight is unwanted, and none waits (R80). -/
def computationDropped (s : State) : State :=
  setArb { s.ps.arb with
    fillReq := none
    busy := match s.ps.arb.busy with
      | some (.fill r _) => some (.fill r false)
      | b => b } (setJob (fun j => { j with comp := none }) s)

theorem abandonLine_running (hj : s.pe.job = some j) (hk : j.comp ≠ none) :
    abandonLine s = pumpPort (visibilityStep (computationDropped s)) := by
  have hcomp : computing s = true := by
    unfold computing
    rw [hj]
    exact Option.isSome_iff_ne_none.mpr hk
  unfold abandonLine
  rw [if_pos hcomp]
  rfl

theorem abandonLine_idle (hj : s.pe.job = some j) (hk : j.comp = none) : abandonLine s = s := by
  have hcomp : computing s = false := by
    unfold computing
    rw [hj]
    simp [hk]
  unfold abandonLine
  rw [hcomp]
  rfl

theorem abandonLine_pe (hj : s.pe.job = some j) : (abandonLine s).pe = { s.pe with job := some { j with comp := none } } := by
  by_cases hk : j.comp = none
  · rw [abandonLine_idle hj hk]
    obtain ⟨card, start, step, nOut, cursor, acc, slots, window, comp, fallen, reached⟩ := j
    cases hk
    rw [← hj]
  · rw [abandonLine_running hj hk, pumpPort_eq, visibilityStep_eq]
    unfold computationDropped setJob
    dsimp only [setArb]
    rw [hj]
    rfl

/-- The entries of the shadow buffer are VISIBLE once a computation has been abandoned (R48). -/
theorem abandonLine_spb (hj : s.pe.job = some j) : (abandonLine s).spb = { s.spb with
    entries := if j.comp = none then s.spb.entries else s.spb.entries.map fun e => { e with visible := true } } := by
  by_cases hk : j.comp = none
  · rw [abandonLine_idle hj hk, if_pos hk]
  · rw [abandonLine_running hj hk, if_neg hk, pumpPort_eq, visibilityStep_eq]
    rfl

theorem abandonLine_record (hj : s.pe.job = some j) (hpos : ∀ e ∈ s.spb.entries, 1 ≤ e.id) (hr : s.ps.records[n]? = some r) :
    (abandonLine s).ps.records[n]? = some (if j.comp = none then r else afterVisibility s (n + 1) r) := by
  by_cases hk : j.comp = none
  · rw [abandonLine_idle hj hk, if_pos hk, hr]
  · rw [abandonLine_running hj hk, if_neg hk, pumpPort_records]
    exact visibilityStep_record (s := computationDropped s) hpos hr

theorem abandonLine_free (hj : s.pe.job = some j) : (abandonLine s).ps.free = s.ps.free := by
  by_cases hk : j.comp = none
  · rw [abandonLine_idle hj hk]
  · rw [abandonLine_running hj hk, pumpPort_eq, visibilityStep_eq]
    rfl

theorem abandonLine_profile (id : Nat) (hj : s.pe.job = some j) : (profileOf (abandonLine s) id).state = (profileOf s id).state ∧
    (profileOf (abandonLine s) id).refs = (profileOf s id).refs := by
  by_cases hk : j.comp = none
  · rw [abandonLine_idle hj hk]
    exact ⟨rfl, rfl⟩
  · have hpump : ∀ u, profileOf (pumpPort u) id = profileOf u id := fun u => by
      unfold profileOf
      rw [pumpPort_records]
    rw [abandonLine_running hj hk, hpump]
    exact visibilityStep_profile id (computationDropped s)

theorem NoLoadFor.abandon (h : NoLoadFor id s) (hj : s.pe.job = some j) : NoLoadFor id (abandonLine s) := by
  by_cases hk : j.comp = none
  · rwa [abandonLine_idle hj hk]
  · rw [abandonLine_running hj hk]
    exact NoLoadFor.pump (h.congr (by rw [visibilityStep_eq]; rfl) (by rw [visibilityStep_eq]; rfl))

/-! ## Reads that the print goes on with (R70) -/

/-- A fetch with no read in flight: the window is trimmed, and the next line is read or none. -/
theorem fetchRaster_next (hj : s.pe.job = some j) (hr : s.pe.read = none) (hw : w = j.window.filter (fun l => sourceLine j.acc ≤ l.1)) :
    fetchRaster s = { s with pe := { s.pe with job := some { j with window := w }, read := (fetchRaster s).pe.read }, ports := (fetchRaster s).ports } ∧
    ∀ n, (w = [] → n = sourceLine j.acc) → (∀ l, w.getLast? = some l → n = l.1 + 1) →
      (s.pe.state = .printing → w.length < 4 → n < j.card.lines → (fetchRaster s).pe.read = some ⟨n, true⟩ ∧
        (fetchRaster s).ports = .hostRead (j.card.raster + n * j.card.stride) (3 * j.card.width) :: s.ports) ∧
      (s.pe.state ≠ .printing ∨ 4 ≤ w.length ∨ j.card.lines ≤ n → (fetchRaster s).pe.read = none ∧ (fetchRaster s).ports = s.ports) := by
  have htrim : trimWindow j = { j with window := w } := by
    rw [hw]
    rfl
  refine ⟨?_, fun n hempty hlast => ?_⟩
  · have heq := fetchRaster_eq s
    rw [hj, Option.map_some, htrim] at heq
    exact heq
  have hnext : nextRaster (trimWindow j) = if w.length < 4 ∧ n < j.card.lines then some n else none := by
    rw [htrim]
    unfold nextRaster
    dsimp only
    cases hl : w.getLast? with
    | some l =>
      dsimp only
      rw [hlast l hl]
      simp only [Bool.and_eq_true, decide_eq_true_eq]
    | none =>
      rw [hempty (List.getLast?_eq_none_iff.mp hl)]
      simp only [Bool.and_eq_true, decide_eq_true_eq]
      rfl
  refine ⟨fun hst hlen hlt => fetchRaster_reads hj hr hst (hnext.trans (if_pos ⟨hlen, hlt⟩)), fun h => ?_⟩
  rw [← hr]
  refine fetchRaster_waits hj (.inr ?_)
  rcases h with h | h
  · exact .inl h
  · exact .inr (hnext.trans (if_neg (by omega)))

theorem rasterNeeded_iff (hj : s.pe.job = some j) :
    rasterNeeded s x = true ↔ x.live = true ∧ s.pe.state = .printing ∧ sourceLine j.acc ≤ x.line := by
  unfold rasterNeeded
  rw [hj]
  simp only [Bool.and_eq_true, beq_iff_eq, and_assoc]
  exact and_congr Iff.rfl (and_congr Iff.rfl (decide_eq_true_iff (p := sourceLine j.acc ≤ x.line)))

theorem rasterNeeded_false (hj : s.pe.job = some j) (h : x.live = false ∨ s.pe.state ≠ .printing ∨ x.line < sourceLine j.acc) :
    rasterNeeded s x = false := by
  rw [Bool.eq_false_iff]
  intro hx
  obtain ⟨hlive, hst, hline⟩ := (rasterNeeded_iff hj).mp hx
  rcases h with h | h | h
  · rw [hlive] at h
    cases h
  · exact h hst
  · omega

theorem getLast?_filter_append {α : Type} {p : α → Bool} {y : α} (l : List α) (hy : p y = true) :
    ((l ++ [y]).filter p).getLast? = some y := by
  rw [List.filter_append, List.filter_cons_of_pos hy, List.filter_nil, List.getLast?_append_cons, List.getLast?_singleton]

/-! ## A needed read that fails (R71) -/

/-- The part once a needed read has failed, up to its print end: its fault queued, its strip spoiled, its computation abandoned. -/
def rasterFailed (j : PrintJob) (line : Nat) (kind : ReadFailure) (s : State) : State :=
  abandonLine (updateSeg j.start (spoilSeg .raster) (offerFault (.rasterReadError j.card.card.tag line kind) (clearRead s)))

theorem rasterFails_needed {kind : ReadFailure} (hx : s.pe.read = some x) (hj : s.pe.job = some j) (hn : rasterNeeded s x = true) :
    rasterFails kind s = touchStart (endJob (endPrint (rasterFailed j x.line kind s))) := by
  unfold rasterFails
  rw [hx, hj]
  exact if_pos hn

/-- A needed read that fails leaves the strip spoiled, and else what an abandoned computation leaves. -/
theorem rasterFailed_eq {line : Nat} {kind : ReadFailure} {a : State} (hj : s.pe.job = some j) (ha : rasterFailed j line kind s = a) :
    a.pe = { s.pe with job := some { j with comp := none }, read := none } ∧
      a.tmap = ⟨s.tmap.segs.map (fun g => if g.start = j.start then spoilSeg .raster g else g), s.tmap.joints⟩ ∧
      a.su.faults = (offerFault (.rasterReadError j.card.card.tag line kind) s).su.faults ∧ a.ce = s.ce ∧
      a.spb = { s.spb with
        entries := if j.comp = none then s.spb.entries else s.spb.entries.map fun e => { e with visible := true } } ∧
      a.ps.free = s.ps.free ∧ a.ps.mem = s.ps.mem ∧ a.nc = s.nc ∧ SameBase s a ∧ SameLine s a := by
  obtain ⟨u, hu⟩ : ∃ u, updateSeg j.start (spoilSeg .raster) (offerFault (.rasterReadError j.card.card.tag line kind) (clearRead s)) = u :=
    ⟨_, rfl⟩
  have hrest : u.pe = { s.pe with read := none } ∧ u.ps = s.ps ∧ u.spb = s.spb ∧ u.ce = s.ce ∧ u.nc = s.nc ∧ SameBase s u ∧
      SameLine s u := by
    rw [← hu]
    simp [updateSeg, clearRead, SameBase, SameLine]
  have hmap : u.tmap = ⟨s.tmap.segs.map (fun g => if g.start = j.start then spoilSeg .raster g else g), s.tmap.joints⟩ := by
    rw [← hu]
    simp [updateSeg, clearRead]
  have hfaults : u.su.faults = (offerFault (.rasterReadError j.card.card.tag line kind) s).su.faults := by
    rw [← hu]
    exact offerFault_faults_congr _ rfl rfl rfl
  obtain ⟨hpe, hps, hspb, hce, hnc, hbase, hline⟩ := hrest
  have hjob : u.pe.job = some j := by rw [hpe]; exact hj
  unfold rasterFailed at ha
  rw [hu] at ha
  subst ha
  refine ⟨?_, ?_, ?_, ?_, ?_, ?_, ?_, ?_, hbase.trans (by simp [SameBase]), hline.trans (by simp [SameLine])⟩
  · rw [abandonLine_pe hjob, hpe]
  · simpa using hmap
  · simpa using hfaults
  · simpa using hce
  · rw [abandonLine_spb hjob, hspb]
  · rw [abandonLine_free hjob, hps]
  · rw [abandonLine_mem, hps]
  · simpa using hnc

theorem rasterFailed_record {line : Nat} {kind : ReadFailure} (hj : s.pe.job = some j) (hpos : ∀ e ∈ s.spb.entries, 1 ≤ e.id)
    (hr : s.ps.records[n]? = some r) :
    (rasterFailed j line kind s).ps.records[n]? = some (if j.comp = none then r else afterVisibility s (n + 1) r) := by
  obtain ⟨u, hu⟩ : ∃ u, updateSeg j.start (spoilSeg .raster) (offerFault (.rasterReadError j.card.card.tag line kind) (clearRead s)) = u :=
    ⟨_, rfl⟩
  have hrest : u.pe.job = s.pe.job ∧ u.ps = s.ps ∧ u.spb = s.spb := by
    rw [← hu]
    simp [updateSeg, clearRead]
  obtain ⟨hjob, hps, hspb⟩ := hrest
  have hrecord := abandonLine_record (s := u) (hjob.trans hj) (hspb ▸ hpos) (hps ▸ hr)
  have hafter : afterVisibility u (n + 1) r = afterVisibility s (n + 1) r := by
    unfold afterVisibility
    rw [hspb]
  unfold rasterFailed
  rw [hu, hrecord, hafter]

theorem rasterFailed_profile {line : Nat} {kind : ReadFailure} (id : Nat) (hj : s.pe.job = some j) :
    (profileOf (rasterFailed j line kind s) id).state = (profileOf s id).state ∧
      (profileOf (rasterFailed j line kind s) id).refs = (profileOf s id).refs := by
  obtain ⟨u, hu⟩ : ∃ u, updateSeg j.start (spoilSeg .raster) (offerFault (.rasterReadError j.card.card.tag line kind) (clearRead s)) = u :=
    ⟨_, rfl⟩
  have hrest : u.pe.job = s.pe.job ∧ profileOf u id = profileOf s id := by
    rw [← hu]
    simp [updateSeg, clearRead, profileOf]
  obtain ⟨hjob, hprofile⟩ := hrest
  unfold rasterFailed
  rw [hu, ← hprofile]
  exact abandonLine_profile id (hjob.trans hj)

theorem NoLoadFor.rasterFailed {line : Nat} {kind : ReadFailure} (h : NoLoadFor id s) (hj : s.pe.job = some j) :
    NoLoadFor id (rasterFailed j line kind s) :=
  (h.congr (t := updateSeg j.start (spoilSeg .raster) (offerFault (.rasterReadError j.card.card.tag line kind) (clearRead s)))
    (by simp [updateSeg, clearRead]) (by simp [updateSeg, clearRead])).abandon (j := j) (by simpa [updateSeg, clearRead] using hj)

end

/-- The end of a raster read that no job needs, whatever it is (R70). -/
theorem exec_rasterEnd {s : State} {data : List Byte} {i : Instr} (hon : s.power.mainOn = true)
    (hi : i ∈ [Instr.rasterReadComplete data, .rasterReadError, .rasterReadTimeout]) :
    (s.pe.read = none → exec i s = .next s) ∧
    (s.pe.job = none → exec i s = .next { s with pe := { s.pe with read := none } }) ∧
    ∀ x j, s.pe.read = some x → s.pe.job = some j → rasterNeeded s x = false → exec i s = .next (fetchRaster (clearRead s)) := by
  have hclear : s.pe.read = none → clearRead s = s := fun h => by
    unfold clearRead
    rw [← h]
  have hfails : ∀ kind, (s.pe.read = none → rasterFails kind s = s) ∧ (s.pe.job = none → rasterFails kind s = clearRead s) ∧
      ∀ x j, s.pe.read = some x → s.pe.job = some j → rasterNeeded s x = false → rasterFails kind s = fetchRaster (clearRead s) := fun kind => by
    unfold rasterFails
    refine ⟨fun hr => ?_, fun hj => ?_, fun x j hr hj hn => ?_⟩
    · rw [hr]
      exact hclear hr
    · rw [hj]
      split
      · rename_i hsome
        cases hsome
      · rfl
    · rw [hr, hj]
      exact if_neg (by simp [hn])
  simp only [List.mem_cons, List.not_mem_nil, or_false] at hi
  rcases hi with rfl | rfl | rfl
  · refine ⟨fun hr => ?_, fun hj => ?_, fun x j hr hj hn => ?_⟩ <;>
      refine (whenOn_on hon : execRasterReadComplete data s = _).trans (congrArg _ ?_)
    · rw [hr]
    · have hnone : clearRead s = { s with pe := { s.pe with read := none } } := rfl
      rw [← hnone]
      cases hr : s.pe.read with
      | none => exact (hclear hr).symm
      | some r =>
        have hn : rasterNeeded s r = false := by simp [rasterNeeded, hj]
        have hfetch : fetchRaster (clearRead s) = clearRead s := by
          unfold fetchRaster setJob clearRead
          dsimp only
          rw [hj]
          rfl
        dsimp only
        rw [hn, hfetch]
        rfl
    · rw [hr]
      exact if_neg (by simp [hn])
  · obtain ⟨h1, h2, h3⟩ := hfails .error
    exact ⟨fun hr => (whenOn_on hon : execRasterReadError s = _).trans (congrArg _ (h1 hr)),
      fun hj => (whenOn_on hon : execRasterReadError s = _).trans (congrArg _ (h2 hj)),
      fun x j hr hj hn => (whenOn_on hon : execRasterReadError s = _).trans (congrArg _ (h3 x j hr hj hn))⟩
  · obtain ⟨h1, h2, h3⟩ := hfails .timeout
    exact ⟨fun hr => (whenOn_on hon : execRasterReadTimeout s = _).trans (congrArg _ (h1 hr)),
      fun hj => (whenOn_on hon : execRasterReadTimeout s = _).trans (congrArg _ (h2 hj)),
      fun x j hr hj hn => (whenOn_on hon : execRasterReadTimeout s = _).trans (congrArg _ (h3 x j hr hj hn))⟩

/-- What follows a needed read that fails, once the strip is spoiled and the computation abandoned (R71, R78). -/
theorem rasterFails_ends {s a t : State} {j : PrintJob} {line : Nat} {kind : ReadFailure} (hj : s.pe.job = some j)
    (ha : rasterFailed j line kind s = a) (ht : touchStart (endJob (endPrint a)) = t) :
    t.pe = { s.pe with job := none, state := .idle, read := none, hold := t.pe.hold, firstTest := t.pe.firstTest } ∧
      t.su.faults = (offerFault (.rasterReadError j.card.card.tag line kind) s).su.faults ∧
      t.tmap = ⟨s.tmap.segs.map (fun g => if g.start = j.start then { g with
        spoil := g.spoil.or (some .raster), endAt := some (g.start + max 1 j.fallen * pitchOf s) } else g), s.tmap.joints⟩ ∧
      ((profileOf s j.card.profileId).state ≠ .retiring ∨ s.spb.patch = none → 0 < pitchOf s →
        ∀ g c, t.tmap.segs.find? (fun g => g.start == j.start) = some g → g.card = some c →
          PrintedCard t c (pitchOf s) (max 1 j.fallen) g) ∧
      t.ps.mem = s.ps.mem ∧ t.nc = s.nc ∧ SameBase s t ∧ SameLine s t := by
  obtain ⟨hpe, htmap, hfaults, hce, hspb, hfree, hmem, hnc, hbase, hline⟩ := rasterFailed_eq hj ha
  have hajob : a.pe.job = some { j with comp := none } := by rw [hpe]
  have hpitch : pitchOf a = pitchOf s := by
    unfold pitchOf
    rw [hbase.2.2.2.2.2.1]
  have hend := endPrint_eq hajob
  rw [hpitch] at hend
  have hprinted := fun g c => endPrint_printed (s := a) (c := c) (g := g) hajob
  rw [hpitch] at hprinted
  obtain ⟨e, he⟩ : ∃ e, endPrint a = e := ⟨_, rfl⟩
  rw [he] at ht hend hprinted
  have hejob : e.pe.job = some { j with comp := none } := by rw [hend]; exact hajob
  have heparts : e.pe = a.pe ∧ e.su = a.su ∧ e.ps = a.ps ∧ e.spb = a.spb ∧ e.nc = a.nc ∧ SameBase a e ∧ SameLine a e := by
    rw [hend]
    exact ⟨rfl, rfl, rfl, rfl, rfl, ⟨rfl, rfl, rfl, rfl, rfl, rfl, rfl⟩, rfl, rfl, rfl, rfl, rfl⟩
  obtain ⟨epe, esu, eps, espb, enc, ebase, eline⟩ := heparts
  have hetmap : e.tmap = ⟨s.tmap.segs.map (fun g => if g.start = j.start then { g with
      spoil := g.spoil.or (some .raster), endAt := some (g.start + max 1 j.fallen * pitchOf s) } else g), s.tmap.joints⟩ := by
    rw [hend]
    dsimp only
    rw [htmap]
    dsimp only
    rw [List.map_map]
    refine congrArg (TransitMap.mk · s.tmap.joints) (List.map_congr_left fun g _ => ?_)
    dsimp only [Function.comp_apply]
    by_cases hg : g.start = j.start
    · rw [if_pos hg, if_pos hg, if_pos (by exact hg)]
      rfl
    · rw [if_neg hg, if_neg hg, if_neg hg]
  have htbytes : (profileOf s j.card.profileId).state ≠ .retiring ∨ s.spb.patch = none → ∀ x, hostByte t x = hostByte e x := fun hno x => by
    rw [← ht]
    refine Eq.trans (by simp [hostByte]) (endJob_bytes hejob ?_ x)
    have hprofile : profileOf e j.card.profileId = profileOf a j.card.profileId := by
      unfold profileOf
      rw [eps]
    rw [hprofile, espb, hspb, ← ha, (rasterFailed_profile _ hj).1]
    exact hno
  obtain ⟨hold, first, htouch⟩ := touchStart_eq (endJob e)
  rw [ht, endJob_pe hejob] at htouch
  have httmap : t.tmap = e.tmap := by
    rw [htouch]
    exact (endJob_frame e).2.2.2.2.2.2.2.2.1
  refine ⟨?_, ?_, httmap.trans hetmap, fun hno hp g c hg hc => ?_, ?_, ?_, ?_, ?_⟩
  · rw [htouch]
    unfold jobEnded
    dsimp only
    rw [epe, hpe]
    rfl
  · rw [htouch]
    exact (endJob_faults e).1.trans ((congrArg _ esu).trans hfaults)
  · rw [httmap] at hg
    exact (hprinted g c hp hg hc).congr (htbytes hno)
  · rw [htouch]
    exact (endJob_mem e).trans ((congrArg _ eps).trans hmem)
  · rw [htouch]
    exact (endJob_frame e).2.2.2.2.2.2.2.2.2.1.trans (enc.trans hnc)
  · rw [htouch]
    exact (hbase.trans ebase).trans (by simp [SameBase])
  · rw [htouch]
    exact (hline.trans eline).trans (by simp [SameLine])

/-- The print end of a job changes the strip and the trace alone. -/
theorem endPrint_rest {s : State} {j : PrintJob} (hj : s.pe.job = some j) : (endPrint s).pe = s.pe ∧ (endPrint s).ps = s.ps ∧
    (endPrint s).spb = s.spb ∧ (endPrint s).ce = s.ce := by
  rw [endPrint_eq hj]
  exact ⟨rfl, rfl, rfl, rfl⟩

/-- The end of a print by a failed read where the profile keeps a reference. -/
theorem rasterFails_kept {s a t : State} {j : PrintJob} {line : Nat} {kind : ReadFailure} (hj : s.pe.job = some j)
    (ha : rasterFailed j line kind s = a) (ht : touchStart (endJob (endPrint a)) = t) (hno : NotFreed j.card.profileId s)
    (hpos : ∀ e ∈ s.spb.entries, 1 ≤ e.id) : t.ce = s.ce ∧
      t.spb = { s.spb with entries :=
        if j.comp = none then s.spb.entries else s.spb.entries.map fun e => { e with visible := true } } ∧
      ∀ (n : Nat) p, s.ps.records[n]? = some p → t.ps.records[n]? =
        some { (if j.comp = none then p else afterVisibility s (n + 1) p) with
          refs := if n = j.card.profileId - 1 then p.refs - 1 else p.refs } := by
  obtain ⟨hpe, -, -, hce, hspb, -⟩ := rasterFailed_eq hj ha
  have hajob : a.pe.job = some { j with comp := none } := by rw [hpe]
  have hrecord := fun n p hp => rasterFailed_record (n := n) (r := p) (line := line) (kind := kind) hj hpos hp
  have hprofile := rasterFailed_profile (line := line) (kind := kind) j.card.profileId hj
  rw [ha] at hrecord hprofile
  obtain ⟨epe, eps, espb, ece⟩ := endPrint_rest hajob
  obtain ⟨e, he⟩ : ∃ e, endPrint a = e := ⟨_, rfl⟩
  rw [he] at ht epe eps espb ece
  have hejob : e.pe.job = some { j with comp := none } := by rw [epe, hajob]
  have hkept : endJob e = uncounted j.card.profileId (jobEnded e) := endJob_kept (j := { j with comp := none }) hejob (by
    have heprofile : profileOf e j.card.profileId = profileOf a j.card.profileId := by
      unfold profileOf
      rw [eps]
    exact hno.congr ((congrArg _ heprofile).trans hprofile.1) ((congrArg _ heprofile).trans hprofile.2))
  obtain ⟨hold, first, htouch⟩ := touchStart_eq (endJob e)
  rw [ht, hkept] at htouch
  rw [htouch]
  refine ⟨ece.trans hce, espb.trans hspb, fun n p hp => ?_⟩
  refine (uncounted_record (s := jobEnded e) j.card.profileId ((congrArg (·.records[n]?) eps).trans (hrecord n p hp))).trans ?_
  by_cases hk : j.comp = none
  · rw [if_pos hk]
  · rw [if_neg hk]
    rfl

/-- The end of a print by a failed read that releases the last reference of a RETIRING profile. -/
theorem rasterFails_frees {s a t : State} {j : PrintJob} {line : Nat} {kind : ReadFailure} {p : ProfileRecord} {h : ProfileHeader}
    (hj : s.pe.job = some j) (ha : rasterFailed j line kind s = a) (ht : touchStart (endJob (endPrint a)) = t)
    (hp : s.ps.records[j.card.profileId - 1]? = some p) (hst : p.state = .retiring) (hrefs : p.refs ≤ 1) (hh : p.header = some h)
    (hid : 1 ≤ j.card.profileId) (hpos : ∀ e ∈ s.spb.entries, 1 ≤ e.id) (hload : NoLoadFor j.card.profileId s) :
    FreedAtRelease j.card.profileId (if j.comp = none then p else afterVisibility s j.card.profileId p) t ∧
      ExtentAtRelease j.card.profileId h s t := by
  obtain ⟨hpe, -, -, -, -, hfree, -⟩ := rasterFailed_eq hj ha
  have hajob : a.pe.job = some { j with comp := none } := by rw [hpe]
  have hrecord := rasterFailed_record (line := line) (kind := kind) hj hpos hp
  have haload := hload.rasterFailed (line := line) (kind := kind) hj
  rw [ha] at hrecord haload
  rw [Nat.sub_add_cancel hid] at hrecord
  obtain ⟨epe, eps, -, -⟩ := endPrint_rest hajob
  obtain ⟨e, he⟩ : ∃ e, endPrint a = e := ⟨_, rfl⟩
  rw [he] at ht epe eps
  have hejob : e.pe.job = some { j with comp := none } := by rw [epe, hajob]
  obtain ⟨q, hq⟩ : ∃ q, (if j.comp = none then p else afterVisibility s j.card.profileId p) = q := ⟨_, rfl⟩
  have hlike : q.state = p.state ∧ q.refs = p.refs ∧ q.header = p.header := by
    rw [← hq]
    split <;> exact ⟨rfl, rfl, rfl⟩
  obtain ⟨hqst, hqrefs, hqh⟩ := hlike
  rw [hq] at hrecord ⊢
  obtain ⟨hreleased, hextent⟩ := endJob_released (p := q) (h := h) hejob ((congrArg (·.records[j.card.profileId - 1]?) eps).trans hrecord)
    (hqst.trans hst) (hqrefs.le.trans hrefs) (hqh.trans hh) (haload.congr (by rw [eps]) (by rw [eps]))
  have hextent' : ExtentAtRelease j.card.profileId h s (endJob e) := by
    unfold ExtentAtRelease at hextent ⊢
    rw [eps, hfree] at hextent
    exact hextent
  exact ht ▸ ⟨hreleased.touched.1, hextent'.touched⟩

/-- Settles O51. -/
theorem rasterReads : Obligations.RasterReads := by
  refine fun s hon => ⟨fun data hr i hi => ?_, fun data hj i hi => ?_, fun r j data w hr hlive hst hj hline hw => ?_,
    fun r j data w hr hj hno hw i hi => ?_, fun r j i kind hr hlive hst hj hline hi => ?_⟩
  · exact (exec_rasterEnd hon hi).1 hr
  · exact (exec_rasterEnd hon hi).2.1 hj
  · have hneed : rasterNeeded s r = true := (rasterNeeded_iff hj).mpr ⟨hlive, hst, hline⟩
    have hexec : exec (.rasterReadComplete data) s = .next
        (fetchRaster (setJob (fun j => { j with window := j.window ++ [(r.line, data)] }) (clearRead s))) := by
      refine (whenOn_on hon : execRasterReadComplete data s = _).trans ?_
      rw [hr]
      dsimp only
      rw [if_pos hneed]
    have hjob : (setJob (fun j => { j with window := j.window ++ [(r.line, data)] }) (clearRead s)).pe.job =
        some { j with window := j.window ++ [(r.line, data)] } := by
      change s.pe.job.map _ = _
      rw [hj]
      rfl
    obtain ⟨heq, hnext⟩ := fetchRaster_next hjob rfl hw
    have hlast : w.getLast? = some (r.line, data) := by
      rw [hw]
      exact getLast?_filter_append _ (decide_eq_true hline)
    have hne : w ≠ [] := fun h => by
      rw [h] at hlast
      cases hlast
    obtain ⟨hreads, hwaits⟩ := hnext (r.line + 1) (fun h => absurd h hne) fun l hl => by
      rw [hlast] at hl
      cases hl
      rfl
    exact ⟨_, hexec, heq, fun h1 h2 => hreads hst h1 h2, fun h => hwaits (.inr h)⟩
  · have hexec : exec i s = .next (fetchRaster (clearRead s)) :=
      (exec_rasterEnd hon hi).2.2 r j hr hj (rasterNeeded_false (x := r) hj hno)
    obtain ⟨heq, hnext⟩ := fetchRaster_next (s := clearRead s) hj rfl hw
    exact ⟨_, hexec, heq, hnext⟩
  · have hneed : rasterNeeded s r = true := (rasterNeeded_iff hj).mpr ⟨hlive, hst, hline⟩
    obtain ⟨a, ha⟩ : ∃ a, rasterFailed j r.line kind s = a := ⟨_, rfl⟩
    obtain ⟨t, ht⟩ : ∃ t, touchStart (endJob (endPrint a)) = t := ⟨_, rfl⟩
    have hexec : exec i s = .next t := by
      rcases hi with ⟨rfl, rfl⟩ | ⟨rfl, rfl⟩
      · refine (whenOn_on hon : execRasterReadError s = _).trans (congrArg _ ?_)
        rw [rasterFails_needed hr hj hneed, ha, ht]
      · refine (whenOn_on hon : execRasterReadTimeout s = _).trans (congrArg _ ?_)
        rw [rasterFails_needed hr hj hneed, ha, ht]
    obtain ⟨h1, h2, h3, h4, h5⟩ := rasterFails_ends hj ha ht
    refine ⟨t, hexec, h1, h2, h3, h4, fun hno hpos => ?_, fun p h hp hst hrefs hh hid hpos hload => ?_, h5⟩
    · exact rasterFails_kept hj ha ht hno hpos
    · exact rasterFails_frees hj ha ht hp hst hrefs hh hid hpos hload

end Sys2Proof.Machine

end

section

/-! PROOFS. Edits, creation reads and drains (R43 to R49, R55 to R57). -/

namespace Sys2Proof.Machine

/-! ## Channels of a merged value -/

theorem foldl_or_getLsbD {w : Nat} (f : Nat → BitVec w) (l : List Nat) (a : BitVec w) (i : Nat) :
    (l.foldl (fun acc k => acc ||| f k) a).getLsbD i = (a.getLsbD i || l.any fun k => (f k).getLsbD i) := by
  induction l generalizing a with
  | nil => simp
  | cons k l ih => rw [List.foldl_cons, ih, BitVec.getLsbD_or, List.any_cons, Bool.or_assoc]

theorem channel_getLsbD (v : CellValue) (c i : Nat) : (channel v c).getLsbD i = (decide (i < 8) && v.getLsbD (8 * c + i)) := by
  unfold channel
  rw [BitVec.getLsbD_setWidth, BitVec.getLsbD_ushiftRight]

/-- A bit of a value below its kept channels stands, and the rest is 0. -/
theorem keepChannels_getLsbD (v : CellValue) (k i : Nat) :
    (keepChannels v k).getLsbD i = (v.getLsbD i && decide (i < 64) && decide (i < 8 * k)) := by
  unfold keepChannels
  rw [BitVec.getLsbD_and, BitVec.getLsbD_ofNat, Nat.testBit_two_pow_sub_one, Bool.and_assoc]

theorem mergeEdit_getLsbD (v : CellValue) (e : Edit) {c i : Nat} (hc : c < 8) (hi : i < 8) :
    (mergeEdit v e).getLsbD (8 * c + i) = (if e.mask.getLsbD c then channel e.values c else channel v c).getLsbD i := by
  unfold mergeEdit
  rw [foldl_or_getLsbD, show BitVec.getLsbD (0 : BitVec 64) (8 * c + i) = false from BitVec.getLsbD_zero, Bool.false_or]
  have hterm : ∀ k, ((if e.mask.getLsbD k then channel e.values k else channel v k).setWidth 64 <<< (8 * k)).getLsbD (8 * c + i) =
      (decide (k = c) && (if e.mask.getLsbD c then channel e.values c else channel v c).getLsbD i) := by
    intro k
    rw [BitVec.getLsbD_shiftLeft, BitVec.getLsbD_setWidth]
    by_cases hk : k = c
    · subst hk
      simp [show 8 * k + i < 64 by omega, show i < 64 by omega]
    · rw [decide_eq_false hk, Bool.false_and]
      rcases Nat.lt_or_ge k c with hlt | hge
      · rw [BitVec.getLsbD_of_ge _ (8 * c + i - 8 * k) (by omega)]
        simp
      · rw [decide_eq_true (show 8 * c + i < 8 * k by omega)]
        simp
  simp only [hterm]
  rw [Bool.eq_iff_iff]
  simp only [List.any_eq_true, List.mem_range, Bool.and_eq_true, decide_eq_true_eq]
  constructor
  · rintro ⟨k, -, -, h⟩
    exact h
  · exact fun h => ⟨c, hc, rfl, h⟩

/-- A channel that an edit marks takes the edit's value, another keeps its own, and those beyond the profile's are 0 (R43, R44). -/
theorem channel_merged (v : CellValue) (e : Edit) {k c : Nat} (hc : c < 8) :
    channel (keepChannels (mergeEdit v e) k) c = if c < k then (if e.mask.getLsbD c then channel e.values c else channel v c) else 0 := by
  refine BitVec.eq_of_getLsbD_eq fun i hi => ?_
  rw [channel_getLsbD, keepChannels_getLsbD, mergeEdit_getLsbD v e hc hi]
  by_cases hk : c < k
  · rw [if_pos hk, decide_eq_true hi, decide_eq_true (show 8 * c + i < 64 by omega), decide_eq_true (show 8 * c + i < 8 * k by omega)]
    simp
  · rw [if_neg hk, decide_eq_false (show ¬ 8 * c + i < 8 * k by omega)]
    simp

/-! ## Parity errors (R55 to R57) -/

section
variable {s t u : State} {id node cell n : Nat} {src : ParitySource} {marks : Byte} {r : ProfileRecord} {j : PrintJob}

theorem noteParity_good : noteParity id node cell src 0 s = s := if_pos rfl

theorem noteParity_bad (hm : marks ≠ 0) : noteParity id node cell src marks s = flagParity id (parityError id node cell src marks s) :=
  if_neg hm

/-- What a parity error leaves but for the damage count, the fault, its interrupt and the strip's mark. -/
theorem noteParity_eq (id node cell : Nat) (src : ParitySource) (marks : Byte) (s : State) : noteParity id node cell src marks s = { s with
    tmap := ⟨(noteParity id node cell src marks s).tmap.segs, s.tmap.joints⟩
    ps := { s.ps with records := (noteParity id node cell src marks s).ps.records }
    su := (noteParity id node cell src marks s).su
    ports := (noteParity id node cell src marks s).ports } := by
  have hfault : ∀ f (u : State), offerFault f u = { u with su := (offerFault f u).su, ports := (offerFault f u).ports } := fun f u => by
    obtain ⟨p, hp, -⟩ := offerFault_eq f u
    rw [hp]
  by_cases hm : marks = 0
  · subst hm
    rw [noteParity_good]
  · rw [noteParity_bad hm]
    unfold flagParity parityError
    rw [hfault]
    (repeat' split) <;> rfl

theorem noteParity_bytes (a : Nat) : hostByte (noteParity id node cell src marks s) a = hostByte s a := by
  by_cases hm : marks = 0
  · subst hm
    rw [noteParity_good]
  · rw [noteParity_bad hm]
    refine Eq.trans ?_ (hostByte_offerFault (.parity id node cell src marks) (setProfile id ProfileRecord.hurt s) a)
    unfold hostByte
    rw [(flagParity_frame _ _).2.2.2.2.2.2.2.2.1]
    rfl

/-- A parity error is counted in the profile's record (R55). -/
theorem noteParity_records (hm : marks ≠ 0) :
    (noteParity id node cell src marks s).ps.records = modifyNth s.ps.records (id - 1) ProfileRecord.hurt := by
  rw [noteParity_bad hm, (flagParity_frame _ _).2.2.2.2.2.2.2.2.2.2.1]
  unfold parityError
  rw [(offerFault_frame _ _).2.2.2.2.2.2.2.2.2.2.1]
  rfl

theorem noteParity_record (hm : marks ≠ 0) (hr : s.ps.records[id - 1]? = some r) :
    (noteParity id node cell src marks s).ps.records[id - 1]? = some { r with
      damage := if r.header = none then r.damage else min 255 (r.damage + 1) } := by
  rw [noteParity_records hm, modifyNth_getElem?_eq, hr, Option.map_some]
  unfold ProfileRecord.hurt
  cases r.header <;> rfl

/-- A parity error queues its fault (R55, R56). -/
theorem noteParity_faults (hm : marks ≠ 0) :
    (noteParity id node cell src marks s).su.faults = (offerFault (.parity id node cell src marks) s).su.faults := by
  rw [noteParity_bad hm, (flagParity_frame _ _).2.2.2.2.2.2.2.2.2.2.2.2.2.2.2.2.2.2]
  exact offerFault_faults_congr _ rfl rfl rfl

/-- A fault leaves the halt cause. -/
theorem withFault_haltCause (f : FaultInfo) (pos : Nat) (x : Status) : (x.withFault f pos).haltCause = x.haltCause := by
  unfold Status.withFault
  split <;> rfl

theorem noteParity_haltCause : (noteParity id node cell src marks s).su.haltCause = s.su.haltCause := by
  by_cases hm : marks = 0
  · subst hm
    rw [noteParity_good]
  · rw [noteParity_bad hm, (flagParity_frame _ _).2.2.2.2.2.2.2.2.2.2.2.2.2.2.2.2.2.2]
    unfold parityError
    rw [offerFault_su]
    exact withFault_haltCause _ _ _

/-- A job that prints through the profile takes the PARITY mark (R55, R56). -/
theorem noteParity_segs (hm : marks ≠ 0) (hj : s.pe.job = some j) : (noteParity id node cell src marks s).tmap.segs =
    s.tmap.segs.map fun g => if g.start = j.start ∧ j.card.profileId = id then { g with flags := { g.flags with parity := true } } else g := by
  have hpe : (parityError id node cell src marks s).pe = s.pe ∧ (parityError id node cell src marks s).tmap = s.tmap := by
    simp [parityError, setProfile]
  obtain ⟨hpe, htmap⟩ := hpe
  rw [noteParity_bad hm]
  unfold flagParity
  rw [hpe, hj]
  dsimp only
  by_cases hid : j.card.profileId = id
  · rw [if_pos hid]
    unfold updateSeg
    dsimp only
    rw [htmap]
    simp only [hid, and_true]
  · rw [if_neg hid, htmap]
    simp only [hid, and_false, if_false, List.map_id']

theorem parityHalt_off (h : marks = 0 ∨ haltOnParity s = false) : parityHalt marks s = s := by
  unfold parityHalt
  refine if_neg ?_
  rcases h with h | h <;> simp [h]

/-- A parity error halts a line that is not HALTED where the SETUP asks for it (R57). -/
theorem parityHalt_halts (hm : marks ≠ 0) (hh : haltOnParity s = true) (hst : s.wd.state ≠ .halted) :
    parityHalt marks s = takeHalt .parity s := by
  unfold parityHalt
  rw [if_pos (by rw [hh, Bool.and_true, bne_iff_ne]; exact hm), haltLine_running _ hst]

end

/-! ## The cursor of a PATCH card (R43) -/

section
variable {s t u : State} {c : CurrentCard} {p : PatchJob} {e : Edit} {r : ProfileRecord} {h : ProfileHeader} {id node cell k n : Nat}

theorem EditTaken.of_calm (ht : EditTaken c p u t) (hce : u.ce = s.ce) (hregs : u.regs = s.regs) (hbyte : ∀ a, hostByte u a = hostByte s a) :
    EditTaken c p s t := by
  obtain ⟨hnext, hlast⟩ := ht
  refine ⟨fun hc => ?_, fun hc => ?_⟩
  · obtain ⟨h1, h2, h3⟩ := hnext hc
    exact ⟨h1, h2.trans hce, fun a ha => (h3 a ha).trans (hbyte a)⟩
  · obtain ⟨h1, h2⟩ := hlast hc
    exact ⟨h1, h2.of_calm hce hregs hbyte⟩

/-- The grant of the port leaves how an edit has been taken. -/
theorem EditTaken.pump (ht : EditTaken c p s t) : EditTaken c p s (pumpPort t) := by
  rw [pumpPort_eq]
  exact ht

/-- The cursor moves on, or the card is DONE. -/
theorem advanceEdit_takes (hd : Dispatching .patch c s) (hp : s.spb.patch = some p) :
    EditTaken c p s (advanceEdit s) ∧ (advanceEdit s).spb.entries = s.spb.entries ∧ (advanceEdit s).su.faults = s.su.faults ∧
      (advanceEdit s).su.haltCause = s.su.haltCause := by
  obtain ⟨-, hst, hcur, -⟩ := hd
  by_cases hlast : p.count ≤ p.cursor + 1
  · have heq : advanceEdit s =
        doneCurrent [(128, le 2 p.count), (130, le 2 (profileOf s p.id).version.toNat)] (setPatch none s) := by
      unfold advanceEdit
      rw [hp]
      exact if_pos hlast
    obtain ⟨hfinal, hsu⟩ := finishCurrent_final (c := c) (st := .done) (rc := .ok) (s := setPatch none s)
      (fields := [(128, le 2 p.count), (130, le 2 (profileOf s p.id).version.toNat)]) hcur
      (by rw [show (setPatch none s).ce = s.ce from rfl, hst]; decide)
    have hspb : (advanceEdit s).spb = { s.spb with patch := none } := by
      rw [heq]
      exact (doneCurrent_frame _ _).2.2.2.2.2.2.2.2.2.2.1
    have hps : (advanceEdit s).ps = s.ps := by simp
    refine ⟨⟨fun hlt => absurd hlt (by omega), fun _ => ⟨by rw [hspb], ?_⟩⟩, by rw [hspb], ?_, ?_⟩
    · have hversion : profileOf (advanceEdit s) p.id = profileOf s p.id := by
        unfold profileOf
        rw [hps]
      rw [hversion, heq]
      exact hfinal.of_calm rfl rfl fun _ => rfl
    · rw [heq]
      exact (congrArg _ hsu).trans rfl
    · rw [heq]
      exact (congrArg _ hsu).trans rfl
  · have heq : advanceEdit s = setPatch (some { p with cursor := p.cursor + 1, creating := false }) s := by
      unfold advanceEdit
      rw [hp]
      exact if_neg hlast
    rw [heq]
    exact ⟨⟨fun _ => ⟨rfl, rfl, fun _ _ => rfl⟩, fun h => absurd h hlast⟩, rfl, rfl, rfl⟩

/-! ## A new entry (R44, R48) -/

theorem arriveEntry_entries (v : CellValue) :
    (arriveEntry id node cell v s).spb = { s.spb with entries := s.spb.entries ++ [⟨id, node, cell, v, !computing s⟩] } := by
  unfold arriveEntry
  dsimp only
  split
  · rw [bumpVersions_eq]
  · rfl

/-- A new entry is VISIBLE at once, with a visibility step of its own, unless a line computes (R48). -/
theorem arriveEntry_record (v : CellValue) (hr : s.ps.records[id - 1]? = some r) :
    (arriveEntry id node cell v s).ps.records[id - 1]? = some { r with version := if computing s then r.version else r.version + 1 } := by
  unfold arriveEntry
  dsimp only
  cases hc : computing s
  · exact (setProfile_same (s := { s with spb := _ }) hr _).trans rfl
  · exact hr

/-! ## EDIT_APPLY (R43 to R45) -/

theorem exec_editApply (hd : Dispatching .patch c s) (hp : s.spb.patch = some p) (hph : p.phase = .applying)
    (hcr : p.creating = false) (he : p.edits[p.cursor]? = some e) (hr : s.ps.records[p.id - 1]? = some r) (hh : r.header = some h) :
    exec .editApply s = .next (applyEdit p e h s) := by
  have hprofile : (profileOf s p.id).header = some h := by rw [profileOf_eq hr, hh]
  refine (whenOn_on hd.1 : execEditApply s = _).trans (congrArg _ ?_)
  rw [hp]
  dsimp only
  rw [hph, hcr, he, hprofile]

theorem exec_editApply_off (hon : s.power.mainOn = true)
    (hno : s.spb.patch = none ∨ ∃ p, s.spb.patch = some p ∧ (p.phase ≠ .applying ∨ p.creating = true)) :
    exec .editApply s = .next s := by
  refine (whenOn_on hon : execEditApply s = _).trans (congrArg _ ?_)
  rcases hno with hp | ⟨p, hp, hno⟩
  · rw [hp]
  · rw [hp]
    dsimp only
    split
    · rename_i h1 h2 h3 h4
      rcases hno with hno | hno
      · exact absurd h1 hno
      · rw [hno] at h2
        cases h2
    · rfl

theorem applyEdit_merge {x : ShadowEntry} (hx : s.spb.entries.find? (fun x => x.cell == h.base + e.node) = some x)
    (hv : x.visible = false) : applyEdit p e h s = advanceEdit (mergePending (h.base + e.node) e h.channels s) := by
  have hroute : editRoute s.spb.entries (h.base + e.node) = .merge := by
    unfold editRoute
    rw [hx]
    exact if_neg (by simp [hv])
  unfold applyEdit
  dsimp only
  rw [hroute]

theorem applyEdit_create (hx : s.spb.entries.find? (fun x => x.cell == h.base + e.node) = none) (hlen : s.spb.entries.length < 2) :
    (∀ v, cacheHolds s (h.base + e.node) = some v → applyEdit p e h s =
      pumpPort (advanceEdit (arriveEntry p.id e.node (h.base + e.node) (keepChannels (mergeEdit v e) h.channels) s))) ∧
    (cacheHolds s (h.base + e.node) = none → applyEdit p e h s = pumpPort (setPatch (some { p with creating := true }) s)) := by
  have hroute : editRoute s.spb.entries (h.base + e.node) = .create := by
    unfold editRoute
    rw [hx]
    exact if_neg (by omega)
  unfold applyEdit
  dsimp only
  rw [hroute]
  dsimp only
  refine ⟨fun v hv => by rw [hv], fun hv => by rw [hv]⟩

theorem applyEdit_wait (hx : (∃ x, s.spb.entries.find? (fun x => x.cell == h.base + e.node) = some x ∧ x.visible = true) ∨
      (s.spb.entries.find? (fun x => x.cell == h.base + e.node) = none ∧ 2 ≤ s.spb.entries.length)) :
    applyEdit p e h s = if p.noWait then failPatch .busy [(128, le 2 p.cursor), (132, le 2 p.cursor)] s
      else stallCurrent (setPatch (some { p with phase := .waiting }) s) := by
  have hroute : editRoute s.spb.entries (h.base + e.node) = .wait := by
    unfold editRoute
    rcases hx with ⟨x, hx, hv⟩ | ⟨hx, hlen⟩
    · rw [hx]
      exact if_pos hv
    · rw [hx]
      exact if_pos hlen
  unfold applyEdit
  dsimp only
  rw [hroute]

/-- An edit leaves the store's memory and its free extents. -/
theorem applyEdit_store (p : PatchJob) (e : Edit) (h : ProfileHeader) (s : State) :
    (applyEdit p e h s).ps.mem = s.ps.mem ∧ (applyEdit p e h s).ps.free = s.ps.free := by
  have hpump : ∀ u, (pumpPort u).ps.free = u.ps.free := fun u => by rw [pumpPort_eq]
  have harrive : ∀ v, (arriveEntry p.id e.node (h.base + e.node) v s).ps.free = s.ps.free := fun v => by
    unfold arriveEntry
    dsimp only
    split
    · rw [bumpVersions_eq]
    · rfl
  unfold applyEdit
  dsimp only
  split
  · simp [mergePending]
  · split
    · simp [hpump, harrive]
    · simp [hpump, setPatch]
  · split
    · simp [failPatch, setPatch]
    · simp [setPatch]

/-- An edit that merges into the PENDING entry of its cell (R43). -/
theorem applyEdit_merges {x : ShadowEntry} (hd : Dispatching .patch c s) (hp : s.spb.patch = some p)
    (hx : s.spb.entries.find? (fun x => x.cell == h.base + e.node) = some x) (hv : x.visible = false) (ht : applyEdit p e h s = t) :
    (∀ (n : Nat) y, s.spb.entries[n]? = some y → t.spb.entries[n]? = some (if y.cell = h.base + e.node ∧ y.visible = false
      then { y with value := keepChannels (mergeEdit y.value e) h.channels } else y)) ∧
      t.spb.entries.length = s.spb.entries.length ∧ t.ps = s.ps ∧ EditTaken c p s t := by
  rw [applyEdit_merge hx hv] at ht
  obtain ⟨htaken, hentries, -, -⟩ := advanceEdit_takes (s := mergePending (h.base + e.node) e h.channels s) hd hp
  have hps : (advanceEdit (mergePending (h.base + e.node) e h.channels s)).ps = s.ps :=
    (advanceEdit_frame _).2.2.2.2.2.2.2.2.2.1
  rw [ht] at htaken hentries hps
  refine ⟨fun n y hy => ?_, ?_, hps, htaken.of_calm rfl rfl fun _ => rfl⟩
  · rw [hentries]
    unfold mergePending
    dsimp only
    rw [List.getElem?_map, hy, Option.map_some]
    simp only [Bool.and_eq_true, decide_eq_true_eq, Bool.not_eq_true']
  · rw [hentries]
    exact List.length_map _

/-- An edit whose cell the cache holds brings a new entry (R44). -/
theorem applyEdit_creates {v : CellValue} (hd : Dispatching .patch c s) (hp : s.spb.patch = some p)
    (hr : s.ps.records[p.id - 1]? = some r) (hx : s.spb.entries.find? (fun x => x.cell == h.base + e.node) = none)
    (hlen : s.spb.entries.length < 2) (hv : cacheHolds s (h.base + e.node) = some v) (ht : applyEdit p e h s = t) :
    t.spb.entries = s.spb.entries ++ [⟨p.id, e.node, h.base + e.node, keepChannels (mergeEdit v e) h.channels, !computing s⟩] ∧
      t.ps.records[p.id - 1]? = some { r with version := if computing s then r.version else r.version + 1 } ∧ EditTaken c p s t := by
  rw [(applyEdit_create hx hlen).1 v hv] at ht
  obtain ⟨a, ha⟩ : ∃ a, arriveEntry p.id e.node (h.base + e.node) (keepChannels (mergeEdit v e) h.channels) s = a := ⟨_, rfl⟩
  have hspb := arriveEntry_entries (s := s) (id := p.id) (node := e.node) (cell := h.base + e.node) (keepChannels (mergeEdit v e) h.channels)
  have hrecord := arriveEntry_record (node := e.node) (cell := h.base + e.node) (keepChannels (mergeEdit v e) h.channels) hr
  have hframe := arriveEntry_frame s p.id e.node (h.base + e.node) (keepChannels (mergeEdit v e) h.channels)
  rw [ha] at ht hspb hrecord hframe
  obtain ⟨-, -, hpower, -, hregs, -, -, -, hports, hce, -⟩ := hframe
  have hda : Dispatching .patch c a := by
    unfold Dispatching at hd ⊢
    rwa [hpower, hce]
  have hpa : a.spb.patch = some p := by rw [hspb, ← hp]
  obtain ⟨htaken, hentries, -, -⟩ := advanceEdit_takes hda hpa
  have hps : (advanceEdit a).ps = a.ps := (advanceEdit_frame _).2.2.2.2.2.2.2.2.2.1
  refine ⟨?_, ?_, ht ▸ (htaken.of_calm hce hregs fun x => by rw [hostByte, hports, hostByte]).pump⟩
  · rw [← ht, pumpPort_eq]
    exact hentries.trans (by rw [hspb])
  · rw [← ht, pumpPort_records, hps]
    exact hrecord

/-- With no VISIBLE entry the shadow requester asks for the creation read that an edit waits for (R49). -/
theorem nextShadowRequest_creation (hnone : s.spb.entries.find? (·.visible) = none) (hp : s.spb.patch = some p)
    (hcr : p.creating = true) (he : p.edits[p.cursor]? = some e) (hh : (profileOf s p.id).header = some h) :
    nextShadowRequest s = some (.creation p.id e.node (h.base + e.node) h.channels) := by
  unfold nextShadowRequest
  rw [hnone]
  dsimp only
  rw [hp]
  dsimp only
  rw [hcr, he, hh]

/-- An edit without an entry or a cache line asks for its creation read (R44). -/
theorem applyEdit_asks (hr : s.ps.records[p.id - 1]? = some r) (hh : r.header = some h)
    (he : p.edits[p.cursor]? = some e) (hx : s.spb.entries.find? (fun x => x.cell == h.base + e.node) = none)
    (hlen : s.spb.entries.length < 2) (hv : cacheHolds s (h.base + e.node) = none) (ht : applyEdit p e h s = t) :
    t.spb = { s.spb with patch := some { p with creating := true } } ∧ t.ps.records = s.ps.records ∧ t.ce = s.ce ∧ t.su = s.su ∧
      t.ports = s.ports ∧
      (s.ps.arb.busy = none → s.ps.arb.fillReq = none → s.ps.arb.shadowReq = none → s.ps.arb.loaderReq = none →
        s.ps.loader = none → (∀ x ∈ s.spb.entries, x.visible = false) →
        t.ps.arb.busy = some (.shadow (.creation p.id e.node (h.base + e.node) h.channels) true)) := by
  rw [(applyEdit_create hx hlen).2 hv] at ht
  subst ht
  have hrest := pumpPort_eq (setPatch (some { p with creating := true }) s)
  refine ⟨by rw [hrest]; rfl, by rw [pumpPort_records]; rfl, by rw [hrest]; rfl, by rw [hrest]; rfl, by rw [hrest]; rfl,
    fun hb hf hs hl hload hpending => ?_⟩
  have hshadow : shadowAsked (setPatch (some { p with creating := true }) s) =
      some (.creation p.id e.node (h.base + e.node) h.channels) := by
    have hnone : s.spb.entries.find? (·.visible) = none := List.find?_eq_none.mpr fun x hx => by simp [hpending x hx]
    have hheader : (profileOf (setPatch (some { p with creating := true }) s) p.id).header = some h := by
      rw [show profileOf (setPatch (some { p with creating := true }) s) p.id = profileOf s p.id from rfl, profileOf_eq hr, hh]
    unfold shadowAsked
    rw [if_neg (by simp [setPatch, hs, hb, shadowAtPort])]
    exact nextShadowRequest_creation (p := { p with creating := true }) hnone rfl rfl he hheader
  have hloader : loadAsked (setPatch (some { p with creating := true }) s) = none := loadAsked_idle hl hload
  rw [pumpPort_asked, hshadow, hloader]
  by_cases hcredit : s.ps.arb.shadowCredit = true
  · exact congrArg Arbiter.busy (grant_shadowCredit (a := { s.ps.arb with
      shadowReq := some (.creation p.id e.node (h.base + e.node) h.channels), loaderReq := none }) hb rfl hcredit)
  · obtain ⟨-, hgrant, -⟩ := grant_rest (a := { s.ps.arb with
      shadowReq := some (.creation p.id e.node (h.base + e.node) h.channels), loaderReq := none }) hb
      (.inr (Bool.eq_false_iff.mpr hcredit)) (.inl rfl)
    exact congrArg Arbiter.busy (hgrant (.creation p.id e.node (h.base + e.node) h.channels) hf rfl)

/-- An edit that its cell's entry, VISIBLE, or a full buffer makes wait (R45). -/
theorem applyEdit_waits (hd : Dispatching .patch c s) (hx : (∃ x, s.spb.entries.find? (fun x => x.cell == h.base + e.node) = some x ∧
      x.visible = true) ∨ (s.spb.entries.find? (fun x => x.cell == h.base + e.node) = none ∧ 2 ≤ s.spb.entries.length))
    (ht : applyEdit p e h s = t) : t.ps = s.ps ∧ t.spb.entries = s.spb.entries ∧
      (p.noWait = true → t.spb.patch = none ∧ DispatchFinal c .failed .busy [(128, le 2 p.cursor), (132, le 2 p.cursor)] s t) ∧
      (p.noWait = false → t.spb.patch = some { p with phase := .waiting } ∧ t.ce.state = .stalled ∧ t.ce.current = s.ce.current ∧
        t.su = raised [.chainWaiting] s.su) := by
  rw [applyEdit_wait hx] at ht
  subst ht
  by_cases hw : p.noWait = true
  · obtain ⟨hfinal, hspb, -, hps, -⟩ := failPatch_fails (rc := .busy) (fields := [(128, le 2 p.cursor), (132, le 2 p.cursor)]) hd
    rw [if_pos hw]
    exact ⟨hps, by rw [hspb], fun _ => ⟨by rw [hspb], hfinal⟩, fun h => absurd (hw.symm.trans h) (by decide)⟩
  · have hstate : s.ce.state ≠ .stalled := by rw [hd.2.1]; decide
    obtain ⟨hce, hsu, -, -, ⟨hps, hspb, -⟩, -⟩ := stallCurrent_stalls (s := setPatch (some { p with phase := .waiting }) s) hstate
    rw [if_neg hw]
    exact ⟨hps, by rw [hspb]; rfl, fun h => absurd h hw, fun _ => ⟨by rw [hspb]; rfl, by rw [hce], by rw [hce]; rfl, hsu⟩⟩

/-! ## Creation reads (R44, R56) -/

/-- The part once the creation read has come, with the port free and the damage it met in the store. -/
def readDone (cell : Nat) (d : CellDamage) (s : State) : State := (readCell cell d (portDone s)).2

theorem exec_creationRead {dmg : CellDamage} {live : Bool} (hon : s.power.mainOn = true)
    (hb : s.ps.arb.busy = some (.shadow (.creation id node cell k) live)) : exec (.creationReadComplete dmg) s = .next
      (pumpPort (if live then createEntry id node cell k (damaged (storeRead s.ps.mem cell) dmg) (readDone cell dmg s)
        else readDone cell dmg s)) := by
  refine (whenOn_on hon : execCreationReadComplete dmg s = _).trans (congrArg _ ?_)
  rw [hb]
  rfl

/-- The edit that waited takes its value, by the parity read with it. -/
theorem createEntry_eq {v : StoreCell} (hp : s.spb.patch = some p) (hcr : p.creating = true) (he : p.edits[p.cursor]? = some e) :
    createEntry id node cell k v s = parityHalt (badChannels v k) (advanceEdit (noteParity id node cell .merge (badChannels v k)
      (arriveEntry id node cell (keepChannels (mergeEdit v.bytes e) k) s))) := by
  unfold createEntry
  rw [hp]
  dsimp only
  rw [hcr, he]

/-- An entry that arrives with a parity error in its value, and the cursor moved on (R44, R56). -/
def entryTaken (id node cell k : Nat) (e : Edit) (v : StoreCell) (s : State) : State :=
  advanceEdit (noteParity id node cell .merge (badChannels v k) (arriveEntry id node cell (keepChannels (mergeEdit v.bytes e) k) s))

theorem entryTaken_takes {v : StoreCell} (hd : Dispatching .patch c s) (hp : s.spb.patch = some p)
    (ht : entryTaken id node cell k e v s = t) :
    t.spb.entries = s.spb.entries ++ [⟨id, node, cell, keepChannels (mergeEdit v.bytes e) k, !computing s⟩] ∧ EditTaken c p s t ∧
      t.ps.mem = s.ps.mem ∧ t.wd = s.wd ∧ t.setup = s.setup ∧ t.su.haltCause = s.su.haltCause := by
  obtain ⟨a, ha⟩ : ∃ a, arriveEntry id node cell (keepChannels (mergeEdit v.bytes e) k) s = a := ⟨_, rfl⟩
  have hspb := arriveEntry_entries (s := s) (id := id) (node := node) (cell := cell) (keepChannels (mergeEdit v.bytes e) k)
  have hmem := arriveEntry_mem s id node cell (keepChannels (mergeEdit v.bytes e) k)
  have hframe := arriveEntry_frame s id node cell (keepChannels (mergeEdit v.bytes e) k)
  obtain ⟨b, hb⟩ : ∃ b, noteParity id node cell .merge (badChannels v k) a = b := ⟨_, rfl⟩
  have hbmem := noteParity_mem a id node cell .merge (badChannels v k)
  have hbframe := noteParity_frame a id node cell .merge (badChannels v k)
  have hbcause := noteParity_haltCause (s := a) (id := id) (node := node) (cell := cell) (src := .merge) (marks := badChannels v k)
  have hbbytes := noteParity_bytes (s := a) (id := id) (node := node) (cell := cell) (src := .merge) (marks := badChannels v k)
  unfold entryTaken at ht
  rw [ha] at ht hspb hmem hframe
  rw [hb] at ht hbmem hbframe hbcause hbbytes
  obtain ⟨-, -, hpower, -, hregs, hset, -, -, hports, hce, -, -, -, -, hwd, -, -, hsu⟩ := hframe
  obtain ⟨-, -, hbpower, -, hbregs, hbset, -, -, hbce, hbspb, -, -, -, hbwd, -⟩ := hbframe
  have hdb : Dispatching .patch c b := by
    unfold Dispatching at hd ⊢
    rwa [hbpower, hpower, hbce, hce]
  have hpb : b.spb.patch = some p := by rw [hbspb, hspb, ← hp]
  obtain ⟨htaken, hentries, -, hcause⟩ := advanceEdit_takes hdb hpb
  have hlast := advanceEdit_frame b
  rw [ht] at htaken hentries hcause hlast
  obtain ⟨-, -, -, -, -, htset, -, -, -, htps, -, -, -, htwd, -⟩ := hlast
  refine ⟨by rw [hentries, hbspb, hspb], htaken.of_calm (hbce.trans hce) (hbregs.trans hregs) fun x => ?_, ?_, ?_, ?_, ?_⟩
  · rw [hbbytes, hostByte, hports, hostByte]
  · rw [htps, hbmem, hmem]
  · rw [htwd, hbwd, hwd]
  · rw [htset, hbset, hset]
  · rw [hcause, hbcause, hsu]

theorem entryTaken_faults {v : StoreCell} (hd : Dispatching .patch c s) (hp : s.spb.patch = some p) :
    (entryTaken id node cell k e v s).su.faults = (noteParity id node cell .merge (badChannels v k)
      (arriveEntry id node cell (keepChannels (mergeEdit v.bytes e) k) s)).su.faults := by
  have hspb := arriveEntry_entries (s := s) (id := id) (node := node) (cell := cell) (keepChannels (mergeEdit v.bytes e) k)
  refine (advanceEdit_takes (c := c) (p := p) ?_ ?_).2.2.1
  · unfold Dispatching at hd ⊢
    simpa using hd
  · rw [(noteParity_frame _ _ _ _ _ _).2.2.2.2.2.2.2.2.2.1, hspb, ← hp]

/-- An entry that arrives with good parity. -/
theorem entryTaken_good {v : StoreCell} (hd : Dispatching .patch c s) (hp : s.spb.patch = some p) (hm : badChannels v k = 0)
    (hr : s.ps.records[id - 1]? = some r) (ht : entryTaken id node cell k e v s = t) : t.su.faults = s.su.faults ∧ t.tmap = s.tmap ∧
      t.ps.records[id - 1]? = some { r with version := if computing s then r.version else r.version + 1 } := by
  have hfaults := entryTaken_faults (id := id) (node := node) (cell := cell) (k := k) (e := e) (v := v) hd hp
  rw [ht, hm, noteParity_good] at hfaults
  unfold entryTaken at ht
  rw [hm, noteParity_good] at ht
  refine ⟨hfaults.trans (by simp), by rw [← ht]; simp, ?_⟩
  rw [← ht, (advanceEdit_frame _).2.2.2.2.2.2.2.2.2.1]
  exact arriveEntry_record _ hr

/-- An entry that arrives with a parity error (R55, R56). -/
theorem entryTaken_bad {v : StoreCell} (hd : Dispatching .patch c s) (hp : s.spb.patch = some p) (hm : badChannels v k ≠ 0)
    (hr : s.ps.records[id - 1]? = some r) (ht : entryTaken id node cell k e v s = t) :
    t.su.faults = (offerFault (.parity id node cell .merge (badChannels v k)) s).su.faults ∧
      t.ps.records[id - 1]? = some { r with
        version := if computing s then r.version else r.version + 1,
        damage := if r.header = none then r.damage else min 255 (r.damage + 1) } ∧
      ∀ j, s.pe.job = some j → t.tmap.segs = s.tmap.segs.map (fun g =>
        if g.start = j.start ∧ j.card.profileId = id then { g with flags := { g.flags with parity := true } } else g) := by
  have hfaults := entryTaken_faults (id := id) (node := node) (cell := cell) (k := k) (e := e) (v := v) hd hp
  have hrecord := arriveEntry_record (node := node) (cell := cell) (keepChannels (mergeEdit v.bytes e) k) hr
  have hframe := arriveEntry_frame s id node cell (keepChannels (mergeEdit v.bytes e) k)
  obtain ⟨a, ha⟩ : ∃ a, arriveEntry id node cell (keepChannels (mergeEdit v.bytes e) k) s = a := ⟨_, rfl⟩
  unfold entryTaken at ht
  rw [ha] at ht hrecord hframe
  unfold entryTaken at hfaults
  rw [ha, ht] at hfaults
  obtain ⟨-, -, -, -, -, -, -, hweb, -, -, htmap, -, hpe, -, -, -, -, hsu⟩ := hframe
  have hlast := advanceEdit_frame (noteParity id node cell .merge (badChannels v k) a)
  rw [ht] at hlast
  obtain ⟨-, -, -, -, -, -, -, -, httmap, htps, -⟩ := hlast
  refine ⟨?_, ?_, fun j hj => ?_⟩
  · rw [hfaults, noteParity_faults hm]
    exact offerFault_faults_congr _ (by rw [hsu]) (by rw [hsu]) (by rw [hweb])
  · rw [htps, noteParity_record hm hrecord]
  · rw [httmap, noteParity_segs hm (hpe ▸ hj), htmap]

/-! ## Drains (R49) -/

theorem exec_drainWrite {v : CellValue} {live : Bool} (hon : s.power.mainOn = true)
    (hb : s.ps.arb.busy = some (.shadow (.drain id cell v) live)) : exec .drainWriteComplete s = .next
      (pumpPort (if live then offerTo .patch { portDone (writeCell cell v s) with
        spb := { (portDone (writeCell cell v s)).spb with
          entries := (portDone (writeCell cell v s)).spb.entries.filter (fun e => e.cell != cell) } }
        else portDone (writeCell cell v s))) := by
  refine (whenOn_on hon : execDrainWriteComplete s = _).trans (congrArg _ ?_)
  rw [hb]

/-- A completed drain write (R49). -/
theorem drainWrite_done {v : CellValue} {live : Bool} (hon : s.power.mainOn = true) (hwf : StoreCanonical s)
    (hb : s.ps.arb.busy = some (.shadow (.drain id cell v) live)) : ∃ t, exec .drainWriteComplete s = .next t ∧
      (∀ a, storeRead t.ps.mem a = if a = cell then freshCell v else storeRead s.ps.mem a) ∧
      t.spb = { s.spb with entries := if live then s.spb.entries.filter (fun x => x.cell != cell) else s.spb.entries } ∧
      t.ce = { s.ce with offerDue := s.ce.offerDue || (live && s.ce.state == .stalled && currentIs s .patch) } ∧
      t.ps.records = s.ps.records ∧ t.ps.free = s.ps.free ∧ t.ps.loader = s.ps.loader ∧ t.su = s.su ∧ t.ports = s.ports ∧
      SameBase s t ∧ SamePrint s t ∧ SameLine s t := by
  obtain ⟨lines, hu⟩ := cellWritten_eq cell v s
  have hexec := exec_drainWrite hon hb
  rw [hu] at hexec
  have hoffer : ∀ u : State, offerTo .patch u = { u with ce := offeredAgain .patch u.ce } := fun u => by
    rw [← offerTo_ce]
    unfold offerTo
    split <;> rfl
  have hleft : (if live then offerTo .patch { ({ s with
        ps := { s.ps with mem := storeWrite s.ps.mem cell (freshCell v), arb := { s.ps.arb with busy := none } }
        nc := { s.nc with lines := lines } } : State) with
        spb := { s.spb with entries := s.spb.entries.filter (fun e => e.cell != cell) } }
      else { s with
        ps := { s.ps with mem := storeWrite s.ps.mem cell (freshCell v), arb := { s.ps.arb with busy := none } }
        nc := { s.nc with lines := lines } }) = { s with
      ps := { s.ps with mem := storeWrite s.ps.mem cell (freshCell v), arb := { s.ps.arb with busy := none } }
      nc := { s.nc with lines := lines }
      spb := { s.spb with entries := if live then s.spb.entries.filter (fun x => x.cell != cell) else s.spb.entries }
      ce := { s.ce with offerDue := s.ce.offerDue || (live && s.ce.state == .stalled && currentIs s .patch) } } := by
    cases live
    · simp
    · rw [if_pos rfl, hoffer]
      simp [offeredAgain, currentIs_eq]
  refine ⟨_, hexec.trans (congrArg (fun u => Host.Outcome.next (pumpPort u)) hleft), ?_⟩
  rw [pumpPort_eq]
  exact ⟨fun a => storeRead_storeWrite cell a (freshCell v) hwf, rfl, rfl, rfl, rfl, rfl, rfl, rfl,
    ⟨rfl, rfl, rfl, rfl, rfl, rfl, rfl⟩, ⟨rfl, rfl⟩, rfl, rfl, rfl, rfl, rfl⟩

/-- A port without a shadow access knows neither a creation read nor a drain. -/
theorem exec_shadowEnd_off {dmg : CellDamage} {i : Instr} (hon : s.power.mainOn = true) (hno : ∀ r live, s.ps.arb.busy ≠ some (.shadow r live))
    (hi : i ∈ [Instr.creationReadComplete dmg, .drainWriteComplete]) : exec i s = .next s := by
  simp only [List.mem_cons, List.not_mem_nil, or_false] at hi
  rcases hi with rfl | rfl
  · refine (whenOn_on hon : execCreationReadComplete dmg s = _).trans (congrArg _ ?_)
    split
    · rename_i h
      exact absurd h (hno _ _)
    · rfl
  · refine (whenOn_on hon : execDrainWriteComplete s = _).trans (congrArg _ ?_)
    split
    · rename_i h
      exact absurd h (hno _ _)
    · rfl

end

/-- Settles O47. -/
theorem editsAndDrains : Obligations.EditsAndDrains := by
  refine ⟨fun v e k c hc _ => channel_merged v e hc, fun s hon => exec_editApply_off hon,
    fun c s p e r h hd hp hph hcr he hr hh => ?_, fun s dmg id node cell k live hon hwf hb => ?_,
    fun s hon => ⟨fun hno dmg i hi => exec_shadowEnd_off hon hno hi, fun id cell v live hwf hb => drainWrite_done hon hwf hb⟩⟩
  · obtain ⟨t, ht⟩ : ∃ t, applyEdit p e h s = t := ⟨_, rfl⟩
    have hstore := applyEdit_store p e h s
    have hframe := applyEdit_frame s p e h
    rw [ht] at hstore hframe
    obtain ⟨f1, f2, f3, f4, f5, f6, f7, hweb, htmap, hnc, hpe, hhc, hwd, htc, hrc⟩ := hframe
    refine ⟨t, (exec_editApply hd hp hph hcr he hr hh).trans (congrArg _ ht), hstore.1, hstore.2, hnc, ⟨f1, f2, f3, f4, f5, f6, f7⟩,
      ⟨htmap, hpe⟩, ⟨hweb, hhc, hwd, htc, hrc⟩, fun x hx hv => applyEdit_merges hd hp hx hv ht,
      fun hx hlen => ⟨fun v hv => applyEdit_creates hd hp hr hx hlen hv ht, fun hv => applyEdit_asks hr hh he hx hlen hv ht⟩,
      fun hx => applyEdit_waits hd hx ht⟩
  · have hexec := exec_creationRead (dmg := dmg) hon hb
    obtain ⟨v, hv⟩ : ∃ v, damaged (storeRead s.ps.mem cell) dmg = v := ⟨_, rfl⟩
    have hu : readDone cell dmg s = { s with
        ps := { s.ps with mem := storeWrite s.ps.mem cell v, arb := { s.ps.arb with busy := none } } } := by
      rw [← hv]
      rfl
    have hread := fun a => storeRead_storeWrite (m := s.ps.mem) cell a v hwf
    obtain ⟨u, hname⟩ : ∃ u, readDone cell dmg s = u := ⟨_, rfl⟩
    rw [hv, hname] at hexec
    rw [hname] at hu
    rw [hv]
    refine ⟨_, hexec, ?_⟩
    cases live
    · simp only [Bool.false_eq_true, if_false]
      rw [pumpPort_eq, hu]
      exact ⟨hread, fun _ => ⟨rfl, rfl, rfl, rfl, rfl⟩, nofun⟩
    · simp only [if_true]
      refine ⟨fun a => ?_, nofun, fun c p e r _ hd hp hcr he hid hr => ?_⟩
      · rw [pumpPort_mem, createEntry_mem, hu]
        exact hread a
      obtain ⟨x, hx⟩ : ∃ x, entryTaken id node cell k e v u = x := ⟨_, rfl⟩
      have hsame : u.ce = s.ce ∧ u.power = s.power ∧ u.spb = s.spb ∧ u.ps.records = s.ps.records ∧ u.su = s.su ∧ u.web = s.web ∧
          u.tmap = s.tmap ∧ u.wd = s.wd ∧ u.setup = s.setup ∧ u.pe = s.pe ∧ u.regs = s.regs ∧ u.ports = s.ports := by
        rw [hu]
        exact ⟨rfl, rfl, rfl, rfl, rfl, rfl, rfl, rfl, rfl, rfl, rfl, rfl⟩
      obtain ⟨uce, upower, uspb, urecords, usu, uweb, utmap, uwd, uset, upe, uregs, uports⟩ := hsame
      have hcomp : computing u = computing s := by
        unfold computing
        rw [upe]
      have hdu : Dispatching .patch c u := by
        unfold Dispatching at hd ⊢
        rwa [upower, uce]
      have hpu : u.spb.patch = some p := by rw [uspb, hp]
      have hru : u.ps.records[id - 1]? = some r := by rw [urecords, hr]
      have hentry : createEntry id node cell k v u = parityHalt (badChannels v k) x := by
        rw [createEntry_eq hpu hcr he, ← hx]
        rfl
      obtain ⟨hentries, htaken, -, hwd, hset, hcause⟩ := entryTaken_takes hdu hpu hx
      have hhalt : haltOnParity x = haltOnParity s := by
        unfold haltOnParity
        rw [hset, uset]
      have hoff : badChannels v k = 0 ∨ haltOnParity s = false → createEntry id node cell k v u = x := fun h =>
        hentry.trans (parityHalt_off (by rwa [hhalt]))
      rw [uspb, hcomp] at hentries
      rw [uwd] at hwd
      rw [usu] at hcause
      refine ⟨fun h => ?_, fun hm => ?_, fun hm h => ?_, fun hm h hst => ?_⟩
      · rw [hoff h]
        refine ⟨by rw [pumpPort_eq]; exact hentries, (htaken.of_calm uce uregs fun a => ?_).pump⟩
        rw [hostByte, uports, hostByte]
      · obtain ⟨hfaults, htmap, hrecord⟩ := entryTaken_good hdu hpu hm hru hx
        rw [hoff (.inl hm), pumpPort_eq]
        rw [usu] at hfaults
        rw [utmap] at htmap
        rw [hcomp] at hrecord
        exact ⟨hfaults, htmap, hwd, hrecord⟩
      · obtain ⟨hfaults, hrecord, hsegs⟩ := entryTaken_bad hdu hpu hm hru hx
        rw [hoff (.inr h), pumpPort_eq]
        rw [hcomp] at hrecord
        refine ⟨hfaults.trans (offerFault_faults_congr _ (by rw [usu]) (by rw [usu]) (by rw [uweb])), hwd, hrecord, fun j hj => ?_⟩
        rw [← utmap]
        exact hsegs j (upe ▸ hj)
      · rw [hentry, parityHalt_halts hm (hhalt.trans h) (by rw [hwd]; exact hst), pumpPort_eq]
        exact ⟨(takeHalt_wd .parity x).trans (by rw [hwd]), (takeHalt_haltCause .parity x).trans (by rw [hcause])⟩

end Sys2Proof.Machine

end

section

/-! PROOFS. The verdict of a NO_WAIT card's first start test stands through every command while the card heads the queue (R66). -/

namespace Sys2Proof.Machine

/-! ## The verdict through the shared operations -/

/-- The verdict of a card's first start test stands and the card heads the queue, or the card has left the queue. -/
def Judged (q : QueuedPrint) (v : HoldReason) (p : PrintEngine) : Prop :=
  (p.firstTest = some (q.card.take, v) ∧ p.queue.head? = some q) ∨ q ∉ p.queue

section
variable {q x : QueuedPrint} {v : HoldReason} {p : PrintEngine} {s : State}

/-- The verdict stands while the card heads the queue. -/
theorem Judged.stands (h : Judged q v p) (hq : p.queue.head? = some q) : p.firstTest = some (q.card.take, v) := by
  rcases h with ⟨h, -⟩ | h
  · exact h
  · exact absurd (List.mem_of_mem_head? hq) h

theorem Judged.congr {r : PrintEngine} (h : Judged q v p) (hq : r.queue = p.queue) (hf : r.firstTest = p.firstTest) : Judged q v r := by
  unfold Judged
  rwa [hq, hf]

@[simp] theorem setHold_judged (h : Judged q v s.pe) (x : Option HoldReason) : Judged q v (setHold x s).pe := h

@[simp] theorem setJob_judged (h : Judged q v s.pe) (f : PrintJob → PrintJob) : Judged q v (setJob f s).pe := h

@[simp] theorem setBar_judged (h : Judged q v s.pe) (n : Nat) (f : Bar → Bar) : Judged q v (setBar n f s).pe := h

@[simp] theorem clearRead_judged (h : Judged q v s.pe) : Judged q v (clearRead s).pe := h

@[simp] theorem fetchRaster_judged (h : Judged q v s.pe) : Judged q v (fetchRaster s).pe := by
  rw [fetchRaster_eq]
  exact h

@[simp] theorem abandonLine_judged (h : Judged q v s.pe) : Judged q v (abandonLine s).pe := by
  unfold abandonLine
  split
  · simpa using setJob_judged h _
  · exact h

@[simp] theorem endJob_judged (h : Judged q v s.pe) : Judged q v (endJob s).pe := by
  unfold endJob
  split
  · exact h
  · rw [(releaseProfile_frame _ _).2.2.2.2.2.2.2.2.2.2.1]
    exact h

/-- A start test leaves the verdict of a NO_WAIT card that heads the queue (R66). -/
@[simp] theorem touchStart_judged (h : Judged q v s.pe) : Judged q v (touchStart s).pe := by
  unfold touchStart
  split
  · rename_i x rest _ hq
    split
    · split
      · unfold noteFirst
        split
        · exact h
        · rename_i hnone
          rcases h with ⟨hf, hhead⟩ | h
          · rw [hq] at hhead
            cases hhead
            exact absurd (by simp [firstVerdict, hf]) hnone
          · exact .inr h
      · exact h
    · exact h
  · exact h

/-- A card that fails in the queue leaves the verdict of another, or is the judged card itself. -/
@[simp] theorem failQueued_judged (h : Judged q v s.pe) (rc : ResultCode) (fields : List (Nat × List Byte)) (x : QueuedPrint) :
    Judged q v (failQueued rc fields x s).pe := by
  have hpe : (failQueued rc fields x s).pe =
      { s.pe with queue := s.pe.queue.filter (fun r => r.card.take != x.card.take), hold := none } := by
    simp [failQueued]
  rw [hpe]
  by_cases htake : q.card.take = x.card.take
  · exact .inr fun hmem => by simp [htake] at hmem
  · rcases h with ⟨hf, hhead⟩ | h
    · refine .inl ⟨hf, ?_⟩
      dsimp only
      cases hq : s.pe.queue with
      | nil => rw [hq] at hhead; cases hhead
      | cons y rest =>
        rw [hq] at hhead
        cases hhead
        rw [List.filter_cons_of_pos (by simpa using htake)]
        rfl
    · exact .inr fun hmem => h (List.mem_filter.mp hmem).1

@[simp] theorem failQueuedOf_judged (h : Judged q v s.pe) (id : Nat) : Judged q v (failQueuedOf id s).pe :=
  foldl_law (fun s => Judged q v s.pe) _ (fun s x hs => by simp [hs]) _ h

@[simp] theorem flushQueue_judged (h : Judged q v s.pe) : Judged q v (flushQueue s).pe :=
  foldl_law (fun s => Judged q v s.pe) _ (fun s x hs => by simp [hs]) _ h

@[simp] theorem touchIfMoved_judged (h : Judged q v s.pe) (l : List Zone) : Judged q v (touchIfMoved l s).pe := by
  unfold touchIfMoved
  split
  · exact h
  · simp [h]

theorem takeHalt_judged (h : Judged q v s.pe) (cause : HaltCause) : Judged q v (takeHalt cause s).pe := by
  unfold takeHalt haltPrint
  refine touchStart_judged ?_
  have hends : ∀ u : State, Judged q v u.pe → Judged q v (endJob (abandonLine u)).pe := fun u hu => by simp [hu]
  simpa using hends _ (by simpa using h)

theorem haltLine_judged (cause : HaltCause) (s : State) (h : Judged q v s.pe) : Judged q v (haltLine cause s).pe := by
  unfold haltLine
  split
  · simpa using h
  · exact takeHalt_judged h cause

/-- A reset empties the queue. -/
theorem resetPrint_judged (p : PrintEngine) : Judged q v (resetPrint p) := .inr (by simp [resetPrint])

/-! ## The verdict through the commands -/

/-- A card that joins the queue stands behind the card that heads it. -/
theorem printCard_judged (hf : s.pe.firstTest = some (q.card.take, v)) (hq : s.pe.queue.head? = some q) (c : CurrentCard) :
    Judged q v (printCard c s).pe := by
  have hs : Judged q v s.pe := .inl ⟨hf, hq⟩
  have henqueue : ∀ x, Judged q v (enqueuePrint x s).pe := fun x => by
    have hne : s.pe.queue.isEmpty = false := by
      cases hl : s.pe.queue with
      | nil => rw [hl] at hq; cases hq
      | cons y rest => rfl
    have hpe : (enqueuePrint x s).pe = { s.pe with queue := s.pe.queue ++ [x] } := by
      unfold enqueuePrint
      dsimp only
      rw [hne]
      simp
    rw [hpe]
    refine .inl ⟨hf, ?_⟩
    dsimp only
    rw [List.head?_append, hq]
    rfl
  unfold printCard
  dsimp only
  (repeat' split) <;> simp [hs, henqueue]

theorem clearCard_judged (hs : Judged q v s.pe) (c : CurrentCard) : Judged q v (clearCard c s).pe := by
  have hclear : (clearHalt s).pe = s.pe := by simp
  unfold clearCard
  (repeat' split)
  · simpa using hs
  · simpa using hs
  · refine touchStart_judged ?_
    simpa using flushQueue_judged (s := clearHalt s) (by rw [hclear]; exact hs)
  · exact touchStart_judged (by simpa using hs)

theorem finishPrint_judged (hs : Judged q v s.pe) : Judged q v (finishPrint s).pe := by
  have hend : Judged q v (endPrint s).pe := by simpa using hs
  unfold finishPrint
  dsimp only
  split
  · exact setJob_judged (hend.congr rfl rfl) fun j => { j with window := [] }
  · exact touchStart_judged (endJob_judged hend)

theorem rasterFails_judged (hs : Judged q v s.pe) (kind : ReadFailure) : Judged q v (rasterFails kind s).pe := by
  have hclear : Judged q v (clearRead s).pe := hs
  unfold rasterFails
  (repeat' split)
  · refine touchStart_judged (endJob_judged ?_)
    simpa using abandonLine_judged (s := updateSeg _ _ (offerFault _ (clearRead s))) (by simpa using hclear)
  · exact fetchRaster_judged hclear
  · exact hclear

/-- No card is queued after link reset (R62). -/
theorem linkDown_queue (s : State) : (linkDown s).pe.queue = [] := by
  have hdiscard : ∀ u, (discardQueue u).pe = { u.pe with queue := [], hold := none } := fun u =>
    foldl_keeps (·.pe) _ (fun s q => by simp) _ _
  simp [linkDown, recountFabrics, forgetSpliceCards, hdiscard]

theorem discardOldest_judged (hs : Judged q v s.pe) : Judged q v (discardOldest s).pe := by
  unfold discardOldest
  dsimp only
  (repeat' split) <;> simpa using hs

theorem heatCard_judged (hs : Judged q v s.pe) (c : CurrentCard) : Judged q v (heatCard c s).pe := by
  unfold heatCard
  dsimp only
  (repeat' split)
  · simpa using hs
  · simpa using hs
  · exact touchIfMoved_judged (by simpa using hs) _

theorem dropCard_judged (hs : Judged q v s.pe) (c : CurrentCard) : Judged q v (dropCard c s).pe := by
  unfold dropCard
  dsimp only
  (repeat' split) <;> try simpa using hs
  simpa using failQueuedOf_judged (s := abortLoad _ s) (by simpa using hs) _

theorem startCard_judged (hs : Judged q v s.pe) (c : CurrentCard) : Judged q v (startCard c s).pe := by
  unfold startCard
  (repeat' split)
  · simpa using hs
  · simpa using hs
  · exact touchStart_judged (by simpa using hs)

theorem stopCard_judged (hs : Judged q v s.pe) (c : CurrentCard) : Judged q v (stopCard c s).pe := by
  unfold stopCard
  split
  · exact touchStart_judged (by simpa using hs)
  · exact touchStart_judged (by simpa using hs)
  all_goals simpa using hs

theorem comparePos_judged (hs : Judged q v s.pe) : Judged q v (comparePos s).pe := hs

theorem inputEdge_judged (i : LineInput) (active : Bool) (hs : Judged q v s.pe) : Judged q v (inputEdge i active s).pe :=
  inputEdge_law (fun s => Judged q v s.pe) (fun cause u hu => haltLine_judged cause u hu) (fun a s hs => by simpa using hs)
    (fun a s hs => by simpa using hs) (fun a s hs => by simpa using hs) i active hs

theorem setupCard_judged (hs : Judged q v s.pe) (c : CurrentCard) : Judged q v (setupCard c s).pe := by
  have htake : ∀ g, Judged q v (takeSettings g s).pe := fun g => by
    have hpe : (takeSettings g s).pe.queue = s.pe.queue ∧ (takeSettings g s).pe.firstTest = s.pe.firstTest := by simp [takeSettings]
    exact hs.congr hpe.1 hpe.2
  have hedges : ∀ g, Judged q v (polarityEdges s (takeSettings g s)).pe := fun g =>
    polarityEdges_law (fun s => Judged q v s.pe) (fun i active u hu => inputEdge_judged i active hu) s (htake g)
  unfold setupCard
  dsimp only
  (repeat' split)
  · simpa using hs
  · simpa using hs
  · exact touchStart_judged (by simpa [applySetup] using hedges _)

theorem parityHalt_judged (hs : Judged q v s.pe) (marks : Byte) : Judged q v (parityHalt marks s).pe :=
  parityHalt_law (fun s => Judged q v s.pe) (fun cause u hu => haltLine_judged cause u hu) marks hs

theorem lookupCell_judged (hs : Judged q v s.pe) (g : ProfileHeader) (r : FillRequest) : Judged q v (lookupCell g r s).pe := by
  unfold lookupCell
  split
  · exact setJob_judged hs _
  · exact setJob_judged hs _
  · have hpe : (pumpPort (askFill r s)).pe = (askFill r s).pe := by simp
    rw [hpe]
    exact setJob_judged (s := setArb _ s) hs _

theorem heldLookup_judged (hs : Judged q v s.pe) : Judged q v (heldLookup s).pe := by
  unfold heldLookup
  (repeat' split)
  · exact setJob_judged hs _
  · exact hs
  · exact hs

theorem serveFill_judged (hs : Judged q v s.pe) (r : FillRequest) (live : Bool) (c : StoreCell) : Judged q v (serveFill r live c s).pe := by
  have hcorner : Judged q v (if live then fillCorner r c s else s).pe := by
    unfold fillCorner
    (repeat' split)
    · exact hs
    · exact setJob_judged hs _
    · exact hs
  refine parityHalt_judged ?_ _
  rw [(noteParity_frame _ _ _ _ _ _).2.2.2.2.2.2.2.2.2.2.2.1]
  split
  · simpa using hcorner
  · exact hcorner

theorem createEntry_judged (hs : Judged q v s.pe) (id node cell k : Nat) (c : StoreCell) :
    Judged q v (createEntry id node cell k c s).pe := by
  unfold createEntry
  (repeat' split)
  · exact hs
  · exact parityHalt_judged (by simpa using hs) _
  · exact hs

theorem dueLine_judged (hs : Judged q v s.pe) (c : Settings) (j : PrintJob) (n : Nat) : Judged q v (dueLine c j n s).pe := by
  rw [dueLine_eq]
  exact hs

theorem loadReadFails_judged (hs : Judged q v s.pe) : Judged q v (loadReadFails s).pe := by
  refine onLoadRead_law (fun s => Judged q v s.pe) hs (fun _ => hs) fun j _ _ => touchStart_judged ?_
  simpa using failQueuedOf_judged (s := stopLoader (setLoader _ (offerFault (.loadReadError j.id j.cursor) s))) (by simpa using hs) j.id

theorem advanceLoad_judged (hs : Judged q v s.pe) : Judged q v (advanceLoad s).pe := by
  unfold advanceLoad loadDone
  dsimp only
  (repeat' split)
  · exact hs
  · exact hs
  · exact touchStart_judged (by simpa using hs)
  · simpa using hs
  · simpa using hs

/-- Every command but the print start keeps the verdict of the card that heads the queue (R66). -/
theorem exec_judged {i : Instr} {t : State} (hf : s.pe.firstTest = some (q.card.take, v)) (hq : s.pe.queue.head? = some q)
    (hi : i ≠ .printStart) (h : exec i s = .next t) : Judged q v t.pe := by
  have hs : Judged q v s.pe := .inl ⟨hf, hq⟩
  have hhalt := fun cause u hu => haltLine_judged (q := q) (v := v) cause u hu
  have hfield : ∀ c, Dispatching .drive c s → Judged q v (failField 16 s).pe := fun c _ => by simpa using hs
  unfold exec at h
  cases i with
  -- Resets, supplies and registers.
  | mainPowerOnReset z st =>
    cases h
    have hreset : Judged q v (powerOn z st s).pe := resetPrint_judged s.pe
    simpa using hreset
  | softReset =>
    refine whenOn_law (fun s => Judged q v s.pe) h hs fun _ => ?_
    have hreset : Judged q v (softReset s).pe := resetPrint_judged s.pe
    simpa using hreset
  | linkReset =>
    refine whenOn_law (fun s => Judged q v s.pe) h hs fun _ => ?_
    exact .inr (by simp [linkDown_queue])
  | keepAlivePowerOnReset | mainSupplyLoss => cases h; exact hs
  | runSet | runClear | watchInterval =>
    refine whenOn_law (fun s => Judged q v s.pe) h hs fun _ => ?_
    unfold controlWrite
    dsimp only
    (repeat' split) <;> simpa using hs
  | registerWrite | irqEnable => exact whenOn_law (fun s => Judged q v s.pe) h hs fun _ => by simpa using hs
  | eventAck =>
    refine whenOn_law (fun s => Judged q v s.pe) h hs fun _ => ?_
    dsimp only
    split
    · exact discardOldest_judged hs
    · exact hs
  | wake | watchTimerExpiry =>
    refine whenOn_law (fun s => Judged q v s.pe) h hs fun _ => ?_
    (repeat' split) <;> simpa using hs
  | bookBase =>
    refine whenOn_law (fun s => Judged q v s.pe) h hs fun _ => ?_
    dsimp only
    (repeat' split) <;> simpa using hs
  | statusPageWrite =>
    refine whenOn_law (fun s => Judged q v s.pe) h hs fun _ => ?_
    dsimp only
    split
    · exact hs
    · simpa using hs
  -- The chain of cards.
  | chainReadComplete link | cardReadError link | chainReadTimeout link =>
    refine whenOn_law (fun s => Judged q v s.pe) h hs fun _ =>
      onChainRead_law (fun s => Judged q v s.pe) _ hs (fun g t ht => by simpa using ht) (fun l t ht => by simpa using ht) fun t ht => ?_
    dsimp only
    (repeat' split) <;> simpa using ht
  | cardReoffer =>
    refine whenOn_law (fun s => Judged q v s.pe) h hs fun _ => ?_
    split
    · unfold reoffer
      split
      · exact printCard_judged (s := setEngine _ s) hf hq _
      all_goals simpa using hs
    · exact hs
  | fabric | load | splice | fence => exact onDispatch_law (fun s => Judged q v s.pe) h hs fun c _ => by simpa using hs
  | heat => exact onDispatch_law (fun s => Judged q v s.pe) h hs fun c _ => heatCard_judged hs c
  | print => exact onDispatch_law (fun s => Judged q v s.pe) h hs fun c _ => printCard_judged hf hq c
  | drop => exact onDispatch_law (fun s => Judged q v s.pe) h hs fun c _ => touchStart_judged (dropCard_judged hs c)
  | patch =>
    refine onDispatch_law (fun s => Judged q v s.pe) h hs fun c _ => ?_
    split <;> simpa using hs
  | setup => exact onDispatch_law (fun s => Judged q v s.pe) h hs fun c _ => setupCard_judged hs c
  | start => exact onDrive_law (fun s => Judged q v s.pe) h hs hfield fun c _ => startCard_judged hs c
  | speed => exact onDrive_law (fun s => Judged q v s.pe) h hs hfield fun c _ => by simpa using hs
  | stop => exact onDrive_law (fun s => Judged q v s.pe) h hs hfield fun c _ => stopCard_judged hs c
  | clear => exact onDrive_law (fun s => Judged q v s.pe) h hs hfield fun c _ => clearCard_judged hs c
  | halt => exact onDrive_law (fun s => Judged q v s.pe) h hs hfield fun c _ => by simpa using hhalt .host s hs
  -- The web and the line.
  | positionUpdate => exact whenOn_law (fun s => Judged q v s.pe) h hs fun _ => touchStart_judged (comparePos_judged (by simpa using hs))
  | backTravel | heaterWindow | drumEncoderReport => exact whenOn_law (fun s => Judged q v s.pe) h hs fun _ => by simpa using hs
  | tensionFrame | zoneFrame | heaterOnTimeEnd | rawLevelChange | leadAtNip | trailAtNip | leadExit | fabricJointDue | rollCountRequest |
    drumTravelIncrement =>
    refine whenOn_law (fun s => Judged q v s.pe) h hs fun _ => ?_
    split <;> simpa using hs
  | trailExit | jointLeavesWrap =>
    refine whenOn_law (fun s => Judged q v s.pe) h hs fun _ => ?_
    split
    · exact hs
    · exact touchStart_judged (by simpa using hs)
  | handoverLimit =>
    refine whenOn_law (fun s => Judged q v s.pe) h hs fun _ => ?_
    split
    · exact hhalt .handover _ (by simpa using hs)
    · exact hs
  | spliceTimeout =>
    refine whenOn_law (fun s => Judged q v s.pe) h hs fun _ => ?_
    dsimp only
    (repeat' split) <;> simpa using hs
  | inputFilterExpiry input =>
    refine whenOn_law (fun s => Judged q v s.pe) h hs fun _ => ?_
    dsimp only
    (repeat' split)
    · exact hs
    · exact hs
    · exact inputEdge_judged input _ hs
  | rampPeriod =>
    refine whenOn_law (fun s => Judged q v s.pe) h hs fun _ => ?_
    dsimp only
    have hmoved : ∀ (b : Bool) u, Judged q v u.pe → Judged q v (if b then touchStart u else u).pe := fun b u hu => by
      cases b
      · exact hu
      · exact touchStart_judged hu
    have hraise : ∀ (b : Bool) e u, (if b then raiseEvent e u else u).pe = u.pe := fun b e u => by cases b <;> simp
    have hstop : ∀ (b : Bool) u, (if b then reportStopped u else u).pe = u.pe := fun b u => by cases b <;> simp
    have hsend : ∀ u, (sendFrame u).pe = u.pe := fun u => by simp
    refine hmoved _ _ ?_
    rw [hsend, hstop, hraise, hraise]
    exact hs
  | heatPeriod =>
    refine whenOn_law (fun s => Judged q v s.pe) h hs fun _ => ?_
    split
    · exact hs
    · have hfaults : ∀ (l : List FaultInfo) u, (l.foldl (fun s f => offerFault f s) u).pe = u.pe :=
        foldl_keeps (·.pe) _ fun u f => by simp
      have halarm : ∀ (b : Bool) u, (if b then raiseEvent .zoneAlarm u else u).pe = u.pe := fun b u => by cases b <;> simp
      exact touchIfMoved_judged (tripHalts_law (fun s => Judged q v s.pe) hhalt _ _ (by simpa [halarm, hfaults] using hs)) _
  | tensionPeriod =>
    refine whenOn_law (fun s => Judged q v s.pe) h hs fun _ => ?_
    have hread : Judged q v (allAxes.foldl (readAxis s.tc.frame) { s with tc := { s.tc with frame := none } }).pe :=
      foldl_law (fun s => Judged q v s.pe) _ (fun s a hs => readAxis_law (fun s => Judged q v s.pe) hhalt (fun a r s hs => by simpa using hs)
        (fun f s hs => by simpa using hs) _ a hs) _ hs
    simpa using hread
  -- The Print Engine, the Profile Store and the Shadow Patch Buffer.
  | barReport | barSilent =>
    refine whenOn_law (fun s => Judged q v s.pe) h hs fun _ => ?_
    split
    · exact touchStart_judged (by simpa using setBar_judged hs _ _)
    · exact hs
  | freeing =>
    refine whenOn_law (fun s => Judged q v s.pe) h hs fun _ => ?_
    split
    · exact touchStart_judged (by simpa using hs)
    · exact hs
  | lookup =>
    refine whenOn_law (fun s => Judged q v s.pe) h hs fun _ => ?_
    split
    · exact lookupCell_judged hs _ _
    · exact hs
  | rasterReadComplete data =>
    refine whenOn_law (fun s => Judged q v s.pe) h hs fun _ => ?_
    (repeat' split)
    · exact hs
    · exact fetchRaster_judged (setJob_judged (clearRead_judged hs) _)
    · exact fetchRaster_judged (clearRead_judged hs)
  | rasterReadError => exact whenOn_law (fun s => Judged q v s.pe) h hs fun _ => rasterFails_judged hs .error
  | rasterReadTimeout => exact whenOn_law (fun s => Judged q v s.pe) h hs fun _ => rasterFails_judged hs .timeout
  | lineComputationBegin =>
    refine whenOn_law (fun s => Judged q v s.pe) h hs fun _ => ?_
    split
    · exact hs
    · dsimp only
      exact setJob_judged hs _
  | lookupFillComplete damage =>
    refine whenOn_law (fun s => Judged q v s.pe) h hs fun _ => ?_
    split
    · rename_i r live _
      have hfill := serveFill_judged (s := (readCell r.cell damage (portDone s)).2) (by simpa using hs) r live
        (readCell r.cell damage (portDone s)).1
      dsimp only
      split
      · simpa using heldLookup_judged hfill
      · simpa using hfill
    · exact hs
  | lineBoundary =>
    have hplaced : ∀ k, Judged q v (boundary k s).pe := fun k => by
      rw [boundary_eq]
      exact hs
    refine whenOn_law (fun s => Judged q v s.pe) h hs fun _ => ?_
    (repeat' split)
    · exact hs
    · exact hs
    · exact hs
    · rename_i k _ _
      change Judged q v (if (boundary k s).pe.state == .ending then touchStart (endJob (boundary k s)) else fetchRaster (boundary k s)).pe
      split
      · exact touchStart_judged (endJob_judged (hplaced k))
      · exact fetchRaster_judged (hplaced k)
  | lineDue =>
    refine whenOn_law (fun s => Judged q v s.pe) h hs fun _ => ?_
    split
    · dsimp only
      (repeat' split)
      · exact finishPrint_judged (dueLine_judged hs _ _ _)
      · exact fetchRaster_judged (setJob_judged (dueLine_judged hs _ _ _) _)
      · exact dueLine_judged hs _ _ _
      · exact hs
    · exact hs
  | printStart => exact absurd rfl hi
  | loadReadComplete =>
    exact whenOn_law (fun s => Judged q v s.pe) h hs fun _ => onLoadRead_law (fun s => Judged q v s.pe) hs (fun _ => hs) fun j _ _ => by
      simpa using hs
  | loadReadError | loadReadTimeout => exact whenOn_law (fun s => Judged q v s.pe) h hs fun _ => loadReadFails_judged hs
  | loaderWriteComplete =>
    refine whenOn_law (fun s => Judged q v s.pe) h hs fun _ => ?_
    split
    · dsimp only
      split
      · simpa using advanceLoad_judged (s := portDone (writeCell _ _ s)) (by simpa using hs)
      · simpa using hs
    · exact hs
  | editListReadComplete data =>
    refine whenOn_law (fun s => Judged q v s.pe) h hs fun _ => onListRead_law (fun s => Judged q v s.pe) hs (fun _ => hs) fun p _ _ => ?_
    dsimp only
    (repeat' split) <;> simpa using hs
  | patchReadError | editListReadTimeout => exact whenOn_law (fun s => Judged q v s.pe) h hs fun _ => by simpa using hs
  | editApply | drainWriteComplete =>
    refine whenOn_law (fun s => Judged q v s.pe) h hs fun _ => ?_
    (repeat' split) <;> simpa using hs
  | creationReadComplete damage =>
    refine whenOn_law (fun s => Judged q v s.pe) h hs fun _ => ?_
    split
    · rename_i id node cell k live _
      have hentry := createEntry_judged (s := (readCell cell damage (portDone s)).2) (by simpa using hs) id node cell k
        (readCell cell damage (portDone s)).1
      dsimp only
      split
      · simpa using hentry
      · simpa using hs
    · exact hs

end

end Sys2Proof.Machine

end

section

/-! PROOFS. The start test and the print start (R63 to R66). -/

namespace Sys2Proof.Machine

section
variable {s t : State} {q : QueuedPrint} {c : Settings} {h v : HoldReason} {g : ProfileHeader} {rest : List QueuedPrint}

/-! ## What a start test finds -/

theorem barsInUse_iff (hc : s.setup = some c) : barsInUse s (·.ready) = true ↔ ∀ b ∈ s.pe.bars.take c.bars, b.ready = true := by
  simp [barsInUse, hc]

/-- The four conditions of R64 that a start test judges first. -/
def ConditionsMet (s : State) (q : QueuedPrint) (c : Settings) : Prop :=
  s.wd.state = .running ∧ (stateSeen (profileOf s q.profileId) = .ready ∨ stateSeen (profileOf s q.profileId) = .retiring) ∧
    zonesCondition s = true ∧ ∀ b ∈ s.pe.bars.take c.bars, b.ready = true

theorem unmetConditions_none_iff (hc : s.setup = some c) : unmetConditions s q = HoldReason.none ↔ ConditionsMet s q c := by
  unfold ConditionsMet
  rw [← barsInUse_iff hc]
  simp [unmetConditions, HoldReason.none, or_iff_not_imp_left]

theorem startTest_unmet (h : unmetConditions s q ≠ HoldReason.none) : startTest s q = some (unmetConditions s q) := by
  unfold startTest
  exact if_pos (by simpa using h)

/-- With the four conditions met a test judges the map's room, and then the clearance (R4, R64). -/
theorem startTest_met (hc : s.setup = some c) (h : ConditionsMet s q c) : startTest s q =
    if s.tmap.segs.length ≥ 62 then some { HoldReason.none with room := true }
    else if clearanceBlocked s c (startCoordinate s) (linesOut q.lines (stepOf (stretchOf s q)) * c.pitch) then
      some { HoldReason.none with clearance := true }
    else none := by
  unfold startTest
  rw [(unmetConditions_none_iff hc).mpr h, hc]
  exact if_neg (by simp)

theorem clearanceBlocked_iff {start planned : Nat} : clearanceBlocked s c start planned = true ↔
    ∃ j ∈ s.tmap.joints, start ≤ j.at_ ∧ j.at_ < start + planned + c.jointGap * 1000 := by
  simp [clearanceBlocked]

theorem startTest_none_iff (hc : s.setup = some c) : startTest s q = none ↔ s.wd.state = .running ∧
    (stateSeen (profileOf s q.profileId) = .ready ∨ stateSeen (profileOf s q.profileId) = .retiring) ∧
    zonesCondition s = true ∧ (∀ b ∈ s.pe.bars.take c.bars, b.ready = true) ∧ s.tmap.segs.length < 62 ∧
    ∀ j ∈ s.tmap.joints, j.at_ < startCoordinate s ∨
      startCoordinate s + linesOut q.lines (stepOf (stretchOf s q)) * c.pitch + c.jointGap * 1000 ≤ j.at_ := by
  by_cases hmet : ConditionsMet s q c
  · obtain ⟨h1, h2, h3, h4⟩ := hmet
    rw [startTest_met hc ⟨h1, h2, h3, h4⟩]
    by_cases hroom : s.tmap.segs.length ≥ 62
    · rw [if_pos hroom]
      exact ⟨nofun, fun h => absurd h.2.2.2.2.1 (by omega)⟩
    · rw [if_neg hroom]
      have hclear : clearanceBlocked s c (startCoordinate s) (linesOut q.lines (stepOf (stretchOf s q)) * c.pitch) = false ↔
          ∀ j ∈ s.tmap.joints, j.at_ < startCoordinate s ∨
            startCoordinate s + linesOut q.lines (stepOf (stretchOf s q)) * c.pitch + c.jointGap * 1000 ≤ j.at_ := by
        rw [Bool.eq_false_iff, Ne, clearanceBlocked_iff]
        refine ⟨fun h j hj => ?_, fun h ⟨j, hj, hlo, hhi⟩ => ?_⟩
        · by_contra hin
          exact h ⟨j, hj, by omega, by omega⟩
        · have := h j hj
          omega
      rw [← hclear]
      cases clearanceBlocked s c (startCoordinate s) (linesOut q.lines (stepOf (stretchOf s q)) * c.pitch)
      · exact ⟨fun _ => ⟨h1, h2, h3, h4, by omega, rfl⟩, fun _ => rfl⟩
      · exact ⟨nofun, fun h => nomatch h.2.2.2.2.2⟩
  · rw [startTest_unmet (fun h => hmet ((unmetConditions_none_iff hc).mp h))]
    exact ⟨nofun, fun ⟨h1, h2, h3, h4, _⟩ => absurd ⟨h1, h2, h3, h4⟩ hmet⟩

/-- What a hold reason names, and that the map's room and the clearance are named alone. -/
theorem startTest_names (hc : s.setup = some c) (ht : startTest s q = some h) :
    (h.drive = true ↔ s.wd.state ≠ .running) ∧ (h.zones = true ↔ zonesCondition s = false) ∧
      (h.profile = true ↔ stateSeen (profileOf s q.profileId) = .empty ∨ stateSeen (profileOf s q.profileId) = .loading) ∧
      (h.bars = true ↔ ∃ b ∈ s.pe.bars.take c.bars, b.ready = false) ∧ (h.room = true → 62 ≤ s.tmap.segs.length) ∧
      (s.wd.state = .running →
        stateSeen (profileOf s q.profileId) = .ready ∨ stateSeen (profileOf s q.profileId) = .retiring →
        zonesCondition s = true → (∀ b ∈ s.pe.bars.take c.bars, b.ready = true) →
        (h.room = true ↔ 62 ≤ s.tmap.segs.length) ∧ (h.clearance = true ↔ s.tmap.segs.length < 62 ∧ ∃ j ∈ s.tmap.joints,
          startCoordinate s ≤ j.at_ ∧
          j.at_ < startCoordinate s + linesOut q.lines (stepOf (stretchOf s q)) * c.pitch + c.jointGap * 1000)) ∧
      (h.room = true → h.drive = false ∧ h.profile = false ∧ h.zones = false ∧ h.bars = false ∧ h.clearance = false) ∧
      (h.clearance = true → h.drive = false ∧ h.profile = false ∧ h.zones = false ∧ h.bars = false) := by
  have hprofile : (¬(stateSeen (profileOf s q.profileId) = .ready ∨ stateSeen (profileOf s q.profileId) = .retiring)) ↔
      stateSeen (profileOf s q.profileId) = .empty ∨ stateSeen (profileOf s q.profileId) = .loading := by
    cases stateSeen (profileOf s q.profileId) <;> decide
  by_cases hmet : ConditionsMet s q c
  · rw [startTest_met hc hmet] at ht
    obtain ⟨h1, h2, h3, h4⟩ := hmet
    have hnone : ¬∃ b ∈ s.pe.bars.take c.bars, b.ready = false := fun ⟨b, hb, hr⟩ => by simp [h4 b hb] at hr
    have hno := (not_congr hprofile).mp (not_not_intro h2)
    by_cases hroom : s.tmap.segs.length ≥ 62
    · rw [if_pos hroom] at ht
      cases ht
      refine ⟨by simp [HoldReason.none, h1], by simp [HoldReason.none, h3], by simp [HoldReason.none, hno],
        by simp only [HoldReason.none, Bool.false_eq_true, false_iff]; exact hnone, fun _ => hroom,
        fun _ _ _ _ => ⟨by simp [hroom], ?_⟩, fun _ => ⟨rfl, rfl, rfl, rfl, rfl⟩, nofun⟩
      simp only [HoldReason.none, Bool.false_eq_true, false_iff]
      rintro ⟨hlt, -⟩
      omega
    · rw [if_neg hroom] at ht
      by_cases hblock : clearanceBlocked s c (startCoordinate s) (linesOut q.lines (stepOf (stretchOf s q)) * c.pitch) = true
      · rw [if_pos hblock] at ht
        cases ht
        refine ⟨by simp [HoldReason.none, h1], by simp [HoldReason.none, h3], by simp [HoldReason.none, hno],
          by simp only [HoldReason.none, Bool.false_eq_true, false_iff]; exact hnone, nofun,
          fun _ _ _ _ => ⟨by simp only [HoldReason.none, Bool.false_eq_true, false_iff]; omega, ?_⟩, nofun,
          fun _ => ⟨rfl, rfl, rfl, rfl⟩⟩
        exact ⟨fun _ => ⟨by omega, clearanceBlocked_iff.mp hblock⟩, fun _ => rfl⟩
      · rw [if_neg hblock] at ht
        cases ht
  · rw [startTest_unmet (fun h => hmet ((unmetConditions_none_iff hc).mp h))] at ht
    cases ht
    have hbars : (unmetConditions s q).bars = true ↔ ∃ b ∈ s.pe.bars.take c.bars, b.ready = false := by
      simp [unmetConditions, barsInUse, hc]
    refine ⟨by simp [unmetConditions], by simp [unmetConditions], ?_, hbars, nofun, fun h1 h2 h3 h4 => absurd ⟨h1, h2, h3, h4⟩ hmet,
      nofun, nofun⟩
    rw [← hprofile]
    simp [unmetConditions]

theorem startCoordinate_empty (h : s.tmap.segs = []) : startCoordinate s = s.web.pos := by
  unfold startCoordinate
  rw [h]
  rfl

theorem startCoordinate_last {l : List Segment} {x : Segment} (h : s.tmap.segs = l ++ [x]) :
    startCoordinate s = max s.web.pos (x.endAt.getD (x.start + x.planned)) := by
  unfold startCoordinate
  rw [h, List.getLast?_concat]
  rfl

/-! ## A card that cannot start -/

theorem exec_printStart_off (hon : s.power.mainOn = true) (h : s.pe.state ≠ .idle ∨ s.pe.queue = []) :
    exec .printStart s = .next s := by
  refine (whenOn_on hon : execPrintStart s = _).trans (congrArg _ ?_)
  split
  · rename_i hst hq
    rcases h with h | h
    · exact absurd hst h
    · rw [h] at hq
      cases hq
  · rfl

/-- A start test for the head card, by what decides it. -/
theorem exec_printStart (hon : s.power.mainOn = true) (hst : s.pe.state = .idle) (hq : s.pe.queue = q :: rest) :
    (∀ v, judgement s q = some v → exec .printStart s = .next
      (if q.noWait then touchStart (failQueued .notReady [(128, le 2 v.marks)] q s) else setHold (some v) s)) ∧
    (∀ c g, judgement s q = none → s.setup = some c → (profileOf s q.profileId).header = some g →
      exec .printStart s = .next (startPrint q c g s)) ∧
    (judgement s q = none → s.setup = none ∨ (profileOf s q.profileId).header = none → exec .printStart s = .next s) := by
  refine ⟨fun v hv => ?_, fun c g hv hc hg => ?_, fun hv hno => ?_⟩ <;> refine (whenOn_on hon : execPrintStart s = _).trans (congrArg _ ?_) <;>
    rw [hst, hq] <;> dsimp only <;> rw [hv]
  · rw [hc, hg]
  · split
    · rename_i hc hg
      rcases hno with h | h
      · rw [h] at hc
        cases hc
      · rw [h] at hg
        cases hg
    · rename_i hsome
      cases hsome
    · rfl

theorem firstVerdict_some (h : s.pe.firstTest = some (q.card.take, v)) : firstVerdict s q = some v := by
  unfold firstVerdict
  rw [h]
  exact if_pos rfl

theorem firstVerdict_none (h : ∀ x, s.pe.firstTest ≠ some (q.card.take, x)) : firstVerdict s q = none := by
  unfold firstVerdict
  split
  · rename_i take x hx
    exact if_neg fun ht => h x (hx.trans (by rw [ht]))
  · rfl

/-- What decides a card: for a NO_WAIT card its first test's verdict, and otherwise a test made now (R63, R66). -/
theorem judgement_noWait (hw : q.noWait = true) : judgement s q = (firstVerdict s q).or (startTest s q) := if_pos hw

theorem judgement_wait (hw : q.noWait = false) : judgement s q = startTest s q := if_neg (by simp [hw])

theorem touchStart_first (hst : s.pe.state = .idle) (hq : s.pe.queue = q :: rest) (hw : q.noWait = true)
    (hno : ∀ x, s.pe.firstTest ≠ some (q.card.take, x)) (ht : startTest s q = some v) :
    (touchStart s).pe = { s.pe with firstTest := some (q.card.take, v) } := by
  unfold touchStart
  rw [hst, hq]
  dsimp only
  rw [ht]
  dsimp only
  rw [if_pos hw]
  unfold noteFirst
  rw [firstVerdict_none hno]
  rw [if_neg (by simp)]

theorem touchStart_judgedOnce (hst : s.pe.state = .idle) (hq : s.pe.queue = q :: rest) (hw : q.noWait = true)
    (hf : s.pe.firstTest = some (q.card.take, v)) : touchStart s = s := by
  unfold touchStart
  rw [hst, hq]
  dsimp only
  split
  · rw [if_pos hw]
    unfold noteFirst
    rw [firstVerdict_some hf]
    exact if_pos rfl
  · rfl

/-- A NO_WAIT card that its first test found unmet fails NOT_READY (R66). -/
theorem printStart_fails (hon : s.power.mainOn = true) (hst : s.pe.state = .idle) (hq : s.pe.queue = q :: rest) (hw : q.noWait = true)
    (hv : s.pe.firstTest = some (q.card.take, v) ∨ ((∀ x, s.pe.firstTest ≠ some (q.card.take, x)) ∧ startTest s q = some v)) :
    ∃ t, exec .printStart s = .next t ∧ CardFinal q.card .failed .notReady t ∧ HostHolds t (q.card.addr + 128) (le 2 v.marks) ∧
      t.pe.queue = s.pe.queue.filter (fun x => x.card.take != q.card.take) ∧ t.pe.state = .idle ∧ t.pe.job = s.pe.job ∧
      ((profileOf s q.profileId).state ≠ .retiring → t.ce = offeredAgain .print (engineFinal q.card s.ce)) ∧
      t.tmap = s.tmap ∧ t.wd = s.wd ∧ t.setup = s.setup := by
  have hjudged : judgement s q = some v := by
    rw [judgement_noWait hw]
    rcases hv with hv | ⟨hno, hv⟩
    · rw [firstVerdict_some hv]
      rfl
    · rw [firstVerdict_none hno, hv]
      rfl
  have hexec := (exec_printStart hon hst hq).1 v hjudged
  rw [if_pos hw] at hexec
  obtain ⟨u, hu⟩ : ∃ u, releaseFabric q.fabricId (releaseProfile q.profileId (dequeued q s)) = u := ⟨_, rfl⟩
  have hfail : failQueued .notReady [(128, le 2 v.marks)] q s =
      offerTo .print (finalWrite q.card [(128, le 2 v.marks)] .failed .notReady u) := by
    rw [failQueued_eq, hu]
  have hwritten := finalWrite_written q.card [(128, le 2 v.marks)] .failed .notReady u
  have hmarks := hwritten.field (f := (128, le 2 v.marks)) (by simp) (by simp) (by simp [le_length]) (by simp)
  obtain ⟨⟨hstate, hcode, hevent, hout⟩, -, -⟩ := hwritten
  have hce : (failQueued .notReady [(128, le 2 v.marks)] q s).ce = offeredAgain .print (engineFinal q.card u.ce) := by
    rw [hfail, offerTo_ce, finalWrite_engine]
  have hpe : (failQueued .notReady [(128, le 2 v.marks)] q s).pe = (dequeued q s).pe := failQueued_pe
  have hports : (touchStart (failQueued .notReady [(128, le 2 v.marks)] q s)).ports =
      (finalWrite q.card [(128, le 2 v.marks)] .failed .notReady u).ports := by
    rw [hfail]
    simp
  have hsu : (touchStart (failQueued .notReady [(128, le 2 v.marks)] q s)).su =
      (finalWrite q.card [(128, le 2 v.marks)] .failed .notReady u).su := by
    rw [hfail]
    simp
  have htce : (touchStart (failQueued .notReady [(128, le 2 v.marks)] q s)).ce =
      offeredAgain .print (finalWrite q.card [(128, le 2 v.marks)] .failed .notReady u).ce := by
    rw [hfail, (touchStart_frame _).2.2.2.2.2.2.2.2.2.1, offerTo_ce]
  obtain ⟨hold, first, htouch⟩ := touchStart_eq (failQueued .notReady [(128, le 2 v.marks)] q s)
  have hqueue : (touchStart (failQueued .notReady [(128, le 2 v.marks)] q s)).pe =
      { (dequeued q s).pe with hold := hold, firstTest := first } := by
    rw [htouch, ← hpe]
  refine ⟨_, hexec, ⟨?_, ?_, ?_, ?_⟩, ?_, by rw [hqueue]; rfl, by rw [hqueue]; exact hst, by rw [hqueue]; rfl, fun hret => ?_, by simp,
    by simp, by simp⟩
  · rw [hostByte, hports]
    exact hstate
  · rw [hostByte, hports]
    exact hcode
  · unfold hasEvent
    rw [hsu]
    exact hevent
  · rw [htce]
    exact hout
  · unfold HostHolds hostByte at *
    rw [hports]
    exact hmarks
  · have huce : u.ce = s.ce := by
      rw [← hu, releaseProfile_kept (s := dequeued q s) (.inl hret)]
      simp [uncounted, dequeued]
    rw [(touchStart_frame _).2.2.2.2.2.2.2.2.2.1, hce, huce]

/-! ## The print start -/

/-- The job of a print that starts (R65). -/
def startedJob (q : QueuedPrint) (s : State) : PrintJob :=
  ⟨q, startCoordinate s, stepOf (stretchOf s q), linesOut q.lines (stepOf (stretchOf s q)), 0, 0, [], [], none, 0, 0⟩

/-- The part at a print start, before its event and its first raster read. -/
def printStarted (q : QueuedPrint) (c : Settings) (g : ProfileHeader) (s : State) : State :=
  { s with
    tmap := ⟨s.tmap.segs ++ [newSegment s c g q (startCoordinate s)], s.tmap.joints⟩
    pe := { s.pe with queue := s.pe.queue.drop 1, state := .printing, hold := none, job := some (startedJob q s) } }

theorem startPrint_eq (q : QueuedPrint) (c : Settings) (g : ProfileHeader) (s : State) :
    startPrint q c g s = offerTo .print (fetchRaster (raiseEvent .printing (printStarted q c g s))) := rfl

/-- The parts that a print start reaches, but for the read and the trace. -/
theorem startPrint_parts (ht : startPrint q c g s = t) :
    t.tmap = (printStarted q c g s).tmap ∧ t.pe = { (printStarted q c g s).pe with read := t.pe.read } ∧
      t.su = raised [.printing] s.su ∧ t.ce = offeredAgain .print s.ce ∧ OnlyWrites s t (fun _ => False) ∧ SameBase s t ∧ SameStore s t ∧
      SameLine s t := by
  rw [startPrint_eq] at ht
  obtain ⟨u, hu⟩ : ∃ u, raiseEvent .printing (printStarted q c g s) = u := ⟨_, rfl⟩
  have hpe : u.pe = (printStarted q c g s).pe := by rw [← hu]; simp
  have hsu : u.su = raised [.printing] s.su := by rw [← hu, raiseEvent_su]; rfl
  have hbytes : ∀ a, hostByte u a = hostByte s a := fun a => by rw [← hu, hostByte_raiseEvent]; rfl
  have hsame : u.tmap = (printStarted q c g s).tmap ∧ u.ce = s.ce ∧ SameBase s u ∧ SameStore s u ∧ SameLine s u := by
    rw [← hu]
    simp [printStarted, SameBase, SameStore, SameLine]
  obtain ⟨htmap, hce, hbase, hstore, hline⟩ := hsame
  have hfetch := fetchRaster_eq u
  rw [hu] at ht
  have hjob : u.pe.job.map trimWindow = some (startedJob q s) := by rw [hpe]; rfl
  rw [hjob] at hfetch
  obtain ⟨w, hw⟩ : ∃ w, fetchRaster u = w := ⟨_, rfl⟩
  have hwbytes : ∀ a, hostByte w a = hostByte u a := fun a => hw ▸ fetchRaster_bytes u a
  have hwpe : w.pe = { (printStarted q c g s).pe with read := w.pe.read } := by
    rw [hw] at hfetch
    rw [hfetch, hpe]
    rfl
  have hwsame : w.tmap = u.tmap ∧ w.su = u.su ∧ w.ce = u.ce ∧ SameBase u w ∧ SameStore u w ∧ SameLine u w := by
    rw [← hw]
    simp [SameBase, SameStore, SameLine]
  obtain ⟨hwtmap, hwsu, hwce, hwbase, hwstore, hwline⟩ := hwsame
  rw [hw] at ht
  have htpe : t.pe = w.pe := by rw [← ht]; simp
  refine ⟨by rw [← ht]; simp [hwtmap, htmap], by rw [htpe]; exact hwpe, by rw [← ht]; simp [hwsu, hsu],
    by rw [← ht, offerTo_ce, hwce, hce], fun a _ => ?_, (hbase.trans hwbase).trans (by rw [← ht]; simp [SameBase]),
    (hstore.trans hwstore).trans (by rw [← ht]; simp [SameStore]), (hline.trans hwline).trans (by rw [← ht]; simp [SameLine])⟩
  have hports : t.ports = w.ports := by rw [← ht]; simp
  rw [hostByte, hports]
  exact (hwbytes a).trans (hbytes a)

/-- The first raster read of a print, unless a discarded one is still in flight (R65, R70). -/
theorem startPrint_reads (ht : startPrint q c g s = t) : (s.pe.read = none → 0 < q.lines → t.pe.read = some ⟨0, true⟩ ∧
    t.ports.head? = some (.hostRead q.raster (3 * q.width))) ∧
    (∀ r, s.pe.read = some r → t.pe.read = some r ∧ t.ports =
      if irqSummary (raiseEvent .printing s) && !irqSummary s then .interrupt :: s.ports else s.ports) := by
  rw [startPrint_eq] at ht
  obtain ⟨u, hu⟩ : ∃ u, raiseEvent .printing (printStarted q c g s) = u := ⟨_, rfl⟩
  have hpe : u.pe = (printStarted q c g s).pe := by rw [← hu]; simp
  rw [hu] at ht
  have hjob : u.pe.job = some (startedJob q s) := by rw [hpe]; rfl
  have hlast : t.pe.read = (fetchRaster u).pe.read ∧ t.ports = (fetchRaster u).ports := by
    rw [← ht]
    simp
  obtain ⟨hread, hports⟩ := hlast
  rw [hread, hports]
  refine ⟨fun hnone hlines => ?_, fun r hr => ?_⟩
  · obtain ⟨h1, h2⟩ := fetchRaster_reads (line := 0) hjob (by rw [hpe]; exact hnone) (by rw [hpe]; rfl)
      (by simp [nextRaster, trimWindow, startedJob, lowestNeeded, sourceLine, hlines])
    rw [h1, h2]
    simp [startedJob]
  · obtain ⟨h1, h2⟩ := fetchRaster_waits hjob (.inl (by rw [hpe]; exact fun h => nomatch hr.symm.trans h))
    rw [h1, h2]
    refine ⟨by rw [hpe]; exact hr, ?_⟩
    have hsummary : irqSummary (raiseEvent .printing (printStarted q c g s)) = irqSummary (raiseEvent .printing s) ∧
        irqSummary (printStarted q c g s) = irqSummary s := by
      simp [irqSummary, printStarted]
    rw [← hu, raiseEvent_ports_eq, hsummary.1, hsummary.2]
    simp [printStarted]

/-- A print start acts on the head card alone, and leaves the verdict of the card that heads the queue next (R66). -/
theorem printStart_judged (hon : s.power.mainOn = true) (hst : s.pe.state = .idle) (hq : s.pe.queue = q :: rest)
    (hf : s.pe.firstTest = some (q.card.take, v)) (hx : exec .printStart s = .next t) (hhead : t.pe.queue.head? = some q) :
    t.pe.firstTest = some (q.card.take, v) := by
  have hs : Judged q v s.pe := .inl ⟨hf, by rw [hq]; rfl⟩
  obtain ⟨hsome, hstart, hnone⟩ := exec_printStart hon hst hq
  cases hj : judgement s q with
  | some u =>
    rw [hsome u hj] at hx
    cases hx
    split at hhead
    · rename_i hw
      rw [if_pos hw]
      exact (touchStart_judged (failQueued_judged hs _ _ q)).stands hhead
    · rename_i hw
      rw [if_neg hw]
      exact hf
  | none =>
    cases hc : s.setup with
    | none =>
      rw [hnone hj (.inl hc)] at hx
      cases hx
      exact hf
    | some c =>
      cases hg : (profileOf s q.profileId).header with
      | none =>
        rw [hnone hj (.inr hg)] at hx
        cases hx
        exact hf
      | some g =>
        rw [hstart c g hj hc hg] at hx
        cases hx
        obtain ⟨-, hpe, -⟩ := startPrint_parts (q := q) (c := c) (g := g) (s := s) rfl
        rw [hpe]
        exact hf

end

/-- Settles O50. -/
theorem printStart : Obligations.PrintStart := by
  refine ⟨fun s q c hc => ⟨startTest_none_iff hc, fun h ht => startTest_names hc ht, startCoordinate_empty,
    fun l g h => startCoordinate_last h⟩, fun s hon => ⟨exec_printStart_off hon, fun q rest hst hq => ⟨fun h ht hw => ?_,
    fun h hw hno ht => touchStart_first hst hq hw hno ht, fun h hw hf => touchStart_judgedOnce hst hq hw hf,
    fun h hw hv => printStart_fails hon hst hq hw hv, fun i t h hf hx hhead => ?_, fun c h ht hno hc hg => ?_⟩⟩⟩
  · rw [(exec_printStart hon hst hq).1 h (by rw [judgement_wait hw, ht]), hw]
    rfl
  · by_cases hi : i = .printStart
    · subst hi
      exact printStart_judged hon hst hq hf hx hhead
    · exact (exec_judged hf (by rw [hq]; rfl) hi hx).stands hhead
  · have hjudged : judgement s q = none := by
      by_cases hw : q.noWait = true
      · rw [judgement_noWait hw, firstVerdict_none (hno hw), ht]
        rfl
      · rw [judgement_wait (Bool.eq_false_iff.mpr hw), ht]
    obtain ⟨t, hstart⟩ : ∃ t, startPrint q c h s = t := ⟨_, rfl⟩
    obtain ⟨htmap, hpe, hsu, hce, honly, hbase, hstore, hline⟩ := startPrint_parts hstart
    obtain ⟨hread, hwaits⟩ := startPrint_reads hstart
    have hdoses : planDoses s c h = (s.hc.zones.take c.zones).map (fun z => planDose z.sp h.tOnset c.lW s.wd.running) := by
      unfold planDoses setpoints zonesInUse
      rw [hc, List.map_map]
      rfl
    refine ⟨t, ((exec_printStart hon hst hq).2.1 c h hjudged hc hg).trans (congrArg _ hstart),
      ⟨newSegment s c h q (startCoordinate s), htmap, rfl, rfl, rfl, rfl, rfl, rfl, rfl, rfl, rfl, rfl, rfl, rfl, rfl, rfl, hdoses, rfl, rfl,
        rfl, rfl, rfl, rfl, rfl, rfl, rfl, rfl, rfl, rfl, rfl, rfl⟩, ?_, hread, hwaits, hsu, hce, honly, hbase, hstore, hline⟩
    have hrest : s.pe.queue.drop 1 = rest := by rw [hq]; rfl
    rw [hpe]
    unfold printStarted
    rw [hrest]
    rfl

end Sys2Proof.Machine

end

section

/-! PROOFS. The beginning of a line's computation, and its lookups (R50, R72 to R74). -/

namespace Sys2Proof.Machine

section
variable {s t u : State} {j : PrintJob} {c k : Computation} {h : ProfileHeader} {l : Nat × List Byte} {f r : FillRequest} {v : CellValue}

/-! ## LINE_COMPUTATION_BEGIN (R72) -/

theorem lineReady_off (hno : s.pe.job = none ∨ s.pe.state ≠ .printing ∨ (∃ j, s.pe.job = some j ∧ (j.comp.isSome = true ∨
    2 ≤ j.slots.length ∨ j.nOut ≤ j.cursor ∨ j.cursor < j.reached ∨ ∀ l ∈ j.window, l.1 ≠ sourceLine j.acc))) : lineReady s = none := by
  unfold lineReady
  rcases hno with hj | hst | ⟨j, hj, hno⟩
  · rw [hj]
    split <;> simp_all
  · split
    · rename_i hp _
      exact absurd hp hst
    · rfl
  · split
    · rename_i j' _ hj'
      rw [hj] at hj'
      cases hj'
      split
      · rename_i hready
        have hfind : j.window.find? (fun l => l.1 == sourceLine j.acc) = none := by
          simp only [Bool.and_eq_true, decide_eq_true_eq, Option.isNone_iff_eq_none] at hready
          obtain ⟨⟨⟨h1, h2⟩, h3⟩, h4⟩ := hready
          refine List.find?_eq_none.mpr fun l hl => ?_
          rcases hno with h | h | h | h | h
          · simp [h1] at h
          · omega
          · omega
          · omega
          · simpa using h l hl
        rw [hfind]
      · rfl
    · rfl

theorem lineReady_some (hst : s.pe.state = .printing) (hj : s.pe.job = some j) (hcomp : j.comp = none) (hslots : j.slots.length < 2)
    (hcur : j.cursor < j.nOut) (hreached : j.reached ≤ j.cursor) (hl : j.window.find? (fun l => l.1 == sourceLine j.acc) = some l) :
    lineReady s = some (j, l.2) := by
  unfold lineReady
  rw [hst, hj]
  dsimp only
  rw [if_pos (by simp [hcomp, hslots, hcur, hreached]), hl]

/-! ## LOOKUP (R50) -/

theorem nextLookup_some (hj : s.pe.job = some j) (hc : j.comp = some c) (hfill : c.filling = false) (hcol : c.column < j.card.width)
    (hh : (profileOf s j.card.profileId).header = some h) :
    nextLookup s = some (h, ⟨j.card.profileId, cornerNode h.grid c.corner (pixelInput c), h.base + cornerNode h.grid c.corner (pixelInput c),
      h.channels⟩) := by
  unfold nextLookup
  rw [hj]
  dsimp only
  rw [hc, hh]
  dsimp only
  rw [if_neg (by simp [hfill, hcol])]

theorem nextLookup_none (hno : s.pe.job = none ∨ (∃ j, s.pe.job = some j ∧ (j.comp = none ∨ ∃ c, j.comp = some c ∧
    (c.filling = true ∨ j.card.width ≤ c.column)))) : nextLookup s = none := by
  unfold nextLookup
  rcases hno with hj | ⟨j, hj, hc | ⟨c, hc, hno⟩⟩
  · rw [hj]
  · rw [hj]
    dsimp only
    rw [hc]
  · rw [hj]
    dsimp only
    rw [hc]
    split
    · rename_i c' h' hc' _
      cases hc'
      exact if_pos (by rcases hno with h | h <;> simp [h])
    · rfl

theorem exec_lookup (hon : s.power.mainOn = true) (hnext : nextLookup s = some (h, r)) : exec .lookup s = .next (lookupCell h r s) := by
  refine (whenOn_on hon : execLookup s = _).trans (congrArg _ ?_)
  rw [hnext]

theorem exec_lookup_off (hon : s.power.mainOn = true) (hnext : nextLookup s = none) : exec .lookup s = .next s := by
  refine (whenOn_on hon : execLookup s = _).trans (congrArg _ ?_)
  rw [hnext]

theorem lookupCell_shadow {e : ShadowEntry} (he : visibleEntry s r.cell = some e) :
    lookupCell h r s = serveCorner h e.value { s with nc := { s.nc with shadowHits := s.nc.shadowHits + 1 } } := by
  unfold lookupCell
  rw [he]

theorem lookupCell_cached (he : visibleEntry s r.cell = none) (hv : cacheHolds s r.cell = some v) :
    lookupCell h r s = serveCorner h v { s with nc := { s.nc with cacheHits := s.nc.cacheHits + 1 } } := by
  unfold lookupCell
  rw [he, hv]

theorem lookupCell_fills (he : visibleEntry s r.cell = none) (hv : cacheHolds s r.cell = none) :
    lookupCell h r s = pumpPort (askFill r s) := by
  unfold lookupCell
  rw [he, hv]

/-- A lookup that is served takes its corner (R73). -/
theorem serveCorner_eq (hj : s.pe.job = some j) (hc : j.comp = some c) : serveCorner h v s = { s with
    pe := { s.pe with job := some { j with comp := some (takeCorner h.grid h.channels (columnGain s j c) v c) } } } := by
  unfold serveCorner setJob
  rw [hj, Option.map_some, hc]
  rfl

theorem askFill_eq (hj : s.pe.job = some j) (hc : j.comp = some c) : askFill f s = { s with
    ps := { s.ps with arb := { s.ps.arb with fillReq := some f } }
    pe := { s.pe with job := some { j with comp := some { c with filling := true } } } } := by
  unfold askFill setJob setArb
  dsimp only
  rw [hj, Option.map_some, hc]
  rfl

/-- A fill takes the port at once where nothing else asks for it, or where no other request has credit (R39). -/
theorem askFill_granted (h : PortQuiet s ∨ (s.ps.arb.busy = none ∧ s.ps.arb.shadowCredit = false ∧ s.ps.arb.loaderCredit = false)) :
    (pumpPort (askFill f s)).ps.arb.busy = some (.fill f true) := by
  rw [pumpPort_asked]
  rcases h with hq | ⟨hb, hsc, hlc⟩
  · obtain ⟨hb, hf, hs, hl, hentries, hp, hload⟩ := hq
    have hshadow : shadowAsked (askFill f s) = none := shadowAsked_none hb hs hp hentries
    have hloader : loadAsked (askFill f s) = none := loadAsked_idle hl hload
    rw [hshadow, hloader]
    obtain ⟨hgrant, -⟩ := grant_rest (a := { (askFill f s).ps.arb with shadowReq := none, loaderReq := none }) hb (.inl rfl) (.inl rfl)
    exact congrArg Arbiter.busy (hgrant f rfl)
  · obtain ⟨hgrant, -⟩ := grant_rest (a := { (askFill f s).ps.arb with
      shadowReq := shadowAsked (askFill f s), loaderReq := loadAsked (askFill f s) }) hb (.inr hsc) (.inr hlc)
    exact congrArg Arbiter.busy (hgrant f rfl)

theorem columnGain_eq {g : Settings} {e : Segment} {x : Nat} (hset : s.setup = some g)
    (he : s.tmap.segs.find? (fun e => e.start == j.start) = some e) (hx : e.gains[columnZone c.column g.zones g.width]? = some x) :
    columnGain s j c = x := by
  unfold columnGain
  rw [hset, show segAt s j.start = some e from he]
  simp [nth, hx]

theorem takeCorner_filling (n m gain : Nat) (v : CellValue) (c : Computation) : (takeCorner n m gain v c).filling = false := by
  unfold takeCorner
  dsimp only
  split <;> rfl

end

end Sys2Proof.Machine

end

section

/-! PROOFS. A completed fill, the lookup it serves, the parity it met, and the lookup held behind it (R50, R52, R55, R57). -/

namespace Sys2Proof.Machine

section
variable {s t u : State} {j : PrintJob} {c k : Computation} {h : ProfileHeader} {p : ProfileRecord} {f r : FillRequest} {v : StoreCell}
  {live : Bool} {n : Nat}

/-- The lookup of a fill is served and counted (R54). -/
theorem fillCorner_eq (hj : s.pe.job = some j) (hc : j.comp = some c) (hh : (profileOf s r.id).header = some h) :
    fillCorner r v s = { s with
      nc := { s.nc with fills := s.nc.fills + 1 }
      pe := { s.pe with job := some { j with comp := some (takeCorner h.grid h.channels (columnGain s j c) v.bytes c) } } } := by
  unfold fillCorner
  rw [hh]
  exact serveCorner_eq hj hc

/-- The part once a fill's value has been taken by the cache, or its parity error noted. -/
def filled (r : FillRequest) (v : StoreCell) (u : State) : State :=
  if badChannels v r.channels = 0 then cacheFill r.cell v.bytes u
  else noteParity r.id r.node r.cell .fill (badChannels v r.channels) u

theorem serveFill_eq (r : FillRequest) (live : Bool) (v : StoreCell) (s : State) :
    serveFill r live v s = parityHalt (badChannels v r.channels) (filled r v (if live then fillCorner r v s else s)) := by
  unfold serveFill filled
  by_cases hm : badChannels v r.channels = 0
  · dsimp only
    rw [if_pos hm, if_pos hm, hm, noteParity_good]
  · dsimp only
    rw [if_neg hm, if_neg hm]

theorem filled_good (hm : badChannels v r.channels = 0) : filled r v u = cacheFill r.cell v.bytes u := if_pos hm

theorem filled_bad (hm : badChannels v r.channels ≠ 0) :
    filled r v u = noteParity r.id r.node r.cell .fill (badChannels v r.channels) u := if_neg hm

/-- What a fill's value leaves but for the cache's lines, the damage count, the strip's mark and the fault. -/
theorem filled_eq (r : FillRequest) (v : StoreCell) (u : State) : filled r v u = { u with
    tmap := ⟨(filled r v u).tmap.segs, u.tmap.joints⟩
    ps := { u.ps with records := (filled r v u).ps.records }
    nc := { u.nc with lines := (filled r v u).nc.lines }
    su := (filled r v u).su
    ports := (filled r v u).ports } := by
  by_cases hm : badChannels v r.channels = 0
  · rw [filled_good hm]
    rfl
  · rw [filled_bad hm]
    have heq := noteParity_eq r.id r.node r.cell .fill (badChannels v r.channels) u
    have hnc : (noteParity r.id r.node r.cell .fill (badChannels v r.channels) u).nc = u.nc := by simp
    obtain ⟨w, hw⟩ : ∃ w, noteParity r.id r.node r.cell .fill (badChannels v r.channels) u = w := ⟨_, rfl⟩
    rw [hw] at heq hnc ⊢
    rw [hnc]
    exact heq

theorem cacheFill_lines (cell : Nat) (x : CellValue) (u : State) :
    (∀ n, n ≠ cell % 256 → (cacheFill cell x u).nc.lines[n]? = u.nc.lines[n]?) ∧
      (u.nc.lines.length = 256 → cacheHolds (cacheFill cell x u) cell = some x) := by
  refine ⟨fun n hn => modifyNth_getElem?_ne hn, fun hlen => ?_⟩
  have hplace : (cacheFill cell x u).nc.lines[cell % 256]? = some (some ⟨cell / 256, x⟩) := by
    unfold cacheFill
    dsimp only
    have hlt : cell % 256 < u.nc.lines.length := by omega
    rw [modifyNth_getElem?_eq, List.getElem?_eq_getElem hlt]
    rfl
  unfold cacheHolds nth
  rw [hplace]
  exact if_pos rfl

/-! ## The lookup held behind a fill (R39, R50) -/

theorem HeldFill.congr (hf : HeldFill s j k f) (hr : t.ps.records = s.ps.records) (hspb : t.spb.entries = s.spb.entries)
    (hnc : t.nc = s.nc) : HeldFill t j k f := by
  unfold HeldFill profileOf at *
  rwa [hr, hspb, cacheHolds_congr hnc]

theorem heldFill_iff (hj : s.pe.job = some { j with comp := some k }) (hfill : k.filling = false) :
    HeldFill s j k f ↔ ∃ h, nextLookup s = some (h, f) ∧ visibleEntry s f.cell = none ∧ cacheHolds s f.cell = none := by
  have hvisible : visibleEntry s f.cell = none ↔ ∀ e ∈ s.spb.entries, e.cell = f.cell → e.visible = false := by
    unfold visibleEntry
    simp [List.find?_eq_none]
  rw [hvisible]
  constructor
  · rintro ⟨hcol, ⟨h, hh, hf⟩, hentries, hcache⟩
    exact ⟨h, (nextLookup_some hj rfl hfill hcol hh).trans (by rw [hf]), hentries, hcache⟩
  · rintro ⟨h, hnext, hentries, hcache⟩
    have hcol : k.column < j.card.width := by
      by_contra hge
      rw [nextLookup_none (.inr ⟨_, hj, .inr ⟨k, rfl, .inr (by simpa using hge)⟩⟩)] at hnext
      cases hnext
    cases hheader : (profileOf s j.card.profileId).header with
    | none =>
      unfold nextLookup at hnext
      rw [hj] at hnext
      dsimp only at hnext
      rw [hheader] at hnext
      cases hnext
    | some g =>
      rw [nextLookup_some hj rfl hfill hcol hheader] at hnext
      cases hnext
      exact ⟨hcol, ⟨h, hheader, rfl⟩, hentries, hcache⟩

/-- The lookup held behind a fill asks for its own fill if it misses too. -/
theorem heldLookup_held (hj : s.pe.job = some { j with comp := some k }) (hfill : k.filling = false) :
    (∀ f, HeldFill s j k f → heldLookup s = askFill f s) ∧ ((∀ f, ¬HeldFill s j k f) → heldLookup s = s) := by
  refine ⟨fun f hf => ?_, fun hno => ?_⟩
  · obtain ⟨h, hnext, hv, hc⟩ := (heldFill_iff hj hfill).mp hf
    unfold heldLookup
    rw [hnext]
    dsimp only
    rw [hv, hc]
    rfl
  · unfold heldLookup
    split
    · rename_i h f hnext
      refine if_neg fun hmiss => hno f ((heldFill_iff hj hfill).mpr ⟨h, hnext, ?_⟩)
      simpa using hmiss
    · rfl

theorem shadowAsked_held {w : ShadowRequest} (hw : s.ps.arb.shadowReq = some w) : shadowAsked s = some w := by
  unfold shadowAsked
  rw [hw]
  exact if_pos rfl

theorem loadAsked_held {w : LoadRequest} (hw : s.ps.arb.loaderReq = some w) : loadAsked s = some w := by
  unfold loadAsked
  rw [hw]
  exact if_pos rfl

/-- A fill that waits while the port is free goes ahead of requests without credit, which keep waiting (R39). -/
theorem askFill_first (hb : s.ps.arb.busy = none) (hsc : s.ps.arb.shadowCredit = false) (hlc : s.ps.arb.loaderCredit = false) :
    (pumpPort (askFill f s)).ps.arb.busy = some (.fill f true) ∧ (pumpPort (askFill f s)).ps.arb.shadowCredit = false ∧
      (pumpPort (askFill f s)).ps.arb.loaderCredit = false ∧
      (∀ w, s.ps.arb.shadowReq = some w → (pumpPort (askFill f s)).ps.arb.shadowReq = some w) ∧
      ∀ w, s.ps.arb.loaderReq = some w → (pumpPort (askFill f s)).ps.arb.loaderReq = some w := by
  obtain ⟨hgrant, -⟩ := grant_rest (a := { (askFill f s).ps.arb with
    shadowReq := shadowAsked (askFill f s), loaderReq := loadAsked (askFill f s) }) hb (.inr hsc) (.inr hlc)
  rw [pumpPort_asked, hgrant f rfl]
  exact ⟨rfl, hsc, hlc, fun w hw => shadowAsked_held (s := askFill f s) hw, fun w hw => loadAsked_held (s := askFill f s) hw⟩

/-- With no fill waiting a free port goes to the requests that wait, the shadow requester's first (R39). -/
theorem pumpPort_behind (hb : s.ps.arb.busy = none) (hf : s.ps.arb.fillReq = none) (hsc : s.ps.arb.shadowCredit = false)
    (hlc : s.ps.arb.loaderCredit = false) :
    (∀ w, s.ps.arb.shadowReq = some w → (pumpPort s).ps.arb.busy = some (.shadow w true)) ∧
      (∀ w, s.ps.arb.loaderReq = some w → (pumpPort s).ps.arb.busy ≠ none) := by
  rw [pumpPort_asked]
  obtain ⟨-, hshadow, -⟩ := grant_rest (a := { s.ps.arb with shadowReq := shadowAsked s, loaderReq := loadAsked s }) hb (.inr hsc) (.inr hlc)
  refine ⟨fun w hw => congrArg Arbiter.busy (hshadow w hf (shadowAsked_held hw)), fun w hw => grant_grants hb (.inr (.inl ?_))⟩
  dsimp only
  rw [loadAsked_held hw]
  exact nofun

end

end Sys2Proof.Machine

end

section

/-! PROOFS. Line computation, lookups and fills as one statement (R50 to R57, R72 to R74). -/

namespace Sys2Proof.Machine

section
variable {s t u x : State} {j : PrintJob} {c k : Computation} {h : ProfileHeader} {p : ProfileRecord} {f r : FillRequest} {v : StoreCell}
  {live : Bool} {n : Nat}

theorem exec_fill {dmg : CellDamage} (hon : s.power.mainOn = true) (hb : s.ps.arb.busy = some (.fill r live)) :
    exec (.lookupFillComplete dmg) s = .next (pumpPort (if live
      then heldLookup (serveFill r live (damaged (storeRead s.ps.mem r.cell) dmg) (readDone r.cell dmg s))
      else serveFill r live (damaged (storeRead s.ps.mem r.cell) dmg) (readDone r.cell dmg s))) := by
  refine (whenOn_on hon : execLookupFillComplete dmg s = _).trans (congrArg _ ?_)
  rw [hb]
  rfl

theorem exec_fill_off {dmg : CellDamage} (hon : s.power.mainOn = true) (hno : ∀ r live, s.ps.arb.busy ≠ some (.fill r live)) :
    exec (.lookupFillComplete dmg) s = .next s := by
  refine (whenOn_on hon : execLookupFillComplete dmg s = _).trans (congrArg _ ?_)
  split
  · rename_i h
    exact absurd h (hno _ _)
  · rfl

/-- What a parity error in a fill leaves behind (R55, R56). -/
theorem filled_bad_parts (hm : badChannels v r.channels ≠ 0) (hx : filled r v u = x) :
    x.nc = u.nc ∧ x.su.haltCause = u.su.haltCause ∧
      x.su.faults = (offerFault (.parity r.id r.node r.cell .fill (badChannels v r.channels)) u).su.faults ∧
      (∀ p, u.ps.records[r.id - 1]? = some p → x.ps.records[r.id - 1]? = some { p with
        damage := if p.header = none then p.damage else min 255 (p.damage + 1) }) ∧
      ∀ j, u.pe.job = some j → x.tmap.segs = u.tmap.segs.map (fun g =>
        if g.start = j.start ∧ j.card.profileId = r.id then { g with flags := { g.flags with parity := true } } else g) := by
  rw [filled_bad hm] at hx
  subst hx
  exact ⟨by simp, noteParity_haltCause, noteParity_faults hm, fun p hp => noteParity_record hm hp, fun j hj => noteParity_segs hm hj⟩

/-- What a fill with good parity leaves behind (R52). -/
theorem filled_good_parts (hm : badChannels v r.channels = 0) (hx : filled r v u = x) : x.su = u.su ∧ x.tmap = u.tmap ∧
    x.ps.records = u.ps.records ∧ (∀ n, n ≠ r.cell % 256 → x.nc.lines[n]? = u.nc.lines[n]?) ∧
    (u.nc.lines.length = 256 → cacheHolds x r.cell = some v.bytes) := by
  rw [filled_good hm] at hx
  subst hx
  exact ⟨rfl, rfl, rfl, (cacheFill_lines r.cell v.bytes u).1, (cacheFill_lines r.cell v.bytes u).2⟩

theorem haltOnParity_congr (h : u.setup = s.setup) : haltOnParity u = haltOnParity s := by
  unfold haltOnParity
  rw [h]

/-- A halt changes no fault that is queued. -/
theorem takeHalt_faults (cause : HaltCause) (s : State) : (takeHalt cause s).su.faults = s.su.faults := by
  obtain ⟨⟨l, -, hsu⟩, -⟩ := takeHalt_raises cause s
  rw [hsu]
  rfl

/-- The fill of a computation that was abandoned (R52). -/
theorem fill_abandoned {dmg : CellDamage} (hu : readDone r.cell dmg s = u) (ht : pumpPort (serveFill r false v u) = t) :
    (badChannels v r.channels = 0 → t.pe = s.pe ∧ t.su = s.su ∧ t.tmap = s.tmap ∧ t.wd = s.wd ∧
      t.ps.records = s.ps.records ∧ t.nc = { s.nc with lines := t.nc.lines } ∧
      (∀ n, n ≠ r.cell % 256 → t.nc.lines[n]? = s.nc.lines[n]?) ∧
      (s.nc.lines.length = 256 → cacheHolds t r.cell = some v.bytes)) ∧
    (badChannels v r.channels ≠ 0 → t.nc = s.nc ∧
      (haltOnParity s = false → t.pe = s.pe ∧ t.wd = s.wd ∧
        t.su.faults = (offerFault (.parity r.id r.node r.cell .fill (badChannels v r.channels)) s).su.faults ∧
        (∀ p, 1 ≤ r.id → s.ps.records[r.id - 1]? = some p → t.ps.records[r.id - 1]? = some { p with
          damage := if p.header = none then p.damage else min 255 (p.damage + 1) }) ∧
        ∀ j, s.pe.job = some j → t.tmap.segs = s.tmap.segs.map (fun g =>
          if g.start = j.start ∧ j.card.profileId = r.id then { g with flags := { g.flags with parity := true } } else g)) ∧
      (haltOnParity s = true → s.wd.state ≠ .halted →
        t.wd = ⟨.halted, 0, 0, 0, s.wd.measured, false⟩ ∧ t.su.haltCause = s.su.haltCause.or (some .parity))) := by
  have hsame : u.pe = s.pe ∧ u.su = s.su ∧ u.tmap = s.tmap ∧ u.wd = s.wd ∧ u.ps.records = s.ps.records ∧ u.nc = s.nc ∧
      u.setup = s.setup ∧ u.web = s.web := by
    rw [← hu]
    exact ⟨rfl, rfl, rfl, rfl, rfl, rfl, rfl, rfl⟩
  obtain ⟨upe, usu, utmap, uwd, urecords, unc, uset, uweb⟩ := hsame
  obtain ⟨x, hx⟩ : ∃ x, filled r v u = x := ⟨_, rfl⟩
  have heq := filled_eq r v u
  rw [serveFill_eq, if_neg (by decide), hx] at ht
  rw [hx] at heq
  have hparts : x.pe = u.pe ∧ x.wd = u.wd ∧ x.setup = u.setup ∧ x.nc = { u.nc with lines := x.nc.lines } := by
    rw [heq]
    exact ⟨rfl, rfl, rfl, rfl⟩
  obtain ⟨xpe, xwd, xset, xnc⟩ := hparts
  have hhalt : haltOnParity x = haltOnParity s := haltOnParity_congr (xset.trans uset)
  have hquiet : badChannels v r.channels = 0 ∨ haltOnParity s = false → t = { x with ps := { x.ps with arb := t.ps.arb } } := fun h => by
    rw [parityHalt_off (by rwa [hhalt])] at ht
    rw [← ht]
    exact pumpPort_eq x
  refine ⟨fun hm => ?_, fun hm => ⟨?_, fun h => ?_, fun h hst => ?_⟩⟩
  · obtain ⟨hsu, htmap, hrecords, hlines, hholds⟩ := filled_good_parts hm hx
    have ht' := hquiet (.inl hm)
    rw [ht']
    refine ⟨xpe.trans upe, hsu.trans usu, htmap.trans utmap, xwd.trans uwd, hrecords.trans urecords, xnc.trans (by rw [unc]),
      fun n hn => (hlines n hn).trans (by rw [unc]), fun hlen => hholds (by rw [unc]; exact hlen)⟩
  · obtain ⟨hnc, -⟩ := filled_bad_parts hm hx
    rw [← ht, (pumpPort_frame _).2.2.2.2.2.2.2.2.2.2.2.2.1, (parityHalt_frame _ _).2.2.2.2.2.2.2.2, hnc, unc]
  · obtain ⟨-, -, hfaults, hrecord, hsegs⟩ := filled_bad_parts hm hx
    have ht' := hquiet (.inr h)
    rw [ht']
    refine ⟨xpe.trans upe, xwd.trans uwd, hfaults.trans (offerFault_faults_congr _ (by rw [usu]) (by rw [usu]) (by rw [uweb])),
      fun p _ hp => hrecord p (by rw [urecords, hp]), fun j hj => ?_⟩
    rw [← utmap]
    exact hsegs j (by rw [upe, hj])
  · obtain ⟨-, hcause, -⟩ := filled_bad_parts hm hx
    rw [parityHalt_halts hm (hhalt.trans h) (by rw [xwd, uwd]; exact hst)] at ht
    rw [← ht, pumpPort_eq]
    exact ⟨(takeHalt_wd .parity x).trans (by rw [xwd, uwd]), (takeHalt_haltCause .parity x).trans (by rw [hcause, usu])⟩

/-- The state in which the lookup held behind a served fill is judged: the computation has its corner, and the port is free. -/
theorem fill_served {dmg : CellDamage} (hu : readDone r.cell dmg s = u) (hj : s.pe.job = some j) (hc : j.comp = some c)
    (hp : s.ps.records[r.id - 1]? = some p) (hh : p.header = some h) (hx : filled r v (fillCorner r v u) = x)
    (hk : k = takeCorner h.grid h.channels (columnGain s j c) v.bytes c) :
    x.pe = { s.pe with job := some { j with comp := some k } } ∧ x.nc.fills = s.nc.fills + 1 ∧ x.wd = s.wd ∧ x.setup = s.setup ∧
      x.ps.arb = { s.ps.arb with busy := none } := by
  have hsame : u.pe = s.pe ∧ u.ps.records = s.ps.records ∧ u.nc = s.nc ∧ u.setup = s.setup ∧ u.tmap = s.tmap ∧ u.wd = s.wd ∧
      u.ps.arb = { s.ps.arb with busy := none } := by
    rw [← hu]
    exact ⟨rfl, rfl, rfl, rfl, rfl, rfl, rfl⟩
  obtain ⟨upe, urecords, unc, uset, utmap, uwd, uarb⟩ := hsame
  have hheader : (profileOf u r.id).header = some h := by
    rw [profileOf_eq (s := u) (by rw [urecords, hp]), hh]
  have hgain : columnGain u j c = columnGain s j c := by
    unfold columnGain segAt
    rw [uset, utmap]
  have hcorner := fillCorner_eq (v := v) (by rw [upe, hj]) hc hheader
  have heq := filled_eq r v (fillCorner r v u)
  rw [hx, hcorner, hgain, ← hk] at heq
  rw [heq]
  refine ⟨by rw [upe], by rw [unc], uwd, uset, uarb⟩

theorem heldLookup_idle (h : s.pe.job = none) : heldLookup s = s := by
  unfold heldLookup
  rw [nextLookup_none (.inl h)]

/-- What the lookup held behind a served fill does at the port (R39, R50). -/
theorem heldLookup_pumped (hj : x.pe = { s.pe with job := some { j with comp := some k } }) (hk : k.filling = false)
    (harb : x.ps.arb = { s.ps.arb with busy := none }) (ht : pumpPort (heldLookup x) = t) :
    (∀ f, HeldFill t j k f → t.pe = { s.pe with job := some { j with comp := some { k with filling := true } } } ∧
      (s.ps.arb.shadowCredit = false → s.ps.arb.loaderCredit = false → t.ps.arb.busy = some (.fill f true) ∧
        t.ps.arb.shadowCredit = false ∧ t.ps.arb.loaderCredit = false ∧
        (∀ w, s.ps.arb.shadowReq = some w → t.ps.arb.shadowReq = some w) ∧
        ∀ w, s.ps.arb.loaderReq = some w → t.ps.arb.loaderReq = some w)) ∧
    ((∀ f, ¬ HeldFill t j k f) → t.pe = { s.pe with job := some { j with comp := some k } } ∧
      (s.ps.arb.fillReq = none → s.ps.arb.shadowCredit = false → s.ps.arb.loaderCredit = false →
        (∀ w, s.ps.arb.shadowReq = some w → t.ps.arb.busy = some (.shadow w true)) ∧
        (∀ w, s.ps.arb.loaderReq = some w → t.ps.arb.busy ≠ none))) := by
  have hjob : x.pe.job = some { j with comp := some k } := congrArg PrintEngine.job hj
  have hrecords : t.ps.records = x.ps.records := by
    rw [← ht, pumpPort_eq]
    exact heldLookup_records x
  have hspb : t.spb.entries = x.spb.entries := by rw [← ht]; simp
  have hnc : t.nc = x.nc := by rw [← ht]; simp
  obtain ⟨hheld, hno⟩ := heldLookup_held hjob hk
  refine ⟨fun f hf => ?_, fun hf => ?_⟩
  · have hx : HeldFill x j k f := hf.congr hrecords.symm hspb.symm hnc.symm
    rw [hheld f hx] at ht
    refine ⟨?_, fun hsc hlc => ?_⟩
    · rw [← ht, (pumpPort_frame _).2.2.2.2.2.2.2.2.2.2.2.2.2.1, askFill_eq hjob rfl]
      dsimp only
      rw [hj]
    · obtain ⟨h1, h2, h3, h4, h5⟩ := askFill_first (s := x) (f := f) (by rw [harb]) (by rw [harb]; exact hsc) (by rw [harb]; exact hlc)
      rw [ht] at h1 h2 h3 h4 h5
      rw [harb] at h4 h5
      exact ⟨h1, h2, h3, h4, h5⟩
  · rw [hno fun f hx => hf f (hx.congr hrecords hspb hnc)] at ht
    refine ⟨by rw [← ht, (pumpPort_frame _).2.2.2.2.2.2.2.2.2.2.2.2.2.1, hj], fun hfill hsc hlc => ?_⟩
    obtain ⟨h1, h2⟩ := pumpPort_behind (s := x) (by rw [harb]) (by rw [harb]; exact hfill) (by rw [harb]; exact hsc) (by rw [harb]; exact hlc)
    rw [ht, harb] at h1 h2
    exact ⟨h1, h2⟩

/-- The part when a fill's lookup has been served, but for the computation and the counter. -/
theorem fillCorner_rest {dmg : CellDamage} (hu : readDone r.cell dmg s = u) : (fillCorner r v u).su = s.su ∧
    (fillCorner r v u).tmap = s.tmap ∧ (fillCorner r v u).ps.records = s.ps.records ∧ (fillCorner r v u).nc.lines = s.nc.lines ∧
    (fillCorner r v u).web = s.web ∧ (fillCorner r v u).wd = s.wd := by
  rw [← hu]
  unfold fillCorner
  split
  · exact ⟨rfl, rfl, rfl, rfl, rfl, rfl⟩
  · exact ⟨rfl, rfl, rfl, rfl, rfl, rfl⟩

/-- The fill that a lookup waits for (R50, R52, R55, R57). -/
theorem fill_live {dmg : CellDamage} (hu : readDone r.cell dmg s = u) (hj : s.pe.job = some j) (hc : j.comp = some c)
    (hp : s.ps.records[r.id - 1]? = some p) (hh : p.header = some h) (hlen : s.nc.lines.length = 256)
    (ht : pumpPort (heldLookup (serveFill r true v u)) = t) :
    (badChannels v r.channels = 0 ∨ haltOnParity s = false → t.nc.fills = s.nc.fills + 1 ∧ t.wd = s.wd ∧
      ∀ k, k = takeCorner h.grid h.channels (columnGain s j c) v.bytes c →
        (∀ f, HeldFill t j k f → t.pe = { s.pe with job := some { j with comp := some { k with filling := true } } } ∧
          (s.ps.arb.shadowCredit = false → s.ps.arb.loaderCredit = false → t.ps.arb.busy = some (.fill f true) ∧
            t.ps.arb.shadowCredit = false ∧ t.ps.arb.loaderCredit = false ∧
            (∀ w, s.ps.arb.shadowReq = some w → t.ps.arb.shadowReq = some w) ∧
            ∀ w, s.ps.arb.loaderReq = some w → t.ps.arb.loaderReq = some w)) ∧
        ((∀ f, ¬ HeldFill t j k f) → t.pe = { s.pe with job := some { j with comp := some k } } ∧
          (s.ps.arb.fillReq = none → s.ps.arb.shadowCredit = false → s.ps.arb.loaderCredit = false →
            (∀ w, s.ps.arb.shadowReq = some w → t.ps.arb.busy = some (.shadow w true)) ∧
            (∀ w, s.ps.arb.loaderReq = some w → t.ps.arb.busy ≠ none)))) ∧
    (badChannels v r.channels = 0 → cacheHolds t r.cell = some v.bytes ∧ t.su = s.su ∧ t.tmap = s.tmap ∧
      t.ps.records = s.ps.records ∧ ∀ n, n ≠ r.cell % 256 → t.nc.lines[n]? = s.nc.lines[n]?) ∧
    (badChannels v r.channels ≠ 0 → haltOnParity s = false ∨ s.wd.state ≠ .halted → t.nc.lines = s.nc.lines ∧
      t.su.faults = (offerFault (.parity r.id r.node r.cell .fill (badChannels v r.channels)) s).su.faults) ∧
    (badChannels v r.channels ≠ 0 → haltOnParity s = false →
      t.ps.records[r.id - 1]? = some { p with damage := min 255 (p.damage + 1) } ∧
      t.tmap.segs = s.tmap.segs.map (fun g =>
        if g.start = j.start ∧ j.card.profileId = r.id then { g with flags := { g.flags with parity := true } } else g)) ∧
    (badChannels v r.channels ≠ 0 → haltOnParity s = true → s.wd.state ≠ .halted →
      t.wd = ⟨.halted, 0, 0, 0, s.wd.measured, false⟩ ∧ t.su.haltCause = s.su.haltCause.or (some .parity) ∧ t.pe.job = none) := by
  obtain ⟨x, hx⟩ : ∃ x, filled r v (fillCorner r v u) = x := ⟨_, rfl⟩
  obtain ⟨xpe, xfills, xwd, xset, xarb⟩ := fill_served hu hj hc hp hh hx rfl
  obtain ⟨usu, utmap, urecords, ulines, uweb, -⟩ := fillCorner_rest (v := v) hu
  have hjob := congrArg PrintEngine.job xpe
  rw [← hx, filled_eq r v (fillCorner r v u)] at hjob
  rw [serveFill_eq, if_pos rfl, hx] at ht
  have hhalt : haltOnParity x = haltOnParity s := haltOnParity_congr xset
  have hquiet : badChannels v r.channels = 0 ∨ haltOnParity s = false → pumpPort (heldLookup x) = t := fun h => by
    rwa [parityHalt_off (by rwa [hhalt])] at ht
  have hframe : pumpPort (heldLookup x) = t → t.nc = x.nc ∧ t.wd = x.wd ∧ t.su = x.su ∧ t.tmap = x.tmap ∧
      t.ps.records = x.ps.records := fun h => by
    rw [← h]
    exact ⟨by simp, by simp, by simp, by simp, by rw [pumpPort_eq]; exact heldLookup_records x⟩
  have hfault : x.su.faults = (offerFault (.parity r.id r.node r.cell .fill (badChannels v r.channels)) (fillCorner r v u)).su.faults →
      x.su.faults = (offerFault (.parity r.id r.node r.cell .fill (badChannels v r.channels)) s).su.faults := fun h =>
    h.trans (offerFault_faults_congr _ (by rw [usu]) (by rw [usu]) (by rw [uweb]))
  refine ⟨fun hq => ?_, fun hm => ?_, fun hm hcase => ?_, fun hm hoff => ?_, fun hm hon hst => ?_⟩
  · obtain ⟨tnc, twd, -⟩ := hframe (hquiet hq)
    exact ⟨by rw [tnc, xfills], twd.trans xwd, fun k hk => heldLookup_pumped (hk ▸ xpe) (hk ▸ takeCorner_filling ..) xarb (hquiet hq)⟩
  · obtain ⟨tnc, -, tsu, ttmap, trecords⟩ := hframe (hquiet (.inl hm))
    obtain ⟨hsu, htmap, hrecords, hlines, hholds⟩ := filled_good_parts hm hx
    exact ⟨(cacheHolds_congr tnc _).trans (hholds (by rw [ulines, hlen])), by rw [tsu, hsu, usu], by rw [ttmap, htmap, utmap],
      by rw [trecords, hrecords, urecords], fun n hn => by rw [tnc, hlines n hn, ulines]⟩
  · obtain ⟨hnc, -, hfaults, -⟩ := filled_bad_parts hm hx
    by_cases hoff : haltOnParity s = false
    · obtain ⟨tnc, -, tsu, -⟩ := hframe (hquiet (.inr hoff))
      exact ⟨by rw [tnc, hnc, ulines], by rw [tsu, hfault hfaults]⟩
    · have hst := hcase.resolve_left hoff
      rw [parityHalt_halts hm (hhalt.trans (by simpa using hoff)) (by rwa [xwd]), heldLookup_idle (takeHalt_job .parity x).1] at ht
      rw [← ht, pumpPort_eq]
      exact ⟨by rw [(takeHalt_frame x .parity).2.2.2.2.2.2.2.2, hnc, ulines], (takeHalt_faults .parity x).trans (hfault hfaults)⟩
  · obtain ⟨-, -, -, ttmap, trecords⟩ := hframe (hquiet (.inr hoff))
    obtain ⟨-, -, -, hrecord, hsegs⟩ := filled_bad_parts hm hx
    refine ⟨?_, by rw [ttmap, hsegs _ hjob, utmap]⟩
    rw [trecords, hrecord p (by rw [urecords, hp]), if_neg (by rw [hh]; exact nofun)]
  · obtain ⟨-, hcause, -⟩ := filled_bad_parts hm hx
    rw [parityHalt_halts hm (hhalt.trans hon) (by rwa [xwd]), heldLookup_idle (takeHalt_job .parity x).1] at ht
    rw [← ht, pumpPort_eq]
    exact ⟨(takeHalt_wd .parity x).trans (by rw [xwd]), (takeHalt_haltCause .parity x).trans (by rw [hcause, usu]), (takeHalt_job .parity x).1⟩

theorem takeCorner_corner {n k gain : Nat} {v : CellValue} {c : Computation} (hlt : c.corner < 7) : takeCorner n k gain v c = { c with
    corner := c.corner + 1
    filling := false
    sums := (List.range k).map fun i => nth c.sums i 0 + (channel v i).toNat * cornerWeight n c.corner (pixelInput c) } := if_pos hlt

theorem takeCorner_column {n k gain : Nat} {v : CellValue} {c : Computation} (hlast : c.corner = 7) : takeCorner n k gain v c = { c with
    column := c.column + 1
    corner := 0
    filling := false
    sums := List.replicate k 0
    cols := ((List.range k).map fun i => BitVec.ofNat 8 (min 255 (((nth c.sums i 0 +
      (channel v i).toNat * cornerWeight n 7 (pixelInput c) + 2048) / 4096 * gain + 2048) / 4096))) :: c.cols } := by
  unfold takeCorner
  dsimp only
  rw [if_neg (by omega), hlast, List.map_map]
  rfl

/-- LINE_COMPUTATION_BEGIN starts the line and reads the profile's version into the strip (R72). -/
theorem exec_beginLine {px : Nat × List Byte} (hon : s.power.mainOn = true) (hready : lineReady s = some (j, px.2))
    (hj : s.pe.job = some j) (hh : (profileOf s j.card.profileId).header = some h) : exec .lineComputationBegin s = .next { s with
      tmap := ⟨s.tmap.segs.map (fun g => if g.start = j.start then { g with
        firstVersion := some (g.firstVersion.getD (profileOf s j.card.profileId).version)
        lastVersion := some (profileOf s j.card.profileId).version
        flags := { g.flags with
          patched := g.flags.patched ||
            g.firstVersion.getD (profileOf s j.card.profileId).version != (profileOf s j.card.profileId).version } } else g),
        s.tmap.joints⟩
      pe := { s.pe with job := some { j with comp := some ⟨j.cursor, (profileOf s j.card.profileId).version, px.2, 0, 0, false,
        List.replicate h.channels 0, []⟩ } } } := by
  refine (whenOn_on hon : execLineComputationBegin s = _).trans (congrArg _ ?_)
  rw [hready]
  dsimp only
  rw [hh]
  unfold setJob updateSeg recordVersion
  rw [hj]
  rfl

theorem exec_beginLine_off (hon : s.power.mainOn = true) (hready : lineReady s = none) : exec .lineComputationBegin s = .next s := by
  refine (whenOn_on hon : execLineComputationBegin s = _).trans (congrArg _ ?_)
  rw [hready]

end

/-- Settles O52: the laws of a line's beginning, of its lookups and of its fills, put together. -/
theorem lineComputation : Obligations.LineComputation := by
  refine ⟨fun s hon => ⟨fun hno => exec_beginLine_off hon (lineReady_off hno), fun j l h hst hj hcomp hslots hcur hreached hl hh =>
      exec_beginLine hon (lineReady_some hst hj hcomp hslots hcur hreached hl) hj hh⟩,
    fun s hon => ⟨fun hno => exec_lookup_off hon (nextLookup_none hno), fun j c h cell hj hc hfill hcol hh hcell => ?_⟩,
    fun s j c g e x hset he hx => columnGain_eq hset he hx,
    fun n k gain v c => ⟨takeCorner_corner, takeCorner_column⟩,
    fun s dmg hon => ⟨exec_fill_off hon, fun r live cell hwf hb hcell => ⟨_, exec_fill hon hb, fun a => ?_, ?_, ?_, ?_⟩⟩⟩
  · have hnext := nextLookup_some hj hc hfill hcol hh
    rw [← hcell] at hnext
    obtain ⟨r, hr⟩ : ∃ r : FillRequest, r = ⟨j.card.profileId, cornerNode h.grid c.corner (pixelInput c), cell, h.channels⟩ := ⟨_, rfl⟩
    have hrcell : r.cell = cell := congrArg FillRequest.cell hr
    rw [← hr] at hnext ⊢
    rw [← hrcell]
    refine ⟨fun e he => ?_, fun v he hv => ?_, fun he hv => ⟨_, exec_lookup hon hnext, ?_, fun hport => ?_⟩⟩
    · rw [exec_lookup hon hnext, lookupCell_shadow he]
      exact congrArg _ (serveCorner_eq (s := { s with nc := { s.nc with shadowHits := s.nc.shadowHits + 1 } }) hj hc)
    · rw [exec_lookup hon hnext, lookupCell_cached he hv]
      exact congrArg _ (serveCorner_eq (s := { s with nc := { s.nc with cacheHits := s.nc.cacheHits + 1 } }) hj hc)
    · rw [lookupCell_fills he hv, pumpPort_eq]
      dsimp only
      rw [askFill_eq hj hc]
    · rw [lookupCell_fills he hv]
      exact askFill_granted hport
  · have hmem : ∀ w : State, (if live then heldLookup w else w).ps.mem = w.ps.mem := fun w => by split <;> simp
    rw [pumpPort_mem, hmem, serveFill_mem, hcell]
    exact storeRead_storeWrite _ _ _ hwf
  · rintro hlive hm
    subst hlive
    subst hcell
    exact (fill_abandoned rfl rfl).1 hm
  · rintro hlive hm
    subst hlive
    subst hcell
    exact (fill_abandoned rfl rfl).2 hm
  · intro j c h p hlive hj hc _ hp hh hlen
    subst hlive
    subst hcell
    exact fill_live rfl hj hc hp hh hlen rfl

end Sys2Proof.Machine

end

section

/-! PROOFS. Where a row of bytes stands within rows laid end to end, and the sections of the status page (R175, chapter 12). -/

namespace Sys2Proof.Machine

section
variable {l m x y : List Byte} {k n : Nat}

/-! ## Rows laid end to end -/

theorem Holds.self_append : Holds (x ++ y) 0 x := fun i b hb => by
  have hi : i < x.length := (List.getElem?_eq_some_iff.mp hb).1
  rw [Nat.zero_add, List.getElem?_append_left hi]
  exact hb

theorem Holds.self : Holds x 0 x := fun i b hb => by rwa [Nat.zero_add]

/-- A row laid before shifts what stands behind it. -/
theorem Holds.after (h : Holds m k x) : Holds (l ++ m) (l.length + k) x := fun i b hb => by
  rw [List.getElem?_append_right (by omega), show l.length + k + i - l.length = k + i by omega]
  exact h i b hb

/-- What stands in the first of two rows stands in both. -/
theorem Holds.before (h : Holds l k x) : Holds (l ++ m) k x := fun i b hb => by
  have hl := h i b hb
  rwa [List.getElem?_append_left (List.getElem?_eq_some_iff.mp hl).1]

/-- The row at one place of rows laid end to end. -/
theorem Holds.flatten {L : List (List Byte)} (h : L[n]? = some x) : Holds L.flatten ((L.take n).map List.length).sum x := by
  induction L generalizing n with
  | nil => cases h
  | cons l L ih =>
    cases n with
    | zero =>
      cases h
      exact Holds.self_append
    | succ n => exact (ih h).after

/-- The row of one member where every member has a row of the same length. -/
theorem Holds.flatMap {α : Type} {L : List α} {f : α → List Byte} {a : α} {w : Nat} (hw : ∀ a ∈ L, (f a).length = w) (h : L[n]? = some a) :
    Holds (L.flatMap f) (w * n) (f a) := by
  induction L generalizing n with
  | nil => cases h
  | cons b L ih =>
    rw [List.flatMap_cons]
    cases n with
    | zero =>
      cases h
      exact Holds.self_append
    | succ n =>
      have hb : (f b).length = w := hw b List.mem_cons_self
      have hrest := (ih (fun a ha => hw a (List.mem_cons_of_mem _ ha)) h).after (l := f b)
      rwa [hb, Nat.add_comm, ← Nat.mul_succ] at hrest

/-- A row within a row. -/
theorem Holds.within (h : Holds l k x) (hx : Holds x n y) : Holds l (k + n) y := fun i b hb => by
  rw [Nat.add_assoc]
  exact h _ b (hx i b hb)

@[simp] theorem pageSection_length (n : Nat) (l : List Byte) : (pageSection n l).length = n := by
  simp [pageSection]
  omega

/-- A section holds what its fields hold within its length (R178). -/
theorem Holds.section_of (h : Holds l k x) (hfit : k + x.length ≤ n) : Holds (pageSection n l) k x := fun i b hb => by
  have hi : i < x.length := (List.getElem?_eq_some_iff.mp hb).1
  have hl := h i b hb
  have hlen : k + i < l.length := (List.getElem?_eq_some_iff.mp hl).1
  unfold pageSection
  rw [List.getElem?_take_of_lt (by omega), List.getElem?_append_left hlen]
  exact hl

theorem Holds.places {α : Type} {L : List α} {f : Option α → List Byte} {w : Nat} (hw : ∀ a, (f a).length = w) (hn : n < k) :
    Holds (Machine.places k L f) (w * n) (f L[n]?) := by
  have hplace : (List.range k)[n]? = some n := by rw [List.getElem?_range hn]
  exact Holds.flatMap (f := fun i => f L[i]?) (fun i _ => hw _) hplace

@[simp] theorem places_length {α : Type} {L : List α} {f : Option α → List Byte} {w : Nat} (hw : ∀ a, (f a).length = w) :
    (places k L f).length = k * w := by
  unfold places
  induction k with
  | zero => simp
  | succ k ih => rw [List.range_succ, List.flatMap_append, List.length_append, ih, Nat.succ_mul]; simp [hw]

end

/-! ## Lengths of the page's fields (R178) -/

@[simp] theorem mark_length (b : Bool) : (mark b).length = 1 := rfl

@[simp] theorem levelByte_length (b : Option Bool) : (levelByte b).length = 1 := by cases b <;> rfl

@[simp] theorem byteOpt_length (b : Option Byte) : (byteOpt b).length = 1 := by cases b <;> rfl

@[simp] theorem tagOpt_length (t : Option (BitVec 32)) : (tagOpt t).length = 4 := leOpt_length _ _

@[simp] theorem intOpt_length (v : Option Int) : (intOpt v).length = 2 := leInt_length _ _

@[simp] theorem faultSlot_length (s : State) : (faultSlot s).length = 32 := by
  unfold faultSlot
  split
  · rfl
  · simp [faultBytes]

@[simp] theorem sourceFields_length (a : AxisSource) : (sourceFields a).length = 5 := by
  cases a
  · rfl
  · simp [sourceFields]

@[simp] theorem axisFields_length (a : AxisRecord) : (axisFields a).length = 19 := by simp [axisFields, kindByte]

@[simp] theorem fabricFields_length (r : FabricRecord) : (fabricFields r).length = 13 := by simp [fabricFields]

@[simp] theorem spliceFields_length (s : State) (r : SpliceRecord) (ack rollEnd : LineInput) : (spliceFields s r ack rollEnd).length = 15 := by
  simp [spliceFields]

@[simp] theorem counterFields_length (c : Counter) (valid : Bool) (length : Option Nat) : (counterFields c valid length).length = 9 := by
  simp [counterFields]

/-! ## The sections of the page -/

/-- The page's body cut into its sections. -/
def pageParts (s : State) : List (List Byte) := [le 4 (conditionWord s), le 4 s.su.events.toNat, le 4 s.regs.irqEnable.toNat, faultSlot s,
  le 1 s.su.faults.length, [haltByte s], pageSection 14 (s.su.inputs.flatMap inputByte), pageSection 64 (engineSection s),
  pageSection 128 (mapSection s), pageSection 128 (printSection s), pageSection 512 (storeSection s), pageSection 64 (shadowSection s),
  pageSection 320 (heatSection s), pageSection 64 (driveSection s), pageSection 256 (tensionSection s), pageSection 128 (rollSection s),
  List.replicate 2364 0]

theorem pageParts_flatten (s : State) : (pageParts s).flatten = pageBody s := by
  unfold pageParts pageBody
  simp only [List.flatten_cons, List.flatten_nil, List.append_assoc, List.append_nil]

theorem pageParts_lengths (s : State) : (pageParts s).map List.length =
    [4, 4, 4, 32, 1, 1, 14, 64, 128, 128, 512, 64, 320, 64, 256, 128, 2364] := by
  simp only [pageParts, List.map_cons, List.map_nil, le_length, faultSlot_length, pageSection_length, List.length_replicate, List.length_cons,
    List.length_nil, Nat.zero_add]

theorem pageBody_length (s : State) : (pageBody s).length = 4088 := by
  rw [← pageParts_flatten, List.length_flatten, pageParts_lengths]
  rfl

/-- Where each section of the page stands (chapter 12). -/
theorem pageBody_holds {s : State} {n : Nat} {x : List Byte} (h : (pageParts s)[n]? = some x) : Holds (pageBody s)
    (([4, 4, 4, 32, 1, 1, 14, 64, 128, 128, 512, 64, 320, 64, 256, 128, 2364].take n).sum) x := by
  have := Holds.flatten h
  rwa [pageParts_flatten, List.map_take, pageParts_lengths] at this

end Sys2Proof.Machine

end

section

/-! PROOFS. STATUS_PAGE_WRITE as one statement (R175, chapter 12). -/

namespace Sys2Proof.Machine

section
variable {s t : State} {l x y : List Byte} {k n i off addr : Nat}

theorem cellsAt_bytes (a : Nat) (l : List Byte) : (cellsAt a l).map (·.2) = l := by
  induction l generalizing a with
  | nil => rfl
  | cons b bs ih => simp [cellsAt, ih]

/-- The part once a status page has been written. -/
def pageWritten (s : State) : State :=
  postWrite (cellsAt (s.regs.bookBase.toNat + 4096 + 4092) (le 4 (s.su.refresh + 1).toNat))
    (postWrite (cellsAt (s.regs.bookBase.toNat + 4096 + 4) (pageBody s))
      (postWrite (cellsAt (s.regs.bookBase.toNat + 4096) (le 4 (s.su.refresh + 1).toNat))
        { s with su := { s.su with refresh := s.su.refresh + 1, pageDue := false } }))

/-- The page's body does not show the refresh count, nor that a page is due. -/
theorem pageBody_refreshed (s : State) (n : BitVec 32) :
    pageBody { s with su := { s.su with refresh := n, pageDue := false } } = pageBody s := rfl

theorem exec_statusPage (hon : s.power.mainOn = true) (hb : s.regs.bookBase ≠ 0) : exec .statusPageWrite s = .next (pageWritten s) := by
  refine (whenOn_on hon : execStatusPageWrite s = _).trans (congrArg _ ?_)
  rw [if_neg hb]
  unfold pageWritten
  rw [← pageBody_refreshed s (s.su.refresh + 1)]

theorem exec_statusPage_off (hon : s.power.mainOn = true) (hb : s.regs.bookBase = 0) : exec .statusPageWrite s = .next s := by
  refine (whenOn_on hon : execStatusPageWrite s = _).trans (congrArg _ ?_)
  rw [if_pos hb]

/-- A later write elsewhere leaves the row. -/
theorem HostHolds.kept {a : Nat} (h : HostHolds s addr l) (hapart : addr + l.length ≤ a ∨ a + x.length ≤ addr) :
    HostHolds (postWrite (cellsAt a x) s) addr l :=
  h.congr fun b hlo hhi => hostByte_postWrite_apart (by omega)

theorem pageWritten_counts (s : State) :
    HostHolds (pageWritten s) (s.regs.bookBase.toNat + 4096) (le 4 (s.su.refresh + 1).toNat) ∧
      HostHolds (pageWritten s) (s.regs.bookBase.toNat + 4096 + 4092) (le 4 (s.su.refresh + 1).toNat) :=
  ⟨((postWrite_cellsAt_holds _ _ _).kept (.inl (by rw [le_length]))).kept (.inl (by rw [le_length]; omega)), postWrite_cellsAt_holds _ _ _⟩

theorem pageWritten_body (s : State) : HostHolds (pageWritten s) (s.regs.bookBase.toNat + 4096 + 4) (pageBody s) :=
  (postWrite_cellsAt_holds _ _ _).kept (.inl (by rw [pageBody_length]))

theorem pageWritten_writes (s : State) :
    OnlyWrites s (pageWritten s) (fun a => s.regs.bookBase.toNat + 4096 ≤ a ∧ a < s.regs.bookBase.toNat + 4096 + 4096) := by
  intro a ha
  unfold pageWritten
  rw [hostByte_postWrite_apart (by rw [le_length]; omega), hostByte_postWrite_apart (by rw [pageBody_length]; omega),
    hostByte_postWrite_apart (by rw [le_length]; omega)]
  rfl

/-- A whole part of the page stands at its place. -/
theorem page_part (hi : (pageParts s)[i]? = some x)
    (hoff : ([4, 4, 4, 32, 1, 1, 14, 64, 128, 128, 512, 64, 320, 64, 256, 128, 2364].take i).sum = off)
    (ha : addr = s.regs.bookBase.toNat + 4096 + 4 + off) : HostHolds (pageWritten s) addr x := by
  have := (pageWritten_body s).of_holds (pageBody_holds hi)
  rwa [hoff, ← ha] at this

/-- Fields of a section stand at their place in the page. -/
theorem page_fields (hi : (pageParts s)[i]? = some (pageSection n l)) (hx : Holds l k x)
    (hoff : ([4, 4, 4, 32, 1, 1, 14, 64, 128, 128, 512, 64, 320, 64, 256, 128, 2364].take i).sum = off) (hfit : k + x.length ≤ n)
    (ha : addr = s.regs.bookBase.toNat + 4096 + 4 + off + k) : HostHolds (pageWritten s) addr x := by
  rw [ha]
  exact (page_part hi hoff rfl).of_holds (hx.section_of hfit)

/-! ## The sections -/

theorem page_profile {r : ProfileRecord} (hlen : s.ps.records.length = 16) (hr : s.ps.records[n]? = some r) :
    HostHolds (pageWritten s) (s.regs.bookBase.toNat + 4096 + 384 + 24 * n) ([r.state.code] ++ leOpt 2 (r.header.map (·.grid)) ++
      leOpt 2 (r.header.map (·.channels)) ++ leOpt 4 (r.header.map (·.base)) ++ leOpt 2 (r.header.map (·.nodes)) ++ le 2 r.refs ++
      le 2 r.version.toNat ++ le 2 r.damage) := by
  have hn : n < 16 := hlen ▸ (List.getElem?_eq_some_iff.mp hr).1
  have hrecord : Holds (s.ps.records.flatMap profileFields) (24 * n) (profileFields r) := Holds.flatMap (fun _ _ => pageSection_length _ _) hr
  have hfields : Holds (profileFields r) 0 ([r.state.code] ++ leOpt 2 (r.header.map (·.grid)) ++ leOpt 2 (r.header.map (·.channels)) ++
      leOpt 4 (r.header.map (·.base)) ++ leOpt 2 (r.header.map (·.nodes)) ++ le 2 r.refs ++ le 2 r.version.toNat ++ le 2 r.damage) :=
    Holds.self.section_of (by simp)
  refine page_fields (i := 10) (off := 380) (k := 24 * n) (l := storeSection s) rfl ?_ rfl (by simp; omega) (by omega)
  exact (((((hrecord.within hfields).before).before).before).before).before.before

theorem page_zone {z : Zone} (hn : n < 8) (hz : s.hc.zones[n]? = some z) (huse : n < zonesInUse s) :
    HostHolds (pageWritten s) (s.regs.bookBase.toNat + 4096 + 960 + 32 * n) ([z.state.code] ++ le 2 z.sp ++ le 2 z.band ++ leInt 2 z.tMeas ++
      le 2 z.duty ++ le 2 z.onTime ++ le 2 z.integ ++ mark z.latch) := by
  have hplace : (List.range 8)[n]? = some n := by rw [List.getElem?_range hn]
  have hrecord := Holds.flatMap (f := fun n => zoneRecord (decide (n < zonesInUse s)) (nth s.hc.zones n resetZone))
    (fun _ _ => pageSection_length _ _) hplace
  have hfields : Holds (zoneRecord (decide (n < zonesInUse s)) (nth s.hc.zones n resetZone)) 0 ([z.state.code] ++ le 2 z.sp ++ le 2 z.band ++
      leInt 2 z.tMeas ++ le 2 z.duty ++ le 2 z.onTime ++ le 2 z.integ ++ mark z.latch) := by
    rw [show nth s.hc.zones n resetZone = z by simp [nth, hz], decide_eq_true huse]
    exact (Holds.self_append.before).section_of (by simp)
  refine page_fields (i := 12) (off := 956) (k := 32 * n) (l := heatSection s) rfl ?_ rfl (by simp; omega) (by omega)
  exact ((hrecord.within hfields).before).before.before

/-- A zone that is not in use is OFF, and its other figures are absent (R112). -/
theorem page_zone_unused (hn : n < 8) (huse : zonesInUse s ≤ n) :
    HostHolds (pageWritten s) (s.regs.bookBase.toNat + 4096 + 960 + 32 * n) ([ZoneState.off.code] ++ List.replicate 4 255 ++ [0, 128] ++
      List.replicate 10 255 ++ List.replicate 15 0) := by
  have hplace : (List.range 8)[n]? = some n := by rw [List.getElem?_range hn]
  have hrecord := Holds.flatMap (f := fun n => zoneRecord (decide (n < zonesInUse s)) (nth s.hc.zones n resetZone))
    (fun _ _ => pageSection_length _ _) hplace
  have hfields : zoneRecord (decide (n < zonesInUse s)) (nth s.hc.zones n resetZone) = [ZoneState.off.code] ++ List.replicate 4 255 ++ [0, 128] ++
      List.replicate 10 255 ++ List.replicate 15 0 := by
    have habsent : intOpt none = [0, 128] := by decide
    rw [decide_eq_false (by omega)]
    unfold zoneRecord
    simp only [Bool.false_eq_true, if_false, habsent]
    decide
  refine page_fields (i := 12) (off := 956) (k := 32 * n) (l := heatSection s) rfl ?_ rfl (by simp; omega) (by omega)
  rw [← hfields]
  exact (hrecord.before).before.before

theorem page_drive : HostHolds (pageWritten s) (s.regs.bookBase.toNat + 4096 + 1280) ([s.wd.state.code] ++ le 2 s.wd.requested ++
    le 2 s.wd.target ++ le 2 s.wd.running ++ le 2 s.wd.measured.toNat ++ leOpt 2 (s.setup.map (·.rampRate)) ++
    leOpt 2 (s.setup.map (·.vMax)) ++ [(s.su.haltCause.map (·.code)).getD 0] ++ le 2 (lineWindow s).1) :=
  page_fields (i := 13) (off := 1276) (k := 0) (l := driveSection s) rfl Holds.self_append rfl (by simp) rfl

theorem page_windowTop (hset : s.setup ≠ none) : HostHolds (pageWritten s) (s.regs.bookBase.toNat + 4096 + 1296) (le 2 (lineWindow s).2) := by
  have htop : leOpt 2 ((windowTop s).map fun _ => (lineWindow s).2) = le 2 (lineWindow s).2 := by
    obtain ⟨g, hg⟩ := Option.ne_none_iff_exists'.mp hset
    unfold windowTop
    rw [hg]
    rfl
  refine page_fields (i := 13) (off := 1276) (k := 16) (l := driveSection s) rfl ?_ rfl (by simp) rfl
  have h := Holds.after (l := [s.wd.state.code] ++ le 2 s.wd.requested ++ le 2 s.wd.target ++ le 2 s.wd.running ++
    le 2 s.wd.measured.toNat ++ leOpt 2 (s.setup.map (·.rampRate)) ++ leOpt 2 (s.setup.map (·.vMax)) ++ [haltByte s] ++ le 2 (lineWindow s).1)
    (Holds.self (x := leOpt 2 ((windowTop s).map fun _ => (lineWindow s).2)))
  rw [← htop]
  simpa [driveSection] using h

theorem page_input {r : InputRecord} (hlen : s.su.inputs.length = 8) (hr : s.su.inputs[n]? = some r) :
    HostHolds (pageWritten s) (s.regs.bookBase.toNat + 4096 + 50 + n)
      (le 1 (markSet [r.level == some true, r.activeHigh, r.active, r.level.isNone])) := by
  have hn : n < 8 := hlen ▸ (List.getElem?_eq_some_iff.mp hr).1
  have hrecord : Holds (s.su.inputs.flatMap inputByte) (1 * n) (inputByte r) := Holds.flatMap (fun _ _ => le_length _ _) hr
  exact page_fields (i := 6) (off := 46) rfl hrecord rfl (by rw [le_length]; omega) (by omega)

theorem page_entry (hn : n < 2) :
    (∀ e, s.spb.entries[n]? = some e → HostHolds (pageWritten s) (s.regs.bookBase.toNat + 4096 + 896 + 6 * n)
        (le 1 e.id ++ le 4 e.node ++ [Config.unstatedCode .shadowState (if e.visible then 1 else 0)])) ∧
      (s.spb.entries.length ≤ n → HostHolds (pageWritten s) (s.regs.bookBase.toNat + 4096 + 896 + 6 * n) (List.replicate 6 255)) := by
  have hplace := Holds.places (L := s.spb.entries) (w := 6) (f := fun e => leOpt 1 (e.map (·.id)) ++ leOpt 4 (e.map (·.node)) ++
    byteOpt (e.map shadowCode)) (fun _ => by simp) hn
  refine ⟨fun e he => ?_, fun he => ?_⟩
  · rw [he] at hplace
    exact page_fields (i := 11) (off := 892) (k := 6 * n) (l := shadowSection s) rfl
      (((((hplace.before).before).before).before).before).before rfl (by simp; omega) (by omega)
  · rw [List.getElem?_eq_none he] at hplace
    exact page_fields (i := 11) (off := 892) (k := 6 * n) (l := shadowSection s) rfl
      (((((hplace.before).before).before).before).before).before rfl (by rw [List.length_replicate]; omega) (by omega)

theorem page_patch : HostHolds (pageWritten s) (s.regs.bookBase.toNat + 4096 + 908) ([patchCode (s.spb.patch.map (·.phase))] ++
    leOpt 4 (s.spb.patch.map (·.card.tag.toNat)) ++ leOpt 2 (s.spb.patch.map (·.cursor)) ++ le 4 s.nc.shadowHits.toNat ++
    le 4 s.nc.cacheHits.toNat ++ le 4 s.nc.fills.toNat) := by
  have htag : tagOpt (s.spb.patch.map (·.card.tag)) = leOpt 4 (s.spb.patch.map (·.card.tag.toNat)) := by
    unfold tagOpt
    rw [Option.map_map]
    rfl
  have hplaces := places_length (k := 2) (L := s.spb.entries) (w := 6) (f := fun e => leOpt 1 (e.map (·.id)) ++ leOpt 4 (e.map (·.node)) ++
    byteOpt (e.map shadowCode)) (fun _ => by simp)
  refine page_fields (i := 11) (off := 892) (k := 12) (l := shadowSection s) rfl ?_ rfl (by simp) rfl
  unfold shadowSection
  simp only [List.append_assoc, htag]
  have h := Holds.self.after (l := places 2 s.spb.entries (fun e => leOpt 1 (e.map (·.id)) ++ leOpt 4 (e.map (·.node)) ++
    byteOpt (e.map shadowCode))) (x := [patchCode (s.spb.patch.map (·.phase))] ++ leOpt 4 (s.spb.patch.map (·.card.tag.toNat)) ++
    leOpt 2 (s.spb.patch.map (·.cursor)) ++ le 4 s.nc.shadowHits.toNat ++ le 4 s.nc.cacheHits.toNat ++ le 4 s.nc.fills.toNat)
  rw [hplaces] at h
  simpa only [List.append_assoc] using h

theorem page_axis {a : AxisRecord} (hlen : s.tc.axes.length = 4) (ha : s.tc.axes[n]? = some a) :
    HostHolds (pageWritten s) (s.regs.bookBase.toNat + 4096 + 1344 + 19 * n) ([a.state.code] ++ le 2 a.tSp ++ le 1 a.kp ++ le 1 a.ki ++
      (match a.source with
        | .setup => Config.unstatedCode .axisSource 0 :: List.replicate 4 255
        | .fabric id tag => le 1 id ++ le 4 tag.toNat) ++
      le 2 a.tMeas ++ le 2 a.invalid ++ [((a.lastInvalid).map (·.code)).getD 255] ++ le 2 a.integ ++ le 2 a.torque) := by
  have hn : n < 4 := hlen ▸ (List.getElem?_eq_some_iff.mp ha).1
  have hplace : Holds (s.tc.axes.flatMap axisFields) (19 * n) (axisFields a) := Holds.flatMap (fun _ _ => axisFields_length _) ha
  have hkind : kindByte a.lastInvalid = [((a.lastInvalid).map (·.code)).getD 255] := by
    unfold kindByte
    cases a.lastInvalid <;> rfl
  have hfields := page_fields (i := 14) (off := 1340) (k := 19 * n) (l := tensionSection s) rfl hplace.before rfl
    (by rw [axisFields_length]; omega) (show s.regs.bookBase.toNat + 4096 + 1344 + 19 * n = _ by omega)
  unfold axisFields at hfields
  rw [hkind] at hfields
  exact hfields

theorem page_fabric {f : FabricRecord} (hlen : s.tc.axes.length = 4) (hn : n < 8) (hf : s.tc.fabrics[n]? = some f) :
    HostHolds (pageWritten s) (s.regs.bookBase.toNat + 4096 + 1420 + 13 * n) ([if f.figures.isSome then 1 else 0] ++
      leOpt 2 (f.figures.map (·.cs)) ++ leOpt 2 (f.figures.map (·.tMin)) ++ leOpt 2 (f.figures.map (·.tMax)) ++
      leOpt 2 (f.figures.map (·.devLimit)) ++ leOpt 1 (f.figures.map (·.kp)) ++ leOpt 1 (f.figures.map (·.ki)) ++ le 2 f.refs) := by
  have hplace : Holds (s.tc.fabrics.flatMap fabricFields) (13 * n) (fabricFields f) := Holds.flatMap (fun _ _ => fabricFields_length _) hf
  have haxes : (s.tc.axes.flatMap axisFields).length = 76 := by simp [List.length_flatMap, hlen]
  have hsection : Holds (tensionSection s) (76 + 13 * n) (fabricFields f) := haxes ▸ hplace.after
  have hfields := page_fields (i := 14) (off := 1340) (k := 76 + 13 * n) (l := tensionSection s) rfl hsection rfl
    (by rw [fabricFields_length]; omega) (show s.regs.bookBase.toNat + 4096 + 1420 + 13 * n = _ by omega)
  exact hfields

/-- The parts of the last section, in their order. -/
def rollParts (s : State) : List (List Byte) := [spliceFields s s.rc.pu .paperSpliceAck .paperRollEnd,
  spliceFields s s.rc.fu .fabricSpliceAck .fabricRollEnd, places 2 s.rc.joints (fun j => leOpt 6 (j.map (·.due))), le 2 s.rc.joints.length,
  counterFields s.ka.pu s.ka.puValid (s.setup.map (·.puRoll)), counterFields s.ka.fu s.ka.fuValid (s.setup.map (·.fuRoll)),
  le 4 s.ka.lifetime.metres ++ mark s.ka.restarted]

theorem rollParts_flatten (s : State) : (rollParts s).flatten = rollSection s := by
  unfold rollParts rollSection
  simp only [List.flatten_cons, List.flatten_nil, List.append_assoc, List.append_nil]

theorem rollParts_lengths (s : State) : (rollParts s).map List.length = [15, 15, 12, 2, 9, 9, 5] := by
  have hplaces := places_length (k := 2) (L := s.rc.joints) (w := 6) (f := fun j => leOpt 6 (j.map (·.due))) (fun _ => by simp)
  simp [rollParts, hplaces]

theorem page_roll (hi : (rollParts s)[i]? = some x) (hy : Holds x k y) (hoff : ([15, 15, 12, 2, 9, 9, 5].take i).sum = off)
    (hfit : off + k + y.length ≤ 128) (ha : addr = s.regs.bookBase.toNat + 4096 + 1600 + off + k) : HostHolds (pageWritten s) addr y := by
  have h := Holds.flatten hi
  rw [rollParts_flatten, List.map_take, rollParts_lengths, hoff] at h
  exact page_fields (i := 15) (off := 1596) (k := off + k) (l := rollSection s) rfl (h.within hy) rfl hfit (by omega)

theorem page_splice (a : Unwind) (r : SpliceRecord) : r = spliceOf s a →
    HostHolds (pageWritten s) (s.regs.bookBase.toNat + 4096 + match a with | .pu => 1600 | .fu => 1615)
      ([r.state.code, ((r.cause).map (·.code)).getD 255] ++ leOpt 4 (r.card.map (·.tag.toNat)) ++ [pendingCode r.pending] ++
        mark r.fired ++ leOpt 4 (if r.state = .idle then none else some (r.limit - (s.clock - r.phaseStart))) ++ mark r.request ++
        (match (inputOf s (match a with | .pu => .paperSpliceAck | .fu => .fabricSpliceAck)).level with
          | none => [255]
          | some b => mark b) ++
        (match (inputOf s (match a with | .pu => .paperRollEnd | .fu => .fabricRollEnd)).level with
          | none => [255]
          | some b => mark b)) := by
  intro hr
  have hfields : ∀ ack rollEnd, spliceFields s r ack rollEnd = [r.state.code, ((r.cause).map (·.code)).getD 255] ++
      leOpt 4 (r.card.map (·.tag.toNat)) ++ [pendingCode r.pending] ++ mark r.fired ++
      leOpt 4 (if r.state = .idle then none else some (r.limit - (s.clock - r.phaseStart))) ++ mark r.request ++
      levelByte (inputOf s ack).level ++ levelByte (inputOf s rollEnd).level := fun ack rollEnd => by
    have htag : tagOpt (r.card.map (·.tag)) = leOpt 4 (r.card.map (·.tag.toNat)) := by
      unfold tagOpt
      rw [Option.map_map]
      rfl
    have hcause : byteOpt (r.cause.map (·.code)) = [((r.cause).map (·.code)).getD 255] := by cases r.cause <;> rfl
    have hleft : timeLeft s r = if r.state = .idle then none else some (r.limit - (s.clock - r.phaseStart)) := by
      unfold timeLeft
      simp only [beq_iff_eq]
    unfold spliceFields
    rw [htag, hcause, hleft]
    rfl
  have hlevel : ∀ b : Option Bool, levelByte b = match b with | none => [255] | some b => mark b := fun b => by cases b <;> rfl
  cases a
  · have h := page_roll (s := s) (i := 0) (k := 0) (off := 0) rfl Holds.self rfl (by simp) rfl
    rw [← show r = s.rc.pu from hr, hfields, hlevel, hlevel] at h
    exact h
  · have h := page_roll (s := s) (i := 1) (k := 0) (off := 15) rfl Holds.self rfl (by simp) rfl
    rw [← show r = s.rc.fu from hr, hfields, hlevel, hlevel] at h
    exact h

theorem page_joint (hn : n < 2) : HostHolds (pageWritten s) (s.regs.bookBase.toNat + 4096 + 1630 + 6 * n)
    (leOpt 6 ((s.rc.joints[n]?).map (·.due))) := by
  have hplace := Holds.places (L := s.rc.joints) (w := 6) (f := fun j => leOpt 6 (j.map (·.due))) (fun _ => by simp) hn
  exact page_roll (i := 2) (k := 6 * n) (off := 30) rfl hplace rfl (by rw [leOpt_length]; omega) (by omega)

theorem page_counter (a : Unwind) : HostHolds (pageWritten s) (s.regs.bookBase.toNat + 4096 + match a with | .pu => 1644 | .fu => 1653)
    (le 4 (rollCounter s a).metres ++ mark (rollValid s a) ++
      leOpt 4 (s.setup.map (match a with | .pu => (·.puRoll) | .fu => (·.fuRoll)))) := by
  cases a
  · exact page_roll (i := 4) (k := 0) (off := 44) rfl Holds.self rfl (by simp) rfl
  · exact page_roll (i := 5) (k := 0) (off := 53) rfl Holds.self rfl (by simp) rfl

theorem page_heads : HostHolds (pageWritten s) (s.regs.bookBase.toNat + 4096 + 64) [s.ce.state.code] ∧
    HostHolds (pageWritten s) (s.regs.bookBase.toNat + 4096 + 128) (le 6 s.web.pos) ∧
    HostHolds (pageWritten s) (s.regs.bookBase.toNat + 4096 + 134) (le 2 s.tmap.segs.length) ∧
    HostHolds (pageWritten s) (s.regs.bookBase.toNat + 4096 + 136) (le 2 s.tmap.joints.length) ∧
    HostHolds (pageWritten s) (s.regs.bookBase.toNat + 4096 + 256) [s.pe.state.code] := by
  have hsegs : Holds (mapSection s) 6 (le 2 s.tmap.segs.length) := by
    have h := Holds.self.after (l := le 6 s.web.pos) (x := le 2 s.tmap.segs.length)
    rw [le_length] at h
    unfold mapSection
    exact h.before.before.before.before.before.before.before.before.before.before.before.before
  have hjoints : Holds (mapSection s) 8 (le 2 s.tmap.joints.length) := by
    have h := Holds.self.after (l := le 6 s.web.pos ++ le 2 s.tmap.segs.length) (x := le 2 s.tmap.joints.length)
    rw [List.length_append, le_length, le_length] at h
    unfold mapSection
    exact h.before.before.before.before.before.before.before.before.before.before.before
  refine ⟨page_fields (i := 7) (off := 60) (k := 0) (l := engineSection s) rfl ?_ rfl (by simp) rfl,
    page_fields (i := 8) (off := 124) (k := 0) (l := mapSection s) rfl ?_ rfl (by simp) rfl,
    page_fields (i := 8) (off := 124) (k := 6) rfl hsegs rfl (by simp) rfl,
    page_fields (i := 8) (off := 124) (k := 8) rfl hjoints rfl (by simp) rfl,
    page_fields (i := 9) (off := 252) (k := 0) (l := printSection s) rfl ?_ rfl (by simp) rfl⟩
  · exact Holds.self_append
  · unfold mapSection
    simp only [List.append_assoc]
    exact Holds.self_append
  · exact Holds.self_append

end

/-- Settles O54: the page's two counts, and the parts of its body each at its place. -/
theorem statusPageWrite : Obligations.StatusPageWrite := by
  intro s hon
  obtain ⟨hfirst, hlast⟩ := pageWritten_counts s
  obtain ⟨hengine, hpos, hsegs, hjoints, hprint⟩ := page_heads (s := s)
  refine ⟨exec_statusPage_off hon, fun hb => ⟨pageWritten s, _, rfl, exec_statusPage hon hb, rfl,
    ⟨_, _, _, rfl, cellsAt_bytes _ _, by rw [cellsAt_bytes, cellsAt_bytes]⟩, hfirst, hlast,
    page_part (i := 0) rfl rfl rfl, page_part (i := 1) rfl rfl rfl, page_part (i := 2) rfl rfl rfl, page_part (i := 3) rfl rfl rfl,
    page_part (i := 4) rfl rfl rfl, page_part (i := 5) rfl rfl rfl, hengine, hpos, hsegs, hjoints, hprint,
    fun hlen n r hr => page_profile hlen hr, fun n hn => ⟨fun z hz huse => page_zone hn hz huse, page_zone_unused hn⟩,
    page_drive, page_windowTop, fun hlen n r hr => page_input hlen hr, fun n hn => page_entry hn, page_patch,
    fun hlen => ⟨fun n a ha => page_axis hlen ha, fun n f hn hf => page_fabric hlen hn hf⟩, page_splice, fun n hn => page_joint hn,
    page_roll (i := 3) (k := 0) (off := 42) rfl Holds.self rfl (by simp) rfl, page_counter,
    page_roll (i := 6) (k := 0) (off := 62) rfl Holds.self rfl (by simp) rfl, pageWritten_writes s⟩⟩

end Sys2Proof.Machine

end

section

/-! PROOFS. Profiles through link reset: the references that end, and the LOADING and RETIRING records that are freed (R37, R40). -/

namespace Sys2Proof.Machine

/-- A step that one member of a list makes, and the others leave alone. -/
theorem foldl_once {α β : Type} {f : α → β → α} {P Q : α → Prop} {x : β} (hP : ∀ a y, y ≠ x → P a → P (f a y)) (hx : ∀ a, P a → Q (f a x))
    (hQ : ∀ a y, y ≠ x → Q a → Q (f a y)) {l : List β} (hnodup : l.Nodup) (hmem : x ∈ l) {a : α} (ha : P a) : Q (l.foldl f a) := by
  induction l generalizing a with
  | nil => cases hmem
  | cons y l ih =>
    obtain ⟨hy, hnodup⟩ := List.nodup_cons.mp hnodup
    by_cases hyx : y = x
    · subst hyx
      have hrest : ∀ l : List β, y ∉ l → ∀ a, Q a → Q (l.foldl f a) := by
        intro l
        induction l with
        | nil => exact fun _ a ha => ha
        | cons z l ih =>
          intro hz a ha
          exact ih (fun h => hz (List.mem_cons_of_mem _ h)) _ (hQ a z (fun h => hz (h ▸ List.mem_cons_self)) ha)
      exact hrest l hy _ (hx a ha)
    · exact ih hnodup ((List.mem_cons.mp hmem).resolve_left (Ne.symm hyx)) (hP a y hyx ha)

/-- A record that link reset frees (R40). -/
def Unready (r : ProfileRecord) : Prop := (r.state = .loading ∨ r.state = .retiring) ∧ r.freeing = false

section
variable {a s t u : State} {id k c : Nat} {r : ProfileRecord} {h : ProfileHeader}

/-! ## The entries that a freeing leaves -/

theorem freeRecord_entry {e : ShadowEntry} (he : e ∈ s.spb.entries) (hid : e.id ≠ k) : e ∈ (freeRecord k s).spb.entries := by
  rw [freeRecord_spb]
  exact List.mem_filter.mpr ⟨he, by simp [sparesEntry, hid]⟩

theorem releaseProfile_entry {e : ShadowEntry} (he : e ∈ s.spb.entries) (hid : e.id ≠ k) : e ∈ (releaseProfile k s).spb.entries := by
  rcases releaseProfile_cases k s with heq | heq
  · rw [heq]
    exact he
  · rw [heq]
    exact freeRecord_entry (s := uncounted k s) he hid

theorem freeRecord_entries_sub {e : ShadowEntry} (he : e ∈ (freeRecord k s).spb.entries) : e ∈ s.spb.entries := by
  rw [freeRecord_spb] at he
  exact (List.mem_filter.mp he).1

theorem releaseProfile_entries_sub {e : ShadowEntry} (he : e ∈ (releaseProfile k s).spb.entries) : e ∈ s.spb.entries := by
  rcases releaseProfile_cases k s with heq | heq
  · rwa [heq] at he
  · rw [heq] at he
    exact freeRecord_entries_sub (s := uncounted k s) he

theorem freeIfUnready_cases (k : Nat) (s : State) : freeIfUnready k s = s ∨ freeIfUnready k s = freeRecord k s := by
  unfold freeIfUnready
  dsimp only
  split
  · exact .inr rfl
  · exact .inl rfl

/-! ## A profile that has been let go -/

/-- Nothing but a granted write is at work for a profile, and a record that held one has been freed or waits for that write (R32). -/
def LetGo (id : Nat) (r : ProfileRecord) (u : State) : Prop := Quit id u ∧ (r.header ≠ none → FreedAtRelease id r u)

theorem LetGo.later (hl : LetGo id r s) (hquit : Quit id t) (hgrants : SameGrants id s t)
    (hrecord : t.ps.records[id - 1]? = s.ps.records[id - 1]?) (hevent : hasEvent s .profileFreed = true → hasEvent t .profileFreed = true) :
    LetGo id r t :=
  ⟨hquit, fun hh => (Released.later ⟨hl.2 hh, hl.1⟩ hquit hgrants hrecord hevent).1⟩

theorem freeRecord_stays {e : Event} (he : hasEvent s e = true) : hasEvent (freeRecord k s) e = true :=
  (freeRecord_raises (l := [.cardFinal, .profileFreed]) (by decide) (by decide) k s).stays he

theorem releaseProfile_stays {e : Event} (he : hasEvent s e = true) : hasEvent (releaseProfile k s) e = true :=
  (releaseProfile_raises (l := [.cardFinal, .profileFreed]) (by decide) (by decide) k s).stays he

theorem LetGo.freeRecord (hl : LetGo id r s) (hk : k - 1 ≠ id - 1) : LetGo id r (freeRecord k s) := by
  obtain ⟨hquit, hgrants⟩ := hl.1.freeRecord k
  exact hl.later hquit hgrants (freeRecord_ne (Ne.symm hk)) freeRecord_stays

theorem LetGo.releaseProfile (hl : LetGo id r s) (hk : k - 1 ≠ id - 1) : LetGo id r (releaseProfile k s) := by
  obtain ⟨hquit, hgrants⟩ := hl.1.releaseProfile k
  exact hl.later hquit hgrants (releaseProfile_ne (Ne.symm hk)) releaseProfile_stays

theorem LetGo.pump (hl : LetGo id r s) : LetGo id r (pumpPort s) := by
  obtain ⟨hquit, hgrants⟩ := hl.1.pump
  exact hl.later hquit hgrants (by rw [pumpPort_records]) (fun he => by unfold hasEvent at he ⊢; simpa using he)

theorem LetGo.congr (hl : LetGo id r s) (hps : t.ps = s.ps) (hspb : t.spb = s.spb)
    (hevent : hasEvent s .profileFreed = true → hasEvent t .profileFreed = true) : LetGo id r t :=
  hl.later (hl.1.congr (by rw [hps]) (by rw [hps]) (by rw [hspb])) (.of_busy (by rw [hps])) (by rw [hps]) hevent

/-- The freeing of a record lets its profile go. -/
theorem freeRecord_letsGo (hload : NoLoadFor id s) (hr : s.ps.records[id - 1]? = some { r with refs := 0 }) : LetGo id r (freeRecord id s) := by
  obtain ⟨hquit, hdrain, hloading⟩ := freeRecord_quits hload
  refine ⟨hquit, fun hh => ⟨fun h1 h2 => ?_, fun hg => ?_, hquit.1⟩⟩
  · obtain ⟨h, hh⟩ := Option.ne_none_iff_exists'.mp hh
    have hheader : (profileOf s id).header = some h := by rw [profileOf_eq hr, ← hh]
    obtain ⟨-, hrecords, hevent⟩ := freeRecord_frees (writeGranted_eq_false.mpr ⟨hdrain ▸ h1, hloading ▸ h2⟩) hheader
    exact ⟨by rw [hrecords, modifyNth_getElem?_eq, hr]; rfl, hevent⟩
  · rw [hdrain, hloading] at hg
    rw [(freeRecord_waits (writeGranted_eq_true.mpr hg)).2, modifyNth_getElem?_eq, hr]
    rfl

/-! ## References that end -/

/-- A record and its entries as they stood, with the references that are left; a RETIRING one has been let go with its last. -/
def Tracked (a : State) (id : Nat) (r : ProfileRecord) (c : Nat) (u : State) : Prop :=
  NoLoadFor id u ∧ (u.ps.records[id - 1]? = some { r with refs := c } ∧ (∀ e ∈ a.spb.entries, e.id = id → e ∈ u.spb.entries) ∨
    c = 0 ∧ Unready r ∧ LetGo id r u)

theorem Tracked.releaseOther (ht : Tracked a id r c s) (hk : 1 ≤ k) (hid : 1 ≤ id) (hne : k ≠ id) : Tracked a id r c (releaseProfile k s) := by
  have hplace : k - 1 ≠ id - 1 := by omega
  obtain ⟨hload, ⟨hr, he⟩ | ⟨hc, hst, hgone⟩⟩ := ht
  · refine ⟨hload.releaseProfile k, .inl ⟨by rw [releaseProfile_ne (Ne.symm hplace), hr], fun e hm hi => ?_⟩⟩
    exact releaseProfile_entry (he e hm hi) (by omega)
  · exact ⟨hload.releaseProfile k, .inr ⟨hc, hst, hgone.releaseProfile hplace⟩⟩

theorem Tracked.release (ht : Tracked a id r c s) (hpos : 0 < c) (hfree : r.freeing = false) : Tracked a id r (c - 1) (releaseProfile id s) := by
  obtain ⟨hload, ⟨hr, he⟩ | ⟨hc, -⟩⟩ := ht
  · refine ⟨hload.releaseProfile id, ?_⟩
    have hprofile := profileOf_eq hr
    have hsame : (uncounted id s).ps.records[id - 1]? = some { r with refs := c - 1 } := setProfile_same hr _
    by_cases hlast : r.state = .retiring ∧ c = 1
    · obtain ⟨hst, hc⟩ := hlast
      subst hc
      rw [releaseProfile_last hr hst le_rfl]
      exact .inr ⟨rfl, ⟨.inr hst, hfree⟩, freeRecord_letsGo (hload.congr rfl rfl) hsame⟩
    · have hkept : NotFreed id s := by
        unfold NotFreed
        rw [hprofile]
        by_cases hst : r.state = .retiring
        · have hc : c ≠ 1 := fun hc => hlast ⟨hst, hc⟩
          exact .inr (show 2 ≤ c by omega)
        · exact .inl hst
      rw [releaseProfile_kept hkept]
      exact .inl ⟨hsame, he⟩
  · omega

theorem Tracked.congr (ht : Tracked a id r c s) (hps : t.ps = s.ps) (hspb : t.spb = s.spb)
    (hevent : hasEvent s .profileFreed = true → hasEvent t .profileFreed = true) : Tracked a id r c t := by
  obtain ⟨hload, ⟨hr, he⟩ | ⟨hc, hst, hgone⟩⟩ := ht
  · exact ⟨hload.congr (by rw [hps]) (by rw [hps]), .inl ⟨by rw [hps, hr], fun e hm hi => by rw [hspb]; exact he e hm hi⟩⟩
  · exact ⟨hload.congr (by rw [hps]) (by rw [hps]), .inr ⟨hc, hst, hgone.congr hps hspb hevent⟩⟩

/-- The cards of a queue release their profiles, and a profile loses the references that are its. -/
theorem Tracked.releases {l : List QueuedPrint} (hpos : ∀ q ∈ l, 1 ≤ q.profileId) (hid : 1 ≤ id) (ht : Tracked a id r c s)
    (huses : uses id l ≤ c) (hfree : 0 < uses id l → r.freeing = false) : Tracked a id r (c - uses id l) (l.foldl (fun s q => releaseProfile q.profileId s) s) := by
  induction l generalizing s c with
  | nil => exact ht
  | cons q l ih =>
    have hrest : ∀ q ∈ l, 1 ≤ q.profileId := fun q hq => hpos q (List.mem_cons_of_mem _ hq)
    by_cases hq : q.profileId = id
    · rw [uses_cons_same hq] at huses hfree ⊢
      have hone : Tracked a id r (c - 1) (releaseProfile q.profileId s) := hq ▸ ht.release (by omega) (hfree (by omega))
      have := ih hrest hone (by omega) fun _ => hfree (by omega)
      rwa [show c - 1 - uses id l = c - (uses id l + 1) by omega] at this
    · have huse : uses id (q :: l) = uses id l := by simp [uses, hq]
      rw [huse] at huses hfree ⊢
      exact ih hrest (ht.releaseOther (hpos q List.mem_cons_self) hid hq) huses hfree

/-! ## Records that are freed at link reset -/

/-- A profile once link reset has looked at its record. -/
def Passed (a : State) (id : Nat) (r : ProfileRecord) (u : State) : Prop :=
  NoLoadFor id u ∧ (Unready r → LetGo id r u) ∧
    (¬Unready r → u.ps.records[id - 1]? = some { r with refs := 0 } ∧ ∀ e ∈ a.spb.entries, e.id = id → e ∈ u.spb.entries)

theorem freeIfUnready_on (hu : Unready (profileOf s k)) : freeIfUnready k s = freeRecord k s := by
  obtain ⟨hst, hfree⟩ := hu
  unfold freeIfUnready
  refine if_pos ?_
  rcases hst with hst | hst <;> simp [hst, hfree]

theorem freeIfUnready_off (hu : ¬Unready (profileOf s k)) : freeIfUnready k s = s := by
  unfold freeIfUnready
  refine if_neg fun h => hu ?_
  simpa [Unready] using h

/-- A profile that has been let go is not looked at again. -/
theorem LetGo.settled (hl : LetGo id r s) (hh : r.header ≠ none) : ¬Unready (profileOf s id) := by
  obtain ⟨hfreed, hwaits, -⟩ := hl.2 hh
  rintro ⟨hst, hfree⟩
  cases hg : writeGranted id s with
  | false =>
    obtain ⟨h1, h2⟩ := writeGranted_eq_false.mp hg
    rw [profileOf_eq (hfreed h1 h2).1] at hst
    rcases hst with hst | hst <;> exact absurd hst (by decide)
  | true =>
    rw [profileOf_eq (hwaits (writeGranted_eq_true.mp hg))] at hfree
    exact absurd hfree (by simp)

theorem Tracked.pass (ht : Tracked a id r 0 s) : Passed a id r (freeIfUnready id s) := by
  obtain ⟨hload, ⟨hr, he⟩ | ⟨-, hu, hgone⟩⟩ := ht
  · have hprofile := profileOf_eq hr
    by_cases hu : Unready r
    · rw [freeIfUnready_on (by rw [hprofile]; exact hu)]
      exact ⟨hload.freeRecord id, fun _ => freeRecord_letsGo hload hr, fun h => absurd hu h⟩
    · rw [freeIfUnready_off (by rw [hprofile]; exact hu)]
      exact ⟨hload, fun h => absurd h hu, fun _ => ⟨hr, he⟩⟩
  · by_cases hh : r.header = none
    · rcases freeIfUnready_cases id s with heq | heq
      · rw [heq]
        exact ⟨hload, fun _ => hgone, fun h => absurd hu h⟩
      · rw [heq]
        exact ⟨hload.freeRecord id, fun _ => ⟨(freeRecord_quits hload).1, fun h => absurd hh h⟩, fun h => absurd hu h⟩
    · rw [freeIfUnready_off (hgone.settled hh)]
      exact ⟨hload, fun _ => hgone, fun h => absurd hu h⟩

theorem Tracked.passOther (ht : Tracked a id r c s) (hk : 1 ≤ k) (hid : 1 ≤ id) (hne : k ≠ id) : Tracked a id r c (freeIfUnready k s) := by
  have hplace : k - 1 ≠ id - 1 := by omega
  rcases freeIfUnready_cases k s with heq | heq
  · rwa [heq]
  · rw [heq]
    obtain ⟨hload, ⟨hr, he⟩ | ⟨hc, hst, hgone⟩⟩ := ht
    · exact ⟨hload.freeRecord k, .inl ⟨by rw [freeRecord_ne (Ne.symm hplace), hr], fun e hm hi => freeRecord_entry (he e hm hi) (by omega)⟩⟩
    · exact ⟨hload.freeRecord k, .inr ⟨hc, hst, hgone.freeRecord hplace⟩⟩

theorem Passed.passOther (hp : Passed a id r s) (hk : 1 ≤ k) (hid : 1 ≤ id) (hne : k ≠ id) : Passed a id r (freeIfUnready k s) := by
  have hplace : k - 1 ≠ id - 1 := by omega
  rcases freeIfUnready_cases k s with heq | heq
  · rwa [heq]
  · rw [heq]
    obtain ⟨hload, hgone, hkept⟩ := hp
    refine ⟨hload.freeRecord k, fun hu => (hgone hu).freeRecord hplace, fun hu => ?_⟩
    obtain ⟨hr, he⟩ := hkept hu
    exact ⟨by rw [freeRecord_ne (Ne.symm hplace), hr], fun e hm hi => freeRecord_entry (he e hm hi) (by omega)⟩

/-- Every record is looked at (R40). -/
theorem Tracked.freeUnready (ht : Tracked a id r 0 s) (hid : 1 ≤ id) (hid' : id ≤ 16) : Passed a id r (freeUnready s) := by
  refine foldl_once (f := fun s i => freeIfUnready (i + 1) s) (P := Tracked a id r 0) (Q := Passed a id r) (x := id - 1)
    (fun s k hk ht => ht.passOther (by omega) hid (by omega)) (fun s ht => ?_) (fun s k hk hp => hp.passOther (by omega) hid (by omega))
    List.nodup_range (List.mem_range.mpr (by omega)) ht
  rw [Nat.sub_add_cancel hid]
  exact ht.pass

theorem Passed.pump (hp : Passed a id r s) : Passed a id r (pumpPort s) := by
  obtain ⟨hload, hgone, hkept⟩ := hp
  exact ⟨hload.pump, fun hu => (hgone hu).pump, fun hu => ⟨by rw [pumpPort_records]; exact (hkept hu).1, by simpa using (hkept hu).2⟩⟩

theorem Passed.congr (hp : Passed a id r s) (hps : t.ps = s.ps) (hspb : t.spb = s.spb)
    (hevent : hasEvent s .profileFreed = true → hasEvent t .profileFreed = true) : Passed a id r t := by
  obtain ⟨hload, hgone, hkept⟩ := hp
  exact ⟨hload.congr (by rw [hps]) (by rw [hps]), fun hu => (hgone hu).congr hps hspb hevent, fun hu => by
    rw [hps, hspb]
    exact hkept hu⟩

end

end Sys2Proof.Machine

end

section

/-! PROOFS. Link reset as one statement (R17, R40, R59, R62, R80, R127, R138, R152, R170). -/

namespace Sys2Proof.Machine

section
variable {a s t u : State} {e : CardEngine} {j : PrintJob} {id n : Nat} {r : ProfileRecord}

/-! ## The parts of a link reset -/

/-- The part with its registers and its engine reset, and neither a PATCH card nor a load in hand. -/
def linkHead (s : State) : State := stopLoader (stopPatch { s with regs := ⟨false, 0, 0, 0⟩, ce := resetEngine s.ce })

/-- The part with its computation abandoned and its strips ORPHAN. -/
def linkMap (s : State) : State :=
  { setPrintEnd (abandonLine (linkHead s)) with
    tmap := ⟨(setPrintEnd (abandonLine (linkHead s))).tmap.segs.map orphanSeg, (setPrintEnd (abandonLine (linkHead s))).tmap.joints⟩ }

/-- The part with the references of its print and its queue ended. -/
def linkQueue (s : State) : State := discardQueue (endJob (linkMap s))

theorem linkDown_eq (s : State) : linkDown s = forgetSpliceCards { recountFabrics (pumpPort (freeUnready (linkQueue s))) with
    wd := linkDrive (recountFabrics (pumpPort (freeUnready (linkQueue s)))).wd } := rfl

theorem linkHead_parts (s : State) : (linkHead s).pe = s.pe ∧ (linkHead s).su = s.su ∧ (linkHead s).tmap = s.tmap ∧
    (linkHead s).ports = s.ports ∧ (linkHead s).ps.records = s.ps.records ∧ (linkHead s).ps.free = s.ps.free ∧
    (linkHead s).spb.entries = s.spb.entries := by
  refine ⟨by simp [linkHead], by simp [linkHead], by simp [linkHead], by simp [linkHead], rfl, rfl, rfl⟩

theorem linkHead_noLoad (id : Nat) (s : State) : NoLoadFor id (linkHead s) :=
  ⟨fun _ hw => absurd hw (by simp [linkHead, stopLoader]), fun _ hj => absurd hj (by simp [linkHead, stopLoader])⟩

theorem abandonLine_none (hj : s.pe.job = none) : abandonLine s = s := by
  unfold abandonLine computing
  rw [hj]
  exact if_neg (by simp)

/-! ## The map -/

/-- The strips after link reset: the job's has its end, and every one is an ORPHAN (R5, R17). -/
theorem linkMap_segs (s : State) : (linkMap s).tmap.joints = s.tmap.joints ∧ (linkMap s).tmap.segs = s.tmap.segs.map (fun g => orphanSeg
    (match s.pe.job with
      | some j => if g.start = j.start then { g with endAt := some (g.start + max 1 j.fallen * pitchOf s) } else g
      | none => g)) := by
  have htmap : (abandonLine (linkHead s)).tmap = s.tmap := by simp [linkHead]
  have hpitch : pitchOf (abandonLine (linkHead s)) = pitchOf s := by simp [pitchOf, linkHead]
  have hpe := (linkHead_parts s).1
  unfold linkMap setPrintEnd
  cases hj : s.pe.job with
  | none =>
    have hnone : (abandonLine (linkHead s)).pe.job = none := by rw [abandonLine_none (by rw [hpe, hj]), hpe, hj]
    rw [hnone]
    dsimp only
    rw [htmap]
    exact ⟨rfl, rfl⟩
  | some j =>
    have hsome := congrArg PrintEngine.job (abandonLine_pe (s := linkHead s) (j := j) (by rw [hpe, hj]))
    rw [hsome]
    dsimp only [updateSeg]
    rw [htmap, hpitch, List.map_map]
    exact ⟨rfl, rfl⟩

/-! ## The store at the head of a link reset -/

/-- Every PENDING entry has become VISIBLE, with its version step (R48). -/
theorem linkMap_entries (hs : StoreLaws s) : (linkMap s).spb.entries = s.spb.entries.map (fun e => { e with visible := true }) ∧
    (∀ (n : Nat) r, s.ps.records[n]? = some r → (linkMap s).ps.records[n]? = some (afterVisibility s (n + 1) r)) ∧
    (linkMap s).ps.free = s.ps.free := by
  obtain ⟨-, -, ⟨-, -, hids, -, hvisible⟩, -, -⟩ := hs
  obtain ⟨hpe, -, -, -, hrecords, hfree, hentries⟩ := linkHead_parts s
  have hstill : computing s = false → (s.spb.entries.map fun e => { e with visible := true }) = s.spb.entries ∧
      ∀ n r, afterVisibility s n r = r := fun hc => by
    refine ⟨(List.map_congr_left fun e he => ?_).trans (List.map_id _), fun n r => ?_⟩
    · rw [← hvisible hc e he]
      rfl
    · have hany : (s.spb.entries.any fun e => e.id == n && !e.visible) = false := by
        refine List.any_eq_false.mpr fun e he => ?_
        simp [hvisible hc e he]
      unfold afterVisibility
      rw [hany]
      rfl
  have hps : (linkMap s).ps = (abandonLine (linkHead s)).ps := (setPrintEnd_frame _).2.2.2.2.2.2.2.2.2.2.1
  have hspb : (linkMap s).spb = (abandonLine (linkHead s)).spb := (setPrintEnd_frame _).2.2.2.2.2.2.2.2.2.2.2.1
  rw [hps, hspb]
  cases hj : s.pe.job with
  | none =>
    obtain ⟨h1, h2⟩ := hstill (by unfold computing; rw [hj])
    rw [abandonLine_none (by rw [hpe, hj]), hentries, h1, hrecords]
    exact ⟨rfl, fun n r hr => by rw [h2, hr], hfree⟩
  | some j =>
    have hjob : (linkHead s).pe.job = some j := by rw [hpe, hj]
    refine ⟨?_, fun n r hr => ?_, (abandonLine_free hjob).trans hfree⟩
    · rw [abandonLine_spb hjob]
      by_cases hc : j.comp = none
      · rw [if_pos hc, hentries, (hstill (by unfold computing; rw [hj]; simp [hc])).1]
      · rw [if_neg hc, hentries]
    · rw [abandonLine_record hjob (fun e he => (hids e (hentries ▸ he)).1) (by rw [hrecords, hr])]
      by_cases hc : j.comp = none
      · rw [if_pos hc, (hstill (by unfold computing; rw [hj]; simp [hc])).2]
      · rw [if_neg hc]
        unfold afterVisibility
        rw [hentries]

theorem linkMap_noLoad (id : Nat) (s : State) : NoLoadFor id (linkMap s) := by
  have hload := linkHead_noLoad id s
  have hps : (linkMap s).ps = (abandonLine (linkHead s)).ps := (setPrintEnd_frame _).2.2.2.2.2.2.2.2.2.2.1
  have habandon : NoLoadFor id (abandonLine (linkHead s)) := by
    cases hj : (linkHead s).pe.job with
    | none => rwa [abandonLine_none hj]
    | some j => exact hload.abandon hj
  exact habandon.congr (by rw [hps]) (by rw [hps])

theorem linkMap_pe (s : State) : (linkMap s).pe = { s.pe with job := s.pe.job.map fun j => { j with comp := none } } := by
  have hpe : (linkMap s).pe = (abandonLine (linkHead s)).pe := (setPrintEnd_frame _).2.2.2.2.2.2.2.2.2.2.2.2.2.1
  rw [hpe]
  obtain ⟨hhead, -⟩ := linkHead_parts s
  cases hj : s.pe.job with
  | none =>
    rw [abandonLine_none (by rw [hhead, hj]), hhead, Option.map_none, ← hj]
  | some j =>
    rw [abandonLine_pe (s := linkHead s) (by rw [hhead, hj]), hhead]
    rfl

/-! ## The references that end -/

theorem endJob_none (h : s.pe.job = none) : endJob s = { s with pe := { s.pe with state := .idle } } := by
  unfold endJob
  rw [h]

/-- A profile once its job and its queued cards are gone (R37, R62, R80). -/
theorem linkQueue_tracked (hs : StoreLaws s) (hid : 1 ≤ id) (hid' : id ≤ 16) (hr : s.ps.records[id - 1]? = some r) :
    Tracked (linkMap s) id (afterVisibility s id r) 0 (linkQueue s) := by
  have hlaws := hs
  obtain ⟨⟨-, -, hcounts, -, hfreeing⟩, ⟨-, hqueue, -, -, hjobs, -⟩, -⟩ := hlaws
  have hcount : r.refs = uses id s.pe.queue + (s.pe.job.toList.filter (fun j => j.card.profileId == id)).length := by
    have := hcounts id hid hid'
    rwa [profileOf_eq hr] at this
  have hlive : 0 < r.refs → (afterVisibility s id r).freeing = false := fun hpos => by
    by_contra hne
    have := hfreeing r (List.mem_of_getElem? hr) (.inr (by simpa [afterVisibility] using hne))
    omega
  have hstart : Tracked (linkMap s) id (afterVisibility s id r) r.refs (linkMap s) := by
    refine ⟨linkMap_noLoad id s, .inl ⟨?_, fun _ he _ => he⟩⟩
    have := (linkMap_entries hs).2.1 (id - 1) r hr
    rwa [Nat.sub_add_cancel hid] at this
  have hended : Tracked (linkMap s) id (afterVisibility s id r) (uses id s.pe.queue) (endJob (linkMap s)) := by
    have hpe := congrArg PrintEngine.job (linkMap_pe s)
    cases hj : s.pe.job with
    | none =>
      rw [hj] at hpe hcount
      rw [endJob_none hpe]
      rw [show uses id s.pe.queue = r.refs by simpa using hcount.symm]
      exact hstart.congr rfl rfl (fun h => h)
    | some j =>
      obtain ⟨hj1, -⟩ := hjobs j hj
      rw [hj] at hpe hcount
      rw [endJob_eq hpe]
      have hbegin : Tracked (linkMap s) id (afterVisibility s id r) r.refs (jobEnded (linkMap s)) := hstart.congr rfl rfl (fun h => h)
      by_cases hjid : j.card.profileId = id
      · have hone : r.refs = uses id s.pe.queue + 1 := by simpa [hjid] using hcount
        have := hbegin.release (by omega) (hlive (by omega))
        rw [hone, Nat.add_sub_cancel] at this
        rw [← hjid] at this ⊢
        exact this
      · have hone : uses id s.pe.queue = r.refs := by simpa [hjid] using hcount.symm
        rw [hone]
        exact hbegin.releaseOther hj1 hid hjid
  have hq : (endJob (linkMap s)).pe.queue = s.pe.queue := by rw [endJob_queue, linkMap_pe]
  have hall := Tracked.releases (s := { endJob (linkMap s) with pe := { (endJob (linkMap s)).pe with queue := [], hold := none } })
    (fun q hq => (hqueue q hq).1) hid (hended.congr rfl rfl (fun h => h)) le_rfl (fun hpos => hlive (by omega))
  rw [Nat.sub_self, ← hq] at hall
  exact hall

/-- A profile once link reset has freed what it frees (R40). -/
theorem linkDown_passed (hs : StoreLaws s) (hid : 1 ≤ id) (hid' : id ≤ 16) (hr : s.ps.records[id - 1]? = some r) :
    Passed (linkMap s) id (afterVisibility s id r) (linkDown s) := by
  refine (((linkQueue_tracked hs hid hid' hr).freeUnready hid hid').pump).congr ?_ ?_ fun h => ?_
  · rw [linkDown_eq]
    simp
  · rw [linkDown_eq]
    simp
  · unfold hasEvent at h ⊢
    rw [linkDown_eq]
    simpa using h

/-- What ends of references and freeings keep holds once every record has been looked at. -/
theorem linkFreed_law {P : State → Prop} (hpe : ∀ u p, P u → P { u with pe := p }) (hcount : ∀ k u, P u → P (uncounted k u))
    (hfree : ∀ k u, P u → P (freeRecord k u)) (hs : P (linkMap s)) : P (freeUnready (linkQueue s)) := by
  have hrelease : ∀ k u, P u → P (releaseProfile k u) := fun k u hu => by
    rcases releaseProfile_cases k u with heq | heq
    · rw [heq]
      exact hcount k u hu
    · rw [heq]
      exact hfree k _ (hcount k u hu)
  have hended : P (endJob (linkMap s)) := by
    cases hj : (linkMap s).pe.job with
    | none =>
      rw [endJob_none hj]
      exact hpe _ _ hs
    | some j =>
      rw [endJob_eq hj]
      exact hrelease _ _ (hpe _ _ hs)
  refine foldl_law P _ (fun u i hu => ?_) _ (foldl_law P _ (fun u q hu => hrelease _ u hu) _ (hpe _ _ hended))
  rcases freeIfUnready_cases (i + 1) u with heq | heq
  · rwa [heq]
  · rw [heq]
    exact hfree _ u hu

theorem linkDown_spb (s : State) : (linkDown s).spb = (freeUnready (linkQueue s)).spb := by
  rw [linkDown_eq]
  simp

theorem linkDown_entries (s : State) : ∀ e ∈ (linkDown s).spb.entries, e ∈ (linkMap s).spb.entries := by
  rw [linkDown_spb]
  exact linkFreed_law (P := fun u => ∀ e ∈ u.spb.entries, e ∈ (linkMap s).spb.entries) (fun _ _ h => h) (fun _ _ h => h)
    (fun k u h e he => h e (freeRecord_entries_sub he)) (fun _ he => he)

theorem linkMap_quiet (s : State) : (linkMap s).ce = resetEngine s.ce ∧ (linkMap s).spb.patch = none ∧ (linkMap s).ports = s.ports ∧
    (linkMap s).su = s.su := by
  have hpatch : (abandonLine (linkHead s)).spb.patch = none := by
    cases hj : (linkHead s).pe.job with
    | none =>
      rw [abandonLine_none hj]
      rfl
    | some j =>
      rw [abandonLine_spb hj]
      rfl
  have hspb : (linkMap s).spb = (abandonLine (linkHead s)).spb := (setPrintEnd_frame _).2.2.2.2.2.2.2.2.2.2.2.1
  refine ⟨by simp [linkMap, linkHead], by rw [hspb, hpatch], by simp [linkMap, linkHead], by simp [linkMap, linkHead]⟩

/-- The engine stays reset, no PATCH card comes back, and nothing is written (R170). -/
theorem linkDown_quiet (s : State) : (linkDown s).ce = resetEngine s.ce ∧ (linkDown s).spb.patch = none ∧ SameWrites s (linkDown s) := by
  have hfreed : (freeUnready (linkQueue s)).ce = resetEngine s.ce ∧ (freeUnready (linkQueue s)).spb.patch = none ∧
      SameWrites s (freeUnready (linkQueue s)) := by
    obtain ⟨hce, hpatch, hports, -⟩ := linkMap_quiet s
    refine linkFreed_law (P := fun u => u.ce = resetEngine s.ce ∧ u.spb.patch = none ∧ SameWrites s u) (fun _ _ h => h) (fun _ _ h => h)
      (fun k u h => ?_) ⟨hce, hpatch, .of_ports hports⟩
    obtain ⟨hce, hpatch, hwrites⟩ := h
    obtain ⟨hw, hp, hsame⟩ := freeRecord_free (id := k) hpatch
    refine ⟨?_, hp, hwrites.trans hw⟩
    rcases hsame with heq | heq
    · exact heq.trans hce
    · rw [heq, hce]
      exact offeredAgain_awake (by simp [resetEngine])
  obtain ⟨hce, hpatch, hwrites⟩ := hfreed
  refine ⟨?_, by rw [linkDown_spb, hpatch], hwrites.trans (.of_ports ?_)⟩
  · rw [linkDown_eq]
    simpa using hce
  · rw [linkDown_eq]
    simp

/-- Only PROFILE_FREED can be raised before the fault (R32). -/
theorem linkDown_raises (s : State) : Raises [.cardFinal, .profileFreed] s (linkDown s) := by
  have hfreed : Raises [.cardFinal, .profileFreed] s (freeUnready (linkQueue s)) :=
    linkFreed_law (P := Raises [.cardFinal, .profileFreed] s) (fun _ _ h => h.trans (.of_su rfl)) (fun _ _ h => h.trans (.of_su rfl))
      (fun k u h => h.trans (freeRecord_raises (by decide) (by decide) k u)) (.of_su (linkMap_quiet s).2.2.2)
  refine hfreed.trans (.of_su ?_)
  rw [linkDown_eq]
  simp

theorem linkDown_pe (s : State) : (linkDown s).pe = { s.pe with
    queue := [], state := .idle, job := none, hold := none, read := (linkDown s).pe.read } := by
  have hdiscard : ∀ u, (discardQueue u).pe = { u.pe with queue := [], hold := none } := fun u =>
    foldl_keeps (·.pe) _ (fun s q => by simp) _ _
  have hended : (endJob (linkMap s)).pe = { s.pe with job := none, state := .idle, read := (endJob (linkMap s)).pe.read } := by
    have hpe := linkMap_pe s
    cases hj : s.pe.job with
    | none =>
      rw [hj, Option.map_none] at hpe
      rw [endJob_none (congrArg PrintEngine.job hpe)]
      dsimp only
      rw [hpe]
    | some j =>
      rw [hj] at hpe
      rw [endJob_eq (congrArg PrintEngine.job hpe), (releaseProfile_frame _ _).2.2.2.2.2.2.2.2.2.2.1]
      unfold jobEnded
      dsimp only
      rw [hpe]
  have hpe : (linkDown s).pe = { (endJob (linkMap s)).pe with queue := [], hold := none } := by
    rw [linkDown_eq, ← hdiscard]
    simp [linkQueue]
  rw [hpe, hended]

/-- The free extents, the entries, and what decides the freeing of a record stand. -/
def Still (a u : State) : Prop := u.ps.free = a.ps.free ∧ u.spb.entries = a.spb.entries ∧
  ∀ n, (profileOf u n).state = (profileOf a n).state ∧ (profileOf u n).freeing = (profileOf a n).freeing

theorem profileOf_uncounted (id n : Nat) (s : State) : (profileOf (uncounted id s) n).state = (profileOf s n).state ∧
    (profileOf (uncounted id s) n).freeing = (profileOf s n).freeing := by
  by_cases hn : n - 1 = id - 1
  · unfold profileOf uncounted setProfile nth
    dsimp only
    rw [hn, modifyNth_getElem?_eq]
    cases s.ps.records[id - 1]? <;> exact ⟨rfl, rfl⟩
  · unfold profileOf nth
    rw [uncounted_ne hn]
    exact ⟨rfl, rfl⟩

theorem Still.release (h : Still a u) (hst : (profileOf a id).state ≠ .retiring) : Still a (releaseProfile id u) := by
  obtain ⟨hfree, hentries, hsame⟩ := h
  rw [releaseProfile_kept (.inl (by rw [(hsame id).1]; exact hst))]
  refine ⟨hfree, hentries, fun n => ?_⟩
  obtain ⟨h1, h2⟩ := profileOf_uncounted id n u
  exact ⟨h1.trans (hsame n).1, h2.trans (hsame n).2⟩

theorem Still.releases {l : List QueuedPrint} (h : Still a u) (hst : ∀ q ∈ l, (profileOf a q.profileId).state ≠ .retiring) :
    Still a (l.foldl (fun s q => releaseProfile q.profileId s) u) := by
  induction l generalizing u with
  | nil => exact h
  | cons q l ih => exact ih (h.release (hst q List.mem_cons_self)) fun q hq => hst q (List.mem_cons_of_mem _ hq)

/-- Where no record is freed, only counts change (R37). -/
theorem linkDown_calm (hst : ∀ j, s.pe.job = some j → (profileOf (linkMap s) j.card.profileId).state ≠ .retiring)
    (hqueue : ∀ q ∈ s.pe.queue, (profileOf (linkMap s) q.profileId).state ≠ .retiring)
    (hready : ∀ id, 1 ≤ id → id ≤ 16 → ¬Unready (profileOf (linkMap s) id)) :
    (linkDown s).ps.free = (linkMap s).ps.free ∧ (linkDown s).spb.entries = (linkMap s).spb.entries := by
  have hended : Still (linkMap s) (endJob (linkMap s)) := by
    have hpe := congrArg PrintEngine.job (linkMap_pe s)
    cases hj : s.pe.job with
    | none =>
      rw [hj] at hpe
      rw [endJob_none hpe]
      exact ⟨rfl, rfl, fun _ => ⟨rfl, rfl⟩⟩
    | some j =>
      rw [hj] at hpe
      rw [endJob_eq hpe]
      exact Still.release (u := jobEnded (linkMap s)) ⟨rfl, rfl, fun _ => ⟨rfl, rfl⟩⟩ (hst j hj)
  have hq : (endJob (linkMap s)).pe.queue = s.pe.queue := by rw [endJob_queue, linkMap_pe]
  have hdone : Still (linkMap s) (linkQueue s) := Still.releases
    (u := { endJob (linkMap s) with pe := { (endJob (linkMap s)).pe with queue := [], hold := none } }) hended (by rw [hq]; exact hqueue)
  have hfreed : Still (linkMap s) (freeUnready (linkQueue s)) := by
    refine List.foldlRecOn (motive := Still (linkMap s)) (List.range 16) _ hdone fun u hu i hi => ?_
    have hi := List.mem_range.mp hi
    rw [freeIfUnready_off]
    · exact hu
    · obtain ⟨h1, h2⟩ := hu.2.2 (i + 1)
      unfold Unready
      rw [h1, h2]
      exact hready (i + 1) (by omega) (by omega)
  have hps : (linkDown s).ps = (pumpPort (freeUnready (linkQueue s))).ps := by
    rw [linkDown_eq]
    simp
  exact ⟨by rw [hps, pumpPort_ps, ← hfreed.1], by rw [linkDown_spb, hfreed.2.1]⟩

/-! ## The statement -/

theorem linkDown_segs (s : State) : (linkDown s).tmap = (linkMap s).tmap := by
  rw [linkDown_eq]
  simp [linkQueue]

/-- The strips' part of link reset (R17). -/
theorem linkDown_strips (s : State) : (linkDown s).tmap.joints = s.tmap.joints ∧
    (linkDown s).tmap.segs.map (·.start) = s.tmap.segs.map (·.start) ∧
    (∀ g ∈ (linkDown s).tmap.segs, g.flags.orphan = true ∧ g.card = none) ∧
    ∀ j, s.pe.job = some j → ∀ g ∈ (linkDown s).tmap.segs, g.start = j.start →
      g.endAt = some (g.start + max 1 j.fallen * pitchOf s) := by
  obtain ⟨hjoints, hsegs⟩ := linkMap_segs s
  rw [linkDown_segs, hjoints, hsegs]
  refine ⟨rfl, ?_, fun g hg => ?_, fun j hj g hg hstart => ?_⟩
  · rw [List.map_map]
    refine List.map_congr_left fun g _ => ?_
    unfold orphanSeg
    dsimp only [Function.comp_apply]
    (repeat' split) <;> rfl
  · obtain ⟨d, -, rfl⟩ := List.mem_map.mp hg
    exact ⟨rfl, rfl⟩
  · obtain ⟨d, -, rfl⟩ := List.mem_map.mp hg
    rw [hj] at hstart ⊢
    dsimp only [orphanSeg] at hstart ⊢
    split at hstart
    · rename_i heq
      rw [if_pos heq]
    · rename_i hne
      exact absurd hstart hne

/-- The store's part of link reset (R37, R40, R48, R49). -/
theorem linkDown_store (hs : StoreLaws s) (t : State) (hps : t.ps = (linkDown s).ps) (hspb : t.spb = (linkDown s).spb)
    (hevent : hasEvent (linkDown s) .profileFreed = true → hasEvent t .profileFreed = true) :
    (∀ (n : Nat) r, s.ps.records[n]? = some r → r.state = .ready ∨ r.state = .empty ∨ r.freeing = true →
      t.ps.records[n]? = some { r with
        refs := 0
        version := if s.spb.entries.any (fun e => e.id == n + 1 && !e.visible) then r.version + 1 else r.version }) ∧
    (∀ (n : Nat) r, s.ps.records[n]? = some r → r.state = .loading ∨ r.state = .retiring → r.freeing = false → r.header ≠ none →
      (drainGranted t (n + 1) = false → loadWriteGranted t (n + 1) = false →
        t.ps.records[n]? = some emptyRecord ∧ hasEvent t .profileFreed = true) ∧
      (drainGranted t (n + 1) = true ∨ loadWriteGranted t (n + 1) = true → ∃ v, t.ps.records[n]? = some { r with
        refs := 0, version := v, freeing := true })) ∧
    ((∀ r ∈ s.ps.records, r.state = .ready ∨ r.state = .empty ∨ r.freeing = true) → t.ps.free = s.ps.free ∧
      t.spb.entries = s.spb.entries.map (fun e => { e with visible := true })) ∧
    (∀ e ∈ s.spb.entries, (profileOf s e.id).state = .ready → { e with visible := true } ∈ t.spb.entries) ∧
    ∀ e ∈ t.spb.entries, e.visible = true ∧ (∃ d ∈ s.spb.entries, e = { d with visible := true }) ∧
      ((profileOf s e.id).state = .loading ∨ (profileOf s e.id).state = .retiring → (profileOf s e.id).freeing = false →
        ∃ i v, t.ps.arb.busy = some (.shadow (.drain i e.cell v) true)) := by
  have hlaws := hs
  obtain ⟨⟨hlen, -, hcounts, -, hfreeing⟩, ⟨-, hqueue, -, -, hjobs, -⟩, ⟨-, -, hids, -⟩, -⟩ := hlaws
  obtain ⟨hentries, hrecords, hfree⟩ := linkMap_entries hs
  have hpassed : ∀ (n : Nat) r, s.ps.records[n]? = some r → Passed (linkMap s) (n + 1) (afterVisibility s (n + 1) r) t := fun n r hr => by
    have hn : n < 16 := hlen ▸ (List.getElem?_eq_some_iff.mp hr).1
    exact (linkDown_passed hs (by omega) (by omega) hr).congr hps hspb hevent
  have hplace : ∀ id, 1 ≤ id → id ≤ 16 → s.ps.records[id - 1]? = some (profileOf s id) := fun id h1 h2 => by
    obtain ⟨r, hr⟩ : ∃ r, s.ps.records[id - 1]? = some r := ⟨_, List.getElem?_eq_getElem (by omega)⟩
    rw [profileOf_eq hr, hr]
  have hno : ∀ (r : ProfileRecord) id, r.state = .ready ∨ r.state = .empty ∨ r.freeing = true → ¬Unready (afterVisibility s id r) := by
    rintro r id hst ⟨h, hlive⟩
    rcases hst with hst | hst | hst
    · rcases h with h | h <;> exact absurd (hst.symm.trans h) (by decide)
    · rcases h with h | h <;> exact absurd (hst.symm.trans h) (by decide)
    · exact absurd (hst.symm.trans hlive) (by decide)
  refine ⟨fun n r hr hst => ?_, fun n r hr hst hlive hh => ?_, fun hall => ?_, fun e he hst => ?_, fun e he => ?_⟩
  · obtain ⟨-, -, hkept⟩ := hpassed n r hr
    refine (hkept ?_).1
    exact hno r _ hst
  · obtain ⟨-, hgone, -⟩ := hpassed n r hr
    obtain ⟨-, hletgo⟩ := hgone ⟨hst, hlive⟩
    obtain ⟨hfreed, hwaits, -⟩ := hletgo hh
    exact ⟨hfreed, fun hg => ⟨_, hwaits hg⟩⟩
  · have hprofile : ∀ id, 1 ≤ id → id ≤ 16 → profileOf (linkMap s) id = afterVisibility s id (profileOf s id) := fun id h1 h2 => by
      rw [profileOf_eq (hrecords _ _ (hplace id h1 h2)), Nat.sub_add_cancel h1]
    have hstate : ∀ id, 1 ≤ id → id ≤ 16 → 0 < profileUses s id → (profileOf (linkMap s) id).state ≠ .retiring := fun id h1 h2 huse => by
      have hrefs := hcounts id h1 h2
      have hmem := List.mem_of_getElem? (hplace id h1 h2)
      have hnot : ¬((profileOf s id).state = .empty ∨ (profileOf s id).freeing = true) := fun h => by
        have := hfreeing _ hmem h
        omega
      rcases hall _ hmem with h | h | h
      · rw [hprofile id h1 h2]
        exact fun hret => absurd (h.symm.trans hret) (by decide)
      · exact absurd (.inl h) hnot
      · exact absurd (.inr h) hnot
    have hcalm : (linkDown s).ps.free = (linkMap s).ps.free ∧ (linkDown s).spb.entries = (linkMap s).spb.entries := by
      refine linkDown_calm (fun j hj => ?_) (fun q hq => ?_) fun id h1 h2 => ?_
      · obtain ⟨h1, h2, -⟩ := hjobs j hj
        exact hstate _ h1 h2 (by simp [profileUses, hj])
      · obtain ⟨h1, h2, -⟩ := hqueue q hq
        refine hstate _ h1 h2 (Nat.add_pos_left ?_ _)
        exact List.length_pos_of_mem (List.mem_filter.mpr ⟨hq, beq_self_eq_true _⟩)
      · rw [hprofile id h1 h2]
        exact hno _ _ (hall _ (List.mem_of_getElem? (hplace id h1 h2)))
    obtain ⟨h1, h2⟩ := hcalm
    exact ⟨by rw [hps, h1, hfree], by rw [hspb, h2, hentries]⟩
  · obtain ⟨h1, h2⟩ := hids e he
    obtain ⟨-, -, hkept⟩ := hpassed _ _ (hplace e.id h1 h2)
    rw [Nat.sub_add_cancel h1] at hkept
    refine (hkept ?_).2 { e with visible := true } (by rw [hentries]; exact List.mem_map.mpr ⟨e, he, rfl⟩) rfl
    rintro ⟨h | h, -⟩ <;> exact absurd (hst.symm.trans h) (by decide)
  · have hmem : e ∈ s.spb.entries.map (fun e => { e with visible := true }) := by
      rw [← hentries]
      exact linkDown_entries s e (hspb ▸ he)
    obtain ⟨d, hd, rfl⟩ := List.mem_map.mp hmem
    refine ⟨rfl, ⟨d, hd, rfl⟩, fun hst hlive => ?_⟩
    obtain ⟨h1, h2⟩ := hids d hd
    obtain ⟨-, hgone, -⟩ := hpassed _ _ (hplace d.id h1 h2)
    rw [Nat.sub_add_cancel h1] at hgone
    obtain ⟨⟨hquit, -⟩, -⟩ := hgone ⟨hst, hlive⟩
    exact hquit _ he rfl

/-- Fabrics whose references have been counted anew (R138). -/
theorem recounted_fabrics {tc : Tension} (h : t.tc = { tc with fabrics := tc.fabrics.mapIdx fun i r =>
    { r with refs := (t.tmap.segs.filter (fun g => g.fabricId == some (i + 1))).length } }) :
    t.tc.axes = tc.axes ∧ t.tc.frame = tc.frame ∧ t.tc.fabrics.map (·.figures) = tc.fabrics.map (·.figures) ∧
      ∀ i r, t.tc.fabrics[i]? = some r → r.refs = (t.tmap.segs.filter (fun g => g.fabricId == some (i + 1))).length := by
  refine ⟨by rw [h], by rw [h], ?_, fun i r hr => ?_⟩
  · rw [h]
    refine List.ext_getElem? fun i => ?_
    rw [List.getElem?_map, List.getElem?_map, List.getElem?_mapIdx]
    cases tc.fabrics[i]? <;> rfl
  · rw [h, List.getElem?_mapIdx] at hr
    obtain ⟨f, -, rfl⟩ := Option.map_eq_some_iff.mp hr
    rfl

/-- What link reset makes of the drive, the tension and the splices (R127, R138, R152). -/
theorem linkDown_line (s : State) :
    (linkDown s).wd = { s.wd with state := if s.wd.state = .starting ∨ s.wd.state = .running then .draining else s.wd.state } ∧
    (linkDown s).tc.axes = s.tc.axes ∧ (linkDown s).tc.frame = s.tc.frame ∧
    (linkDown s).tc.fabrics.map (·.figures) = s.tc.fabrics.map (·.figures) ∧
    (∀ i r, (linkDown s).tc.fabrics[i]? = some r →
      r.refs = ((linkDown s).tmap.segs.filter (fun g => g.fabricId == some (i + 1))).length) ∧
    (linkDown s).rc = ⟨{ s.rc.pu with card := none }, { s.rc.fu with card := none }, s.rc.joints⟩ ∧
    (linkDown s).regs = ⟨false, 0, 0, 0⟩ := by
  have hwd : (linkDown s).wd = linkDrive s.wd := by rw [linkDown_eq]; simp [linkQueue, linkMap, linkHead]
  have htc : (linkDown s).tc = { s.tc with fabrics := s.tc.fabrics.mapIdx fun i r =>
      { r with refs := ((linkDown s).tmap.segs.filter (fun g => g.fabricId == some (i + 1))).length } } := by
    have hmap := linkDown_segs s
    rw [hmap, linkDown_eq]
    simp [linkQueue, recountFabrics, linkMap, linkHead]
  obtain ⟨haxes, hframe, hfigures, hrefs⟩ := recounted_fabrics htc
  refine ⟨?_, haxes, hframe, hfigures, hrefs, ?_, ?_⟩
  · rw [hwd]
    unfold linkDrive
    obtain ⟨state, requested, target, running, measured, held⟩ := s.wd
    cases state <;> rfl
  · rw [linkDown_eq]
    simp [linkQueue, linkMap, linkHead, forgetSpliceCards]
  · rw [linkDown_eq]
    simp [linkQueue, linkMap, linkHead]

theorem linkDown_loader (s : State) : (linkDown s).ps.loader = none := by
  have hfreed : (freeUnready (linkQueue s)).ps.loader = none := by
    have hhead : (linkMap s).ps.loader = none := by
      have hps : (linkMap s).ps = (abandonLine (linkHead s)).ps := (setPrintEnd_frame _).2.2.2.2.2.2.2.2.2.2.1
      rw [hps]
      simp [linkHead, stopLoader]
    exact linkFreed_law (P := fun u => u.ps.loader = none) (fun _ _ h => h) (fun _ _ h => h) (fun k u h => by simpa using h) hhead
  rw [linkDown_eq]
  simpa using hfreed

/-- Marks that stand still do when another is set. -/
theorem marks_or {x v : BitVec 32} (m : BitVec 32) (h : x &&& v = x) : x &&& (v ||| m) = x := by
  refine BitVec.eq_of_getLsbD_eq fun i hi => ?_
  have hbit := congrArg (fun w => BitVec.getLsbD w i) h
  simp only [BitVec.getLsbD_and, BitVec.getLsbD_or] at hbit ⊢
  cases hx : x.getLsbD i with
  | false => rfl
  | true =>
    rw [hx, Bool.true_and] at hbit
    rw [hbit]
    rfl

theorem withFault_marks (f : FaultInfo) (pos : Nat) {u : Status} {x : BitVec 32} (h : x &&& u.events = x) :
    x &&& (u.withFault f pos).events = x := by
  unfold Status.withFault
  dsimp only
  split
  · exact marks_or _ h
  · exact h

theorem raised_marks (l : List Event) {u : Status} {x : BitVec 32} (h : x &&& u.events = x) : x &&& (raised l u).events = x := by
  induction l generalizing u with
  | nil => exact h
  | cons e l ih =>
    rw [raised_cons]
    exact ih (marks_or _ h)

theorem Raises.marks {l : List Event} (h : Raises l s t) : s.su.events &&& t.su.events = s.su.events := by
  obtain ⟨k, -, ht⟩ := h
  rw [ht]
  exact raised_marks k (BitVec.and_self)

end

/-- Settles O6: the parts of a link reset, its freeings followed profile by profile, and the fault that it queues last. -/
theorem linkResetValues : Obligations.LinkResetValues := by
  intro s hon
  obtain ⟨hce, hpatch, hwrites⟩ := linkDown_quiet s
  obtain ⟨hjoints, hstarts, horphans, hends⟩ := linkDown_strips s
  obtain ⟨hfaults, hseq⟩ := linkDown_faults s
  obtain ⟨hwd, haxes, hframe, hfigures, hrefs, hrc, hregs⟩ := linkDown_line s
  have hloader := linkDown_loader s
  have hpe := linkDown_pe s
  have hraises := linkDown_raises s
  have hrest := hraises.rest
  have hweb : (linkDown s).web = s.web := by simp
  obtain ⟨u, hu⟩ : ∃ u, linkDown s = u := ⟨_, rfl⟩
  have hstore : StoreLaws s → ∀ t : State, t.ps = u.ps → t.spb = u.spb →
      (hasEvent u .profileFreed = true → hasEvent t .profileFreed = true) → _ := fun hs t => hu ▸ linkDown_store hs t
  obtain ⟨t, ht⟩ : ∃ t, offerFault .linkReset u = t := ⟨_, rfl⟩
  have hexec : exec .linkReset s = .next t := (whenOn_on hon : execLinkReset s = _).trans (congrArg _ (by rw [hu, ht]))
  have hcalm : t.pending = s.pending ∧ t.clock = s.clock ∧ t.power = s.power ∧ t.ka = s.ka ∧ t.setup = s.setup ∧ t.web = s.web ∧
      t.lastVMax = s.lastVMax ∧ t.nc = s.nc ∧ t.hc = s.hc ∧ t.ps.mem = s.ps.mem := by
    rw [← ht, ← hu]
    simp
  rw [hu] at hce hpatch hwrites hjoints hstarts horphans hends hfaults hseq hwd haxes hframe hfigures hrefs hrc hregs hloader hpe hraises hrest hweb
  have hsame : t.regs = u.regs ∧ t.ce = u.ce ∧ t.pe = u.pe ∧ t.tmap = u.tmap ∧ t.ps = u.ps ∧ t.spb = u.spb ∧ t.wd = u.wd ∧ t.tc = u.tc ∧
      t.rc = u.rc := by
    rw [← ht]
    simp
  have hsu : t.su = u.su.withFault .linkReset s.web.pos := by rw [← ht, offerFault_su, hweb]
  have hbytes : ∀ a, hostByte t a = hostByte s a := fun a => by rw [← ht, hostByte_offerFault, hwrites.bytes]
  obtain ⟨fpending, fclock, fpower, fka, fsetup, fweb, flast, fnc, fhc, fmem⟩ := hcalm
  obtain ⟨eregs, ece, epe, etmap, eps, espb, ewd, etc, erc⟩ := hsame
  refine ⟨t, hexec, fpending, fclock, fpower, fka, fsetup, fweb, flast, eregs.trans hregs, ?_, ?_, by rw [etmap, hjoints],
    by rw [etmap, hstarts], by rw [etmap]; exact horphans, by rw [etmap]; exact hends, by rw [eps, hloader], by rw [espb, hpatch], fmem, fnc, fhc,
    fun hs => hstore hs t eps espb fun h => ?_, ewd.trans hwd, by rw [etc, haxes], by rw [etc, hframe], by rw [etc, hfigures],
    by rw [etc, etmap]; exact hrefs, erc.trans hrc, ?_, fun a _ => hbytes a⟩
  · rw [ece, hce]
    exact ⟨rfl, rfl, rfl, rfl, rfl, rfl, rfl, rfl⟩
  · rw [epe, hpe]
    exact ⟨rfl, rfl, rfl, rfl, rfl, rfl, rfl⟩
  · have hmark := congrArg (fun w => BitVec.getLsbD w Event.profileFreed.bit)
      (withFault_marks .linkReset s.web.pos (BitVec.and_self (x := u.su.events)))
    rw [hasEvent_eq_getLsbD] at h ⊢
    rw [hsu]
    simpa [h] using hmark
  · obtain ⟨hqueue, hnext, hcause⟩ := withFault_queue .linkReset s.web.pos u.su
    have hother : (u.su.withFault .linkReset s.web.pos).inputs = u.su.inputs ∧
        (u.su.withFault .linkReset s.web.pos).refresh = u.su.refresh := by
      unfold Status.withFault
      dsimp only
      split <;> exact ⟨rfl, rfl⟩
    obtain ⟨hinputs, hrefresh⟩ := hother
    rw [hsu]
    exact ⟨by rw [hqueue, hfaults, hseq], by rw [hnext, hseq], by rw [hcause, hrest], by rw [hinputs, hrest], by rw [hrefresh, hrest],
      withFault_marks _ _ hraises.marks⟩

end Sys2Proof.Machine

end

section
/-! PROOFS. The canonical form of the store, the agreement of the fault queue with its event, and the limits of the counts and records, at
every step (chapter 1; R24, R60, R157, R174). -/

namespace Sys2Proof.Machine

/-! ## The canonical form of the store -/

theorem canonical_of_mem {s t : State} (hs : StoreCanonical s) (h : t.ps.mem = s.ps.mem) : StoreCanonical t := by
  unfold StoreCanonical
  rw [h]
  exact hs

theorem execLoaderWriteComplete_canonical {s t : State} (hs : StoreCanonical s) (h : execLoaderWriteComplete s = .next t) :
    StoreCanonical t := by
  refine whenOn_law StoreCanonical h hs fun _ => ?_
  split
  · rename_i r live _
    have hwrite : StoreCanonical (writeCell r.cell r.value s) := writeCell_wf s r.cell r.value hs
    dsimp only
    split <;> exact canonical_of_mem hwrite (by simp)
  · exact hs

theorem execDrainWriteComplete_canonical {s t : State} (hs : StoreCanonical s) (h : execDrainWriteComplete s = .next t) :
    StoreCanonical t := by
  refine whenOn_law StoreCanonical h hs fun _ => ?_
  split
  · rename_i id cell v live _
    have hwrite : StoreCanonical (writeCell cell v s) := writeCell_wf s cell v hs
    dsimp only
    split <;> exact canonical_of_mem hwrite (by simp)
  · exact hs

theorem execLookupFillComplete_canonical {s t : State} {d : CellDamage} (hs : StoreCanonical s)
    (h : execLookupFillComplete d s = .next t) : StoreCanonical t := by
  refine whenOn_law StoreCanonical h hs fun _ => ?_
  split
  · rename_i r live _
    have hread : StoreCanonical (readCell r.cell d (portDone s)).2 := readCell_wf (portDone s) r.cell d hs
    dsimp only
    split <;> exact canonical_of_mem hread (by simp)
  · exact hs

theorem execCreationReadComplete_canonical {s t : State} {d : CellDamage} (hs : StoreCanonical s)
    (h : execCreationReadComplete d s = .next t) : StoreCanonical t := by
  refine whenOn_law StoreCanonical h hs fun _ => ?_
  split
  · rename_i id node cell k live _
    have hread : StoreCanonical (readCell cell d (portDone s)).2 := readCell_wf (portDone s) cell d hs
    dsimp only
    split <;> exact canonical_of_mem hread (by simp)
  · exact hs

/-- Every command keeps the canonical form: the writes and the reads of a cell do, main power-on reset empties the store, and nothing else
reaches it. -/
theorem exec_canonical {i : Instr} {s t : State} (hs : StoreCanonical s) (h : exec i s = .next t) : StoreCanonical t := by
  cases i with
  | mainPowerOnReset z st =>
    unfold exec at h
    cases h
    have hempty : StoreCanonical (powerOn z st s) := rfl
    exact canonical_of_mem hempty (by simp only [raiseLost_frame, resetFrames_frame])
  | loaderWriteComplete => exact execLoaderWriteComplete_canonical hs h
  | drainWriteComplete => exact execDrainWriteComplete_canonical hs h
  | lookupFillComplete d => exact execLookupFillComplete_canonical hs h
  | creationReadComplete d => exact execCreationReadComplete_canonical hs h
  | _ => exact canonical_of_mem hs (exec_mem h hs (by simp) (by simp) (by simp) (by simp))

/-! ## The fault queue and its event -/

/-- The agreement of the fault queue with its event, at the Status Unit. -/
def Status.agrees (u : Status) : Prop := u.faults.length ≤ 32 ∧ (u.events.getLsbD Event.faultPending.bit = true ↔ u.faults ≠ [])

theorem faultsAgree_iff {s : State} : FaultsAgree s ↔ s.su.agrees := by
  simp only [FaultsAgree, Status.agrees, hasEvent_eq_getLsbD]

theorem withFault_agrees (f : FaultInfo) (pos : Nat) {u : Status} (hu : u.agrees) : (u.withFault f pos).agrees := by
  obtain ⟨hlen, hbit⟩ := hu
  have hne := queueAfter_ne_nil u.faults ⟨f, u.faultSeq, pos⟩
  have hlen' := queueAfter_length u.faults ⟨f, u.faultSeq, pos⟩ hlen
  have hmask : Event.faultPending.mask.getLsbD Event.faultPending.bit = true := by decide
  unfold Status.withFault
  dsimp only
  split
  · exact ⟨hlen', by simp [hmask, hne]⟩
  · rename_i hsome
    exact ⟨hlen', by simpa [hne] using hbit.mpr (by simpa using hsome)⟩

/-- Events other than FAULT_PENDING and faults keep the agreement (R174). -/
theorem Reported.agrees {u v : Status} (h : Reported u v) (hu : u.agrees) : v.agrees := by
  induction h with
  | refl => exact hu
  | raise e he h ih =>
    obtain ⟨hlen, hbit⟩ := ih
    exact ⟨hlen, by rw [BitVec.getLsbD_or, mask_getLsbD, decide_eq_false he, Bool.or_false]; exact hbit⟩
  | fault f pos h ih => exact withFault_agrees f pos ih

section
variable {s t : State}

theorem FaultsAgree.congr (hs : FaultsAgree s) (hf : t.su.faults = s.su.faults) (he : t.su.events = s.su.events) : FaultsAgree t := by
  rw [faultsAgree_iff] at hs ⊢
  unfold Status.agrees
  rw [hf, he]
  exact hs

theorem FaultsAgree.reported (hs : FaultsAgree s) (hsu : Reported s.su t.su) : FaultsAgree t :=
  faultsAgree_iff.mpr (hsu.agrees (faultsAgree_iff.mp hs))

theorem faultsAgree_reset (hf : t.su.faults = []) (he : t.su.events = 0) : FaultsAgree t :=
  faultsAgree_iff.mpr (by simp [Status.agrees, hf, he])

theorem takeHalt_faultsAgree (cause : HaltCause) (hs : FaultsAgree s) : FaultsAgree (takeHalt cause s) :=
  faultsAgree_iff.mpr ((takeHalt_reported cause).agrees (faultsAgree_iff.mp hs))

theorem haltLine_faultsAgree (cause : HaltCause) (s : State) (hs : FaultsAgree s) : FaultsAgree (haltLine cause s) := by
  unfold haltLine
  split
  · exact hs.reported (by simp)
  · exact takeHalt_faultsAgree cause hs

theorem createEntry_faultsAgree (id node cell k : Nat) (c : StoreCell) (hs : FaultsAgree s) :
    FaultsAgree (createEntry id node cell k c s) := by
  unfold createEntry
  (repeat' split)
  · exact hs
  · exact parityHalt_law FaultsAgree haltLine_faultsAgree _ (hs.reported (by simp))
  · exact hs

theorem serveFill_faultsAgree (r : FillRequest) (live : Bool) (c : StoreCell) (hs : FaultsAgree s) :
    FaultsAgree (serveFill r live c s) := by
  refine parityHalt_law FaultsAgree haltLine_faultsAgree _ (hs.reported ?_)
  (repeat' split) <;> simp

theorem inputEdge_faultsAgree (i : LineInput) (active : Bool) (s : State) (hs : FaultsAgree s) : FaultsAgree (inputEdge i active s) :=
  inputEdge_law FaultsAgree haltLine_faultsAgree (fun _ _ hs => hs.reported (by simp)) (fun _ _ hs => hs.reported (by simp))
    (fun _ _ hs => hs.reported (by simp)) i active hs

theorem setupCard_faultsAgree (k : CurrentCard) (hs : FaultsAgree s) : FaultsAgree (setupCard k s) := by
  have htake : ∀ c, FaultsAgree (takeSettings c s) := fun c => hs.congr (by simp [takeSettings, setupInputs]) (by simp [takeSettings, setupInputs])
  unfold setupCard
  dsimp only
  (repeat' split)
  · exact hs.reported (by simp)
  · exact hs.reported (by simp)
  · exact (polarityEdges_law FaultsAgree inputEdge_faultsAgree s (htake (parseSettings k.image))).reported (by simp [applySetup])

theorem clearHalt_faultsAgree (hs : FaultsAgree s) : FaultsAgree (clearHalt s) := by
  have hsu : Reported { s.su with haltCause := none } (clearHalt s).su := by simp [clearHalt, setDrive]
  exact faultsAgree_iff.mpr (hsu.agrees (faultsAgree_iff.mp hs))

theorem clearCard_faultsAgree (c : CurrentCard) (hs : FaultsAgree s) : FaultsAgree (clearCard c s) := by
  unfold clearCard
  dsimp only
  (repeat' split)
  · exact hs.reported (by simp)
  · exact hs.reported (by simp)
  · exact (clearHalt_faultsAgree hs).reported (by simp)
  · exact (clearHalt_faultsAgree hs).reported (by simp)

theorem execRampPeriod_faultsAgree (hs : FaultsAgree s) (h : execRampPeriod s = .next t) : FaultsAgree t :=
  whenOn_law FaultsAgree h hs fun hon => hs.reported (execRampPeriod_next hon (whenOn_on hon)).2.2

theorem execHeatPeriod_faultsAgree (hs : FaultsAgree s) (h : execHeatPeriod s = .next t) : FaultsAgree t := by
  refine whenOn_law FaultsAgree h hs fun _ => ?_
  cases hc : s.setup with
  | none => exact hs
  | some c =>
    dsimp only
    have htrip : ∀ n t, FaultsAgree t → FaultsAgree (touchIfMoved s.hc.zones (tripHalts c n t)) := fun n t ht =>
      (tripHalts_law FaultsAgree haltLine_faultsAgree c n ht).reported (by simp)
    split
    · exact htrip _ _ (hs.reported (noteZones_reported _ (raiseEvent_reported (by decide) (by simp))))
    · exact htrip _ _ (hs.reported (noteZones_reported _ (by simp)))

theorem execTensionPeriod_faultsAgree (hs : FaultsAgree s) (h : execTensionPeriod s = .next t) : FaultsAgree t := by
  refine whenOn_law FaultsAgree h hs fun _ => ?_
  have hframe : FaultsAgree { s with tc := { s.tc with frame := none } } := hs
  have hread : FaultsAgree (allAxes.foldl (readAxis s.tc.frame) { s with tc := { s.tc with frame := none } }) :=
    foldl_law FaultsAgree _ (fun s a hs => readAxis_law FaultsAgree haltLine_faultsAgree (fun _ _ _ h => h)
      (fun _ _ h => h.reported (by simp)) _ a hs) _ hframe
  exact hread.reported (by simp)

/-- An acknowledge that leaves FAULT_PENDING leaves the queue as well. -/
theorem clearMarks_faultsAgree {m : BitVec 32} (hm : m.getLsbD 2 = false) (hs : FaultsAgree s) : FaultsAgree (clearMarks m s) := by
  have hlt : Event.faultPending.bit < 32 := by decide
  have hbit : (s.su.events &&& ~~~m).getLsbD Event.faultPending.bit = s.su.events.getLsbD Event.faultPending.bit := by
    rw [BitVec.getLsbD_and, BitVec.getLsbD_not, show m.getLsbD Event.faultPending.bit = false from hm, decide_eq_true hlt]
    simp
  rw [faultsAgree_iff] at hs ⊢
  unfold Status.agrees at hs ⊢
  simpa only [clearMarks, hbit] using hs

/-- An acknowledge that clears FAULT_PENDING discards the oldest fault, and raises the event again for the next (R174). -/
theorem eventAck_faultsAgree {m : BitVec 32} (hs : FaultsAgree s) (h : exec (.eventAck m) s = .next t) : FaultsAgree t := by
  cases hon : s.power.mainOn with
  | false =>
    have hoff : execEventAck m s = .next s := whenOn_off hon
    rw [show exec (.eventAck m) s = .next s from hoff] at h
    cases h
    exact hs
  | true =>
    cases hm : m.getLsbD 2 with
    | false =>
      rw [eventAck_exec m hon, hm] at h
      cases h
      exact clearMarks_faultsAgree hm hs
    | true =>
      obtain ⟨u, hu, -, hdrop, hnext, -⟩ := eventAck_faults m hon
      rw [h] at hu
      cases hu
      obtain ⟨hlen, -⟩ := hs
      refine ⟨?_, ?_⟩
      · rw [hdrop hm, List.length_drop]
        omega
      · rw [hnext hm, hdrop hm, ← List.length_pos_iff, List.length_drop]
        omega

/-- Every command keeps the law: the halt, the resets and CLEAR set its three parts together, and no other command reaches them but for
states other than HALTED and OFF. -/
theorem exec_faultsAgree {i : Instr} {s t : State} (hs : FaultsAgree s) (h : exec i s = .next t) : FaultsAgree t := by
  have hfield : ∀ c, Dispatching .drive c s → FaultsAgree (failField 16 s) := fun c _ => hs.reported (by simp)
  unfold exec at h
  cases i with
  -- Resets, supplies and registers.
  | mainPowerOnReset z st =>
    cases h
    have hreset : FaultsAgree (powerOn z st s) := faultsAgree_reset rfl rfl
    exact hreset.reported (raiseLost_reported (by simp only [resetFrames_frame, reported_refl]))
  | softReset =>
    refine whenOn_law FaultsAgree h hs fun _ => ?_
    have hreset : FaultsAgree (softReset s) := faultsAgree_reset rfl rfl
    exact hreset.reported (by simp only [resetFrames_frame, reported_refl])
  | keepAlivePowerOnReset | mainSupplyLoss =>
    cases h
    exact hs
  | linkReset => exact whenOn_law FaultsAgree h hs fun _ => hs.reported (by simp)
  | runSet | runClear | watchInterval =>
    refine whenOn_law FaultsAgree h hs fun _ => ?_
    obtain ⟨hwd, htc, hsu⟩ := controlWrite_line _ _ s
    exact hs.reported (by rw [hsu]; exact .refl)
  | registerWrite => exact whenOn_law FaultsAgree h hs fun _ => hs
  | irqEnable => exact whenOn_law FaultsAgree h hs fun _ => hs.reported (by simp)
  | eventAck m => exact eventAck_faultsAgree hs h
  | bookBase =>
    refine whenOn_law FaultsAgree h hs fun _ => ?_
    dsimp only
    (repeat' split) <;> exact hs.reported (by simp)
  | wake | watchTimerExpiry =>
    refine whenOn_law FaultsAgree h hs fun _ => ?_
    (repeat' split) <;> exact hs.reported (by simp)
  | statusPageWrite =>
    refine whenOn_law FaultsAgree h hs fun _ => ?_
    split
    · exact hs
    · exact hs.congr (by simp) (by simp)
  -- The chain of cards.
  | chainReadComplete link =>
    refine whenOn_law FaultsAgree h hs fun _ => onChainRead_law FaultsAgree _ hs ?_ ?_ fun t ht => ?_
    · exact fun g t ht => ht
    · exact fun l t ht => ht.reported (by simp)
    · dsimp only
      split <;> exact ht.reported (by simp)
  | cardReadError link | chainReadTimeout link =>
    refine whenOn_law FaultsAgree h hs fun _ => onChainRead_law FaultsAgree _ hs ?_ ?_ fun t ht => ?_
    · exact fun g t ht => ht
    · exact fun l t ht => ht.reported (by simp)
    · dsimp only
      (repeat' split) <;> exact ht.reported (by simp)
  | cardReoffer =>
    refine whenOn_law FaultsAgree h hs fun _ => ?_
    split <;> exact hs.reported (by simp)
  | heat | fabric | load | print | splice | fence =>
    exact onDispatch_law FaultsAgree h hs fun c _ => hs.reported (by simp)
  | drop => exact onDispatch_law FaultsAgree h hs fun c _ => hs.reported (by simp)
  | patch =>
    refine onDispatch_law FaultsAgree h hs fun c _ => ?_
    split <;> exact hs.reported (by simp)
  | setup => exact onDispatch_law FaultsAgree h hs fun c _ => setupCard_faultsAgree c hs
  | start | speed | stop => exact onDrive_law FaultsAgree h hs hfield fun c _ => hs.reported (by simp)
  | clear => exact onDrive_law FaultsAgree h hs hfield fun c _ => clearCard_faultsAgree c hs
  | halt =>
    exact onDrive_law FaultsAgree h hs hfield fun c _ =>
      (haltLine_faultsAgree .host s hs).reported (by simp)
  -- The web and the line.
  | positionUpdate => exact whenOn_law FaultsAgree h hs fun _ => hs.reported (by simp)
  | backTravel | heaterWindow => exact whenOn_law FaultsAgree h hs fun _ => hs
  | drumEncoderReport => exact whenOn_law FaultsAgree h hs fun _ => hs.reported (by simp)
  | tensionFrame | zoneFrame | heaterOnTimeEnd | rawLevelChange =>
    refine whenOn_law FaultsAgree h hs fun _ => ?_
    split <;> exact hs
  | leadAtNip | trailAtNip | leadExit | trailExit | jointLeavesWrap | fabricJointDue | rollCountRequest | drumTravelIncrement =>
    refine whenOn_law FaultsAgree h hs fun _ => ?_
    split <;> exact hs.reported (by simp)
  | handoverLimit =>
    refine whenOn_law FaultsAgree h hs fun _ => ?_
    split
    · exact haltLine_faultsAgree .handover _ (hs.reported (by simp))
    · exact hs
  | spliceTimeout =>
    refine whenOn_law FaultsAgree h hs fun _ => ?_
    dsimp only
    (repeat' split) <;> exact hs.reported (by simp)
  | inputFilterExpiry input =>
    refine whenOn_law FaultsAgree h hs fun _ => ?_
    dsimp only
    (repeat' split)
    · exact hs
    · exact hs
    · exact inputEdge_faultsAgree input _ _ hs
  | rampPeriod => exact execRampPeriod_faultsAgree hs h
  | heatPeriod => exact execHeatPeriod_faultsAgree hs h
  | tensionPeriod => exact execTensionPeriod_faultsAgree hs h
  -- The Print Engine, the Profile Store and the Shadow Patch Buffer.
  | barReport | barSilent | freeing | lookup | printStart | rasterReadComplete | editApply | loaderWriteComplete
  | drainWriteComplete =>
    refine whenOn_law FaultsAgree h hs fun _ => ?_
    (repeat' split) <;> exact hs.reported (by simp)
  | lineComputationBegin | lineBoundary | lineDue =>
    refine whenOn_law FaultsAgree h hs fun _ => ?_
    dsimp only
    (repeat' split) <;> exact hs.reported (by simp)
  | lookupFillComplete damage =>
    refine whenOn_law FaultsAgree h hs fun _ => ?_
    split
    · rename_i r live _
      have hread : FaultsAgree (readCell r.cell damage (portDone s)).2 := hs
      have hfill := serveFill_faultsAgree r live (readCell r.cell damage (portDone s)).1 hread
      dsimp only
      split <;> exact hfill.reported (by simp)
    · exact hs
  | creationReadComplete damage =>
    refine whenOn_law FaultsAgree h hs fun _ => ?_
    split
    · rename_i id node cell k live _
      have hread : FaultsAgree (readCell cell damage (portDone s)).2 := hs
      have hentry := createEntry_faultsAgree id node cell k (readCell cell damage (portDone s)).1 hread
      dsimp only
      split
      · exact hentry.reported (by simp)
      · exact hread.reported (by simp)
    · exact hs
  | rasterReadError | rasterReadTimeout | loadReadError | loadReadTimeout | patchReadError | editListReadTimeout =>
    exact whenOn_law FaultsAgree h hs fun _ => hs.reported (by simp)
  | loadReadComplete =>
    exact whenOn_law FaultsAgree h hs fun _ => onLoadRead_law FaultsAgree hs (fun _ => hs) fun j _ _ =>
      hs.reported (by simp)
  | editListReadComplete =>
    refine whenOn_law FaultsAgree h hs fun _ => onListRead_law FaultsAgree hs (fun _ => hs) fun p _ _ => ?_
    dsimp only
    (repeat' split) <;> exact hs.reported (by simp)


end

/-! ## The limits of the counts and records -/

end Sys2Proof.Machine
end

section
/-! PROOFS. What the laws of the store look at in the strips, the print, the records and the buffer, and which operations leave it; the
limits of the counts and records at every step (chapter 1; R60, R157). -/

namespace Sys2Proof.Machine

/-! ## Strips -/

/-- Where a strip lies, and the fabric it names. -/
def span (g : Segment) : Nat × Nat × Option Nat := (g.start, extentEnd g, g.fabricId)

section
variable (s : State)

/-- A change of a strip that leaves its start, its extent and its fabric. -/
@[simp] theorem updateSeg_spans {start : Nat} {f : Segment → Segment} (hf : ∀ g, span (f g) = span g) :
    (updateSeg start f s).tmap.segs.map span = s.tmap.segs.map span := by
  simp only [updateSeg, List.map_map]
  refine List.map_congr_left fun g _ => ?_
  dsimp only [Function.comp]
  split
  · exact hf g
  · rfl

@[simp] theorem addJoint_spans (c : Nat) : (addJoint c s).tmap.segs.map span = s.tmap.segs.map span := by
  unfold addJoint
  split
  · rfl
  · simp only [List.map_map]
    refine List.map_congr_left fun g _ => ?_
    dsimp only [Function.comp, spoilByJoint]
    split <;> rfl

@[simp] theorem makeJoint_spans (a : Unwind) : (makeJoint a s).2.tmap.segs.map span = s.tmap.segs.map span := by
  cases a <;> simp [makeJoint]

@[simp] theorem completeSplice_spans (a : Unwind) : (completeSplice a s).tmap.segs.map span = s.tmap.segs.map span := by
  unfold completeSplice
  dsimp only
  split <;> simp

@[simp] theorem ackInactive_spans (a : Unwind) : (ackInactive a s).tmap.segs.map span = s.tmap.segs.map span := by
  unfold ackInactive
  split <;> simp

@[simp] theorem flagParity_spans (id : Nat) : (flagParity id s).tmap.segs.map span = s.tmap.segs.map span := by
  unfold flagParity
  (repeat' split)
  · exact updateSeg_spans s fun g => rfl
  · rfl
  · rfl

@[simp] theorem noteParity_spans (id node cell : Nat) (src : ParitySource) (marks : Byte) :
    (noteParity id node cell src marks s).tmap.segs.map span = s.tmap.segs.map span := by
  unfold noteParity
  split <;> simp

theorem sendLine_spans (c : Settings) (j : PrintJob) (l : LineSlot) : (sendLine c j l s).tmap.segs.map span = s.tmap.segs.map span := by
  unfold sendLine
  exact updateSeg_spans _ fun g => rfl

@[simp] theorem dueLine_spans (c : Settings) (j : PrintJob) (n : Nat) : (dueLine c j n s).tmap.segs.map span = s.tmap.segs.map span := by
  have hlate : (updateSeg j.start (lateSeg c.lateLimit) s).tmap.segs.map span = s.tmap.segs.map span :=
    updateSeg_spans s fun g => by unfold lateSeg; dsimp only; split <;> rfl
  unfold dueLine
  dsimp only
  (repeat' split) <;> simp [hlate, sendLine_spans]

@[simp] theorem comparePos_segs : (comparePos s).tmap.segs = s.tmap.segs := rfl

@[simp] theorem spoilAtNip_spans : (spoilAtNip s).tmap.segs.map span = s.tmap.segs.map span := by
  unfold spoilAtNip
  (repeat' split)
  · rfl
  · rfl
  · exact updateSeg_spans s fun g => rfl
  · rfl

@[simp] theorem checkDeviations_spans (frame : Option (List TensionReading)) :
    (checkDeviations frame s).tmap.segs.map span = s.tmap.segs.map span := by
  unfold checkDeviations
  split
  · simp only [List.map_map]
    refine List.map_congr_left fun g _ => ?_
    dsimp only [Function.comp, deviationSeg, checkDeviation]
    (repeat' split) <;> rfl
  · rfl

theorem countDose_span (zones : List Zone) (g : Segment) : span (countDose zones g) = span g := by
  unfold countDose
  dsimp only
  (repeat' split) <;> rfl

end

/-! ## The print -/

/-- The profile of a job, and whether a line of it is computing. -/
def jobTag (j : PrintJob) : Nat × Bool := (j.card.profileId, j.comp.isSome)

section
variable (s : State)

@[simp] theorem setBar_print (n : Nat) (f : Bar → Bar) : (setBar n f s).pe.queue = s.pe.queue ∧ (setBar n f s).pe.state = s.pe.state ∧
    (setBar n f s).pe.job = s.pe.job := ⟨rfl, rfl, rfl⟩

@[simp] theorem clearRead_print : (clearRead s).pe.queue = s.pe.queue ∧ (clearRead s).pe.state = s.pe.state ∧
    (clearRead s).pe.job = s.pe.job := ⟨rfl, rfl, rfl⟩

/-- A start test leaves the queue, the engine's state and the job. -/
@[simp] theorem touchStart_print : (touchStart s).pe.queue = s.pe.queue ∧ (touchStart s).pe.state = s.pe.state ∧
    (touchStart s).pe.job = s.pe.job := by
  unfold touchStart noteFirst
  (repeat' split) <;> exact ⟨rfl, rfl, rfl⟩

@[simp] theorem touchIfMoved_print (l : List Zone) : (touchIfMoved l s).pe.queue = s.pe.queue ∧
    (touchIfMoved l s).pe.state = s.pe.state ∧ (touchIfMoved l s).pe.job = s.pe.job := by
  unfold touchIfMoved
  split <;> simp

/-- A change of a job that leaves its profile, and whether a line of it is computing. -/
theorem setJob_tag {f : PrintJob → PrintJob} (hf : ∀ j, jobTag (f j) = jobTag j) :
    (setJob f s).pe.job.map jobTag = s.pe.job.map jobTag := by
  cases h : s.pe.job with
  | none => simp [setJob, h]
  | some j => simp [setJob, h, hf j]

@[simp] theorem fetchRaster_print : (fetchRaster s).pe.queue = s.pe.queue ∧ (fetchRaster s).pe.state = s.pe.state ∧
    (fetchRaster s).pe.job.map jobTag = s.pe.job.map jobTag := by
  rw [fetchRaster_eq]
  exact ⟨rfl, rfl, setJob_tag s (f := trimWindow) fun _ => rfl⟩

@[simp] theorem comparePos_print : (comparePos s).pe.queue = s.pe.queue ∧ (comparePos s).pe.state = s.pe.state ∧
    (comparePos s).pe.job.map jobTag = s.pe.job.map jobTag :=
  ⟨rfl, rfl, setJob_tag s (f := fun j => { j with reached := max j.reached (linesReached s.web.pos (pitchOf s) j) }) fun _ => rfl⟩

@[simp] theorem serveCorner_print (h : ProfileHeader) (v : CellValue) : (serveCorner h v s).pe.queue = s.pe.queue ∧
    (serveCorner h v s).pe.state = s.pe.state ∧ (serveCorner h v s).pe.job.map jobTag = s.pe.job.map jobTag :=
  ⟨rfl, rfl, setJob_tag s fun _ => by simp [jobTag]⟩

@[simp] theorem fillCorner_print (r : FillRequest) (c : StoreCell) : (fillCorner r c s).pe.queue = s.pe.queue ∧
    (fillCorner r c s).pe.state = s.pe.state ∧ (fillCorner r c s).pe.job.map jobTag = s.pe.job.map jobTag := by
  unfold fillCorner
  split <;> simp

@[simp] theorem askFill_print (r : FillRequest) : (askFill r s).pe.queue = s.pe.queue ∧
    (askFill r s).pe.state = s.pe.state ∧ (askFill r s).pe.job.map jobTag = s.pe.job.map jobTag :=
  ⟨rfl, rfl, setJob_tag (setArb _ s) fun _ => by simp [jobTag]⟩

@[simp] theorem heldLookup_print : (heldLookup s).pe.queue = s.pe.queue ∧ (heldLookup s).pe.state = s.pe.state ∧
    (heldLookup s).pe.job.map jobTag = s.pe.job.map jobTag := by
  unfold heldLookup
  (repeat' split) <;> simp

@[simp] theorem dueLine_print (c : Settings) (j : PrintJob) (n : Nat) : (dueLine c j n s).pe.queue = s.pe.queue ∧
    (dueLine c j n s).pe.state = s.pe.state ∧ (dueLine c j n s).pe.job.map jobTag = s.pe.job.map jobTag := by
  rw [dueLine_eq]
  exact ⟨rfl, rfl, setJob_tag s (f := fellDue n) fun _ => rfl⟩

@[simp] theorem abandonLine_print : (abandonLine s).pe.queue = s.pe.queue ∧ (abandonLine s).pe.state = s.pe.state := by
  unfold abandonLine
  split <;> simp

@[simp] theorem queue_endJob : (endJob s).pe.queue = s.pe.queue := endJob_queue s

@[simp] theorem haltPrint_queue : (haltPrint s).pe.queue = s.pe.queue := by simp [haltPrint]

@[simp] theorem queue_takeHalt (cause : HaltCause) : (takeHalt cause s).pe.queue = s.pe.queue := takeHalt_queue cause s

@[simp] theorem haltLine_queue (cause : HaltCause) : (haltLine cause s).pe.queue = s.pe.queue := by
  unfold haltLine
  split <;> simp

/-- Nothing that may halt the line reaches the queue. -/
theorem queue_edges {l : List QueuedPrint} (i : LineInput) (active : Bool) (h : s.pe.queue = l) : (inputEdge i active s).pe.queue = l :=
  inputEdge_law (fun s => s.pe.queue = l) (fun cause u hu => (haltLine_queue u cause).trans hu) (fun _ _ hu => by simpa using hu)
    (fun _ _ hu => by simpa using hu) (fun _ _ hu => by simpa using hu) i active h

@[simp] theorem inputEdge_queue (i : LineInput) (active : Bool) : (inputEdge i active s).pe.queue = s.pe.queue :=
  queue_edges s i active rfl

@[simp] theorem polarityEdges_queue (before : State) : (polarityEdges before s).pe.queue = s.pe.queue :=
  polarityEdges_law (fun u => u.pe.queue = s.pe.queue) (fun i active u hu => queue_edges u i active hu) before rfl

@[simp] theorem parityHalt_queue (marks : Byte) : (parityHalt marks s).pe.queue = s.pe.queue :=
  parityHalt_law (fun u => u.pe.queue = s.pe.queue) (fun cause u hu => (haltLine_queue u cause).trans hu) marks rfl

@[simp] theorem tripHalts_queue (c : Settings) (n : Nat) : (tripHalts c n s).pe.queue = s.pe.queue :=
  tripHalts_law (fun u => u.pe.queue = s.pe.queue) (fun cause u hu => (haltLine_queue u cause).trans hu) c n rfl

@[simp] theorem readAxis_queue (frame : Option (List TensionReading)) (a : Axis) : (readAxis frame s a).pe.queue = s.pe.queue :=
  readAxis_law (fun u => u.pe.queue = s.pe.queue) (fun cause u hu => (haltLine_queue u cause).trans hu) (fun _ _ _ hu => hu)
    (fun _ _ hu => by simpa using hu) frame a rfl

@[simp] theorem heatCard_queue (c : CurrentCard) : (heatCard c s).pe.queue = s.pe.queue := by
  unfold heatCard
  dsimp only
  (repeat' split) <;> simp

@[simp] theorem startCard_queue (c : CurrentCard) : (startCard c s).pe.queue = s.pe.queue := by
  unfold startCard
  (repeat' split) <;> simp

@[simp] theorem stopCard_queue (c : CurrentCard) : (stopCard c s).pe.queue = s.pe.queue := by
  unfold stopCard
  split <;> simp

@[simp] theorem setupCard_queue (c : CurrentCard) : (setupCard c s).pe.queue = s.pe.queue := by
  unfold setupCard
  dsimp only
  (repeat' split)
  · simp
  · simp
  · simp [applySetup, takeSettings]

@[simp] theorem lookupCell_queue (h : ProfileHeader) (r : FillRequest) : (lookupCell h r s).pe.queue = s.pe.queue := by
  unfold lookupCell
  (repeat' split) <;> simp

@[simp] theorem serveFill_queue (r : FillRequest) (live : Bool) (c : StoreCell) : (serveFill r live c s).pe.queue = s.pe.queue := by
  have hcorner : (if live then fillCorner r c s else s).pe.queue = s.pe.queue := by
    split <;> simp
  unfold serveFill
  rw [parityHalt_queue, (noteParity_frame _ _ _ _ _ _).2.2.2.2.2.2.2.2.2.2.2.1]
  split
  · simpa using hcorner
  · exact hcorner

@[simp] theorem createEntry_queue (id node cell k : Nat) (c : StoreCell) : (createEntry id node cell k c s).pe.queue = s.pe.queue := by
  unfold createEntry
  (repeat' split)
  · rfl
  · rw [parityHalt_queue]
    simp
  · rfl

@[simp] theorem advanceLoad_queue : (advanceLoad s).pe.queue = s.pe.queue := by
  unfold advanceLoad loadDone
  dsimp only
  (repeat' split) <;> simp

@[simp] theorem rasterFails_queue (kind : ReadFailure) : (rasterFails kind s).pe.queue = s.pe.queue := by
  unfold rasterFails
  (repeat' split) <;> simp

@[simp] theorem finishPrint_queue : (finishPrint s).pe.queue = s.pe.queue := by
  unfold finishPrint
  dsimp only
  split <;> simp

end

/-! ## The queue -/

section
variable {l : List QueuedPrint} {s : State}

/-- Cards leave the queue as they fail; none joins it. -/
@[simp] theorem failQueued_queue (rc : ResultCode) (fields : List (Nat × List Byte)) (q : QueuedPrint) (hl : s.pe.queue.Sublist l) :
    (failQueued rc fields q s).pe.queue.Sublist l := by
  rw [failQueued_pe]
  exact List.filter_sublist.trans hl

@[simp] theorem failQueuedOf_queue (id : Nat) (hl : s.pe.queue.Sublist l) : (failQueuedOf id s).pe.queue.Sublist l :=
  foldl_law (fun s => s.pe.queue.Sublist l) _ (fun _ q hs => failQueued_queue _ _ q hs) _ hl

@[simp] theorem flushQueue_queue (hl : s.pe.queue.Sublist l) : (flushQueue s).pe.queue.Sublist l :=
  foldl_law (fun s => s.pe.queue.Sublist l) _ (fun _ q hs => failQueued_queue _ _ q hs) _ hl

@[simp] theorem loadReadFails_queue (hl : s.pe.queue.Sublist l) : (loadReadFails s).pe.queue.Sublist l := by
  unfold loadReadFails onLoadRead
  (repeat' split) <;> simp [hl]

@[simp] theorem dropCard_queue (c : CurrentCard) (hl : s.pe.queue.Sublist l) : (dropCard c s).pe.queue.Sublist l := by
  unfold dropCard
  dsimp only
  (repeat' split) <;> simp [hl]

@[simp] theorem clearCard_queue (c : CurrentCard) (hl : s.pe.queue.Sublist l) : (clearCard c s).pe.queue.Sublist l := by
  unfold clearCard
  dsimp only
  (repeat' split) <;> simp [hl]

@[simp] theorem startPrint_queue (q : QueuedPrint) (c : Settings) (h : ProfileHeader) (hl : s.pe.queue.Sublist l) :
    (startPrint q c h s).pe.queue.Sublist l := by
  have hdrop : (startPrint q c h s).pe.queue = s.pe.queue.drop 1 := by simp [startPrint]
  rw [hdrop]
  exact (List.drop_sublist 1 _).trans hl

end

/-! ## The limits of the map -/

/-- The map holds at most 62 strips and two joints (R3, R11). -/
def MapFits (m : TransitMap) : Prop := m.segs.length ≤ 62 ∧ m.joints.length ≤ 2

section
variable {s : State}

theorem MapFits.of_spans {m n : TransitMap} (h : MapFits m) (hs : n.segs.map span = m.segs.map span) (hj : n.joints = m.joints) :
    MapFits n := by
  have hlen := congrArg List.length hs
  simp only [List.length_map] at hlen
  unfold MapFits
  rw [hlen, hj]
  exact h

@[simp] theorem updateSeg_fits (start : Nat) (f : Segment → Segment) (h : MapFits s.tmap) : MapFits (updateSeg start f s).tmap := by
  obtain ⟨hsegs, hjoints⟩ := h
  exact ⟨by simpa [updateSeg] using hsegs, hjoints⟩

@[simp] theorem addJoint_fits (c : Nat) (h : MapFits s.tmap) : MapFits (addJoint c s).tmap := by
  rcases Nat.lt_or_ge s.tmap.joints.length 2 with hlt | hge
  · obtain ⟨pre, post, hpre, hins, -⟩ := insertJoint_splits ⟨jointCoordinate s.tmap c, false⟩ s.tmap.joints
    rw [addJoint_adds hlt]
    refine ⟨by simpa using h.1, ?_⟩
    dsimp only
    have hlen := congrArg List.length hpre
    rw [hins]
    simp only [List.length_append, List.length_cons] at hlen ⊢
    omega
  · rwa [addJoint_full hge]

@[simp] theorem makeJoint_fits (a : Unwind) (h : MapFits s.tmap) : MapFits (makeJoint a s).2.tmap := by
  cases a
  · exact addJoint_fits _ h
  · exact h

@[simp] theorem completeSplice_fits (a : Unwind) (h : MapFits s.tmap) : MapFits (completeSplice a s).tmap := by
  unfold completeSplice
  dsimp only
  split <;> simp [h]

@[simp] theorem ackInactive_fits (a : Unwind) (h : MapFits s.tmap) : MapFits (ackInactive a s).tmap := by
  unfold ackInactive
  split <;> simp [h]

@[simp] theorem flagParity_fits (id : Nat) (h : MapFits s.tmap) : MapFits (flagParity id s).tmap := by
  unfold flagParity
  (repeat' split) <;> simp [h]

@[simp] theorem noteParity_fits (id node cell : Nat) (src : ParitySource) (marks : Byte) (h : MapFits s.tmap) :
    MapFits (noteParity id node cell src marks s).tmap := by
  unfold noteParity
  split <;> simp [h]

@[simp] theorem setPrintEnd_fits (h : MapFits s.tmap) : MapFits (setPrintEnd s).tmap := by
  unfold setPrintEnd
  split <;> simp [h]

@[simp] theorem endPrint_fits (h : MapFits s.tmap) : MapFits (endPrint s).tmap := by
  unfold endPrint
  dsimp only
  (repeat' split) <;> simp [h]

@[simp] theorem removeSeg_fits (g : Segment) (h : MapFits s.tmap) : MapFits (removeSeg g s).tmap := by
  obtain ⟨hsegs, hjoints⟩ := h
  simp only [removeSeg, raiseEvent_frame, releaseFabric_frame]
  exact ⟨(List.length_filter_le _ _).trans hsegs, hjoints⟩

@[simp] theorem takeHalt_fits (cause : HaltCause) (h : MapFits s.tmap) : MapFits (takeHalt cause s).tmap := by
  rw [takeHalt_tmap]
  exact ⟨Nat.zero_le _, h.2⟩

@[simp] theorem haltLine_fits (cause : HaltCause) (h : MapFits s.tmap) : MapFits (haltLine cause s).tmap := by
  unfold haltLine
  split <;> simp [h]

@[simp] theorem dueLine_fits (c : Settings) (j : PrintJob) (n : Nat) (h : MapFits s.tmap) : MapFits (dueLine c j n s).tmap :=
  h.of_spans (by simp) (by rw [dueLine_eq])

@[simp] theorem finishPrint_fits (h : MapFits s.tmap) : MapFits (finishPrint s).tmap := by
  unfold finishPrint
  dsimp only
  split <;> simp [h]

@[simp] theorem rasterFails_fits (kind : ReadFailure) (h : MapFits s.tmap) : MapFits (rasterFails kind s).tmap := by
  unfold rasterFails
  (repeat' split) <;> simp [h]

@[simp] theorem comparePos_fits (h : MapFits s.tmap) : MapFits (comparePos s).tmap := by
  refine ⟨h.1, ?_⟩
  cases hset : s.setup with
  | none =>
    rw [comparePos_joints_none hset]
    exact h.2
  | some g =>
    rw [comparePos_joints_some hset]
    simpa using h.2

@[simp] theorem spoilAtNip_fits (h : MapFits s.tmap) : MapFits (spoilAtNip s).tmap := by
  unfold spoilAtNip
  (repeat' split) <;> simp [h]

@[simp] theorem checkDeviations_fits (frame : Option (List TensionReading)) (h : MapFits s.tmap) :
    MapFits (checkDeviations frame s).tmap := by
  unfold checkDeviations
  split
  · exact ⟨by simpa using h.1, h.2⟩
  · exact h

@[simp] theorem inputEdge_fits (i : LineInput) (active : Bool) (h : MapFits s.tmap) : MapFits (inputEdge i active s).tmap :=
  inputEdge_law (fun s => MapFits s.tmap) (fun cause _ hs => haltLine_fits cause hs) (fun _ _ hs => by simpa using hs)
    (fun _ _ hs => by simpa using hs) (fun a _ hs => ackInactive_fits a hs) i active h

@[simp] theorem polarityEdges_fits (before : State) (h : MapFits s.tmap) : MapFits (polarityEdges before s).tmap :=
  polarityEdges_law (fun s => MapFits s.tmap) (fun i active _ hs => inputEdge_fits i active hs) before h

@[simp] theorem parityHalt_fits (marks : Byte) (h : MapFits s.tmap) : MapFits (parityHalt marks s).tmap :=
  parityHalt_law (fun s => MapFits s.tmap) (fun cause _ hs => haltLine_fits cause hs) marks h

@[simp] theorem tripHalts_fits (c : Settings) (n : Nat) (h : MapFits s.tmap) : MapFits (tripHalts c n s).tmap :=
  tripHalts_law (fun s => MapFits s.tmap) (fun cause _ hs => haltLine_fits cause hs) c n h

@[simp] theorem readAxis_fits (frame : Option (List TensionReading)) (a : Axis) (h : MapFits s.tmap) : MapFits (readAxis frame s a).tmap :=
  readAxis_law (fun s => MapFits s.tmap) (fun cause _ hs => haltLine_fits cause hs) (fun _ _ _ hs => hs) (fun _ _ hs => by simpa using hs)
    frame a h

@[simp] theorem serveFill_fits (r : FillRequest) (live : Bool) (c : StoreCell) (h : MapFits s.tmap) :
    MapFits (serveFill r live c s).tmap := by
  unfold serveFill
  refine parityHalt_fits _ (noteParity_fits _ _ _ _ _ ?_)
  (repeat' split) <;> simp [h]

@[simp] theorem createEntry_fits (id node cell k : Nat) (c : StoreCell) (h : MapFits s.tmap) :
    MapFits (createEntry id node cell k c s).tmap := by
  unfold createEntry
  (repeat' split)
  · exact h
  · exact parityHalt_fits _ (by simp [h])
  · exact h

theorem linkDown_fits (h : MapFits s.tmap) : MapFits (linkDown s).tmap := by
  have hmap : MapFits (orphanMap (stopLoader (stopPatch { s with regs := ⟨false, 0, 0, 0⟩, ce := resetEngine s.ce }))).tmap := by
    have hend : ∀ u : State, MapFits u.tmap → MapFits (setPrintEnd (abandonLine u)).tmap := fun u hu => setPrintEnd_fits (by simpa using hu)
    simp only [orphanMap, endJob_frame]
    obtain ⟨hsegs, hjoints⟩ := hend (stopLoader (stopPatch { s with regs := ⟨false, 0, 0, 0⟩, ce := resetEngine s.ce })) (by simpa using h)
    exact ⟨by simpa using hsegs, hjoints⟩
  simpa [linkDown] using hmap

end

/-! ## The limits at every step -/

section
variable {s t : State}

/-- What leaves the web position and the registers, keeps the map within its limits, and adds nothing to the queue keeps the limits. -/
theorem WithinLimits.calm (hs : WithinLimits s) (hweb : t.web = s.web) (hregs : t.regs = s.regs) (hmap : MapFits s.tmap → MapFits t.tmap)
    (hq : t.pe.queue.Sublist s.pe.queue) : WithinLimits t := by
  obtain ⟨hpos, hback, hsegs, hjoints, hlen, hbase, hirq⟩ := hs
  obtain ⟨hsegs', hjoints'⟩ := hmap ⟨hsegs, hjoints⟩
  unfold WithinLimits
  rw [hweb, hregs]
  exact ⟨hpos, hback, hsegs', hjoints', hq.length_le.trans hlen, hbase, hirq⟩

/-- The registers that a law of the limits looks at hold no mark beyond their fields (R157). -/
def RegsFit (r : Registers) : Prop := r.bookBase &&& 0xFFF#64 = 0 ∧ r.irqEnable &&& ~~~eventMarks = 0

theorem WithinLimits.regs (hs : WithinLimits s) : RegsFit s.regs := by
  obtain ⟨-, -, -, -, -, hbase, hirq⟩ := hs
  exact ⟨hbase, hirq⟩

/-- What changes the registers alone, within their fields, keeps the limits. -/
theorem WithinLimits.withRegs (hs : WithinLimits s) (hweb : t.web = s.web) (hmap : t.tmap = s.tmap) (hpe : t.pe = s.pe)
    (hregs : RegsFit t.regs) : WithinLimits t := by
  obtain ⟨hpos, hback, hsegs, hjoints, hlen, -, -⟩ := hs
  obtain ⟨hbase, hirq⟩ := hregs
  unfold WithinLimits
  rw [hweb, hmap, hpe]
  exact ⟨hpos, hback, hsegs, hjoints, hlen, hbase, hirq⟩

theorem and_and_not {w : Nat} (x c : BitVec w) : x &&& c &&& ~~~c = 0 := by
  rw [BitVec.and_assoc, BitVec.and_not_self]
  exact BitVec.and_zero

theorem and_not_and {w : Nat} (x c : BitVec w) : x &&& ~~~c &&& c = 0 := by
  rw [BitVec.and_assoc, BitVec.and_comm (~~~c), BitVec.and_not_self]
  exact BitVec.and_zero

theorem execBookBase_withinLimits {v : BitVec 64} (hs : WithinLimits s) (h : execBookBase v s = .next t) : WithinLimits t := by
  refine whenOn_law WithinLimits h hs fun _ => ?_
  obtain ⟨-, hirq⟩ := hs.regs
  dsimp only
  (repeat' split)
  · exact hs.withRegs (by simp) (by simp) (by simp) ⟨by simpa using and_not_and v 0xFFF#64, by simpa using hirq⟩
  · exact hs.withRegs rfl rfl rfl ⟨and_not_and v 0xFFF#64, hirq⟩
  · exact hs

theorem controlWrite_withinLimits (run : Bool) (interval : BitVec 8) (hs : WithinLimits s) : WithinLimits (controlWrite run interval s) := by
  have hregs : RegsFit { s.regs with run := run, interval := interval } := hs.regs
  unfold controlWrite
  dsimp only
  (repeat' split) <;> exact hs.withRegs (by simp) (by simp) (by simp) (by simpa using hregs)

/-- The web position stops at its top, and so does the back-travel amount (R1). -/
theorem WithinLimits.forward (hs : WithinLimits s) (inc : Nat) : WithinLimits { s with web := Machine.forward inc s.web } := by
  obtain ⟨hpos, hback, hrest⟩ := hs
  refine ⟨?_, ?_, hrest⟩
  · simp only [Machine.forward, maxPos]
    omega
  · simp only [Machine.forward]
    omega

theorem WithinLimits.reverse (hs : WithinLimits s) (inc : Nat) : WithinLimits { s with web := reverseTravel inc s.web } := by
  obtain ⟨hpos, hback, hrest⟩ := hs
  refine ⟨hpos, ?_, hrest⟩
  simp only [reverseTravel, maxBack]
  omega

/-- A card joins a queue of fewer than four (R60). -/
theorem printCard_withinLimits (c : CurrentCard) (hs : WithinLimits s) : WithinLimits (printCard c s) := by
  have hrefused : ∀ f : State → State, (f s).web = s.web → (f s).regs = s.regs → (f s).tmap = s.tmap → (f s).pe = s.pe → WithinLimits (f s) :=
    fun f hweb hregs hmap hpe => hs.calm hweb hregs (by rw [hmap]; exact id) (by rw [hpe])
  unfold printCard
  dsimp only
  (repeat' split)
  case isFalse hroom =>
    obtain ⟨hpos, hback, hsegs, hjoints, -, hbase, hirq⟩ := hs
    have hqueue : (enqueuePrint (parsePrint c) s).pe.queue = s.pe.queue ++ [parsePrint c] := by
      unfold enqueuePrint
      dsimp only
      split <;> simp
    unfold WithinLimits
    rw [hqueue]
    refine ⟨by simpa using hpos, by simpa using hback, by simpa using hsegs, by simpa using hjoints, ?_, by simpa using hbase, by simpa using hirq⟩
    rw [List.length_append, List.length_singleton]
    omega
  all_goals exact hrefused _ (by simp) (by simp) (by simp) (by simp)

/-- A print starts where the map has room for its strip (R3, R4). -/
theorem startTest_room {q : QueuedPrint} (h : startTest s q = none) : s.tmap.segs.length < 62 := by
  by_contra hfull
  have hge : 62 ≤ s.tmap.segs.length := by omega
  unfold startTest at h
  dsimp only at h
  (repeat' split at h) <;> simp_all

theorem judgement_room {q : QueuedPrint} (h : judgement s q = none) : s.tmap.segs.length < 62 := by
  unfold judgement at h
  split at h
  · exact startTest_room (Option.or_eq_none_iff.mp h).2
  · exact startTest_room h

theorem startPrint_withinLimits (q : QueuedPrint) (c : Settings) (g : ProfileHeader) (hs : WithinLimits s) (hroom : s.tmap.segs.length < 62) :
    WithinLimits (startPrint q c g s) := by
  obtain ⟨hpos, hback, -, hjoints, hlen, hbase, hirq⟩ := hs
  have hqueue := (startPrint_queue q c g (List.Sublist.refl s.pe.queue)).length_le
  unfold WithinLimits
  refine ⟨by simpa [startPrint] using hpos, by simpa [startPrint] using hback, ?_, by simpa [startPrint] using hjoints,
    hqueue.trans hlen, by simpa [startPrint] using hbase, by simpa [startPrint] using hirq⟩
  simpa [startPrint] using hroom

theorem haltLine_withinLimits (cause : HaltCause) (hs : WithinLimits s) : WithinLimits (haltLine cause s) :=
  hs.calm (by simp) (by simp) (fun hm => by simp [hm]) (by simp)

theorem setupCard_withinLimits (k : CurrentCard) (hs : WithinLimits s) : WithinLimits (setupCard k s) := by
  refine hs.calm (by simp) (by simp) (fun hm => ?_) (by simp)
  unfold setupCard
  dsimp only
  (repeat' split)
  · simp [hm]
  · simp [hm]
  · simp [applySetup, takeSettings, hm]

theorem execRampPeriod_withinLimits (hs : WithinLimits s) (h : execRampPeriod s = .next t) : WithinLimits t := by
  refine whenOn_law WithinLimits h hs fun _ => ?_
  dsimp only
  (repeat' split) <;> exact hs.calm (by simp) (by simp) (fun hm => by simp [hm]) (by simp)

theorem execHeatPeriod_withinLimits (hs : WithinLimits s) (h : execHeatPeriod s = .next t) : WithinLimits t := by
  refine whenOn_law WithinLimits h hs fun _ => ?_
  split
  · exact hs
  · dsimp only
    have hmap : ∀ zones, MapFits s.tmap → MapFits { s.tmap with segs := s.tmap.segs.map (countDose zones) } := fun zones hm =>
      ⟨by simpa using hm.1, hm.2⟩
    split <;> exact hs.calm (by simp) (by simp) (fun hm => by simp [hmap _ hm]) (by simp)

theorem execTensionPeriod_withinLimits (hs : WithinLimits s) (h : execTensionPeriod s = .next t) : WithinLimits t := by
  refine whenOn_law WithinLimits h hs fun _ => ?_
  have hframe : WithinLimits { s with tc := { s.tc with frame := none } } := hs
  have hread : WithinLimits (allAxes.foldl (readAxis s.tc.frame) { s with tc := { s.tc with frame := none } }) :=
    foldl_law WithinLimits _ (fun s a hs => hs.calm (by simp) (by simp) (fun hm => by simp [hm]) (by simp)) _ hframe
  exact hread.calm (by simp) (by simp) (fun hm => by simp [hm]) (by simp)

/-- Every command keeps the law: the halt, the resets and CLEAR set its three parts together, and no other command reaches them but for
states other than HALTED and OFF. -/
theorem exec_withinLimits {i : Instr} {s t : State} (hs : WithinLimits s) (h : exec i s = .next t) : WithinLimits t := by
  have hfield : ∀ c, Dispatching .drive c s → WithinLimits (failField 16 s) := fun c _ => hs.calm (by simp) (by simp) (fun hm => by simp [hm]) (by simp)
  unfold exec at h
  cases i with
  -- Resets, supplies and registers.
  | mainPowerOnReset z st =>
    cases h
    have hreset : WithinLimits (powerOn z st s) := ⟨Nat.two_pow_pos 48, Nat.two_pow_pos 24, Nat.zero_le _, Nat.zero_le _,
      Nat.zero_le _, BitVec.zero_and, BitVec.zero_and⟩
    refine hreset.calm ?_ ?_ ?_ ?_ <;> simp only [raiseLost_frame, resetFrames_frame]
    · exact id
    · exact .refl _
  | softReset =>
    refine whenOn_law WithinLimits h hs fun _ => ?_
    have hreset : WithinLimits (softReset s) := by
      obtain ⟨hpos, hback, -, -, -, hbase, hirq⟩ := hs
      exact ⟨hpos, hback, Nat.zero_le _, Nat.zero_le _, Nat.zero_le _, hbase, hirq⟩
    refine hreset.calm ?_ ?_ ?_ ?_ <;> simp only [resetFrames_frame]
    · exact id
    · exact .refl _
  | keepAlivePowerOnReset | mainSupplyLoss =>
    cases h
    exact hs
  | linkReset =>
    refine whenOn_law WithinLimits h hs fun _ => ?_
    obtain ⟨hsegs, hjoints⟩ := linkDown_fits (s := s) ⟨hs.2.2.1, hs.2.2.2.1⟩
    obtain ⟨hpos, hback, -⟩ := hs
    unfold WithinLimits
    simp only [offerFault_frame, linkDown_queue]
    refine ⟨by simpa using hpos, by simpa using hback, hsegs, hjoints, Nat.zero_le _, ?_, ?_⟩ <;> simp [linkDown]
  | runSet | runClear | watchInterval => exact whenOn_law WithinLimits h hs fun _ => controlWrite_withinLimits _ _ hs
  | registerWrite => exact whenOn_law WithinLimits h hs fun _ => hs
  | irqEnable m =>
    refine whenOn_law WithinLimits h hs fun _ => ?_
    obtain ⟨hbase, -⟩ := hs.regs
    exact hs.withRegs (by simp) (by simp) (by simp) ⟨by simpa using hbase, by simpa using and_and_not m eventMarks⟩
  | eventAck =>
    refine whenOn_law WithinLimits h hs fun _ => ?_
    dsimp only
    split
    · unfold discardOldest
      dsimp only
      (repeat' split) <;> exact hs.calm (by simp) (by simp) (fun hm => by simp [hm]) (by simp)
    · exact hs
  | bookBase => exact execBookBase_withinLimits hs h
  | wake | watchTimerExpiry | statusPageWrite =>
    refine whenOn_law WithinLimits h hs fun _ => ?_
    (repeat' split) <;> exact hs.calm (by simp) (by simp) (fun hm => by simp [hm]) (by simp)
  -- The chain of cards.
  | chainReadComplete link =>
    refine whenOn_law WithinLimits h hs fun _ => onChainRead_law WithinLimits _ hs ?_ ?_ fun t ht => ?_
    · exact fun g t ht => ht
    · exact fun l t ht => ht.calm (by simp) (by simp) (fun hm => by simp [hm]) (by simp)
    · dsimp only
      split <;> exact ht.calm (by simp) (by simp) (fun hm => by simp [hm]) (by simp)
  | cardReadError link | chainReadTimeout link =>
    refine whenOn_law WithinLimits h hs fun _ => onChainRead_law WithinLimits _ hs ?_ ?_ fun t ht => ?_
    · exact fun g t ht => ht
    · exact fun l t ht => ht.calm (by simp) (by simp) (fun hm => by simp [hm]) (by simp)
    · dsimp only
      (repeat' split) <;> exact ht.calm (by simp) (by simp) (fun hm => by simp [hm]) (by simp)
  | cardReoffer =>
    refine whenOn_law WithinLimits h hs fun _ => ?_
    split
    · rename_i c _ _ _
      have hdue : WithinLimits (setEngine (fun e => { e with offerDue := false }) s) := hs
      unfold reoffer
      split
      · exact printCard_withinLimits c hdue
      all_goals exact hdue.calm (by simp) (by simp) (fun hm => by simpa using hm) (by simp)
    · exact hs
  | print => exact onDispatch_law WithinLimits h hs fun c _ => printCard_withinLimits c hs
  | heat | fabric | load | splice | fence =>
    exact onDispatch_law WithinLimits h hs fun c _ => hs.calm (by simp) (by simp) (fun hm => by simp [hm]) (by simp)
  | drop => exact onDispatch_law WithinLimits h hs fun c _ => hs.calm (by simp) (by simp) (fun hm => by simp [hm]) (by simp)
  | patch =>
    refine onDispatch_law WithinLimits h hs fun c _ => ?_
    split <;> exact hs.calm (by simp) (by simp) (fun hm => by simp [hm]) (by simp)
  | setup => exact onDispatch_law WithinLimits h hs fun c _ => setupCard_withinLimits c hs
  | start | speed | stop | clear => exact onDrive_law WithinLimits h hs hfield fun c _ => hs.calm (by simp) (by simp) (fun hm => by simp [hm]) (by simp)
  | halt =>
    exact onDrive_law WithinLimits h hs hfield fun c _ =>
      (haltLine_withinLimits .host hs).calm (by simp) (by simp) (fun hm => by simp [hm]) (by simp)
  -- The web and the line.
  | positionUpdate inc =>
    refine whenOn_law WithinLimits h hs fun _ => (hs.forward inc).calm (by simp) (by simp) (fun hm => ?_) (by simp)
    rw [(touchStart_frame _).2.2.2.2.2.2.2.2.2.2.1]
    exact comparePos_fits (by simpa using hm)
  | backTravel inc => exact whenOn_law WithinLimits h hs fun _ => hs.reverse inc
  | heaterWindow => exact whenOn_law WithinLimits h hs fun _ => hs
  | drumEncoderReport => exact whenOn_law WithinLimits h hs fun _ => hs.calm (by simp) (by simp) (fun hm => by simp [hm]) (by simp)
  | tensionFrame | zoneFrame | heaterOnTimeEnd | rawLevelChange =>
    refine whenOn_law WithinLimits h hs fun _ => ?_
    split <;> exact hs
  | leadAtNip | trailAtNip | leadExit | trailExit | fabricJointDue | rollCountRequest | drumTravelIncrement =>
    refine whenOn_law WithinLimits h hs fun _ => ?_
    split <;> exact hs.calm (by simp) (by simp) (fun hm => by simp [hm]) (by simp)
  | jointLeavesWrap =>
    refine whenOn_law WithinLimits h hs fun _ => ?_
    split
    · exact hs
    · exact hs.calm (by simp) (by simp) (fun hm => by
        simp only [touchStart_frame, tryPending_frame]
        exact ⟨hm.1, (List.length_filter_le _ _).trans hm.2⟩) (by simp)
  | handoverLimit =>
    refine whenOn_law WithinLimits h hs fun _ => ?_
    split
    · exact haltLine_withinLimits .handover (hs.calm (by simp) (by simp) (fun hm => by simp [hm]) (by simp))
    · exact hs
  | spliceTimeout =>
    refine whenOn_law WithinLimits h hs fun _ => ?_
    dsimp only
    (repeat' split) <;> exact hs.calm (by simp) (by simp) (fun hm => by simp [hm]) (by simp)
  | inputFilterExpiry input =>
    refine whenOn_law WithinLimits h hs fun _ => ?_
    dsimp only
    (repeat' split)
    · exact hs
    · exact hs
    · exact hs.calm (by simp) (by simp) (fun hm => by simp [hm]) (by simp)
  | rampPeriod => exact execRampPeriod_withinLimits hs h
  | heatPeriod => exact execHeatPeriod_withinLimits hs h
  | tensionPeriod => exact execTensionPeriod_withinLimits hs h
  -- The Print Engine, the Profile Store and the Shadow Patch Buffer.
  | barReport | barSilent | freeing | lookup | rasterReadComplete | editApply | loaderWriteComplete
  | drainWriteComplete =>
    refine whenOn_law WithinLimits h hs fun _ => ?_
    (repeat' split) <;> exact hs.calm (by simp) (by simp) (fun hm => by simp [hm]) (by simp)
  | printStart =>
    refine whenOn_law WithinLimits h hs fun _ => ?_
    split
    · split
      · rename_i hj _ _
        exact startPrint_withinLimits _ _ _ hs (judgement_room hj)
      · split <;> exact hs.calm (by simp) (by simp) (fun hm => by simp [hm]) (by simp)
      · exact hs
    · exact hs
  | lineComputationBegin | lineBoundary | lineDue =>
    refine whenOn_law WithinLimits h hs fun _ => ?_
    dsimp only
    (repeat' split) <;> exact hs.calm (by simp) (by simp) (fun hm => by simp [hm]) (by simp)
  | lookupFillComplete damage =>
    refine whenOn_law WithinLimits h hs fun _ => ?_
    split
    · rename_i r live _
      dsimp only
      split <;> exact hs.calm (by simp) (by simp) (fun hm => by simp [hm]) (by simp)
    · exact hs
  | creationReadComplete damage =>
    refine whenOn_law WithinLimits h hs fun _ => ?_
    split
    · rename_i id node cell k live _
      dsimp only
      split
      · exact hs.calm (by simp) (by simp) (fun hm => by simp [hm]) (by simp)
      · exact hs.calm (by simp) (by simp) (fun hm => by simp [hm]) (by simp)
    · exact hs
  | rasterReadError | rasterReadTimeout | loadReadError | loadReadTimeout | patchReadError | editListReadTimeout =>
    exact whenOn_law WithinLimits h hs fun _ => hs.calm (by simp) (by simp) (fun hm => by simp [hm]) (by simp)
  | loadReadComplete =>
    exact whenOn_law WithinLimits h hs fun _ => onLoadRead_law WithinLimits hs (fun _ => hs) fun j _ _ =>
      hs.calm (by simp) (by simp) (fun hm => by simp [hm]) (by simp)
  | editListReadComplete =>
    refine whenOn_law WithinLimits h hs fun _ => onListRead_law WithinLimits hs (fun _ => hs) fun p _ _ => ?_
    dsimp only
    (repeat' split) <;> exact hs.calm (by simp) (by simp) (fun hm => by simp [hm]) (by simp)


end

end Sys2Proof.Machine
end

section
/-! PROOFS. The takes of the cards: each queued card is older than the next take and other than the current card's, at every step (R167). -/

namespace Sys2Proof.Machine

/-! ## The engine's takes -/

/-- What the Card Engine becomes by anything but a take: the next take stands, and the current card stands or ends. -/
def Follows (eng f : CardEngine) : Prop := f.takeSeq = eng.takeSeq ∧ ∀ c, f.current = some c → eng.current = some c

section
variable {eng : CardEngine} {s : State}

@[simp] theorem follows_refl (eng : CardEngine) : Follows eng eng := ⟨rfl, fun _ h => h⟩

theorem Follows.congr {f g : CardEngine} (hf : Follows eng f) (hseq : g.takeSeq = f.takeSeq) (hc : g.current = f.current) : Follows eng g := by
  unfold Follows
  rw [hseq, hc]
  exact hf

theorem Follows.ends {f g : CardEngine} (hf : Follows eng f) (hseq : g.takeSeq = f.takeSeq) (hc : g.current = none) : Follows eng g :=
  ⟨hseq.trans hf.1, fun c h => absurd (hc.symm.trans h) (by simp)⟩

@[simp] theorem offerTo_follows (k : CardKind) (hf : Follows eng s.ce) : Follows eng (offerTo k s).ce := by
  unfold offerTo
  split
  · exact hf.congr rfl rfl
  · exact hf

@[simp] theorem noteFinal_follows (hf : Follows eng s.ce) : Follows eng (noteFinal s).ce := by
  unfold noteFinal
  split
  · exact hf.congr rfl rfl
  · exact hf

@[simp] theorem beginChainRead_follows (hf : Follows eng s.ce) : Follows eng (beginChainRead s).ce := hf.congr rfl rfl

@[simp] theorem endDispatch_follows (hf : Follows eng s.ce) : Follows eng (endDispatch s).ce := by
  have hend : Follows eng { s.ce with current := none, offerDue := false, fenceCount := 0 } := hf.ends rfl rfl
  unfold endDispatch
  dsimp only
  split <;> exact hend.congr rfl rfl

@[simp] theorem finishCard_follows (c : CardRef) (st : CardState) (rc : ResultCode) (hf : Follows eng s.ce) :
    Follows eng (finishCard c st rc s).ce := by
  simp only [finishCard, raiseEvent_frame, writeHeader_frame]
  exact noteFinal_follows (hf.congr rfl rfl)

@[simp] theorem finalWrite_follows (c : CardRef) (fields : List (Nat × List Byte)) (st : CardState) (rc : ResultCode)
    (hf : Follows eng s.ce) :
    Follows eng (finalWrite c fields st rc s).ce := by simp [finalWrite, hf]

@[simp] theorem finishCurrent_follows (fields : List (Nat × List Byte)) (st : CardState) (rc : ResultCode)
    (hf : Follows eng s.ce) :
    Follows eng (finishCurrent fields st rc s).ce := by
  unfold finishCurrent
  split <;> simp [hf]

@[simp] theorem doneCurrent_follows (fields : List (Nat × List Byte)) (hf : Follows eng s.ce) :
    Follows eng (doneCurrent fields s).ce := by simp [doneCurrent, hf]

@[simp] theorem failCurrent_follows (rc : ResultCode) (fields : List (Nat × List Byte)) (hf : Follows eng s.ce) :
    Follows eng (failCurrent rc fields s).ce := by simp [failCurrent, hf]

@[simp] theorem failField_follows (off : Nat) (hf : Follows eng s.ce) :
    Follows eng (failField off s).ce := by simp [failField, hf]

@[simp] theorem stallCurrent_follows (hf : Follows eng s.ce) : Follows eng (stallCurrent s).ce := by
  unfold stallCurrent
  split
  · exact hf
  · simp only [raiseEvent_frame]
    exact hf.congr rfl rfl

@[simp] theorem discardEntries_follows (id : Nat) (hf : Follows eng s.ce) : Follows eng (discardEntries id s).ce := by
  rw [discardEntries_eq]
  split
  · exact hf
  · exact offerTo_follows .patch hf

@[simp] theorem waitOrFail_follows (rc : ResultCode) (fields : List (Nat × List Byte)) (hf : Follows eng s.ce) :
    Follows eng (waitOrFail rc fields s).ce := by
  unfold waitOrFail
  (repeat' split) <;> simp [hf]

@[simp] theorem failPatchOf_follows (id : Nat) (hf : Follows eng s.ce) : Follows eng (failPatchOf id s).ce := by
  unfold failPatchOf
  (repeat' split) <;> simp [hf]

@[simp] theorem freeRecord_follows (id : Nat) (hf : Follows eng s.ce) : Follows eng (freeRecord id s).ce := by
  unfold freeRecord
  dsimp only
  split <;> simp [hf]

@[simp] theorem releaseProfile_follows (id : Nat) (hf : Follows eng s.ce) : Follows eng (releaseProfile id s).ce := by
  unfold releaseProfile
  dsimp only
  split <;> simp [hf]

@[simp] theorem reportStrip_follows (g : Segment) (w : Option (Nat × Int) × Option (Nat × Int)) (hf : Follows eng s.ce) :
    Follows eng (reportStrip g w s).ce := by
  unfold reportStrip
  split <;> simp [hf]

@[simp] theorem failQueued_follows (rc : ResultCode) (fields : List (Nat × List Byte)) (q : QueuedPrint) (hf : Follows eng s.ce) :
    Follows eng (failQueued rc fields q s).ce := by
  rw [failQueued_eq]
  refine offerTo_follows _ (finalWrite_follows _ _ _ _ ?_)
  simp only [releaseFabric_frame]
  exact releaseProfile_follows _ (hf.congr rfl rfl)

@[simp] theorem endJob_follows (hf : Follows eng s.ce) : Follows eng (endJob s).ce := by
  unfold endJob
  split <;> simp [hf]

@[simp] theorem completeSplice_follows (a : Unwind) (hf : Follows eng s.ce) : Follows eng (completeSplice a s).ce := by
  unfold completeSplice
  dsimp only
  split <;> simp [hf]

@[simp] theorem withdrawSplice_follows (a : Unwind) (hf : Follows eng s.ce) : Follows eng (withdrawSplice a s).ce := by
  unfold withdrawSplice
  dsimp only
  (repeat' split) <;> simp [hf]

@[simp] theorem haltPrint_follows (hf : Follows eng s.ce) : Follows eng (haltPrint s).ce := by simp [haltPrint, hf]

@[simp] theorem failPatch_follows (rc : ResultCode) (fields : List (Nat × List Byte)) (hf : Follows eng s.ce) :
    Follows eng (failPatch rc fields s).ce := by simp [failPatch, hf]

@[simp] theorem patchCard_follows (c : CurrentCard) (hf : Follows eng s.ce) : Follows eng (patchCard c s).ce := by
  unfold patchCard
  dsimp only
  (repeat' split) <;> simp [hf]

@[simp] theorem listReadFails_follows (hf : Follows eng s.ce) : Follows eng (listReadFails s).ce := by
  unfold listReadFails onListRead
  (repeat' split) <;> simp [hf]

@[simp] theorem advanceEdit_follows (hf : Follows eng s.ce) : Follows eng (advanceEdit s).ce := by
  unfold advanceEdit
  (repeat' split) <;> simp [hf]

@[simp] theorem applyEdit_follows (p : PatchJob) (e : Edit) (h : ProfileHeader) (hf : Follows eng s.ce) :
    Follows eng (applyEdit p e h s).ce := by
  unfold applyEdit
  dsimp only
  (repeat' split) <;> simp [hf]

@[simp] theorem acceptLoad_follows (c : CurrentCard) (hf : Follows eng s.ce) : Follows eng (acceptLoad c s).ce := by
  unfold acceptLoad
  dsimp only
  (repeat' split) <;> simp [hf]

@[simp] theorem dispatchLoad_follows (c : CurrentCard) (hf : Follows eng s.ce) : Follows eng (dispatchLoad c s).ce := by
  unfold dispatchLoad
  split <;> simp [hf]

@[simp] theorem abortLoad_follows (id : Nat) (hf : Follows eng s.ce) : Follows eng (abortLoad id s).ce := by
  unfold abortLoad
  (repeat' split) <;> simp [hf]

@[simp] theorem loadDone_follows (j : LoadJob) (h : ProfileHeader) (hf : Follows eng s.ce) :
    Follows eng (loadDone j h s).ce := by simp [loadDone, hf]

@[simp] theorem advanceLoad_follows (hf : Follows eng s.ce) : Follows eng (advanceLoad s).ce := by
  unfold advanceLoad
  dsimp only
  (repeat' split) <;> simp [hf]

@[simp] theorem startPrint_follows (q : QueuedPrint) (c : Settings) (h : ProfileHeader) (hf : Follows eng s.ce) :
    Follows eng (startPrint q c h s).ce := by simp [startPrint, hf]

@[simp] theorem rasterFails_follows (kind : ReadFailure) (hf : Follows eng s.ce) : Follows eng (rasterFails kind s).ce := by
  unfold rasterFails
  (repeat' split) <;> simp [hf]

@[simp] theorem finishPrint_follows (hf : Follows eng s.ce) : Follows eng (finishPrint s).ce := by
  unfold finishPrint
  dsimp only
  split <;> simp [hf]

@[simp] theorem heatCard_follows (k : CurrentCard) (hf : Follows eng s.ce) : Follows eng (heatCard k s).ce := by
  unfold heatCard
  dsimp only
  (repeat' split) <;> simp [hf]

@[simp] theorem driveDone_follows (c : CurrentCard) (more : List (Nat × List Byte)) (hf : Follows eng s.ce) :
    Follows eng (driveDone c more s).ce := by simp [driveDone, hf]

@[simp] theorem driveWrong_follows (c : CurrentCard) (more : List (Nat × List Byte)) (hf : Follows eng s.ce) :
    Follows eng (driveWrong c more s).ce := by simp [driveWrong, hf]

@[simp] theorem startCard_follows (c : CurrentCard) (hf : Follows eng s.ce) : Follows eng (startCard c s).ce := by
  unfold startCard
  (repeat' split) <;> simp [hf]

@[simp] theorem speedCard_follows (c : CurrentCard) (hf : Follows eng s.ce) : Follows eng (speedCard c s).ce := by
  unfold speedCard
  (repeat' split) <;> simp [hf]

@[simp] theorem stopCard_follows (c : CurrentCard) (hf : Follows eng s.ce) : Follows eng (stopCard c s).ce := by
  unfold stopCard
  (repeat' split) <;> simp [hf]

@[simp] theorem fabricCard_follows (c : CurrentCard) (hf : Follows eng s.ce) : Follows eng (fabricCard c s).ce := by
  unfold fabricCard
  dsimp only
  (repeat' split) <;> simp [hf]

@[simp] theorem spliceCard_follows (c : CurrentCard) (hf : Follows eng s.ce) : Follows eng (spliceCard c s).ce := by
  unfold spliceCard
  (repeat' split) <;> simp [hf]

@[simp] theorem ackInactive_follows (a : Unwind) (hf : Follows eng s.ce) : Follows eng (ackInactive a s).ce := by
  unfold ackInactive
  split <;> simp [hf]

@[simp] theorem noteLink_follows (link : Nat) (hf : Follows eng s.ce) : Follows eng (noteLink link s).ce := by
  unfold noteLink
  (repeat' split)
  · exact hf.congr rfl rfl
  · exact hf
  · simp only [offerFault_frame]
    exact hf.congr rfl rfl

@[simp] theorem chainReadFault_follows (addr : Nat) (hf : Follows eng s.ce) : Follows eng (chainReadFault addr s).ce := by
  unfold chainReadFault
  split
  · exact hf
  · simp only [offerFault_frame]
    exact hf.congr rfl rfl

@[simp] theorem fenceCard_follows (c : CurrentCard) (hf : Follows eng s.ce) : Follows eng (fenceCard c s).ce := by
  unfold fenceCard
  split <;> simp [hf]

theorem foldl_follows {α : Type} {f : State → α → State} (hstep : ∀ s x, Follows eng s.ce → Follows eng (f s x).ce) (l : List α)
    (hf : Follows eng s.ce) : Follows eng (l.foldl f s).ce :=
  foldl_law (fun s => Follows eng s.ce) f hstep l hf

@[simp] theorem failQueuedOf_follows (id : Nat) (hf : Follows eng s.ce) : Follows eng (failQueuedOf id s).ce :=
  foldl_follows (fun s q h => by simp [h]) _ hf

@[simp] theorem haltMap_follows (hf : Follows eng s.ce) : Follows eng (haltMap s).ce :=
  foldl_follows (fun s g h => by simp [h]) _ hf

@[simp] theorem flushQueue_follows (hf : Follows eng s.ce) : Follows eng (flushQueue s).ce :=
  foldl_follows (fun s q h => by simp [h]) _ hf

theorem freed_follows (id : Nat) (hf : Follows eng s.ce) : Follows eng (freeRecord id (failQueuedOf id s)).ce := by simp [hf]

@[simp] theorem loadReadFails_follows (hf : Follows eng s.ce) : Follows eng (loadReadFails s).ce := by
  unfold loadReadFails onLoadRead
  (repeat' split)
  · exact hf
  · simp only [touchStart_frame]
    exact offerTo_follows _ (finalWrite_follows _ _ _ _ (freed_follows _ (by simp [hf])))
  · exact hf
  · exact hf

@[simp] theorem dropCard_follows (c : CurrentCard) (hf : Follows eng s.ce) : Follows eng (dropCard c s).ce := by
  unfold dropCard
  dsimp only
  (repeat' split)
  case h_2 => exact doneCurrent_follows _ (freed_follows _ (by simp [hf]))
  all_goals simp [hf]

@[simp] theorem chainNotReady_follows (hf : Follows eng s.ce) : Follows eng (chainNotReady s).ce := by
  unfold chainNotReady
  split <;> exact hf.congr rfl rfl

@[simp] theorem takeHalt_follows (cause : HaltCause) (hf : Follows eng s.ce) : Follows eng (takeHalt cause s).ce := by
  simp only [takeHalt, touchStart_frame, reportStopped_frame]
  exact withdrawSplice_follows _ (withdrawSplice_follows _ (haltPrint_follows (haltMap_follows (by simpa using hf))))

@[simp] theorem haltLine_follows (cause : HaltCause) (hf : Follows eng s.ce) : Follows eng (haltLine cause s).ce := by
  unfold haltLine
  split <;> simp [hf]

@[simp] theorem parityHalt_follows (marks : Byte) (hf : Follows eng s.ce) : Follows eng (parityHalt marks s).ce :=
  parityHalt_law (fun s => Follows eng s.ce) (fun cause _ h => haltLine_follows cause h) marks hf

@[simp] theorem tripHalts_follows (c : Settings) (n : Nat) (hf : Follows eng s.ce) : Follows eng (tripHalts c n s).ce :=
  tripHalts_law (fun s => Follows eng s.ce) (fun cause _ h => haltLine_follows cause h) c n hf

@[simp] theorem readAxis_follows (frame : Option (List TensionReading)) (a : Axis) (hf : Follows eng s.ce) :
    Follows eng (readAxis frame s a).ce :=
  readAxis_law (fun s => Follows eng s.ce) (fun cause _ h => haltLine_follows cause h) (fun _ _ _ h => h) (fun _ _ h => by simpa using h)
    frame a hf

@[simp] theorem inputEdge_follows (i : LineInput) (active : Bool) (hf : Follows eng s.ce) : Follows eng (inputEdge i active s).ce :=
  inputEdge_law (fun s => Follows eng s.ce) (fun cause _ h => haltLine_follows cause h) (fun _ _ h => by simpa using h)
    (fun _ _ h => by simpa using h) (fun _ _ h => by simp [h]) i active hf

@[simp] theorem polarityEdges_follows (before : State) (hf : Follows eng s.ce) : Follows eng (polarityEdges before s).ce :=
  polarityEdges_law (fun s => Follows eng s.ce) (fun i active _ h => inputEdge_follows i active h) before hf

@[simp] theorem setupCard_follows (c : CurrentCard) (hf : Follows eng s.ce) : Follows eng (setupCard c s).ce := by
  unfold setupCard
  dsimp only
  (repeat' split)
  · simp [hf]
  · simp [hf]
  · have hedges : Follows eng (applySetup (parseSettings c.image) s).ce := by simp [applySetup, hf]
    simp [hedges]

@[simp] theorem clearCard_follows (c : CurrentCard) (hf : Follows eng s.ce) : Follows eng (clearCard c s).ce := by
  unfold clearCard
  dsimp only
  (repeat' split) <;> simp [hf]

@[simp] theorem createEntry_follows (id node cell k : Nat) (c : StoreCell) (hf : Follows eng s.ce) :
    Follows eng (createEntry id node cell k c s).ce := by
  unfold createEntry
  (repeat' split)
  · exact hf
  · exact parityHalt_follows _ (advanceEdit_follows (by simp [hf]))
  · exact hf

@[simp] theorem serveFill_follows (r : FillRequest) (live : Bool) (c : StoreCell) (hf : Follows eng s.ce) :
    Follows eng (serveFill r live c s).ce := by
  refine parityHalt_follows _ ?_
  (repeat' split) <;> simp [hf]

theorem controlWrite_follows (run : Bool) (interval : BitVec 8) (hf : Follows eng s.ce) : Follows eng (controlWrite run interval s).ce := by
  unfold controlWrite
  dsimp only
  (repeat' split) <;> exact hf.congr rfl rfl

@[simp] theorem controlWrite_pe (run : Bool) (interval : BitVec 8) (s : State) : (controlWrite run interval s).pe = s.pe := by
  unfold controlWrite
  dsimp only
  (repeat' split) <;> simp

@[simp] theorem discardOldest_pe (s : State) : (discardOldest s).pe = s.pe := by
  unfold discardOldest
  dsimp only
  (repeat' split) <;> simp

theorem discardOldest_follows (hf : Follows eng s.ce) : Follows eng (discardOldest s).ce := by
  unfold discardOldest
  dsimp only
  (repeat' split) <;> simpa using hf

end

/-! ## The law of the takes -/

/-- Each queued card is a take older than the next one, and so is the current card, which is not queued. -/
def TakesLaw (s : State) : Prop :=
  (∀ q ∈ s.pe.queue, q.card.take < s.ce.takeSeq) ∧
    ∀ c, s.ce.current = some c → c.ref.take < s.ce.takeSeq ∧ ∀ q ∈ s.pe.queue, q.card.take ≠ c.ref.take

section
variable {s t : State}

/-- What adds no card to the queue and takes none keeps the law. -/
theorem TakesLaw.calm (hs : TakesLaw s) (hq : t.pe.queue.Sublist s.pe.queue) (hce : Follows s.ce t.ce) : TakesLaw t := by
  obtain ⟨hqueue, hcurrent⟩ := hs
  obtain ⟨hseq, hc⟩ := hce
  unfold TakesLaw
  rw [hseq]
  refine ⟨fun q hm => hqueue q (hq.subset hm), fun c h => ?_⟩
  obtain ⟨hlt, hne⟩ := hcurrent c (hc c h)
  exact ⟨hlt, fun q hm => hne q (hq.subset hm)⟩

theorem takesLaw_empty (hq : t.pe.queue = []) (hc : t.ce.current = none) : TakesLaw t := by
  unfold TakesLaw
  rw [hq, hc]
  exact ⟨fun _ h => absurd h List.not_mem_nil, fun _ h => absurd h (by simp)⟩

theorem engineAfter_ends (s : State) : (engineAfter s s.ce.outstanding).takeSeq = s.ce.takeSeq ∧
    (engineAfter s s.ce.outstanding).current = none := by
  unfold engineAfter
  (repeat' split) <;> exact ⟨rfl, rfl⟩

/-- The card that joins the queue is the current card, whose dispatch ends. -/
theorem printCard_takesLaw {c : CurrentCard} (hs : TakesLaw s) (hc : s.ce.current = some c) : TakesLaw (printCard c s) := by
  unfold printCard
  dsimp only
  (repeat' split)
  case isFalse hroom =>
    obtain ⟨hqueue, hcurrent⟩ := hs
    obtain ⟨hlt, -⟩ := hcurrent c hc
    obtain ⟨hold, first, ports, heq, -⟩ := enqueuePrint_rest (parsePrint c) s
    have hend : (enqueuePrint (parsePrint c) s).ce.takeSeq = s.ce.takeSeq ∧ (enqueuePrint (parsePrint c) s).ce.current = none := by
      rw [heq]
      exact engineAfter_ends s
    have hjoin : (enqueuePrint (parsePrint c) s).pe.queue = s.pe.queue ++ [parsePrint c] := by
      unfold enqueuePrint
      dsimp only
      split <;> simp
    unfold TakesLaw
    rw [hjoin, hend.1, hend.2]
    refine ⟨fun q hm => ?_, fun _ h => absurd h (by simp)⟩
    rcases List.mem_append.mp hm with hm | hm
    · exact hqueue q hm
    · rw [List.mem_singleton.mp hm]
      exact hlt
  all_goals exact hs.calm (by simp) (by simp)

theorem takenState_takesLaw (addr : Nat) (card : List Byte) (hs : TakesLaw s) : TakesLaw (takenState addr card s) := by
  obtain ⟨hqueue, -⟩ := hs
  refine ⟨fun q hm => Nat.lt_succ_of_lt (hqueue q hm), fun c h => ?_⟩
  obtain rfl := Option.some.inj h
  exact ⟨Nat.lt_succ_self _, fun q hm => (hqueue q hm).ne⟩

/-- A take takes the next serial, which no queued card holds. -/
theorem takeCard_takesLaw (addr : Nat) (card : List Byte) (hs : TakesLaw s) : TakesLaw (takeCard addr card s) := by
  cases hk : CardKind.ofByte (byteAt card 9) with
  | some k =>
    rw [takeCard_known hk]
    exact takenState_takesLaw addr card hs
  | none =>
    rw [takeCard_unknown hk]
    exact (takenState_takesLaw addr card hs).calm (by simp) (by simp)

/-- The end of a chain read moves the engine's state alone, but for what the read does. -/
theorem onChainRead_takesLaw (link : Option (BitVec 64)) {f : State → State} (hs : TakesLaw s) (hf : ∀ t, TakesLaw t → TakesLaw (f t)) :
    TakesLaw (onChainRead link s f) := by
  have hnamed : ∀ l, TakesLaw (readNamed l s) := fun l => hs.calm (by simp) (by simp)
  unfold onChainRead
  dsimp only
  split
  · exact hs
  · split
    · exact hs
    · cases link with
      | none =>
        dsimp only
        split
        · exact hs
        · exact hf _ hs
      | some l =>
        dsimp only
        split
        · exact hnamed _
        · exact hf _ (hnamed _)

theorem execHeatPeriod_takesLaw (hs : TakesLaw s) (h : execHeatPeriod s = .next t) : TakesLaw t := by
  refine whenOn_law TakesLaw h hs fun _ => ?_
  split
  · exact hs
  · dsimp only
    split <;> exact hs.calm (by simp) (by simp)

theorem execTensionPeriod_takesLaw (hs : TakesLaw s) (h : execTensionPeriod s = .next t) : TakesLaw t := by
  refine whenOn_law TakesLaw h hs fun _ => ?_
  have hframe : TakesLaw { s with tc := { s.tc with frame := none } } := hs
  have hread : TakesLaw (allAxes.foldl (readAxis s.tc.frame) { s with tc := { s.tc with frame := none } }) :=
    foldl_law TakesLaw _ (fun s a hs => hs.calm (by simp) (by simp)) _ hframe
  exact hread.calm (by simp) (by simp)

theorem execRampPeriod_takesLaw (hs : TakesLaw s) (h : execRampPeriod s = .next t) : TakesLaw t := by
  refine whenOn_law TakesLaw h hs fun _ => ?_
  dsimp only
  (repeat' split) <;> exact hs.calm (by simp) (by simp)

/-- Every command keeps the law: the halt, the resets and CLEAR set its three parts together, and no other command reaches them but for
states other than HALTED and OFF. -/
theorem exec_takesLaw {i : Instr} {s t : State} (hs : TakesLaw s) (h : exec i s = .next t) : TakesLaw t := by
  have hfield : ∀ c, Dispatching .drive c s → TakesLaw (failField 16 s) := fun c _ => hs.calm (by simp) (by simp)
  unfold exec at h
  cases i with
  -- Resets, supplies and registers.
  | mainPowerOnReset z st =>
    cases h
    refine takesLaw_empty ?_ ?_ <;> simp only [raiseLost_frame, resetFrames_frame] <;> rfl
  | softReset =>
    refine whenOn_law TakesLaw h hs fun _ => takesLaw_empty ?_ ?_ <;> simp only [resetFrames_frame] <;> rfl
  | keepAlivePowerOnReset | mainSupplyLoss =>
    cases h
    exact hs
  | linkReset =>
    refine whenOn_law TakesLaw h hs fun _ => takesLaw_empty ?_ ?_
    · simp only [offerFault_frame, linkDown_queue]
    · simp only [offerFault_frame, (linkDown_quiet s).1]
      rfl
  | runSet | runClear | watchInterval =>
    exact whenOn_law TakesLaw h hs fun _ => hs.calm (by simp) (controlWrite_follows _ _ (follows_refl _))
  | registerWrite => exact whenOn_law TakesLaw h hs fun _ => hs
  | irqEnable => exact whenOn_law TakesLaw h hs fun _ => hs.calm (by simp) (by simp)
  | eventAck =>
    refine whenOn_law TakesLaw h hs fun _ => ?_
    dsimp only
    split
    · exact hs.calm (by simp) (discardOldest_follows (follows_refl _))
    · exact hs
  | bookBase =>
    refine whenOn_law TakesLaw h hs fun _ => ?_
    dsimp only
    (repeat' split) <;> exact hs.calm (by simp) (by simp)
  | wake | watchTimerExpiry =>
    refine whenOn_law TakesLaw h hs fun _ => ?_
    (repeat' split) <;> exact hs.calm (by simp) ⟨rfl, fun _ h => h⟩
  | statusPageWrite =>
    refine whenOn_law TakesLaw h hs fun _ => ?_
    split <;> exact hs.calm (by simp) (by simp)
  -- The chain of cards.
  | chainReadComplete link card =>
    refine whenOn_law TakesLaw h hs fun _ => onChainRead_takesLaw _ hs fun t ht => ?_
    have hlink : TakesLaw (setEngine (fun e => { e with readFault := false }) (noteLink link.toNat t)) :=
      ht.calm (by simp) ((noteLink_follows _ (follows_refl _)).congr rfl rfl)
    dsimp only
    split
    · exact takeCard_takesLaw _ _ hlink
    · exact hlink.calm (by simp) (by simp)
  | cardReadError link | chainReadTimeout link =>
    refine whenOn_law TakesLaw h hs fun _ => onChainRead_takesLaw _ hs fun t ht => ?_
    dsimp only
    (repeat' split)
    · exact ht.calm (by simp) (by simp)
    · exact ht.calm (by simp) (chainNotReady_follows (chainReadFault_follows _ (noteLink_follows _ (follows_refl _))))
    · exact ht.calm (by simp) (chainNotReady_follows ((noteLink_follows _ (follows_refl _)).congr rfl rfl))
  | cardReoffer =>
    refine whenOn_law TakesLaw h hs fun _ => ?_
    split
    · rename_i c _ _ hc
      have hdue : TakesLaw (setEngine (fun e => { e with offerDue := false }) s) := hs
      unfold reoffer
      split
      · exact printCard_takesLaw hdue hc
      · exact hdue.calm (by simp) (dispatchLoad_follows c (follows_refl _))
      · refine hdue.calm (by simp) ?_
        unfold reofferPatch
        (repeat' split) <;> exact ⟨rfl, fun _ h => h⟩
      · exact hdue.calm (by simp) (fenceCard_follows c (follows_refl _))
      · exact hs
    · exact hs
  | print => exact onDispatch_law TakesLaw h hs fun c hd => printCard_takesLaw hs hd.2.2.1
  | heat | fabric | load | splice | fence =>
    exact onDispatch_law TakesLaw h hs fun c _ => hs.calm (by simp) (by simp)
  | drop => exact onDispatch_law TakesLaw h hs fun c _ => hs.calm (by simp) (by simp)
  | patch =>
    refine onDispatch_law TakesLaw h hs fun c _ => ?_
    split <;> exact hs.calm (by simp) (by simp)
  | setup => exact onDispatch_law TakesLaw h hs fun c _ => hs.calm (by simp) (by simp)
  | start | speed | stop | clear => exact onDrive_law TakesLaw h hs hfield fun c _ => hs.calm (by simp) (by simp)
  | halt =>
    exact onDrive_law TakesLaw h hs hfield fun c _ =>
      hs.calm (by simp) (by simp)
  -- The web and the line.
  | positionUpdate => exact whenOn_law TakesLaw h hs fun _ => hs.calm (by simp) (by simp)
  | backTravel | heaterWindow => exact whenOn_law TakesLaw h hs fun _ => hs
  | drumEncoderReport => exact whenOn_law TakesLaw h hs fun _ => hs.calm (by simp) (by simp)
  | tensionFrame | zoneFrame | heaterOnTimeEnd | rawLevelChange =>
    refine whenOn_law TakesLaw h hs fun _ => ?_
    split <;> exact hs
  | leadAtNip | trailAtNip | leadExit | trailExit | jointLeavesWrap | fabricJointDue | rollCountRequest | drumTravelIncrement =>
    refine whenOn_law TakesLaw h hs fun _ => ?_
    split <;> exact hs.calm (by simp) (by simp)
  | handoverLimit =>
    refine whenOn_law TakesLaw h hs fun _ => ?_
    split
    · exact hs.calm (by simp) (by simp)
    · exact hs
  | spliceTimeout =>
    refine whenOn_law TakesLaw h hs fun _ => ?_
    dsimp only
    (repeat' split) <;> exact hs.calm (by simp) (by simp)
  | inputFilterExpiry input =>
    refine whenOn_law TakesLaw h hs fun _ => ?_
    dsimp only
    (repeat' split)
    · exact hs
    · exact hs
    · exact hs.calm (by simp) (by simp)
  | rampPeriod => exact execRampPeriod_takesLaw hs h
  | heatPeriod => exact execHeatPeriod_takesLaw hs h
  | tensionPeriod => exact execTensionPeriod_takesLaw hs h
  -- The Print Engine, the Profile Store and the Shadow Patch Buffer.
  | barReport | barSilent | freeing | lookup | printStart | rasterReadComplete | editApply | loaderWriteComplete
  | drainWriteComplete =>
    refine whenOn_law TakesLaw h hs fun _ => ?_
    (repeat' split) <;> exact hs.calm (by simp) (by simp)
  | lineComputationBegin | lineBoundary | lineDue =>
    refine whenOn_law TakesLaw h hs fun _ => ?_
    dsimp only
    (repeat' split) <;> exact hs.calm (by simp) (by simp)
  | lookupFillComplete damage =>
    refine whenOn_law TakesLaw h hs fun _ => ?_
    split
    · rename_i r live _
      dsimp only
      split <;> exact hs.calm (by simp) (by simp)
    · exact hs
  | creationReadComplete damage =>
    refine whenOn_law TakesLaw h hs fun _ => ?_
    split
    · rename_i id node cell k live _
      dsimp only
      split
      · exact hs.calm (by simp) (by simp)
      · exact hs.calm (by simp) (by simp)
    · exact hs
  | rasterReadError | rasterReadTimeout | loadReadError | loadReadTimeout | patchReadError | editListReadTimeout =>
    exact whenOn_law TakesLaw h hs fun _ => hs.calm (by simp) (by simp)
  | loadReadComplete =>
    exact whenOn_law TakesLaw h hs fun _ => onLoadRead_law TakesLaw hs (fun _ => hs) fun j _ _ =>
      hs.calm (by simp) (by simp)
  | editListReadComplete =>
    refine whenOn_law TakesLaw h hs fun _ => onListRead_law TakesLaw hs (fun _ => hs) fun p _ _ => ?_
    dsimp only
    (repeat' split) <;> exact hs.calm (by simp) (by simp)


end

end Sys2Proof.Machine
end

section
/-! PROOFS. The laws of the store with references still to be released, taken apart, and what leaves each of them (R25, R36, R47, R138). -/

namespace Sys2Proof.Machine

/-! ## What the laws look at -/

/-- A record without its version and its damage count. -/
def bare (r : ProfileRecord) : ProfileState × Option ProfileHeader × Nat × Bool := (r.state, r.header, r.refs, r.freeing)

/-- The profile and the cell of an entry, and whether it is VISIBLE. -/
def entryTag (e : ShadowEntry) : Nat × Nat × Bool := (e.id, e.cell, e.visible)

/-- The profile that a job prints. -/
def jobId (j : PrintJob) : Nat := j.card.profileId

/-- The profile and the cell of the creation read that waits at the port (R44). -/
def requested (a : Arbiter) : Option (Nat × Nat) :=
  match a.shadowReq with
  | some (.creation id _ cell _) => some (id, cell)
  | _ => none

/-- The profile and the cell of the creation read that holds the port and is still wanted (R44). -/
def accessed (a : Arbiter) : Option (Nat × Nat) :=
  match a.busy with
  | some (.shadow (.creation id _ cell _) true) => some (id, cell)
  | _ => none

theorem requested_eq {a : Arbiter} {id cell : Nat} : requested a = some (id, cell) ↔ ∃ node k, a.shadowReq = some (.creation id node cell k) := by
  unfold requested
  split
  · rename_i h
    rw [h]
    simp
  · rename_i hno
    constructor
    · intro h
      cases h
    · rintro ⟨node, k, h⟩
      exact absurd h (hno _ _ _ _)

theorem accessed_eq {a : Arbiter} {id cell : Nat} :
    accessed a = some (id, cell) ↔ ∃ node k, a.busy = some (.shadow (.creation id node cell k) true) := by
  unfold accessed
  split
  · rename_i h
    rw [h]
    simp
  · rename_i hno
    constructor
    · intro h
      cases h
    · rintro ⟨node, k, h⟩
      exact absurd h (hno _ _ _ _)

theorem wantedCreation_iff {s : State} {id cell : Nat} :
    wantedCreation s id cell ↔ requested s.ps.arb = some (id, cell) ∨ accessed s.ps.arb = some (id, cell) := by
  rw [requested_eq, accessed_eq]
  constructor
  · rintro ⟨node, k, h | h⟩
    · exact .inl ⟨node, k, h⟩
    · exact .inr ⟨node, k, h⟩
  · rintro (⟨node, k, h⟩ | ⟨node, k, h⟩)
    · exact ⟨node, k, .inl h⟩
    · exact ⟨node, k, .inr h⟩

section
variable {s t : State}

theorem bare_profileOf (h : t.ps.records.map bare = s.ps.records.map bare) (id : Nat) : bare (profileOf t id) = bare (profileOf s id) := by
  have hnth := congrArg (fun l => (l[id - 1]?).getD (bare emptyRecord)) h
  simp only [List.getElem?_map] at hnth
  unfold profileOf nth
  cases ht : t.ps.records[id - 1]? <;> cases hs : s.ps.records[id - 1]? <;> simp_all

theorem bare_eq {r q : ProfileRecord} : bare r = bare q ↔ r.state = q.state ∧ r.header = q.header ∧ r.refs = q.refs ∧ r.freeing = q.freeing := by
  simp [bare]

theorem bare_mem (h : t.ps.records.map bare = s.ps.records.map bare) {r : ProfileRecord} (hr : r ∈ t.ps.records) :
    ∃ q ∈ s.ps.records, r.state = q.state ∧ r.header = q.header ∧ r.refs = q.refs ∧ r.freeing = q.freeing := by
  have hmem : bare r ∈ s.ps.records.map bare := h ▸ List.mem_map_of_mem hr
  obtain ⟨q, hq, heq⟩ := List.mem_map.mp hmem
  exact ⟨q, hq, bare_eq.mp heq.symm⟩

theorem stateSeen_bare {r q : ProfileRecord} (h : bare r = bare q) : stateSeen r = stateSeen q := by
  obtain ⟨hst, -, -, hfree⟩ := bare_eq.mp h
  unfold stateSeen
  rw [hst, hfree]

theorem length_filter_map {α β : Type} (f : α → β) (p : β → Bool) (l : List α) :
    (l.filter fun x => p (f x)).length = ((l.map f).filter p).length := by
  rw [List.filter_map, List.length_map]
  rfl

theorem profileUses_eq (s : State) (id : Nat) : profileUses s id =
    uses id s.pe.queue + ((s.pe.job.map jobId).toList.filter (· == id)).length := by
  unfold profileUses jobId uses
  rw [Nat.add_right_inj]
  cases s.pe.job with
  | none => rfl
  | some j => by_cases hid : j.card.profileId = id <;> simp [hid]

theorem jobId_of_tag (h : t.pe.job.map jobTag = s.pe.job.map jobTag) : t.pe.job.map jobId = s.pe.job.map jobId := by
  have hfst := congrArg (Option.map Prod.fst) h
  rw [Option.map_map, Option.map_map] at hfst
  exact hfst

theorem computing_tag (h : t.pe.job.map jobTag = s.pe.job.map jobTag) : computing t = computing s := by
  have hc : ∀ u : State, computing u = ((u.pe.job.map jobTag).map Prod.snd).getD false := fun u => by
    unfold computing
    cases u.pe.job <;> rfl
  rw [hc, hc, h]

end

/-! ## The laws, part by part -/

/-- The counts of the profile records, with references still to be released (R36). -/
def Counted (ps : List Nat) (s : State) : Prop :=
  s.ps.records.length = 16 ∧ (∀ id, 1 ≤ id → id ≤ 16 → (profileOf s id).refs = profileUses s id + ps.count id) ∧
    ∀ r ∈ s.ps.records, r.state = .empty ∨ r.freeing = true → r.refs = 0

/-- The counts of the fabric records, with references still to be released (R138). -/
def FabricsCounted (fs : List Nat) (s : State) : Prop :=
  s.tc.fabrics.length = 8 ∧ ∀ id, 1 ≤ id → id ≤ 8 → (fabricOf s id).refs = fabricUses s id + fs.count id

/-- The queue: each card a take of its own, with a profile and a line. -/
def QueueLaw (l : List QueuedPrint) : Prop :=
  (l.map (·.card.take)).Nodup ∧ ∀ q ∈ l, 1 ≤ q.profileId ∧ q.profileId ≤ 16 ∧ 1 ≤ q.lines

/-- The job stands exactly outside IDLE, at a profile READY or RETIRING, and the loader's record is LOADING. -/
def JobLaw (s : State) : Prop :=
  (s.pe.state = .idle ↔ s.pe.job.map jobId = none) ∧
    (∀ id, s.pe.job.map jobId = some id → 1 ≤ id ∧ id ≤ 16 ∧
      (stateSeen (profileOf s id) = .ready ∨ stateSeen (profileOf s id) = .retiring)) ∧
    ∀ id, s.ps.loader.map (·.id) = some id → 1 ≤ id ∧ id ≤ 16 ∧ stateSeen (profileOf s id) = .loading

/-- The strips stand in strict order, none is empty, and a line has a length. -/
def StripsLaw (s : State) : Prop :=
  (s.tmap.segs.map (·.start)).Pairwise (· < ·) ∧ (∀ g ∈ s.tmap.segs, g.start < extentEnd g) ∧ ∀ c, s.setup = some c → 1 ≤ c.pitch

/-- The limits of the buffer, but for what stands while no line is computing (R47). -/
def Buffered (l : List ShadowEntry) : Prop :=
  l.length ≤ 2 ∧ (l.map (·.cell)).Nodup ∧ (∀ e ∈ l, 1 ≤ e.id ∧ e.id ≤ 16) ∧
    ∃ v p, l = v ++ p ∧ (∀ e ∈ v, e.visible = true) ∧ ∀ e ∈ p, e.visible = false

/-- No entry is PENDING while no line is computing (R48). -/
def AllVisible (s : State) : Prop := computing s = false → ∀ e ∈ s.spb.entries, e.visible = true

/-- The laws of the store but that of the PATCH card, with references still to be released. -/
def Stock (ps fs : List Nat) (s : State) : Prop :=
  Counted ps s ∧ FabricsCounted fs s ∧ QueueLaw s.pe.queue ∧ JobLaw s ∧ StripsLaw s ∧ Buffered s.spb.entries ∧ AllVisible s ∧ ExtentLaw s

/-- The laws of the store, with references still to be released. -/
def Laws (ps fs : List Nat) (s : State) : Prop := Stock ps fs s ∧ PatchLaw s

theorem storeLaws_iff {s : State} : StoreLaws s ↔ Laws [] [] s ∧ TakesLaw s := by
  have hjob : ∀ P : Nat → Prop, (∀ id, s.pe.job.map jobId = some id → P id) ↔ ∀ j, s.pe.job = some j → P j.card.profileId := fun P => by
    cases s.pe.job <;> simp [jobId]
  have hload : ∀ P : Nat → Prop, (∀ id, s.ps.loader.map (·.id) = some id → P id) ↔ ∀ j, s.ps.loader = some j → P j.id := fun P => by
    cases s.ps.loader <;> simp
  have hidle : s.pe.job.map jobId = none ↔ s.pe.job = none := Option.map_eq_none_iff
  unfold StoreLaws Laws Stock CountsAgree PrintLaw BufferLaw Counted FabricsCounted QueueLaw JobLaw StripsLaw Buffered AllVisible TakesLaw
  rw [hjob, hload, hidle]
  simp only [List.count_nil, Nat.add_zero]
  constructor
  · rintro ⟨⟨h1, h2, h3, h4, h5⟩, ⟨h6, h7, h8, h9, h10, h11, h12, h13, h14⟩, ⟨h15, h16, h17, h18, h19⟩, h20, h21⟩
    exact ⟨⟨⟨⟨h1, h3, h5⟩, ⟨h2, h4⟩, ⟨h6, fun q hq => ⟨(h7 q hq).1, (h7 q hq).2.1, (h7 q hq).2.2.1⟩⟩, ⟨h9, h10, h11⟩, ⟨h12, h13, h14⟩,
      ⟨h15, h16, h17, h18⟩, h19, h21⟩, h20⟩, fun q hq => (h7 q hq).2.2.2, h8⟩
  · rintro ⟨⟨⟨⟨h1, h3, h5⟩, ⟨h2, h4⟩, ⟨h6, h7⟩, ⟨h9, h10, h11⟩, ⟨h12, h13, h14⟩, ⟨h15, h16, h17, h18⟩, h19, h21⟩, h20⟩, h22, h8⟩
    exact ⟨⟨h1, h2, h3, h4, h5⟩, ⟨h6, fun q hq => ⟨(h7 q hq).1, (h7 q hq).2.1, (h7 q hq).2.2, h22 q hq⟩, h8, h9, h10, h11, h12, h13, h14⟩,
      ⟨h15, h16, h17, h18, h19⟩, h20, h21⟩

/-! ## What leaves each law -/

section
variable {ps fs : List Nat} {s t : State}

theorem Counted.congr (hs : Counted ps s) (hrec : t.ps.records.map bare = s.ps.records.map bare) (hq : t.pe.queue = s.pe.queue)
    (hj : t.pe.job.map jobId = s.pe.job.map jobId) : Counted ps t := by
  obtain ⟨hlen, hrefs, hzero⟩ := hs
  refine ⟨?_, fun id h1 h2 => ?_, fun r hr h => ?_⟩
  · simpa using (congrArg List.length hrec).trans (by simpa using hlen)
  · rw [(bare_eq.mp (bare_profileOf hrec id)).2.2.1, hrefs id h1 h2, profileUses_eq, profileUses_eq, hq, hj]
  · obtain ⟨q, hq, hst, -, hr, hf⟩ := bare_mem hrec hr
    rw [hr]
    exact hzero q hq (by rwa [← hst, ← hf])

theorem fabricUses_eq (s : State) (id : Nat) : fabricUses s id =
    (s.pe.queue.filter (fun q => q.fabricId == id)).length + ((s.tmap.segs.map span).filter fun x => x.2.2 == some id).length :=
  congrArg (_ + ·) (length_filter_map span (fun x => x.2.2 == some id) s.tmap.segs)

theorem refs_fabricOf (h : t.tc.fabrics.map (·.refs) = s.tc.fabrics.map (·.refs)) (id : Nat) : (fabricOf t id).refs = (fabricOf s id).refs := by
  have hnth := congrArg (fun l => (l[id - 1]?).getD 0) h
  simp only [List.getElem?_map] at hnth
  unfold fabricOf nth
  cases ht : t.tc.fabrics[id - 1]? <;> cases hs : s.tc.fabrics[id - 1]? <;> simp_all

theorem FabricsCounted.congr (hs : FabricsCounted fs s) (hf : t.tc.fabrics.map (·.refs) = s.tc.fabrics.map (·.refs))
    (hq : t.pe.queue = s.pe.queue) (hsegs : t.tmap.segs.map span = s.tmap.segs.map span) : FabricsCounted fs t := by
  obtain ⟨hlen, hrefs⟩ := hs
  refine ⟨by simpa using (congrArg List.length hf).trans (by simpa using hlen), fun id h1 h2 => ?_⟩
  rw [refs_fabricOf hf, hrefs id h1 h2, fabricUses_eq, fabricUses_eq, hq, hsegs]

theorem JobLaw.congr (hs : JobLaw s) (hst : t.pe.state = s.pe.state) (hj : t.pe.job.map jobId = s.pe.job.map jobId)
    (hload : t.ps.loader.map (·.id) = s.ps.loader.map (·.id)) (hrec : t.ps.records.map bare = s.ps.records.map bare) : JobLaw t := by
  obtain ⟨hidle, hjob, hloader⟩ := hs
  have hseen := fun id => stateSeen_bare (bare_profileOf hrec id)
  unfold JobLaw
  rw [hst, hj, hload]
  simp only [hseen]
  exact ⟨hidle, hjob, hloader⟩

theorem starts_of_spans (h : t.tmap.segs.map span = s.tmap.segs.map span) : t.tmap.segs.map (·.start) = s.tmap.segs.map (·.start) := by
  have hfst := congrArg (List.map Prod.fst) h
  rw [List.map_map, List.map_map] at hfst
  exact hfst

theorem StripsLaw.congr (hs : StripsLaw s) (hsegs : t.tmap.segs.map span = s.tmap.segs.map span)
    (hset : t.setup.map (·.pitch) = s.setup.map (·.pitch)) : StripsLaw t := by
  obtain ⟨horder, hext, hpitch⟩ := hs
  refine ⟨by rwa [starts_of_spans hsegs], fun g hg => ?_, fun c hc => ?_⟩
  · have hmem : span g ∈ s.tmap.segs.map span := hsegs ▸ List.mem_map_of_mem hg
    obtain ⟨g', hg', heq⟩ := List.mem_map.mp hmem
    obtain ⟨hstart, hend⟩ := Prod.mk.inj heq
    rw [← hstart, ← (Prod.mk.inj hend).1]
    exact hext g' hg'
  · rw [hc] at hset
    obtain ⟨c', hc', heq⟩ := Option.map_eq_some_iff.mp hset.symm
    exact (hpitch c' hc').trans (Nat.le_of_eq heq)

theorem cells_of_tags {l m : List ShadowEntry} (h : l.map entryTag = m.map entryTag) : l.map (·.cell) = m.map (·.cell) := by
  have hfst := congrArg (List.map fun x => x.2.1) h
  rw [List.map_map, List.map_map] at hfst
  exact hfst

theorem mem_of_tags {l m : List ShadowEntry} (h : l.map entryTag = m.map entryTag) {e : ShadowEntry} (he : e ∈ l) :
    ∃ f ∈ m, f.id = e.id ∧ f.cell = e.cell ∧ f.visible = e.visible := by
  have hmem : entryTag e ∈ m.map entryTag := h ▸ List.mem_map_of_mem he
  obtain ⟨f, hf, heq⟩ := List.mem_map.mp hmem
  simp only [entryTag, Prod.mk.injEq] at heq
  exact ⟨f, hf, heq⟩

theorem Buffered.congr {l m : List ShadowEntry} (hl : Buffered l) (h : m.map entryTag = l.map entryTag) : Buffered m := by
  obtain ⟨hlen, hnodup, hids, v, p, hsplit, hv, hp⟩ := hl
  have hlength := congrArg List.length h
  simp only [List.length_map] at hlength
  refine ⟨by omega, by rwa [cells_of_tags h], fun e he => ?_, m.take v.length, m.drop v.length, (List.take_append_drop _ _).symm,
    fun e he => ?_, fun e he => ?_⟩
  · obtain ⟨f, hf, hid, -⟩ := mem_of_tags h he
    rw [← hid]
    exact hids f hf
  · have htake : (m.take v.length).map entryTag = v.map entryTag := by
      rw [List.map_take, h, hsplit, List.map_append, List.take_append_of_le_length (by simp), List.take_of_length_le (by simp)]
    obtain ⟨f, hf, -, -, hvis⟩ := mem_of_tags htake he
    rw [← hvis]
    exact hv f hf
  · have hdrop : (m.drop v.length).map entryTag = p.map entryTag := by
      rw [List.map_drop, h, hsplit, List.map_append, List.drop_append_of_le_length (by simp), List.drop_of_length_le (by simp), List.nil_append]
    obtain ⟨f, hf, -, -, hvis⟩ := mem_of_tags hdrop he
    rw [← hvis]
    exact hp f hf

theorem AllVisible.congr (hs : AllVisible s) (hj : t.pe.job.map jobTag = s.pe.job.map jobTag)
    (he : t.spb.entries.map entryTag = s.spb.entries.map entryTag) : AllVisible t := by
  intro hc e hm
  obtain ⟨f, hf, -, -, hvis⟩ := mem_of_tags he hm
  rw [← hvis]
  exact hs (by rwa [← computing_tag hj]) f hf

theorem editCell_congr (hrec : t.ps.records.map bare = s.ps.records.map bare) (p : PatchJob) : editCell t p = editCell s p := by
  unfold editCell
  rw [(bare_eq.mp (bare_profileOf hrec p.id)).2.1]

theorem length_of_tags {l m : List ShadowEntry} (h : l.map entryTag = m.map entryTag) : l.length = m.length := by
  simpa only [List.length_map] using congrArg List.length h

theorem requests_apart {a : Arbiter} : (requested a = none ∨ accessed a = none) ↔
    ∀ id node cell k, a.shadowReq = some (.creation id node cell k) → ∀ i n c m, a.busy ≠ some (.shadow (.creation i n c m) true) := by
  constructor
  · rintro h id node cell k hreq i n c m hbusy
    have hr := requested_eq.mpr ⟨node, k, hreq⟩
    have ha := accessed_eq.mpr ⟨n, m, hbusy⟩
    rw [hr, ha] at h
    simp at h
  · intro h
    by_contra hno
    obtain ⟨hr, ha⟩ := not_or.mp hno
    obtain ⟨⟨id, cell⟩, hr⟩ := Option.ne_none_iff_exists'.mp hr
    obtain ⟨⟨i, c⟩, ha⟩ := Option.ne_none_iff_exists'.mp ha
    obtain ⟨node, k, hr⟩ := requested_eq.mp hr
    obtain ⟨n, m, ha⟩ := accessed_eq.mp ha
    exact h id node cell k hr i n c m ha

/-- What the PATCH card in hand rests on. -/
def PatchStands (s : State) (p : PatchJob) : Prop :=
  1 ≤ p.id ∧ p.id ≤ 16 ∧ (p.phase ≠ .reading → (profileOf s p.id).freeing = false ∧ (profileOf s p.id).header ≠ none) ∧
    (p.creating = true → p.phase = .applying ∧ s.spb.entries.length < 2 ∧
      ∃ cell, editCell s p = some cell ∧ ∀ e ∈ s.spb.entries, e.cell ≠ cell)

/-- A wanted creation read is that of the edit in hand. -/
def Waited (s : State) (want : Option (Nat × Nat)) : Prop :=
  ∀ id cell, want = some (id, cell) → ∃ p, s.spb.patch = some p ∧ p.creating = true ∧ p.id = id ∧ editCell s p = some cell

theorem patchLaw_iff {s : State} : PatchLaw s ↔ (∀ p, s.spb.patch = some p → PatchStands s p) ∧ Waited s (requested s.ps.arb) ∧
    Waited s (accessed s.ps.arb) ∧ (requested s.ps.arb = none ∨ accessed s.ps.arb = none) := by
  unfold PatchLaw
  rw [requests_apart]
  simp only [wantedCreation_iff]
  exact ⟨fun ⟨hp, hw, hno⟩ => ⟨hp, fun id cell h => hw id cell (.inl h), fun id cell h => hw id cell (.inr h), hno⟩,
    fun ⟨hp, hr, ha, hno⟩ => ⟨hp, fun id cell h => h.elim (hr id cell) (ha id cell), hno⟩⟩

theorem PatchStands.congr {p : PatchJob} (hs : PatchStands s p) (hrec : t.ps.records.map bare = s.ps.records.map bare)
    (he : t.spb.entries.map entryTag = s.spb.entries.map entryTag) : PatchStands t p := by
  obtain ⟨hlo, hhi, hstand, hcreate⟩ := hs
  obtain ⟨-, hhead, -, hfree⟩ := bare_eq.mp (bare_profileOf hrec p.id)
  refine ⟨hlo, hhi, fun hph => by rw [hfree, hhead]; exact hstand hph, fun hc => ?_⟩
  obtain ⟨happ, hroom, cell, hcell, hnone⟩ := hcreate hc
  refine ⟨happ, by rwa [length_of_tags he], cell, by rwa [editCell_congr hrec], fun e hm => ?_⟩
  obtain ⟨f, hf, -, hfe, -⟩ := mem_of_tags he hm
  exact hfe ▸ hnone f hf

theorem Waited.congr {want : Option (Nat × Nat)} (hs : Waited s want) (hrec : t.ps.records.map bare = s.ps.records.map bare)
    (hp : t.spb.patch = s.spb.patch) : Waited t want := by
  intro id cell hw
  obtain ⟨p, h1, h2, h3, h4⟩ := hs id cell hw
  exact ⟨p, hp.trans h1, h2, h3, (editCell_congr hrec p).trans h4⟩

theorem PatchLaw.congr (hs : PatchLaw s) (hrec : t.ps.records.map bare = s.ps.records.map bare) (hp : t.spb.patch = s.spb.patch)
    (he : t.spb.entries.map entryTag = s.spb.entries.map entryTag) (hreq : requested t.ps.arb = requested s.ps.arb)
    (hacc : accessed t.ps.arb = accessed s.ps.arb) : PatchLaw t := by
  obtain ⟨hpatch, hr, ha, hno⟩ := patchLaw_iff.mp hs
  rw [← hreq] at hr hno
  rw [← hacc] at ha hno
  exact patchLaw_iff.mpr ⟨fun p hin => (hpatch p (hp ▸ hin)).congr hrec he, hr.congr hrec hp, ha.congr hrec hp, hno⟩

theorem covers_eq (s : State) (a : Nat) : covers s a =
    (s.ps.free.filter (fun e => decide (e.base ≤ a ∧ a < e.base + e.len))).length +
      ((s.ps.records.map bare).filter (fun r => r.2.1.any fun h => decide (h.base ≤ a ∧ a < h.base + h.nodes))).length :=
  congrArg (_ + ·) (length_filter_map bare (fun r => r.2.1.any fun h => decide (h.base ≤ a ∧ a < h.base + h.nodes)) s.ps.records)

theorem ExtentLaw.congr (hs : ExtentLaw s) (hrec : t.ps.records.map bare = s.ps.records.map bare) (hfree : t.ps.free = s.ps.free)
    (hcells : t.power.store64k = s.power.store64k) : ExtentLaw t := by
  obtain ⟨hlist, hcovers, hempty, hnodes⟩ := hs
  refine ⟨hfree ▸ hlist, fun a => ?_, fun r hr h => ?_, fun r hr h hh => ?_⟩
  · rw [covers_eq, hrec, hfree, hcells, ← covers_eq]
    exact hcovers a
  · obtain ⟨q, hq, hst, hhead, -⟩ := bare_mem hrec hr
    rw [hhead]
    exact hempty q hq (hst ▸ h)
  · obtain ⟨q, hq, -, hhead, -⟩ := bare_mem hrec hr
    exact hnodes q hq h (hhead ▸ hh)

end

end Sys2Proof.Machine
end

section
/-! PROOFS. What leaves the laws of the store, the requests at the port, and a change of one profile record (R25, R36, R39, R44, R49). -/

namespace Sys2Proof.Machine

/-! ## What the laws do not see -/

/-- Nothing that the laws of the store look at has changed, but for the PATCH card in hand and its requests. -/
def Steady (s t : State) : Prop :=
  t.pe.queue = s.pe.queue ∧ t.pe.state = s.pe.state ∧ t.pe.job.map jobTag = s.pe.job.map jobTag ∧
    t.ps.records.map bare = s.ps.records.map bare ∧ t.ps.free = s.ps.free ∧ t.ps.loader.map (·.id) = s.ps.loader.map (·.id) ∧
    t.spb.entries.map entryTag = s.spb.entries.map entryTag ∧ t.tc.fabrics.map (·.refs) = s.tc.fabrics.map (·.refs) ∧
    t.tmap.segs.map span = s.tmap.segs.map span ∧ t.setup.map (·.pitch) = s.setup.map (·.pitch) ∧ t.power.store64k = s.power.store64k

/-- Nothing that the laws of the store look at has changed. -/
def Quiet (s t : State) : Prop :=
  Steady s t ∧ t.spb.patch = s.spb.patch ∧ requested t.ps.arb = requested s.ps.arb ∧ accessed t.ps.arb = accessed s.ps.arb

section
variable {ps fs : List Nat} {s t : State}

theorem Stock.steady (hs : Stock ps fs s) (h : Steady s t) : Stock ps fs t := by
  obtain ⟨hcount, hfabric, hqueue, hjob, hstrips, hbuffer, hvisible, hextent⟩ := hs
  obtain ⟨hq, hst, hj, hrec, hfree, hload, he, hf, hsegs, hset, hcells⟩ := h
  exact ⟨hcount.congr hrec hq (jobId_of_tag hj), hfabric.congr hf hq hsegs, hq ▸ hqueue, hjob.congr hst (jobId_of_tag hj) hload hrec,
    hstrips.congr hsegs hset, hbuffer.congr he, hvisible.congr hj he, hextent.congr hrec hfree hcells⟩

theorem Laws.quiet (hs : Laws ps fs s) (h : Quiet s t) : Laws ps fs t := by
  obtain ⟨hsteady, hp, hreq, hacc⟩ := h
  have hkept := hsteady
  obtain ⟨-, -, -, hrec, -, -, he, -⟩ := hkept
  exact ⟨hs.1.steady hsteady, hs.2.congr hrec hp he hreq hacc⟩

theorem Steady.refl (s : State) : Steady s s := ⟨rfl, rfl, rfl, rfl, rfl, rfl, rfl, rfl, rfl, rfl, rfl⟩

/-- The laws stand where only the PATCH card in hand and the port have changed. -/
theorem Laws.patched (hs : Laws ps fs s) (h : Steady s t) (hp : PatchLaw t) : Laws ps fs t := ⟨hs.1.steady h, hp⟩

end

/-! ## The requests at the port -/

section
variable {s t : State}

theorem accessed_none_of_free {a : Arbiter} (h : shadowAtPort a = false) : accessed a = none := by
  unfold shadowAtPort at h
  unfold accessed
  split
  · rename_i hb
    rw [hb] at h
    cases h
  · rfl

theorem requested_drain {a : Arbiter} {i c : Nat} {v : CellValue} (h : a.shadowReq = some (.drain i c v)) : requested a = none := by
  unfold requested
  rw [h]

/-- A creation read is asked for the edit in hand alone (R49). -/
theorem nextShadowRequest_wanted {id node cell k : Nat} (h : nextShadowRequest s = some (.creation id node cell k)) :
    ∃ p, s.spb.patch = some p ∧ p.creating = true ∧ p.id = id ∧ editCell s p = some cell := by
  unfold nextShadowRequest at h
  split at h
  · cases h
  · split at h
    · rename_i p hp
      split at h
      · rename_i e hd hc he hh
        obtain ⟨rfl, -, rfl, -⟩ := ShadowRequest.creation.inj (Option.some.inj h)
        refine ⟨p, hp, hc, rfl, ?_⟩
        unfold editCell
        rw [he, hh]
      · cases h
    · cases h

theorem Waited.of_eq {want want' : Option (Nat × Nat)} (hs : Waited s want) (h : want' = want) : Waited s want' := h ▸ hs

theorem waited_none : Waited s none := fun _ _ h => by cases h

/-- The shadow requester's own request keeps the law of the PATCH card. -/
theorem asked_patchLaw (h : PatchLaw s) {a : Arbiter} (hreq : a.shadowReq = shadowAsked s) (hbusy : a.busy = s.ps.arb.busy) :
    Waited s (requested a) ∧ Waited s (accessed a) ∧ (requested a = none ∨ accessed a = none) := by
  obtain ⟨-, hr, ha, hno⟩ := patchLaw_iff.mp h
  have hacc : accessed a = accessed s.ps.arb := by
    unfold accessed
    rw [hbusy]
  rw [hacc]
  unfold shadowAsked at hreq
  split at hreq
  · have hrequested : requested a = requested s.ps.arb := by
      unfold requested
      rw [hreq]
    rw [hrequested]
    exact ⟨hr, ha, hno⟩
  · rename_i hidle
    have hfree : accessed s.ps.arb = none := accessed_none_of_free (by simp_all)
    refine ⟨fun id cell hw => ?_, ha, .inr hfree⟩
    obtain ⟨node, k, hask⟩ := requested_eq.mp hw
    exact nextShadowRequest_wanted (hreq.symm.trans hask)

/-- The grant of the port keeps what is wanted. -/
theorem granted_patchLaw {a : Arbiter} (hr : Waited s (requested a)) (ha : Waited s (accessed a))
    (hno : requested a = none ∨ accessed a = none) :
    Waited s (requested (grant a)) ∧ Waited s (accessed (grant a)) ∧ (requested (grant a) = none ∨ accessed (grant a) = none) := by
  rcases grant_cases a with h | ⟨-, ⟨r, c, hreq, h⟩ | ⟨r, c, -, h⟩ | ⟨r, -, h⟩⟩
  · rw [h]
    exact ⟨hr, ha, hno⟩
  · have hgranted : accessed (grant a) = requested a := by
      rw [h]
      unfold accessed requested
      rw [hreq]
      cases r <;> rfl
    have hgone : requested (grant a) = none := by rw [h]; rfl
    rw [hgone, hgranted]
    exact ⟨waited_none, hr, .inl rfl⟩
  · have hgone : accessed (grant a) = none := by rw [h]; rfl
    have hkept : requested (grant a) = requested a := by rw [h]; rfl
    rw [hgone, hkept]
    exact ⟨hr, waited_none, .inr rfl⟩
  · have hgone : accessed (grant a) = none := by rw [h]; rfl
    have hkept : requested (grant a) = requested a := by rw [h]; rfl
    rw [hgone, hkept]
    exact ⟨hr, waited_none, .inr rfl⟩

/-- A change of the arbiter keeps the law of the PATCH card where what is wanted is still that of the edit in hand. -/
theorem PatchLaw.withArb (h : PatchLaw s) {a : Arbiter} (hr : Waited s (requested a)) (ha : Waited s (accessed a))
    (hno : requested a = none ∨ accessed a = none) : PatchLaw (setArb a s) := by
  obtain ⟨hp, -⟩ := patchLaw_iff.mp h
  exact patchLaw_iff.mpr ⟨hp, hr, ha, hno⟩

theorem pumpPort_setArb (s : State) : pumpPort s = setArb (pumpPort s).ps.arb s := pumpPort_eq s

theorem PatchLaw.pump (h : PatchLaw s) : PatchLaw (pumpPort s) := by
  obtain ⟨hr, ha, hno⟩ := asked_patchLaw h (a := { s.ps.arb with shadowReq := shadowAsked s, loaderReq := loadAsked s }) rfl rfl
  obtain ⟨hr, ha, hno⟩ := granted_patchLaw hr ha hno
  rw [pumpPort_setArb, pumpPort_asked]
  exact h.withArb hr ha hno

theorem setArb_steady (a : Arbiter) (s : State) : Steady s (setArb a s) := Steady.refl s

theorem Laws.pump {ps fs : List Nat} (h : Laws ps fs s) : Laws ps fs (pumpPort s) := by
  refine h.patched ?_ h.2.pump
  rw [pumpPort_setArb]
  exact setArb_steady _ s

/-- Where the port has been given up, no creation read is at it. -/
theorem Laws.portDone {ps fs : List Nat} (h : Laws ps fs s) : Laws ps fs (portDone s) := by
  obtain ⟨-, hr, -⟩ := patchLaw_iff.mp h.2
  exact h.patched (setArb_steady _ s) (h.2.withArb hr waited_none (.inr rfl))

end

/-! ## One profile record changed -/

section
variable {ps qs fs : List Nat} {s t : State} {id : Nat} {f : ProfileRecord → ProfileRecord}

/-- The record of a profile has been changed, and no other. -/
def Changed (id : Nat) (f : ProfileRecord → ProfileRecord) (s t : State) : Prop :=
  1 ≤ id ∧ id ≤ 16 ∧ s.ps.records.length = 16 ∧ t.ps.records = modifyNth s.ps.records (id - 1) f

theorem Changed.old (h : Changed id f s t) : s.ps.records[id - 1]? = some (profileOf s id) := by
  obtain ⟨h1, h2, hlen, -⟩ := h
  have hlt : id - 1 < s.ps.records.length := by omega
  rw [List.getElem?_eq_getElem hlt, profileOf_eq (List.getElem?_eq_getElem hlt)]

theorem Changed.new (h : Changed id f s t) : t.ps.records[id - 1]? = some (f (profileOf s id)) := by
  rw [h.2.2.2, modifyNth_getElem?_eq, h.old]
  rfl

theorem Changed.same (h : Changed id f s t) : profileOf t id = f (profileOf s id) := profileOf_eq h.new

theorem Changed.other (h : Changed id f s t) {n : Nat} (hn : 1 ≤ n) (hne : n ≠ id) : profileOf t n = profileOf s n := by
  obtain ⟨h1, -, -, hrec⟩ := h
  unfold profileOf nth
  rw [hrec, modifyNth_getElem?_ne (by omega)]

/-- A record after the change is one of before, or the one changed. -/
theorem Changed.mem (h : Changed id f s t) {r : ProfileRecord} (hr : r ∈ t.ps.records) : r ∈ s.ps.records ∨ r = f (profileOf s id) := by
  obtain ⟨n, hn⟩ := List.mem_iff_getElem?.mp hr
  by_cases hne : n = id - 1
  · rw [hne, h.new] at hn
    exact .inr (Option.some.inj hn).symm
  · rw [h.2.2.2, modifyNth_getElem?_ne hne] at hn
    exact .inl (List.mem_of_getElem? hn)

theorem Changed.length (h : Changed id f s t) : t.ps.records.length = 16 := by
  obtain ⟨-, -, hlen, hrec⟩ := h
  rw [hrec, modifyNth_eq_modify, List.length_modify, hlen]

theorem Counted.changed (hs : Counted ps s) (h : Changed id f s t)
    (huses : ∀ n, 1 ≤ n → n ≠ id → profileUses t n + qs.count n = profileUses s n + ps.count n)
    (hid : (f (profileOf s id)).refs = profileUses t id + qs.count id)
    (hzero : (f (profileOf s id)).state = .empty ∨ (f (profileOf s id)).freeing = true → (f (profileOf s id)).refs = 0) :
    Counted qs t := by
  obtain ⟨-, hrefs, hempty⟩ := hs
  refine ⟨h.length, fun n h1 h2 => ?_, fun r hr he => ?_⟩
  · by_cases hn : n = id
    · rw [hn, h.same, hid]
    · rw [h.other h1 hn, hrefs n h1 h2, huses n h1 hn]
  · rcases h.mem hr with hr | rfl
    · exact hempty r hr he
    · exact hzero he

theorem JobLaw.changed (hs : JobLaw s) (h : Changed id f s t) (hst : t.pe.state = s.pe.state)
    (hj : t.pe.job.map jobId = s.pe.job.map jobId) (hload : t.ps.loader.map (·.id) = s.ps.loader.map (·.id))
    (hkeeps : s.pe.job.map jobId = some id → stateSeen (f (profileOf s id)) = .ready ∨ stateSeen (f (profileOf s id)) = .retiring)
    (hloads : s.ps.loader.map (·.id) = some id → stateSeen (f (profileOf s id)) = .loading) : JobLaw t := by
  obtain ⟨hidle, hjob, hloader⟩ := hs
  unfold JobLaw
  rw [hst, hj, hload]
  refine ⟨hidle, fun n hn => ?_, fun n hn => ?_⟩
  · obtain ⟨h1, h2, hseen⟩ := hjob n hn
    refine ⟨h1, h2, ?_⟩
    by_cases hne : n = id
    · subst hne
      rw [h.same]
      exact hkeeps hn
    · rwa [h.other h1 hne]
  · obtain ⟨h1, h2, hseen⟩ := hloader n hn
    refine ⟨h1, h2, ?_⟩
    by_cases hne : n = id
    · subst hne
      rw [h.same]
      exact hloads hn
    · rwa [h.other h1 hne]

theorem length_filter_modifyNth {α : Type} (p : α → Bool) {l : List α} {n : Nat} {f : α → α} {x : α} (hx : l[n]? = some x) :
    ((modifyNth l n f).filter p).length + (if p x then 1 else 0) = (l.filter p).length + if p (f x) then 1 else 0 := by
  induction l generalizing n with
  | nil => simp at hx
  | cons y l ih =>
    cases n with
    | zero =>
      obtain rfl : y = x := by simpa using hx
      simp only [modifyNth, List.filter_cons]
      split <;> split <;> simp_all
    | succ n =>
      have hrest := ih (n := n) (by simpa using hx)
      simp only [modifyNth, List.filter_cons]
      split
      · simp only [List.length_cons]
        omega
      · exact hrest

/-- A cell lies in the extent of a record. -/
def headerHolds (h : Option ProfileHeader) (a : Nat) : Bool := h.any fun h => decide (h.base ≤ a ∧ a < h.base + h.nodes)

/-- How many free extents hold a cell. -/
def freeAt (l : List Extent) (a : Nat) : Nat := (l.filter fun e => decide (e.base ≤ a ∧ a < e.base + e.len)).length

theorem covers_split (s : State) (a : Nat) : covers s a = freeAt s.ps.free a + (s.ps.records.filter fun r => headerHolds r.header a).length := rfl

theorem Changed.covers (h : Changed id f s t) (a : Nat) :
    covers t a + (freeAt s.ps.free a + if headerHolds (profileOf s id).header a then 1 else 0) =
      covers s a + (freeAt t.ps.free a + if headerHolds (f (profileOf s id)).header a then 1 else 0) := by
  have hcount := length_filter_modifyNth (fun r => headerHolds r.header a) (f := f) h.old
  rw [← h.2.2.2] at hcount
  rw [covers_split, covers_split]
  omega

/-- The free extents of a list in order hold a cell at most once. -/
theorem freeAt_cells {l : List Extent} (hl : Spread l) (a : Nat) : freeAt l a = 1 ∧ Cells l a ∨ freeAt l a = 0 ∧ ¬ Cells l a := by
  unfold freeAt
  induction l with
  | nil => simp [Cells]
  | cons e l ih =>
    obtain ⟨-, habove, hrest⟩ := spread_cons.mp hl
    rw [List.filter_cons, cells_cons]
    by_cases hin : e.base ≤ a ∧ a < e.base + e.len
    · have hnone : ¬ Cells l a := fun hc => by
        have := hc.above habove
        omega
      have hzero := (ih hrest).resolve_left fun h => hnone h.2
      rw [if_pos (by simpa using hin), List.length_cons, hzero.1]
      exact .inl ⟨rfl, .inl hin⟩
    · rw [if_neg (by simpa using hin), or_iff_right hin]
      exact ih hrest

theorem ExtentLaw.changed (hs : ExtentLaw s) (h : Changed id f s t) (hfree : FreeList t.ps.free) (hcells : t.power.store64k = s.power.store64k)
    (hsame : ∀ a, (freeAt t.ps.free a + if headerHolds (f (profileOf s id)).header a then 1 else 0) =
      freeAt s.ps.free a + if headerHolds (profileOf s id).header a then 1 else 0)
    (hempty : (f (profileOf s id)).state = .empty → (f (profileOf s id)).header = none)
    (hnodes : ∀ g, (f (profileOf s id)).header = some g → 0 < g.nodes) : ExtentLaw t := by
  obtain ⟨-, hcovers, hempties, hsizes⟩ := hs
  refine ⟨hfree, fun a => ?_, fun r hr he => ?_, fun r hr g hg => ?_⟩
  · have hmoved := h.covers a
    have heq := hsame a
    rw [hcells, ← hcovers a]
    omega
  · rcases h.mem hr with hr | rfl
    · exact hempties r hr he
    · exact hempty he
  · rcases h.mem hr with hr | rfl
    · exact hsizes r hr g hg
    · exact hnodes g hg

/-- A change that leaves a record's extent leaves the extents. -/
theorem ExtentLaw.kept (hs : ExtentLaw s) (h : Changed id f s t) (hfree : t.ps.free = s.ps.free) (hpower : t.power = s.power)
    (hhead : (f (profileOf s id)).header = (profileOf s id).header)
    (hst : (f (profileOf s id)).state = .empty → (profileOf s id).state = .empty) : ExtentLaw t := by
  have hmem : profileOf s id ∈ s.ps.records := List.mem_of_getElem? h.old
  refine hs.changed h (hfree ▸ hs.1) (by rw [hpower]) (fun a => by rw [hfree, hhead]) (fun he => ?_) fun g hg => ?_
  · rw [hhead]
    exact hs.2.2.1 _ hmem (hst he)
  · exact hs.2.2.2 _ hmem g (hhead ▸ hg)

/-- The law of the PATCH card stands where the record that changed keeps what a card past READING rests on. -/
theorem PatchLaw.changed (hs : PatchLaw s) (h : Changed id f s t) (hp : t.spb.patch = s.spb.patch)
    (hkeeps : ∀ p, s.spb.patch = some p → p.phase ≠ .reading → p.id = id →
      (f (profileOf s id)).freeing = (profileOf s id).freeing ∧ (f (profileOf s id)).header = (profileOf s id).header)
    (he : t.spb.entries.map entryTag = s.spb.entries.map entryTag) (hreq : requested t.ps.arb = requested s.ps.arb)
    (hacc : accessed t.ps.arb = accessed s.ps.arb) : PatchLaw t := by
  obtain ⟨hpatch, hr, ha, hno⟩ := patchLaw_iff.mp hs
  have hsame : ∀ p, s.spb.patch = some p → p.phase ≠ .reading →
      (profileOf t p.id).freeing = (profileOf s p.id).freeing ∧ (profileOf t p.id).header = (profileOf s p.id).header :=
    fun p hin hph => by
      by_cases hne : p.id = id
      · rw [hne, h.same]
        exact hkeeps p hin hph hne
      · rw [h.other (hpatch p hin).1 hne]
        exact ⟨rfl, rfl⟩
  have hcell : ∀ p, s.spb.patch = some p → p.phase ≠ .reading → editCell t p = editCell s p := fun p hin hph => by
    unfold editCell
    rw [(hsame p hin hph).2]
  have happlying : ∀ p, s.spb.patch = some p → p.creating = true → p.phase ≠ .reading := fun p hin hc => by
    obtain ⟨-, -, -, hcreate⟩ := hpatch p hin
    rw [(hcreate hc).1]
    decide
  have hwait : ∀ want, Waited s want → Waited t want := fun want hw i cell heq => by
    obtain ⟨p, h1, h2, h3, h4⟩ := hw i cell heq
    exact ⟨p, hp.trans h1, h2, h3, (hcell p h1 (happlying p h1 h2)).trans h4⟩
  rw [← hreq] at hr hno
  rw [← hacc] at ha hno
  refine patchLaw_iff.mpr ⟨fun p hin => ?_, hwait _ hr, hwait _ ha, hno⟩
  rw [hp] at hin
  obtain ⟨h1, h2, hstand, hcreate⟩ := hpatch p hin
  refine ⟨h1, h2, fun hph => ?_, fun hc => ?_⟩
  · rw [(hsame p hin hph).1, (hsame p hin hph).2]
    exact hstand hph
  · obtain ⟨happ, hroom, cell, hcellEq, hnone⟩ := hcreate hc
    refine ⟨happ, by rwa [length_of_tags he], cell, (hcell p hin (happlying p hin hc)).trans hcellEq, fun e hm => ?_⟩
    obtain ⟨g, hg, -, hge, -⟩ := mem_of_tags he hm
    exact hge ▸ hnone g hg

/-- The law of the PATCH card stands where the card, the entries and what is wanted of the port only leave. -/
theorem PatchLaw.thin (hs : PatchLaw s) (hrec : t.ps.records.map bare = s.ps.records.map bare)
    (hp : ∀ p, t.spb.patch = some p → s.spb.patch = some p) (hlen : t.spb.entries.length ≤ s.spb.entries.length)
    (he : ∀ e ∈ t.spb.entries, ∃ f ∈ s.spb.entries, f.cell = e.cell)
    (hreq : ∀ i c, requested t.ps.arb = some (i, c) → requested s.ps.arb = some (i, c) ∧
      ∀ p, s.spb.patch = some p → p.creating = true → p.id = i → t.spb.patch = some p)
    (hacc : ∀ i c, accessed t.ps.arb = some (i, c) → accessed s.ps.arb = some (i, c) ∧
      ∀ p, s.spb.patch = some p → p.creating = true → p.id = i → t.spb.patch = some p) : PatchLaw t := by
  obtain ⟨hpatch, hr, ha, hno⟩ := patchLaw_iff.mp hs
  refine patchLaw_iff.mpr ⟨fun p hin => ?_, fun i c hw => ?_, fun i c hw => ?_, ?_⟩
  · obtain ⟨h1, h2, hstand, hcreate⟩ := hpatch p (hp p hin)
    obtain ⟨-, hhead, -, hfree⟩ := bare_eq.mp (bare_profileOf hrec p.id)
    refine ⟨h1, h2, fun hph => by rw [hfree, hhead]; exact hstand hph, fun hc => ?_⟩
    obtain ⟨happ, hroom, cell, hcell, hnone⟩ := hcreate hc
    exact ⟨happ, hlen.trans_lt hroom, cell, (editCell_congr hrec p).trans hcell, fun e hm => by
      obtain ⟨f, hf, heq⟩ := he e hm
      exact heq ▸ hnone f hf⟩
  · obtain ⟨hold, hstays⟩ := hreq i c hw
    obtain ⟨p, h1, h2, h3, h4⟩ := hr i c hold
    exact ⟨p, hstays p h1 h2 h3, h2, h3, (editCell_congr hrec p).trans h4⟩
  · obtain ⟨hold, hstays⟩ := hacc i c hw
    obtain ⟨p, h1, h2, h3, h4⟩ := ha i c hold
    exact ⟨p, hstays p h1 h2 h3, h2, h3, (editCell_congr hrec p).trans h4⟩
  · by_contra hboth
    obtain ⟨h1, h2⟩ := not_or.mp hboth
    obtain ⟨⟨i, c⟩, h1⟩ := Option.ne_none_iff_exists'.mp h1
    obtain ⟨⟨j, d⟩, h2⟩ := Option.ne_none_iff_exists'.mp h2
    have hr := (hreq i c h1).1
    have ha := (hacc j d h2).1
    rw [hr, ha] at hno
    simp at hno

/-- The law of the PATCH card asks nothing where no creation read is wanted and the card, past READING or not, waits for none. -/
theorem PatchLaw.of_idle (hp : ∀ p, t.spb.patch = some p → PatchStands t p) (hreq : requested t.ps.arb = none)
    (hacc : accessed t.ps.arb = none) : PatchLaw t :=
  patchLaw_iff.mpr ⟨hp, hreq ▸ waited_none, hacc ▸ waited_none, .inl hreq⟩

end

end Sys2Proof.Machine
end

section
/-! PROOFS. The laws of the store through a freeing, the release of a reference, and the end of a job (R32, R36, R37, R46, R62, R138). -/

namespace Sys2Proof.Machine

/-! ## The buffer and the card without a profile (R46) -/

section
variable {ps fs : List Nat} {s t : State} {id : Nat}

/-- The laws but those of the buffer do not see the buffer. -/
theorem Stock.rebuffer {b : ShadowBuffer} (h : Stock ps fs { t with spb := b }) (hb : Buffered t.spb.entries) (hv : AllVisible t) :
    Stock ps fs t := by
  obtain ⟨hcount, hfabric, hqueue, hjob, hstrips, -, -, hextent⟩ := h
  exact ⟨hcount, hfabric, hqueue, hjob, hstrips, hb, hv, hextent⟩

theorem Buffered.filter {l : List ShadowEntry} (h : Buffered l) (p : ShadowEntry → Bool) : Buffered (l.filter p) := by
  obtain ⟨hlen, hnodup, hids, v, q, rfl, hv, hq⟩ := h
  have hsub : ((v ++ q).filter p).Sublist (v ++ q) := List.filter_sublist
  refine ⟨hsub.length_le.trans hlen, hnodup.sublist (hsub.map _), fun e he => hids e (hsub.subset he), v.filter p, q.filter p,
    List.filter_append v q, fun e he => hv e (List.mem_filter.mp he).1, fun e he => hq e (List.mem_filter.mp he).1⟩

theorem requested_without (a : Arbiter) {i c : Nat} (h : requested (withoutRequests id a) = some (i, c)) :
    requested a = some (i, c) ∧ i ≠ id := by
  obtain ⟨node, k, hreq⟩ := requested_eq.mp h
  obtain ⟨hold, hkeep⟩ := Option.filter_eq_some_iff.mp hreq
  exact ⟨requested_eq.mpr ⟨node, k, hold⟩, by simpa [requestFor] using hkeep⟩

theorem accessed_without (a : Arbiter) {i c : Nat} (h : accessed (withoutRequests id a) = some (i, c)) :
    accessed a = some (i, c) ∧ i ≠ id := by
  obtain ⟨node, k, hbusy⟩ := accessed_eq.mp h
  simp only [withoutRequests, dropCreation] at hbusy
  split at hbusy
  · rename_i i' node' c' k' live hold
    simp only [Option.some.injEq, PortAccess.shadow.injEq, ShadowRequest.creation.injEq, Bool.and_eq_true, bne_iff_ne] at hbusy
    obtain ⟨⟨rfl, rfl, rfl, rfl⟩, hlive, hne⟩ := hbusy
    exact ⟨accessed_eq.mpr ⟨_, _, by rw [hold, hlive]⟩, hne⟩
  · rename_i hno
    exact absurd hbusy (hno _ _ _ _ _)

theorem patchKept_some {p : Option PatchJob} {q : PatchJob} (h : patchKept id p = some q) : p = some q ∧ (q.phase ≠ .reading → q.id ≠ id) := by
  obtain ⟨hold, hkeep⟩ := Option.filter_eq_some_iff.mp h
  refine ⟨hold, fun hph hid => ?_⟩
  simp [hid, hph] at hkeep

theorem patchKept_other {q : PatchJob} (h : q.id ≠ id) : patchKept id (some q) = some q := by
  simp [patchKept, h]

/-- The entries, the requests and the card in hand of a profile have been given up (R46). -/
theorem discarded_laws (hs : Laws ps fs s) (id : Nat) : Laws ps fs (failPatchOf id (discardEntries id s)) ∧
    (∀ p, (failPatchOf id (discardEntries id s)).spb.patch = some p → p.phase ≠ .reading → p.id ≠ id) := by
  have hps := freed_before_ps id s
  have hspb : (failPatchOf id (discardEntries id s)).spb = { s.spb with
      entries := s.spb.entries.filter (sparesEntry id s.ps.arb.busy), patch := patchKept id s.spb.patch } := by
    rw [failPatchOf_spb, discardEntries_spb]
  have hpe : (failPatchOf id (discardEntries id s)).pe = s.pe := by simp
  have htc : (failPatchOf id (discardEntries id s)).tc = s.tc := by simp
  have htmap : (failPatchOf id (discardEntries id s)).tmap = s.tmap := by simp
  have hset : (failPatchOf id (discardEntries id s)).setup = s.setup := by simp
  have hpower : (failPatchOf id (discardEntries id s)).power = s.power := by simp
  obtain ⟨u, hu⟩ : ∃ u, failPatchOf id (discardEntries id s) = u := ⟨_, rfl⟩
  rw [hu] at hps hspb hpe htc htmap hset hpower ⊢
  have hstock : Stock ps fs { u with spb := s.spb } := hs.1.steady (by
    refine ⟨?_, ?_, ?_, ?_, ?_, ?_, rfl, ?_, ?_, ?_, ?_⟩ <;> simp [hps, hpe, htc, htmap, hset, hpower])
  have hentries : u.spb.entries = s.spb.entries.filter (sparesEntry id s.ps.arb.busy) := by rw [hspb]
  have hpatch : u.spb.patch = patchKept id s.spb.patch := by rw [hspb]
  obtain ⟨-, -, -, -, -, hbuffer, hvisible, -⟩ := hs.1
  have hcomp : computing u = computing s := by
    unfold computing
    rw [hpe]
  have hstays : ∀ i, i ≠ id → ∀ p, s.spb.patch = some p → p.creating = true → p.id = i → u.spb.patch = some p := fun i hne p hp _ hpi => by
    rw [hpatch, hp]
    exact patchKept_other (hpi ▸ hne)
  refine ⟨⟨hstock.rebuffer (hentries ▸ hbuffer.filter _) fun hc e he => hvisible (hcomp ▸ hc) e (List.mem_filter.mp (hentries ▸ he)).1,
    hs.2.thin (by rw [hps]) (fun p hp => (patchKept_some (hpatch ▸ hp)).1) (hentries ▸ List.length_filter_le _ _)
      (fun e he => ⟨e, (List.mem_filter.mp (hentries ▸ he)).1, rfl⟩) (fun i c hw => ?_)
      fun i c hw => ?_⟩, fun p hp => (patchKept_some (hpatch ▸ hp)).2⟩
  · rw [hps] at hw
    obtain ⟨hold, hne⟩ := requested_without s.ps.arb hw
    exact ⟨hold, hstays i hne⟩
  · rw [hps] at hw
    obtain ⟨hold, hne⟩ := accessed_without s.ps.arb hw
    exact ⟨hold, hstays i hne⟩

end

/-! ## A record is freed (R32) -/

section
variable {ps fs : List Nat} {s t : State} {id : Nat}

/-- A record with no use: a profile that no card, no job and no load names. -/
def Unused (ps : List Nat) (id : Nat) (s : State) : Prop :=
  1 ≤ id ∧ id ≤ 16 ∧ profileUses s id = 0 ∧ ps.count id = 0 ∧ s.ps.loader.map (·.id) ≠ some id

theorem Unused.noJob (h : Unused ps id s) : s.pe.job.map jobId ≠ some id := by
  intro hj
  obtain ⟨-, -, huses, -⟩ := h
  rw [profileUses_eq, hj] at huses
  simp at huses

theorem Unused.refs (h : Unused ps id s) (hs : Counted ps s) : (profileOf s id).refs = 0 := by
  obtain ⟨h1, h2, huses, hcount, -⟩ := h
  rw [hs.2.1 id h1 h2, huses, hcount]

theorem Unused.of_refs (h1 : 1 ≤ id) (h2 : id ≤ 16) (hs : Counted ps s) (hrefs : (profileOf s id).refs = 0)
    (hload : s.ps.loader.map (·.id) ≠ some id) : Unused ps id s := by
  have hsum := hs.2.1 id h1 h2
  exact ⟨h1, h2, by omega, by omega, hload⟩

theorem Unused.congr (h : Unused ps id s) (hpe : t.pe = s.pe) (hload : t.ps.loader = s.ps.loader) : Unused ps id t := by
  unfold Unused profileUses
  rw [hpe, hload]
  exact h

/-- A record of an unused profile that changes into one without a reference keeps the laws, where the extents do. -/
theorem Stock.retired {f : ProfileRecord → ProfileRecord} (hs : Stock ps fs s) (h : Changed id f s t) (hu : Unused ps id s)
    (hrefs : (f (profileOf s id)).refs = 0) (hextent : ExtentLaw t) (hpe : t.pe = s.pe) (hload : t.ps.loader = s.ps.loader)
    (hspb : t.spb = s.spb) (htc : t.tc = s.tc) (htmap : t.tmap = s.tmap) (hset : t.setup = s.setup) : Stock ps fs t := by
  obtain ⟨hcount, hfabric, hqueue, hjob, hstrips, hbuffer, hvisible, -⟩ := hs
  have huses : ∀ n, profileUses t n = profileUses s n := fun n => by
    unfold profileUses
    rw [hpe]
  refine ⟨hcount.changed h (fun n _ _ => by rw [huses]) ?_ (fun _ => hrefs), hfabric.congr (by rw [htc]) (by rw [hpe]) (by rw [htmap]),
    by rwa [hpe], hjob.changed h (by rw [hpe]) (by rw [hpe]) (by rw [hload]) (fun hj => absurd hj hu.noJob)
      (fun hl => absurd hl hu.2.2.2.2), hstrips.congr (by rw [htmap]) (by rw [hset]), by rwa [hspb],
    hvisible.congr (by rw [hpe]) (by rw [hspb]), hextent⟩
  obtain ⟨-, -, hnone, hzero, -⟩ := hu
  rw [hrefs, huses, hnone, hzero]

theorem headerHolds_iff {h : ProfileHeader} {a : Nat} : headerHolds (some h) a = true ↔ h.base ≤ a ∧ a < h.base + h.nodes := by
  simp [headerHolds]

/-- The extent of a record lies apart from every free one (R25). -/
theorem ExtentLaw.apart (hs : ExtentLaw s) {r : ProfileRecord} {h : ProfileHeader} (hr : r ∈ s.ps.records) (hh : r.header = some h) :
    ∀ e ∈ s.ps.free, e.base + e.len ≤ h.base ∨ h.base + h.nodes ≤ e.base := by
  obtain ⟨hlist, hcovers, -, hnodes⟩ := hs
  intro e he
  have hpos := hnodes r hr h hh
  have hlen : 0 < e.len := (freeList_iff.mp hlist).1 e he
  by_contra hno
  have hin : ∃ a, (e.base ≤ a ∧ a < e.base + e.len) ∧ h.base ≤ a ∧ a < h.base + h.nodes := ⟨max e.base h.base, by omega⟩
  obtain ⟨a, hfree, hheld⟩ := hin
  have hone := hcovers a
  have hfreeAt : 0 < freeAt s.ps.free a := List.length_pos_of_mem (List.mem_filter.mpr ⟨he, by simpa using hfree⟩)
  have hrecords : 0 < (s.ps.records.filter fun r => headerHolds r.header a).length :=
    List.length_pos_of_mem (List.mem_filter.mpr ⟨hr, by rw [hh]; exact headerHolds_iff.mpr hheld⟩)
  rw [covers_split] at hone
  split at hone <;> omega

/-- The extent of a freed record returns to the free list (R27, R32). -/
theorem ExtentLaw.freed (hs : ExtentLaw s) {h : ProfileHeader} (hc : Changed id (fun _ => emptyRecord) s t)
    (hh : (profileOf s id).header = some h) (hfree : t.ps.free = release h.base h.nodes s.ps.free) (hpower : t.power = s.power) : ExtentLaw t := by
  have hmem : profileOf s id ∈ s.ps.records := List.mem_of_getElem? hc.old
  have hspread := freeList_iff.mp hs.1
  obtain ⟨hspread', -, hcells⟩ := release_returns (hs.2.2.2 _ hmem h hh) hspread (hs.apart hmem hh)
  rw [← hfree] at hspread' hcells
  refine hs.changed hc (freeList_iff.mpr hspread') (by rw [hpower]) (fun a => ?_) (fun _ => rfl) fun g hg => by cases hg
  have hnone : headerHolds emptyRecord.header a = false := rfl
  rw [hnone, hh]
  have hapart : Cells s.ps.free a → ¬ (h.base ≤ a ∧ a < h.base + h.nodes) := by
    rintro ⟨e, he, hlo, hhi⟩ hin
    have := hs.apart hmem hh e he
    omega
  have hiff := hcells a
  rcases freeAt_cells hspread a with ⟨h1, hc1⟩ | ⟨h1, hc1⟩ <;> rcases freeAt_cells hspread' a with ⟨h2, hc2⟩ | ⟨h2, hc2⟩ <;>
    by_cases hin : h.base ≤ a ∧ a < h.base + h.nodes <;> simp_all [headerHolds]

/-- The freeing proper keeps the laws (R32). -/
theorem completeFree_laws (hs : Laws ps fs s) (hu : Unused ps id s) (hp : ∀ p, s.spb.patch = some p → p.phase ≠ .reading → p.id ≠ id) :
    Laws ps fs (completeFree id s) := by
  cases hh : (profileOf s id).header with
  | none => rwa [completeFree_none hh]
  | some h =>
    have hps := completeFree_ps hh
    have hpe : (completeFree id s).pe = s.pe := by simp
    have hspb : (completeFree id s).spb = s.spb := by simp
    have htc : (completeFree id s).tc = s.tc := by simp
    have htmap : (completeFree id s).tmap = s.tmap := by simp
    have hset : (completeFree id s).setup = s.setup := by simp
    have hpower : (completeFree id s).power = s.power := by simp
    obtain ⟨u, hu'⟩ : ∃ u, completeFree id s = u := ⟨_, rfl⟩
    rw [hu'] at hps hpe hspb htc htmap hset hpower ⊢
    have hchanged : Changed id (fun _ => emptyRecord) s u := ⟨hu.1, hu.2.1, hs.1.1.1, by rw [hps]⟩
    obtain ⟨-, -, -, -, -, -, -, hextent⟩ := hs.1
    refine ⟨hs.1.retired hchanged hu rfl (hextent.freed hchanged hh (by rw [hps]) hpower) hpe (by rw [hps]) hspb htc htmap hset,
      hs.2.changed hchanged (by rw [hspb]) (fun p hin hph hid => absurd hid (hp p hin hph)) (by rw [hspb]) (by rw [hps]) (by rw [hps])⟩

/-- A record that waits for a granted write keeps the laws (R32). -/
theorem waits_laws (hs : Laws ps fs s) (hu : Unused ps id s) (hp : ∀ p, s.spb.patch = some p → p.phase ≠ .reading → p.id ≠ id) :
    Laws ps fs (setProfile id (fun r => { r with freeing := true }) s) := by
  have hchanged : Changed id (fun r => { r with freeing := true }) s (setProfile id (fun r => { r with freeing := true }) s) :=
    ⟨hu.1, hu.2.1, hs.1.1.1, rfl⟩
  obtain ⟨hcount, -, -, -, -, -, -, hextent⟩ := hs.1
  refine ⟨hs.1.retired hchanged hu (hu.refs hcount) ?_ rfl rfl rfl rfl rfl rfl,
    hs.2.changed hchanged rfl (fun p hin hph hid => absurd hid (hp p hin hph)) rfl rfl rfl⟩
  exact hextent.kept hchanged rfl rfl rfl fun he => he

/-- The freeing of a record keeps the laws (R32, R46). -/
theorem freeRecord_laws (hs : Laws ps fs s) (hu : Unused ps id s) : Laws ps fs (freeRecord id s) := by
  obtain ⟨hlaws, hp⟩ := discarded_laws hs id
  have hunused : Unused ps id (failPatchOf id (discardEntries id s)) := hu.congr (by simp) (by rw [freed_before_ps])
  rw [freeRecord_eq]
  refine Laws.pump ?_
  unfold freeSettled
  split
  · exact waits_laws hlaws hunused hp
  · exact completeFree_laws hlaws hunused hp

end

/-! ## A reference is released (R37, R138) -/

section
variable {ps fs : List Nat} {s t : State} {id : Nat}

theorem uncounted_laws (h1 : 1 ≤ id) (h2 : id ≤ 16) (hs : Laws (id :: ps) fs s) : Laws ps fs (uncounted id s) := by
  obtain ⟨⟨hcount, hfabric, hqueue, hjob, hstrips, hbuffer, hvisible, hextent⟩, hpatch⟩ := hs
  have hchanged : Changed id (fun r => { r with refs := r.refs - 1 }) s (uncounted id s) := ⟨h1, h2, hcount.1, rfl⟩
  have hmem : profileOf s id ∈ s.ps.records := List.mem_of_getElem? hchanged.old
  have hrefs := hcount.2.1 id h1 h2
  rw [List.count_cons_self] at hrefs
  obtain ⟨hidle, hjobs, hloads⟩ := hjob
  refine ⟨⟨hcount.changed hchanged (fun n _ hn => ?_) ?_ (fun he => ?_), hfabric, hqueue, ?_, hstrips, hbuffer, hvisible, ?_⟩, ?_⟩
  · rw [List.count_cons_of_ne (Ne.symm hn)]
    rfl
  · show (profileOf s id).refs - 1 = profileUses s id + ps.count id
    omega
  · have := hcount.2.2 _ hmem he
    omega
  · exact JobLaw.changed ⟨hidle, hjobs, hloads⟩ hchanged rfl rfl rfl (fun hj => (hjobs id hj).2.2) fun hl => (hloads id hl).2.2
  · exact hextent.kept hchanged rfl rfl rfl fun he => he
  · exact hpatch.changed hchanged rfl (fun _ _ _ _ => ⟨rfl, rfl⟩) rfl rfl rfl

/-- The release of a profile reference keeps the laws, with one reference less to release (R37). -/
theorem releaseProfile_laws (h1 : 1 ≤ id) (h2 : id ≤ 16) (hs : Laws (id :: ps) fs s) : Laws ps fs (releaseProfile id s) := by
  have hlaws := uncounted_laws h1 h2 hs
  unfold releaseProfile
  change Laws ps fs (if (profileOf (uncounted id s) id).state == .retiring && (profileOf (uncounted id s) id).refs == 0 then
    freeRecord id (uncounted id s) else uncounted id s)
  split
  · rename_i hlast
    simp only [Bool.and_eq_true, beq_iff_eq] at hlast
    obtain ⟨hst, hrefs⟩ := hlast
    obtain ⟨hcount, -, -, ⟨-, -, hloads⟩, -⟩ := hlaws.1
    refine freeRecord_laws hlaws (.of_refs h1 h2 hcount hrefs fun hl => ?_)
    have hseen := (hloads id hl).2.2
    unfold stateSeen at hseen
    rw [hst] at hseen
    split at hseen <;> cases hseen
  · exact hlaws

theorem FabricsCounted.release (hs : FabricsCounted (id :: fs) s) : FabricsCounted fs (releaseFabric id s) := by
  obtain ⟨hlen, hrefs⟩ := hs
  have huses : ∀ n, fabricUses (releaseFabric id s) n = fabricUses s n := fun n => by simp [fabricUses]
  unfold FabricsCounted
  simp only [huses]
  unfold releaseFabric
  split
  · rename_i hzero
    refine ⟨hlen, fun n h1 h2 => ?_⟩
    rw [hrefs n h1 h2, List.count_cons_of_ne (by omega)]
  · rename_i hid
    refine ⟨?_, fun n h1 h2 => ?_⟩
    · rw [setFabric, modifyNth_eq_modify, List.length_modify, hlen]
    · have hold := hrefs n h1 h2
      by_cases hn : n = id
      · subst hn
        have hlt : n - 1 < s.tc.fabrics.length := by omega
        have hnew : (setFabric n (fun r => { r with refs := r.refs - 1 }) s).tc.fabrics[n - 1]? =
            some { s.tc.fabrics[n - 1] with refs := s.tc.fabrics[n - 1].refs - 1 } := by
          rw [setFabric, modifyNth_getElem?_eq, List.getElem?_eq_getElem hlt]
          rfl
        rw [fabricOf_eq (List.getElem?_eq_getElem hlt), List.count_cons_self] at hold
        rw [fabricOf_eq hnew]
        show s.tc.fabrics[n - 1].refs - 1 = _
        omega
      · rw [List.count_cons_of_ne (Ne.symm hn)] at hold
        rw [← hold]
        unfold fabricOf nth setFabric
        rw [modifyNth_getElem?_ne (by omega)]

/-- The release of a fabric reference keeps the laws, with one reference less to release (R138). -/
theorem releaseFabric_laws (hs : Laws ps (id :: fs) s) : Laws ps fs (releaseFabric id s) := by
  obtain ⟨⟨hcount, hfabric, hqueue, hjob, hstrips, hbuffer, hvisible, hextent⟩, hpatch⟩ := hs
  have hfabric' := hfabric.release
  rw [releaseFabric_eq] at hfabric' ⊢
  exact ⟨⟨hcount, hfabric', hqueue, hjob, hstrips, hbuffer, hvisible, hextent⟩, hpatch⟩

end

/-! ## A job ends, and a card leaves the queue (R62, R78) -/

section
variable {ps fs : List Nat} {s t : State} {id : Nat}

/-- The end of a job with no line computing keeps the laws (R78). -/
theorem endJob_laws (hs : Laws ps fs s) (hc : computing s = false) : Laws ps fs (endJob s) := by
  obtain ⟨⟨hcount, hfabric, hqueue, ⟨hidle, hjobs, hloads⟩, hstrips, hbuffer, hvisible, hextent⟩, hpatch⟩ := hs
  cases hj : s.pe.job with
  | none =>
    rw [endJob_none hj]
    refine ⟨⟨hcount, hfabric, hqueue, ⟨?_, hjobs, hloads⟩, hstrips, hbuffer, hvisible, hextent⟩, hpatch⟩
    show PrintState.idle = .idle ↔ s.pe.job.map jobId = none
    simp [hj]
  | some j =>
    obtain ⟨h1, h2, -⟩ := hjobs j.card.profileId (by rw [hj]; rfl)
    rw [endJob_eq hj]
    refine releaseProfile_laws h1 h2 ⟨⟨⟨hcount.1, fun n hn hn' => ?_, hcount.2.2⟩, hfabric, hqueue,
      ⟨⟨fun _ => rfl, fun _ => rfl⟩, fun n hn => (by cases hn), hloads⟩, hstrips, hbuffer, fun _ => hvisible hc, hextent⟩, hpatch⟩
    have hold := hcount.2.1 n hn hn'
    rw [profileUses_eq, hj] at hold
    rw [profileUses_eq]
    show (profileOf s n).refs = uses n s.pe.queue + 0 + List.count n (j.card.profileId :: ps)
    rw [hold, List.count_cons]
    simp only [Option.map_some, Option.toList_some, jobId, List.filter_cons, List.filter_nil]
    split
    · simp_all
      omega
    · simp_all

theorem uses_without {l : List QueuedPrint} {q : QueuedPrint} (hl : (l.map (·.card.take)).Nodup) (hq : q ∈ l) (f : QueuedPrint → Nat) (n : Nat) :
    ((l.filter fun r => r.card.take != q.card.take).filter fun r => f r == n).length + List.count n [f q] =
      (l.filter fun r => f r == n).length := by
  induction l with
  | nil => cases hq
  | cons r l ih =>
    rw [List.map_cons, List.nodup_cons] at hl
    obtain ⟨hr, hl⟩ := hl
    by_cases htake : r.card.take = q.card.take
    · have hrest : (l.filter fun r => r.card.take != q.card.take) = l := List.filter_eq_self.mpr fun x hx => by
        rw [bne_iff_ne, ← htake]
        exact fun hxt => hr (hxt ▸ List.mem_map_of_mem hx)
      have hsame : q = r := by
        rcases List.mem_cons.mp hq with h | h
        · exact h
        · exact absurd (List.mem_map_of_mem h) (htake ▸ hr)
      subst hsame
      rw [List.filter_cons_of_neg (by simp), hrest, List.filter_cons, List.count_cons, List.count_nil]
      split <;> simp
    · have hmem : q ∈ l := (List.mem_cons.mp hq).resolve_left fun h => htake (h ▸ rfl)
      have hind := ih hl hmem
      rw [List.filter_cons_of_pos (by simpa using htake), List.filter_cons, List.filter_cons]
      split
      · simp only [List.length_cons]
        omega
      · exact hind

/-- A card out of the queue leaves its two references to release (R62). -/
theorem dequeued_laws {q : QueuedPrint} (hs : Laws ps fs s) (hq : q ∈ s.pe.queue) :
    Laws (q.profileId :: ps) (q.fabricId :: fs) (dequeued q s) := by
  obtain ⟨⟨hcount, hfabric, hqueue, hjob, hstrips, hbuffer, hvisible, hextent⟩, hpatch⟩ := hs
  refine ⟨⟨⟨hcount.1, fun n hn hn' => ?_, hcount.2.2⟩, ⟨hfabric.1, fun n hn hn' => ?_⟩, ?_, hjob, hstrips, hbuffer, hvisible, hextent⟩,
    hpatch⟩
  · have hold := hcount.2.1 n hn hn'
    have hout := uses_without hqueue.1 hq (·.profileId) n
    rw [List.count_cons, List.count_nil] at hout
    rw [profileUses_eq, uses] at hold ⊢
    rw [List.count_cons]
    show (profileOf s n).refs = _
    dsimp only [dequeued]
    omega
  · have hold := hfabric.2 n hn hn'
    have hout := uses_without hqueue.1 hq (·.fabricId) n
    rw [List.count_cons, List.count_nil] at hout
    unfold fabricUses at hold ⊢
    rw [List.count_cons]
    show (fabricOf s n).refs = _
    dsimp only [dequeued]
    omega
  · have hsub : (s.pe.queue.filter fun r => r.card.take != q.card.take).Sublist s.pe.queue := List.filter_sublist
    exact ⟨hqueue.1.sublist (hsub.map _), fun r hr => hqueue.2 r (hsub.subset hr)⟩

/-- A card that fails in the queue keeps the laws (R62). -/
theorem failQueued_laws {q : QueuedPrint} (rc : ResultCode) (fields : List (Nat × List Byte)) (hs : Laws ps fs s) (hq : q ∈ s.pe.queue) :
    Laws ps fs (failQueued rc fields q s) := by
  obtain ⟨-, -, ⟨-, hcards⟩, -⟩ := hs.1
  obtain ⟨h1, h2, -⟩ := hcards q hq
  rw [failQueued_eq]
  refine (releaseFabric_laws (releaseProfile_laws h1 h2 (dequeued_laws hs hq))).quiet ?_
  simp [Quiet, Steady]

end

end Sys2Proof.Machine
end

section
/-! PROOFS. The laws of the store through a visibility step, the end of a print, the strips that leave the map, and a halt (R5, R16, R35,
R48, R80, R123). -/

namespace Sys2Proof.Machine

/-! ## What leaves the records as the laws see them -/

section
variable {s : State}

theorem modifyNth_map {α β : Type} (g : α → β) {l : List α} {n : Nat} {f : α → α} (h : ∀ x, g (f x) = g x) :
    (modifyNth l n f).map g = l.map g := by
  induction l generalizing n with
  | nil => rfl
  | cons x l ih =>
    cases n with
    | zero => simp [modifyNth, h]
    | succ n => simp [modifyNth, ih]

theorem setProfile_bare {id : Nat} {f : ProfileRecord → ProfileRecord} (h : ∀ r, bare (f r) = bare r) :
    (setProfile id f s).ps.records.map bare = s.ps.records.map bare := modifyNth_map bare h

@[simp] theorem bumpVersions_bare (ids : List Nat) : (bumpVersions ids s).ps.records.map bare = s.ps.records.map bare :=
  foldl_keeps (fun u => u.ps.records.map bare) _ (fun u id => setProfile_bare (s := u) (id := id)
    (f := fun r => { r with version := r.version + 1 }) fun _ => rfl) ids s

@[simp] theorem visibilityStep_bare : (visibilityStep s).ps.records.map bare = s.ps.records.map bare := bumpVersions_bare _

@[simp] theorem parityError_bare (id node cell : Nat) (src : ParitySource) (marks : Byte) :
    (parityError id node cell src marks s).ps.records.map bare = s.ps.records.map bare := by
  simp only [parityError, offerFault_frame]
  exact setProfile_bare fun _ => rfl

@[simp] theorem flagParity_store (id : Nat) : (flagParity id s).ps = s.ps ∧ (flagParity id s).spb = s.spb := by
  unfold flagParity
  (repeat' split) <;> simp

@[simp] theorem noteParity_bare (id node cell : Nat) (src : ParitySource) (marks : Byte) :
    (noteParity id node cell src marks s).ps.records.map bare = s.ps.records.map bare := by
  unfold noteParity
  split
  · rfl
  · simp

@[simp] theorem noteParity_rest (id node cell : Nat) (src : ParitySource) (marks : Byte) :
    (noteParity id node cell src marks s).ps.free = s.ps.free ∧ (noteParity id node cell src marks s).ps.loader = s.ps.loader ∧
    (noteParity id node cell src marks s).ps.arb = s.ps.arb := by
  rw [noteParity_eq]
  exact ⟨rfl, rfl, rfl⟩

end

/-! ## Entries become VISIBLE (R48) -/

section
variable {ps fs : List Nat} {s t : State}

/-- Nothing that the laws look at has changed but the computation, and every entry is VISIBLE now. -/
theorem Laws.shown (hs : Laws ps fs s) (hq : t.pe.queue = s.pe.queue) (hst : t.pe.state = s.pe.state)
    (hj : t.pe.job.map jobId = s.pe.job.map jobId) (hrec : t.ps.records.map bare = s.ps.records.map bare)
    (hps : t.ps.free = s.ps.free ∧ t.ps.loader = s.ps.loader ∧ requested t.ps.arb = requested s.ps.arb ∧
      accessed t.ps.arb = accessed s.ps.arb)
    (he : t.spb.entries = s.spb.entries.map fun e => { e with visible := true }) (hp : t.spb.patch = s.spb.patch)
    (hrest : t.tc = s.tc ∧ t.tmap = s.tmap ∧ t.setup = s.setup ∧ t.power = s.power) : Laws ps fs t := by
  obtain ⟨⟨hcount, hfabric, hqueue, hjob, hstrips, ⟨hlen, hnodup, hids, -⟩, -, hextent⟩, hpatch⟩ := hs
  obtain ⟨hfree, hload, hreq, hacc⟩ := hps
  obtain ⟨htc, htmap, hset, hpower⟩ := hrest
  have hmem : ∀ e ∈ t.spb.entries, ∃ f ∈ s.spb.entries, f.cell = e.cell ∧ f.id = e.id ∧ e.visible = true := fun e hin => by
    rw [he] at hin
    obtain ⟨f, hf, rfl⟩ := List.mem_map.mp hin
    exact ⟨f, hf, rfl, rfl, rfl⟩
  have hvisible : ∀ e ∈ t.spb.entries, e.visible = true := fun e hin => by
    obtain ⟨_, _, _, _, h⟩ := hmem e hin
    exact h
  have hlength : t.spb.entries.length = s.spb.entries.length := by rw [he, List.length_map]
  refine ⟨⟨hcount.congr hrec hq hj, hfabric.congr (by rw [htc]) hq (by rw [htmap]), hq ▸ hqueue, hjob.congr hst hj (by rw [hload]) hrec,
    hstrips.congr (by rw [htmap]) (by rw [hset]), ⟨hlength ▸ hlen, ?_, fun e hin => ?_, t.spb.entries, [], (List.append_nil _).symm, hvisible,
      fun e h => by cases h⟩, fun _ => hvisible, hextent.congr hrec hfree (by rw [hpower])⟩,
    hpatch.thin hrec (fun p h => hp ▸ h) hlength.le (fun e hin => ?_) (fun i c hw => ⟨hreq ▸ hw, fun p h _ _ => hp.trans h⟩)
      fun i c hw => ⟨hacc ▸ hw, fun p h _ _ => hp.trans h⟩⟩
  · rw [he, List.map_map]
    exact hnodup
  · obtain ⟨f, hf, -, hid, -⟩ := hmem e hin
    exact hid ▸ hids f hf
  · obtain ⟨f, hf, hcell, -⟩ := hmem e hin
    exact ⟨f, hf, hcell⟩

/-- A computation given up keeps the laws (R48, R80). -/
theorem abandonLine_laws (hs : Laws ps fs s) : Laws ps fs (abandonLine s) := by
  cases hj : s.pe.job with
  | none => rwa [abandonLine_none hj]
  | some j =>
    by_cases hk : j.comp = none
    · rwa [abandonLine_idle hj hk]
    · rw [abandonLine_running hj hk]
      have hacc : accessed (computationDropped s).ps.arb = accessed s.ps.arb := by
        unfold computationDropped accessed
        dsimp only [setArb_arb]
        cases s.ps.arb.busy with
        | none => rfl
        | some b => cases b <;> rfl
      refine Laws.pump (hs.shown ?_ ?_ ?_ ?_ ?_ ?_ ?_ ?_)
      · rw [visibilityStep_eq]
        rfl
      · rw [visibilityStep_eq]
        rfl
      · rw [visibilityStep_eq]
        show (s.pe.job.map fun j => { j with comp := none }).map jobId = _
        rw [Option.map_map]
        rfl
      · exact visibilityStep_bare
      · rw [visibilityStep_eq]
        exact ⟨rfl, rfl, rfl, hacc⟩
      · rw [visibilityStep_eq]
        rfl
      · rw [visibilityStep_eq]
        rfl
      · rw [visibilityStep_eq]
        exact ⟨rfl, rfl, rfl, rfl⟩

theorem abandonLine_idles : computing (abandonLine s) = false := by
  cases hj : s.pe.job with
  | none =>
    rw [abandonLine_none hj]
    unfold computing
    rw [hj]
  | some j =>
    unfold computing
    rw [abandonLine_pe hj]
    rfl

/-- The line boundary keeps the laws (R39, R48, R72). -/
theorem boundary_laws (k : Computation) (hs : Laws ps fs s) : Laws ps fs (boundary k s) := by
  refine Laws.pump (hs.shown ?_ ?_ ?_ ?_ ?_ ?_ ?_ ?_)
  · rw [visibilityStep_eq]
    rfl
  · rw [visibilityStep_eq]
    rfl
  · rw [visibilityStep_eq]
    show (s.pe.job.map (placeLine k)).map jobId = _
    rw [Option.map_map]
    rfl
  · exact visibilityStep_bare
  · rw [visibilityStep_eq]
    exact ⟨rfl, rfl, rfl, rfl⟩
  · rw [visibilityStep_eq]
    rfl
  · rw [visibilityStep_eq]
    rfl
  · rw [visibilityStep_eq]
    exact ⟨rfl, rfl, rfl, rfl⟩

end

/-! ## The map (R5, R10, R16) -/

section
variable {ps fs gs : List Nat} {s t : State} {g : Segment}

/-- The laws but those of the strips and of their references do not see the map. -/
theorem Laws.remapped (hs : Laws ps fs s) {m : TransitMap} (hf : FabricsCounted gs { s with tmap := m }) (hm : StripsLaw { s with tmap := m }) :
    Laws ps gs { s with tmap := m } := by
  obtain ⟨⟨hcount, -, hqueue, hjob, -, hbuffer, hvisible, hextent⟩, hpatch⟩ := hs
  exact ⟨⟨hcount, hf, hqueue, hjob, hm, hbuffer, hvisible, hextent⟩, hpatch⟩

theorem pitchOf_pos (hs : Laws ps fs s) : 1 ≤ pitchOf s := by
  obtain ⟨-, -, -, -, ⟨-, -, hpitch⟩, -⟩ := hs.1
  unfold pitchOf
  cases hset : s.setup with
  | none => exact Nat.le_refl 1
  | some c => exact hpitch c hset

/-- The end of a strip past its start keeps the laws (R5). -/
theorem ended_laws (hs : Laws ps fs s) (start : Nat) {e : Nat} (he : ∀ g : Segment, g.start < g.start + e) :
    Laws ps fs (updateSeg start (fun g => { g with endAt := some (g.start + e) }) s) := by
  obtain ⟨-, hfabric, -, -, ⟨horder, hext, hpitch⟩, -⟩ := hs.1
  refine hs.remapped ⟨hfabric.1, fun n h1 h2 => ?_⟩ ⟨?_, fun g hg => ?_, hpitch⟩
  · have hold := hfabric.2 n h1 h2
    unfold fabricUses at hold ⊢
    refine hold.trans ?_
    have hmap := length_filter_map (fun g : Segment => g.fabricId) (fun x => x == some n)
    rw [hmap, hmap, List.map_map]
    congr 4
    refine List.map_congr_left fun g _ => ?_
    dsimp only [Function.comp]
    split <;> rfl
  · have hstarts : (s.tmap.segs.map fun g => if g.start = start then { g with endAt := some (g.start + e) } else g).map (·.start) =
        s.tmap.segs.map (·.start) := by
      rw [List.map_map]
      refine List.map_congr_left fun g _ => ?_
      dsimp only [Function.comp]
      split <;> rfl
    exact hstarts ▸ horder
  · obtain ⟨h, hh, rfl⟩ := List.mem_map.mp hg
    dsimp only
    split
    · exact he h
    · exact hext h hh

theorem setPrintEnd_laws (hs : Laws ps fs s) : Laws ps fs (setPrintEnd s) := by
  have hpitch := pitchOf_pos hs
  unfold setPrintEnd
  split
  · exact hs
  · rename_i j _
    have hpos : 0 < max 1 j.fallen * pitchOf s := Nat.mul_pos (by omega) hpitch
    exact ended_laws hs j.start fun g => by omega

theorem endPrint_laws (hs : Laws ps fs s) : Laws ps fs (endPrint s) := by
  have hend := setPrintEnd_laws hs
  unfold endPrint
  dsimp only
  (repeat' split)
  · exact hend
  · exact hend.quiet (by simp [Quiet, Steady])
  · exact hend

/-- The strips that stay where one has left. -/
theorem StripsLaw.others (hs : StripsLaw s) {g : Segment} {l : List Segment} (hsegs : s.tmap.segs = g :: l) :
    (s.tmap.segs.filter fun h => h.start != g.start) = l := by
  obtain ⟨horder, -⟩ := hs
  rw [hsegs, List.map_cons, List.pairwise_cons] at horder
  rw [hsegs, List.filter_cons_of_neg (by simp)]
  refine List.filter_eq_self.mpr fun h hh => ?_
  have := horder.1 h.start (List.mem_map_of_mem hh)
  simp only [bne_iff_ne]
  omega

/-- A strip of a list in order is one use of its fabric, and the rest are the others. -/
theorem spans_without {l : List Segment} (hl : (l.map (·.start)).Pairwise (· < ·)) (hg : span g ∈ l.map span) {n : Nat} (hn : 1 ≤ n) :
    ((l.filter fun h => h.start != g.start).filter fun h => h.fabricId == some n).length + List.count n [g.fabricId.getD 0] =
      (l.filter fun h => h.fabricId == some n).length := by
  induction l with
  | nil => cases hg
  | cons r l ih =>
    rw [List.map_cons, List.pairwise_cons] at hl
    obtain ⟨hr, hl⟩ := hl
    rw [List.map_cons, List.mem_cons] at hg
    by_cases hstart : r.start = g.start
    · have hafter : ∀ x ∈ l, x.start ≠ g.start := fun x hx => by
        have := hr x.start (List.mem_map_of_mem hx)
        omega
      have hrest : (l.filter fun h => h.start != g.start) = l := List.filter_eq_self.mpr fun x hx => by simpa using hafter x hx
      have hsame : r.fabricId = g.fabricId := by
        rcases hg with h | h
        · exact (congrArg (fun x => x.2.2) h).symm
        · obtain ⟨x, hx, heq⟩ := List.mem_map.mp h
          exact absurd (congrArg Prod.fst heq) (hafter x hx)
      rw [List.filter_cons_of_neg (by simp [hstart]), hrest, List.filter_cons, hsame, List.count_cons, List.count_nil]
      cases hid : g.fabricId with
      | none =>
        have hne : (0 == n) = false := by
          rw [beq_eq_false_iff_ne]
          omega
        simp [hne]
      | some i => by_cases hin : i = n <;> simp [hin]
    · have hind := ih hl (hg.resolve_left fun h => hstart (congrArg Prod.fst h).symm)
      rw [List.filter_cons_of_pos (by simpa using hstart), List.filter_cons, List.filter_cons]
      split
      · simp only [List.length_cons]
        omega
      · exact hind

/-- A strip out of the map leaves its fabric reference to release. -/
theorem removed_fabrics (hs : FabricsCounted fs s) (hstrips : StripsLaw s) (hg : span g ∈ s.tmap.segs.map span) :
    FabricsCounted (g.fabricId.getD 0 :: fs) { s with tmap := { s.tmap with segs := s.tmap.segs.filter fun h => h.start != g.start } } := by
  obtain ⟨hlen, hrefs⟩ := hs
  refine ⟨hlen, fun n h1 h2 => ?_⟩
  have hold := hrefs n h1 h2
  have hout := spans_without hstrips.1 hg h1
  rw [List.count_cons, List.count_nil] at hout
  unfold fabricUses at hold ⊢
  rw [List.count_cons]
  show (fabricOf s n).refs = _
  dsimp only
  omega

/-- A strip that leaves the map keeps the laws (R10, R16, R138). -/
theorem removeSeg_laws (hs : Laws ps fs s) (hg : span g ∈ s.tmap.segs.map span) : Laws ps fs (removeSeg g s) := by
  obtain ⟨-, hfabric, -, -, hstrips, -⟩ := hs.1
  have hout := hs.remapped (removed_fabrics hfabric hstrips hg) (m := { s.tmap with segs := s.tmap.segs.filter fun h => h.start != g.start }) (by
    obtain ⟨horder, hext, hpitch⟩ := hstrips
    exact ⟨horder.sublist (List.filter_sublist.map _), fun h hh => hext h (List.mem_filter.mp hh).1, hpitch⟩)
  exact (releaseFabric_laws hout).quiet (by simp [removeSeg, Quiet, Steady])

theorem haltStrip_segs (s : State) (g : Segment) : (haltStrip s g).tmap.segs = s.tmap.segs.filter fun h => h.start != g.start := by
  simp [haltStrip, removeSeg]

/-- The strips that a halt removes keep the laws (R16, R94). -/
theorem haltMap_laws (hs : Laws ps fs s) : Laws ps fs (haltMap s) := by
  have hfold : ∀ l u, u.tmap.segs = l → Laws ps fs u → Laws ps fs (l.foldl haltStrip u) := by
    intro l
    induction l with
    | nil => exact fun u _ hu => hu
    | cons g l ih =>
      intro u hsegs hu
      obtain ⟨-, -, -, -, hstrips, -⟩ := hu.1
      have hreport : Laws ps fs (reportStrip (haltSeg g) (none, none) u) := hu.quiet (by simp [Quiet, Steady])
      refine ih _ ((haltStrip_segs u g).trans (hstrips.others hsegs)) (removeSeg_laws hreport ?_)
      simp only [reportStrip_frame, hsegs]
      exact List.mem_map_of_mem List.mem_cons_self
  rw [haltMap_eq]
  exact hfold _ s rfl hs

end

/-! ## A halt (R80, R123) -/

section
variable {ps fs : List Nat} {s t : State}

theorem haltPrint_laws (hs : Laws ps fs s) : Laws ps fs (haltPrint s) := endJob_laws (abandonLine_laws hs) abandonLine_idles

theorem takeHalt_laws (cause : HaltCause) (hs : Laws ps fs s) : Laws ps fs (takeHalt cause s) := by
  have hframes : Laws ps fs (haltFrames cause s) := hs.quiet (by simp [haltFrames, Quiet, Steady])
  rw [takeHalt_parts]
  exact (haltPrint_laws (haltMap_laws hframes)).quiet (by simp [haltRest, Quiet, Steady])

theorem haltLine_laws (cause : HaltCause) (hs : Laws ps fs s) : Laws ps fs (haltLine cause s) := by
  unfold haltLine
  split
  · exact hs.quiet (by simp [Quiet, Steady])
  · exact takeHalt_laws cause hs

end

/-! ## Cards fail in the queue (R35, R125) -/

section
variable {ps fs : List Nat} {s t : State}

/-- Queued cards of takes of their own fail one after the other. -/
theorem failQueueds_laws (rc : ResultCode) {l : List QueuedPrint} (hl : (l.map (·.card.take)).Nodup) (hs : Laws ps fs s)
    (hsub : ∀ q ∈ l, q ∈ s.pe.queue) : Laws ps fs (l.foldl (fun s q => failQueued rc [] q s) s) := by
  induction l generalizing s with
  | nil => exact hs
  | cons q l ih =>
    rw [List.map_cons, List.nodup_cons] at hl
    obtain ⟨hq, hl⟩ := hl
    refine ih hl (failQueued_laws rc [] hs (hsub q List.mem_cons_self)) fun r hr => ?_
    rw [failQueued_pe]
    refine List.mem_filter.mpr ⟨hsub r (List.mem_cons_of_mem _ hr), ?_⟩
    rw [bne_iff_ne]
    exact fun htake => hq (htake ▸ List.mem_map_of_mem hr)

theorem failQueuedOf_laws (id : Nat) (hs : Laws ps fs s) : Laws ps fs (failQueuedOf id s) := by
  obtain ⟨-, -, ⟨hnodup, -⟩, -⟩ := hs.1
  exact failQueueds_laws .unknownProfile (hnodup.sublist (List.filter_sublist.map _)) hs fun q hq => (List.mem_filter.mp hq).1

theorem flushQueue_laws (hs : Laws ps fs s) : Laws ps fs (flushQueue s) := by
  obtain ⟨-, -, ⟨hnodup, -⟩, -⟩ := hs.1
  exact failQueueds_laws .aborted hnodup hs fun q hq => hq

/-- No card of a profile is left in the queue once its cards have failed. -/
theorem failQueuedOf_gone (id : Nat) (hs : Laws ps fs s) : ∀ q ∈ (failQueuedOf id s).pe.queue, q.profileId ≠ id := by
  obtain ⟨-, -, ⟨hnodup, -⟩, -⟩ := hs.1
  intro q hq
  rw [failQueuedOf_eq, failAll_pe] at hq
  dsimp only at hq
  rw [filter_takes hnodup] at hq
  simpa using (List.mem_filter.mp hq).2

theorem failQueuedOf_loader (id : Nat) (s : State) : (failQueuedOf id s).ps.loader = s.ps.loader :=
  foldl_keeps (fun u => u.ps.loader) (fun u q => failQueued .unknownProfile [] q u)
    (fun u q => by rw [failQueued_store.1, releaseProfile_loader]; rfl) _ s

/-- A LOADING profile whose queued cards have failed has no use left (R35). -/
theorem failQueuedOf_unused {id : Nat} (hs : Laws [] fs s) (h1 : 1 ≤ id) (h2 : id ≤ 16) (hst : stateSeen (profileOf s id) = .loading)
    (hload : s.ps.loader.map (·.id) ≠ some id) : Unused [] id (failQueuedOf id s) := by
  have hgone := failQueuedOf_gone id hs
  obtain ⟨-, -, -, ⟨-, hjobs, -⟩, -⟩ := hs.1
  have hjob : (failQueuedOf id s).pe.job = s.pe.job := by rw [failQueuedOf_eq, failAll_pe]
  refine ⟨h1, h2, ?_, rfl, by rwa [failQueuedOf_loader]⟩
  rw [profileUses_eq, hjob]
  have hnone : uses id (failQueuedOf id s).pe.queue = 0 :=
    List.length_eq_zero_iff.mpr (List.filter_eq_nil_iff.mpr fun q hq => by simpa using hgone q hq)
  rw [hnone]
  cases hj : s.pe.job.map jobId with
  | none => rfl
  | some n =>
    have hne : n ≠ id := fun hid => by
      rcases (hjobs n hj).2.2 with h | h <;> rw [hid, hst] at h <;> cases h
    simp [hne]

end

end Sys2Proof.Machine
end

section
/-! PROOFS. The laws of the store through the Print Engine's commands (R36, R60, R61, R65, R71, R72, R76 to R78, R138). -/

namespace Sys2Proof.Machine

/-! ## The job (R71, R72, R78) -/

section
variable {ps fs : List Nat} {s t : State}

/-- A job of which a line computes keeps the laws (R72). -/
theorem Laws.computes (hs : Laws ps fs s) {f : PrintJob → PrintJob} (hid : ∀ j, jobId (f j) = jobId j) (hc : computing (setJob f s) = true) :
    Laws ps fs (setJob f s) := by
  obtain ⟨⟨hcount, hfabric, hqueue, hjob, hstrips, hbuffer, -, hextent⟩, hpatch⟩ := hs
  have hj : (setJob f s).pe.job.map jobId = s.pe.job.map jobId := by
    rw [(setJob_rest s f).1, Option.map_map]
    exact congrArg (fun g => s.pe.job.map g) (funext hid)
  exact ⟨⟨hcount.congr rfl rfl hj, hfabric, hqueue, hjob.congr rfl hj rfl rfl, hstrips, hbuffer, fun h => absurd hc (by rw [h]; decide),
    hextent⟩, hpatch⟩

theorem computing_some (h : computing s = true) : s.pe.job.map jobId ≠ none := by
  unfold computing at h
  split at h
  · rename_i j hj
    rw [hj]
    exact Option.some_ne_none _
  · cases h

/-- The end of a print keeps the laws, with its last computation running or not (R78). -/
theorem finishPrint_laws (hs : Laws ps fs s) : Laws ps fs (finishPrint s) := by
  have hend := endPrint_laws hs
  unfold finishPrint
  dsimp only
  split
  · rename_i hc
    obtain ⟨⟨hcount, hfabric, hqueue, ⟨-, hjobs, hloads⟩, hstrips, hbuffer, -, hextent⟩, hpatch⟩ := hend
    have hending : Laws ps fs { endPrint s with pe := { (endPrint s).pe with
        state := .ending, read := (endPrint s).pe.read.map (fun r => { r with live := false }) } } :=
      ⟨⟨hcount, hfabric, hqueue, ⟨⟨fun h => (by cases h), fun h => absurd h (computing_some hc)⟩, hjobs, hloads⟩, hstrips, hbuffer,
        fun h => absurd (hc.symm.trans h) (by decide), hextent⟩, hpatch⟩
    refine hending.quiet ⟨⟨rfl, rfl, setJob_tag _ fun j => rfl, rfl, rfl, rfl, rfl, rfl, rfl, rfl, rfl⟩, rfl, rfl, rfl⟩
  · rename_i hc
    exact (endJob_laws hend (by simpa using hc)).quiet (by simp [Quiet, Steady])

theorem spoilSeg_span (r : SpoilReason) (g : Segment) : span (spoilSeg r g) = span g := rfl

theorem endPrint_computing (s : State) : computing (endPrint s) = computing s := by
  have hpe : (endPrint s).pe = s.pe := by simp
  unfold computing
  rw [hpe]

/-- A raster read that fails keeps the laws (R71). -/
theorem rasterFails_laws (kind : ReadFailure) (hs : Laws ps fs s) : Laws ps fs (rasterFails kind s) := by
  have hclear : Laws ps fs (clearRead s) := hs
  unfold rasterFails
  split
  · rename_i r j _ _
    split
    · have hspoil : Laws ps fs (updateSeg j.start (spoilSeg .raster) (offerFault (.rasterReadError j.card.card.tag r.line kind) (clearRead s))) :=
        hclear.quiet (by simp [Quiet, Steady, updateSeg_spans _ (spoilSeg_span .raster)])
      have hended := endPrint_laws (abandonLine_laws hspoil)
      exact (endJob_laws hended ((endPrint_computing _).trans abandonLine_idles)).quiet (by simp [Quiet, Steady])
    · exact hclear.quiet (by simp [Quiet, Steady])
  · exact hclear

end

/-! ## A card joins the queue (R36, R61, R138) -/

section
variable {ps fs : List Nat} {s t : State} {q : QueuedPrint}

/-- A fabric reference that is taken for one use more. -/
theorem FabricsCounted.take {id : Nat} (hs : FabricsCounted fs s) (ht : t.tc.fabrics = (takeFabric id s).tc.fabrics)
    (huses : ∀ n, 1 ≤ n → fabricUses t n = fabricUses s n + List.count n [id]) : FabricsCounted fs t := by
  obtain ⟨hlen, hrefs⟩ := hs
  unfold FabricsCounted fabricOf
  rw [ht]
  refine ⟨?_, fun n h1 h2 => ?_⟩
  · unfold takeFabric
    split
    · exact hlen
    · rw [setFabric, modifyNth_eq_modify, List.length_modify, hlen]
  · have hold := hrefs n h1 h2
    have hlt : n - 1 < s.tc.fabrics.length := by omega
    rw [fabricOf_eq (List.getElem?_eq_getElem hlt)] at hold
    rw [huses n h1, nth]
    by_cases hn : n = id
    · subst hn
      rw [takeFabric_same (by omega) (List.getElem?_eq_getElem hlt)]
      simp only [Option.getD_some, List.count_singleton_self]
      omega
    · have hcount : List.count n [id] = 0 := List.count_eq_zero.mpr (by simpa using hn)
      rw [hcount]
      by_cases hid : id = 0
      · rw [hid, takeFabric_zero, List.getElem?_eq_getElem hlt]
        simpa using hold
      · rw [takeFabric_ne (by omega), List.getElem?_eq_getElem hlt]
        simpa using hold

theorem uses_append (l : List QueuedPrint) (q : QueuedPrint) (f : QueuedPrint → Nat) (n : Nat) :
    ((l ++ [q]).filter fun r => f r == n).length = (l.filter fun r => f r == n).length + List.count n [f q] := by
  rw [List.filter_append, List.length_append, List.count_cons, List.count_nil, List.filter_cons]
  split <;> simp

/-- A card that joins the queue keeps the laws (R36, R61, R138). -/
theorem enqueuePrint_laws (hs : Laws ps fs s) (h1 : 1 ≤ q.profileId) (h2 : q.profileId ≤ 16) (hlines : 1 ≤ q.lines)
    (hseen : stateSeen (profileOf s q.profileId) ≠ .empty) (hnew : ∀ r ∈ s.pe.queue, r.card.take ≠ q.card.take) :
    Laws ps fs (enqueuePrint q s) := by
  obtain ⟨⟨hcount, hfabric, ⟨hnodup, hcards⟩, ⟨hidle, hjobs, hloads⟩, hstrips, hbuffer, hvisible, hextent⟩, hpatch⟩ := hs
  obtain ⟨hold, first, ports, heq, -⟩ := enqueuePrint_rest q s
  have hlive : (profileOf s q.profileId).freeing = false ∧ (profileOf s q.profileId).state ≠ .empty := by
    unfold stateSeen at hseen
    split at hseen
    · exact absurd rfl hseen
    · rename_i hfree
      exact ⟨by simpa using hfree, hseen⟩
  have hqueued : Laws ps fs (printQueued q s) := by
    have hparts := printQueued_eq q s
    obtain ⟨u, hu⟩ : ∃ u, printQueued q s = u := ⟨_, rfl⟩
    rw [hu] at hparts ⊢
    have hpe : u.pe = { s.pe with queue := s.pe.queue ++ [q] } := by rw [hparts]
    have hps : u.ps = { s.ps with records := modifyNth s.ps.records (q.profileId - 1) fun r => { r with refs := r.refs + 1 } } := by
      rw [hparts]
    have htc : u.tc = { s.tc with fabrics := (takeFabric q.fabricId s).tc.fabrics } := by rw [hparts]
    have hrest : u.tmap = s.tmap ∧ u.setup = s.setup ∧ u.spb = s.spb ∧ u.power = s.power := by
      rw [hparts]
      exact ⟨rfl, rfl, rfl, rfl⟩
    obtain ⟨htmap, hset, hspb, hpower⟩ := hrest
    have hchanged : Changed q.profileId (fun r => { r with refs := r.refs + 1 }) s u := ⟨h1, h2, hcount.1, by rw [hps]⟩
    have huses : ∀ n, profileUses u n = profileUses s n + List.count n [q.profileId] := fun n => by
      rw [profileUses_eq, profileUses_eq, hpe, uses, uses, uses_append s.pe.queue q (·.profileId)]
      dsimp only
      omega
    refine ⟨⟨hcount.changed hchanged (fun n _ hn => ?_) ?_ (fun he => ?_), hfabric.take (by rw [htc]) (fun n _ => ?_), ?_,
      JobLaw.changed ⟨hidle, hjobs, hloads⟩ hchanged (by rw [hpe]) (by rw [hpe]) (by rw [hps]) (fun hj => (hjobs _ hj).2.2)
        (fun hl => (hloads _ hl).2.2), hstrips.congr (by rw [htmap]) (by rw [hset]), hspb ▸ hbuffer,
      hvisible.congr (by rw [hpe]) (by rw [hspb]), hextent.kept hchanged (by rw [hps]) hpower rfl fun he => he⟩,
      hpatch.changed hchanged (by rw [hspb]) (fun _ _ _ _ => ⟨rfl, rfl⟩) (by rw [hspb]) (by rw [hps]) (by rw [hps])⟩
    · rw [huses, List.count_eq_zero.mpr (by simpa using hn), Nat.add_zero]
    · have hrefs := hcount.2.1 q.profileId h1 h2
      rw [huses, List.count_singleton_self]
      show (profileOf s q.profileId).refs + 1 = _
      omega
    · rcases he with he | he
      · exact absurd he hlive.2
      · exact absurd he (by rw [hlive.1]; decide)
    · unfold fabricUses
      rw [hpe, htmap, uses_append s.pe.queue q (·.fabricId)]
      omega
    · rw [hpe]
      refine ⟨?_, fun r hr => ?_⟩
      · rw [List.map_append, List.nodup_append]
        refine ⟨hnodup, by simp, ?_⟩
        rintro x hx y hy rfl
        obtain ⟨r, hr, rfl⟩ := List.mem_map.mp hx
        exact hnew r hr (by simpa using hy)
      · rcases List.mem_append.mp hr with hr | hr
        · exact hcards r hr
        · rw [List.mem_singleton.mp hr]
          exact ⟨h1, h2, hlines⟩
  rw [heq]
  exact hqueued.quiet ⟨⟨rfl, rfl, rfl, rfl, rfl, rfl, rfl, rfl, rfl, rfl, rfl⟩, rfl, rfl, rfl⟩

/-- A PRINT card keeps the laws, where its take is its own (R60). -/
theorem printCard_laws {c : CurrentCard} (hs : Laws ps fs s) (hnew : ∀ r ∈ s.pe.queue, r.card.take ≠ c.ref.take) :
    Laws ps fs (printCard c s) := by
  unfold printCard
  dsimp only
  (repeat' split)
  case isFalse g hset hok hid hseen _ _ hroom =>
    have hwithin : within 1 (parsePrint c).profileId 16 = true := by simpa using hid
    obtain ⟨h1, h2⟩ := within_eq_true.mp hwithin
    have hlines := firstError_eq_none.mp hok (30, decide (1 ≤ (parsePrint c).lines)) (by simp)
    exact enqueuePrint_laws hs h1 h2 (by simpa using hlines) (fun he => by simp [he] at hseen) hnew
  all_goals exact hs.quiet (by simp [Quiet, Steady])

end

/-! ## A print starts (R65) -/

section
variable {ps fs : List Nat} {s t : State} {q : QueuedPrint} {c : Settings} {g : ProfileHeader}

theorem stretchOf_le (s : State) (q : QueuedPrint) : stretchOf s q ≤ 50000 := by
  unfold stretchOf
  split
  · omega
  · split
    · exact min_le_left _ _
    · omega

/-- A print of a line at least has an extent. -/
theorem planned_pos (hlines : 1 ≤ q.lines) (hpitch : 1 ≤ c.pitch) : 0 < linesOut q.lines (stepOf (stretchOf s q)) * c.pitch := by
  have hstep := (stepOf_range (stretchOf_le s q)).1
  refine Nat.mul_pos ((lt_ceilDiv_iff (by omega)).mpr ?_) hpitch
  omega

/-- The strip that starts lies after every strip in the map (R4). -/
theorem startCoordinate_after (hs : StripsLaw s) : ∀ h ∈ s.tmap.segs, h.start < startCoordinate s := by
  obtain ⟨horder, hext, -⟩ := hs
  intro h hh
  obtain ⟨l, last, hsegs⟩ : ∃ l last, s.tmap.segs = l ++ [last] := by
    rcases List.eq_nil_or_concat s.tmap.segs with h0 | ⟨l, last, h1⟩
    · rw [h0] at hh
      cases hh
    · exact ⟨l, last, by simpa using h1⟩
  have hlast : extentEnd last ≤ startCoordinate s := by
    unfold startCoordinate
    rw [hsegs, List.getLast?_append, List.getLast?_singleton]
    exact Nat.le_max_right _ _
  have hlastPos := hext last (by rw [hsegs]; simp)
  rw [hsegs, List.map_append, List.pairwise_append] at horder
  rw [hsegs] at hh
  rcases List.mem_append.mp hh with hh | hh
  · have := horder.2.2 h.start (List.mem_map_of_mem hh) last.start (by simp)
    omega
  · rw [List.mem_singleton.mp hh]
    omega

theorem startTest_profile (h : startTest s q = none) :
    stateSeen (profileOf s q.profileId) = .ready ∨ stateSeen (profileOf s q.profileId) = .retiring := by
  by_contra hno
  have hu : (unmetConditions s q).profile = true := by
    rw [not_or] at hno
    simp [unmetConditions, hno]
  have hsome : unmetConditions s q ≠ HoldReason.none := fun heq => by simp [heq, HoldReason.none] at hu
  rw [startTest_unmet hsome] at h
  cases h

theorem judgement_profile (h : judgement s q = none) :
    stateSeen (profileOf s q.profileId) = .ready ∨ stateSeen (profileOf s q.profileId) = .retiring := by
  unfold judgement at h
  split at h
  · exact startTest_profile (Option.or_eq_none_iff.mp h).2
  · exact startTest_profile h

theorem extentEnd_open {h : Segment} (he : h.endAt = none) : extentEnd h = h.start + h.planned := by
  unfold extentEnd
  rw [he]
  rfl

theorem newSegment_start (s : State) (c : Settings) (g : ProfileHeader) (q : QueuedPrint) (start : Nat) :
    (newSegment s c g q start).start = start := rfl

theorem newSegment_planned (s : State) (c : Settings) (g : ProfileHeader) (q : QueuedPrint) (start : Nat) :
    (newSegment s c g q start).planned = linesOut q.lines (stepOf (stretchOf s q)) * c.pitch := rfl

/-- The strip of a new print is not empty. -/
theorem newSegment_extent (s : State) (g : ProfileHeader) (start : Nat) (hlines : 1 ≤ q.lines) (hpitch : 1 ≤ c.pitch) :
    (newSegment s c g q start).start < extentEnd (newSegment s c g q start) := by
  have hpos : 0 < (newSegment s c g q start).planned := by
    rw [newSegment_planned]
    exact planned_pos hlines hpitch
  rw [extentEnd_open (by rfl)]
  exact Nat.lt_add_of_pos_right hpos

/-- A print that starts keeps the laws: the head card's references pass to the job and the strip (R36, R65, R138). -/
theorem startPrint_laws {l : List QueuedPrint} (hs : Laws ps fs s) (hidle : s.pe.state = .idle) (hq : s.pe.queue = q :: l)
    (hset : s.setup = some c) (hseen : stateSeen (profileOf s q.profileId) = .ready ∨ stateSeen (profileOf s q.profileId) = .retiring) :
    Laws ps fs (startPrint q c g s) := by
  obtain ⟨⟨⟨hlen, hrefs, hzero⟩, ⟨hflen, hfrefs⟩, ⟨hnodup, hcards⟩, ⟨hstates, -, hloads⟩, hstrips, hbuffer, hvisible, hextent⟩, hpatch⟩ := hs
  have hnojob := hstates.mp hidle
  obtain ⟨h1, h2, hlines⟩ := hcards q (hq ▸ List.mem_cons_self)
  have hafter := startCoordinate_after hstrips
  obtain ⟨horder, hext, hpitch⟩ := hstrips
  have hstill : computing s = false := by
    by_contra hc
    exact computing_some (by simpa using hc) hnojob
  have hqueue : (printStarted q c g s).pe.queue = l := by
    show s.pe.queue.drop 1 = l
    rw [hq]
    rfl
  have hnewUses : ∀ n, profileUses (printStarted q c g s) n = profileUses s n := fun n => by
    rw [profileUses_eq, profileUses_eq, hqueue, hq, hnojob]
    show uses n l + (([q.profileId] : List Nat).filter (· == n)).length = uses n (q :: l) + 0
    unfold uses
    rw [List.filter_cons, List.filter_cons]
    split <;> simp
  have hnewFabrics : ∀ n, 1 ≤ n → fabricUses (printStarted q c g s) n = fabricUses s n := fun n hn => by
    unfold fabricUses
    rw [hqueue, hq]
    show _ + ((s.tmap.segs ++ [newSegment s c g q (startCoordinate s)]).filter fun h => h.fabricId == some n).length = _
    have hid : (newSegment s c g q (startCoordinate s)).fabricId = if q.fabricId = 0 then none else some q.fabricId := rfl
    rw [List.filter_append, List.length_append, List.filter_cons (xs := []), List.filter_cons (xs := l), hid]
    by_cases hzero : q.fabricId = 0
    · have hne : (0 == n) = false := by
        rw [beq_eq_false_iff_ne]
        omega
      simp [hzero, hne]
    · by_cases hqn : q.fabricId = n
      · subst hqn
        simp [hzero]
        omega
      · simp [hzero, hqn]
  have hstarted : Laws ps fs (printStarted q c g s) := by
    refine ⟨⟨⟨hlen, fun n hn hn' => ?_, hzero⟩, ⟨hflen, fun n hn hn' => ?_⟩, ?_, ⟨⟨fun h => (by cases h), fun h => (by cases h)⟩, fun n hn => ?_,
      hloads⟩, ⟨?_, fun h hh => ?_, hpitch⟩, hbuffer, fun _ => hvisible hstill, hextent⟩, hpatch⟩
    · rw [hnewUses]
      exact hrefs n hn hn'
    · rw [hnewFabrics n hn]
      exact hfrefs n hn hn'
    · rw [hqueue]
      rw [hq, List.map_cons, List.nodup_cons] at hnodup
      exact ⟨hnodup.2, fun r hr => hcards r (hq ▸ List.mem_cons_of_mem _ hr)⟩
    · obtain rfl : q.profileId = n := Option.some.inj hn
      exact ⟨h1, h2, hseen⟩
    · show ((s.tmap.segs ++ [newSegment s c g q (startCoordinate s)]).map (·.start)).Pairwise (· < ·)
      rw [List.map_append, List.pairwise_append]
      refine ⟨horder, by simp, fun x hx y hy => ?_⟩
      obtain ⟨h, hh, rfl⟩ := List.mem_map.mp hx
      rw [List.map_singleton, List.mem_singleton] at hy
      rw [hy, newSegment_start]
      exact hafter h hh
    · rcases List.mem_append.mp hh with hh | hh
      · exact hext h hh
      · rw [List.mem_singleton.mp hh]
        exact newSegment_extent s g _ hlines (hpitch c hset)
  rw [startPrint_eq]
  exact hstarted.quiet (by simp [Quiet, Steady])

end

end Sys2Proof.Machine
end

section
/-! PROOFS. The laws of the store through the loader and DROP (R25, R26, R29 to R35). -/

namespace Sys2Proof.Machine

section
variable {ps fs : List Nat} {s t : State} {c : CurrentCard} {j : LoadJob}

/-! ## A load begins (R26, R29) -/

/-- An allocation moves cells from the free list to a record that held none (R26). -/
theorem allocated_extents {n b : Nat} {l l' : List Extent} (hn : 0 < n) (hl : Spread l) (h : allocate n l = some (b, l')) (a : Nat) :
    (freeAt l' a + if b ≤ a ∧ a < b + n then 1 else 0) = freeAt l a := by
  obtain ⟨hl', -, ⟨e, he, rfl, hlen, -⟩, hcells⟩ := allocate_takes hn hl h
  have hin : e.base ≤ a ∧ a < e.base + n → Cells l a := fun ha => ⟨e, he, ha.1, by omega⟩
  have hiff := hcells a
  by_cases ha : e.base ≤ a ∧ a < e.base + n
  · have hold := hin ha
    rw [if_pos ha]
    rcases freeAt_cells hl a with h1 | h1 <;> rcases freeAt_cells hl' a with h2 | h2
    · exact absurd ha (hiff.mp h2.2).2
    · omega
    · exact absurd hold h1.2
    · exact absurd hold h1.2
  · rw [if_neg ha]
    rcases freeAt_cells hl a with h1 | h1 <;> rcases freeAt_cells hl' a with h2 | h2
    · omega
    · exact absurd (hiff.mpr ⟨h1.2, ha⟩) h2.2
    · exact absurd (hiff.mp h2.2).1 h1.2
    · omega

/-- A LOAD card names a record and a node count. -/
theorem loadError_bounds (h : loadError c.image = none) :
    1 ≤ leRead c.image 16 1 ∧ leRead c.image 16 1 ≤ 16 ∧ ∀ base, 0 < (loadHeader c.image base).nodes := by
  obtain ⟨l, heq, hdecides⟩ := loadError_decides c.image
  rw [heq, hdecides.none] at h
  obtain ⟨h1, h2⟩ := h _ List.mem_cons_self
  have hgrid := h (17, leRead c.image 17 1 = 9 ∨ leRead c.image 17 1 = 17 ∨ leRead c.image 17 1 = 33) (by simp)
  refine ⟨h1, h2, fun base => ?_⟩
  show 0 < leRead c.image 17 1 ^ 3
  exact Nat.pow_pos (by rcases hgrid with h | h | h <;> omega)

/-- An accepted LOAD card keeps the laws (R29). -/
theorem acceptLoad_laws (hs : Laws ps fs s) : Laws ps fs (acceptLoad c s) := by
  unfold acceptLoad
  dsimp only
  (repeat' split)
  case h_2 hok hempty r base free hroom =>
    have hstate : (profileOf s (leRead c.image 16 1)).state = .empty := by simpa using hempty
    obtain ⟨h1, h2, hnodes⟩ := loadError_bounds hok
    obtain ⟨⟨hcount, hfabric, hqueue, ⟨hidlePrint, hjobs, -⟩, hstrips, hbuffer, hvisible, hextent⟩, hpatch⟩ := hs
    have hlt : leRead c.image 16 1 - 1 < s.ps.records.length := by
      rw [hcount.1]
      omega
    have heq := loadAccepted_eq (base := base) (free := free) (List.getElem?_eq_getElem hlt)
    have hloaded : Laws ps fs (loadAccepted c base free s) := by
      obtain ⟨u, hu⟩ : ∃ u, loadAccepted c base free s = u := ⟨_, rfl⟩
      rw [hu] at heq ⊢
      have hchanged : Changed (leRead c.image 16 1) (fun _ => ⟨.loading, some (loadHeader c.image base), 0, 0, 0, false⟩) s u :=
        ⟨h1, h2, hcount.1, by rw [heq]⟩
      have hmem : profileOf s (leRead c.image 16 1) ∈ s.ps.records := List.mem_of_getElem? hchanged.old
      have hnone := hextent.2.2.1 _ hmem hstate
      have hrefs := hcount.2.1 _ h1 h2
      rw [hcount.2.2 _ hmem (.inl hstate)] at hrefs
      have hpe : u.pe = s.pe := by rw [heq]
      have hseen : stateSeen (profileOf s (leRead c.image 16 1)) = .empty := by
        unfold stateSeen
        rw [hstate]
        split <;> rfl
      have huses : ∀ n, profileUses u n = profileUses s n := fun n => by
        unfold profileUses
        rw [hpe]
      have hspread := freeList_iff.mp hextent.1
      have hextent' : ExtentLaw u := by
        refine hextent.changed hchanged ?_ (by rw [heq]) (fun a => ?_) (fun h => by cases h) fun g hg => ?_
        · rw [heq]
          exact freeList_iff.mpr (allocate_takes (hnodes 0) hspread hroom).1
        · have hmoved := allocated_extents (hnodes 0) hspread hroom a
          have hfree : u.ps.free = free := by rw [heq]
          have hholds : headerHolds (some (loadHeader c.image base)) a = decide (base ≤ a ∧ a < base + (loadHeader c.image 0).nodes) := rfl
          rw [hfree, hnone, hholds]
          simpa [headerHolds] using hmoved
        · obtain rfl := Option.some.inj hg
          exact hnodes base
      refine ⟨⟨hcount.changed hchanged (fun n _ _ => by rw [huses]) (hrefs.trans (by rw [huses])) (fun _ => rfl),
        hfabric.congr (by rw [heq]) (by rw [hpe]) (by rw [heq]), hpe ▸ hqueue, ⟨?_, fun n hn => ?_, fun n hn => ?_⟩,
        hstrips.congr (by rw [heq]) (by rw [heq]), by rwa [heq], hvisible.congr (by rw [hpe]) (by rw [heq]), hextent'⟩,
        hpatch.changed hchanged (by rw [heq]) (fun p hin hph hid => ?_) (by rw [heq]) (by rw [heq]) (by rw [heq])⟩
      · rwa [hpe]
      · rw [hpe] at hn
        obtain ⟨hn1, hn2, hn3⟩ := hjobs n hn
        have hne : n ≠ leRead c.image 16 1 := fun he => by rw [he, hseen] at hn3; rcases hn3 with h | h <;> cases h
        rw [hchanged.other hn1 hne]
        exact ⟨hn1, hn2, hn3⟩
      · obtain rfl : leRead c.image 16 1 = n := by
          rw [heq] at hn
          exact Option.some.inj hn
        rw [hchanged.same]
        exact ⟨h1, h2, rfl⟩
      · obtain ⟨-, -, hstand, -⟩ := (patchLaw_iff.mp hpatch).1 p hin
        exact absurd (hid ▸ hnone) (hstand hph).2
    change Laws ps fs (endDispatch (loadAccepted c base free s))
    exact hloaded.quiet (by simp [Quiet, Steady])
  all_goals exact hs.quiet (by simp [Quiet, Steady])

theorem dispatchLoad_laws (hs : Laws ps fs s) : Laws ps fs (dispatchLoad c s) := by
  unfold dispatchLoad
  split
  · exact hs.quiet (by simp [Quiet, Steady])
  · exact acceptLoad_laws hs

/-! ## A load goes on, and ends (R29 to R31) -/

/-- The loader without a load keeps the laws. -/
theorem setLoader_none_laws (hs : Laws ps fs s) : Laws ps fs (setLoader none s) := by
  obtain ⟨⟨hcount, hfabric, hqueue, ⟨hidle, hjobs, -⟩, hrest⟩, hpatch⟩ := hs
  exact ⟨⟨hcount, hfabric, hqueue, ⟨hidle, hjobs, fun _ h => by cases h⟩, hrest⟩, hpatch⟩

/-- A load given up keeps the laws (R31, R33). -/
theorem stopLoader_laws (hs : Laws ps fs s) : Laws ps fs (stopLoader s) := by
  have hacc : accessed (stopLoader s).ps.arb = accessed s.ps.arb := by
    unfold stopLoader accessed
    dsimp only
    cases s.ps.arb.busy with
    | none => rfl
    | some b => cases b <;> rfl
  exact (setLoader_none_laws hs).quiet ⟨⟨rfl, rfl, rfl, rfl, rfl, rfl, rfl, rfl, rfl, rfl, rfl⟩, rfl, rfl, hacc⟩

/-- A job of the loader's that goes on with its profile keeps the laws. -/
theorem setLoader_laws (hs : Laws ps fs s) (hj : s.ps.loader.map (·.id) = some j.id) : Laws ps fs (setLoader (some j) s) :=
  hs.quiet ⟨⟨rfl, rfl, rfl, rfl, rfl, hj.symm, rfl, rfl, rfl, rfl, rfl⟩, rfl, rfl, rfl⟩

/-- A record that takes another state keeps the laws where no job and no load rests on it (R30, R34). -/
theorem restated_laws {id : Nat} {f : ProfileRecord → ProfileRecord} (hs : Laws ps fs s) (h1 : 1 ≤ id) (h2 : id ≤ 16)
    (hf : ∀ r, (f r).refs = r.refs ∧ (f r).header = r.header ∧ (f r).freeing = r.freeing ∧ (f r).state ≠ .empty)
    (hjob : s.pe.job.map jobId = some id → stateSeen (f (profileOf s id)) = .ready ∨ stateSeen (f (profileOf s id)) = .retiring)
    (hload : s.ps.loader.map (·.id) ≠ some id) : Laws ps fs (setProfile id f s) := by
  obtain ⟨⟨hcount, hfabric, hqueue, hjobs, hstrips, hbuffer, hvisible, hextent⟩, hpatch⟩ := hs
  have hchanged : Changed id f s (setProfile id f s) := ⟨h1, h2, hcount.1, rfl⟩
  have hmem : profileOf s id ∈ s.ps.records := List.mem_of_getElem? hchanged.old
  obtain ⟨hrefs, hhead, hfree, hst⟩ := hf (profileOf s id)
  refine ⟨⟨hcount.changed hchanged (fun _ _ _ => rfl) (hrefs.trans (hcount.2.1 id h1 h2)) (fun he => ?_), hfabric, hqueue,
    hjobs.changed hchanged rfl rfl rfl hjob (fun hl => absurd hl hload), hstrips, hbuffer, hvisible,
    hextent.kept hchanged rfl rfl hhead fun he => absurd he hst⟩,
    hpatch.changed hchanged rfl (fun _ _ _ _ => ⟨hfree, hhead⟩) rfl rfl rfl⟩
  rw [hrefs]
  exact hcount.2.2 _ hmem (.inr (hfree ▸ he.resolve_left hst))

/-- The profile of a job is not LOADING. -/
theorem JobLaw.not_loading {id : Nat} (hs : JobLaw s) (hl : stateSeen (profileOf s id) = .loading) : s.pe.job.map jobId ≠ some id := by
  intro hj
  obtain ⟨-, hjobs, -⟩ := hs
  rcases (hjobs id hj).2.2 with h | h <;> rw [hl] at h <;> cases h

/-- The end of a load keeps the laws (R30). -/
theorem loadDone_laws {h : ProfileHeader} (hs : Laws ps fs s) (hj : s.ps.loader.map (·.id) = some j.id) : Laws ps fs (loadDone j h s) := by
  obtain ⟨-, -, -, hjobs, -⟩ := hs.1
  obtain ⟨h1, h2, hseen⟩ := hjobs.2.2 j.id hj
  have hready : Laws ps fs (setProfile j.id (fun r => { r with state := .ready, version := 0 }) (setLoader none s)) :=
    restated_laws (setLoader_none_laws hs) h1 h2 (fun r => ⟨rfl, rfl, rfl, nofun⟩) (fun hjob => absurd hjob (hjobs.not_loading hseen))
      fun hl => by cases hl
  exact hready.quiet (by
    unfold loadDone Quiet Steady
    simp [setLoader, setProfile])

theorem advanceLoad_laws (hs : Laws ps fs s) : Laws ps fs (advanceLoad s) := by
  unfold advanceLoad
  split
  · exact hs
  · rename_i j hj
    have hid : s.ps.loader.map (·.id) = some j.id := by rw [hj]; rfl
    split
    · exact hs
    · dsimp only
      split
      · exact loadDone_laws hs hid
      · split
        · exact (setLoader_laws (j := { j with cursor := j.cursor + 1, buffer := [], reading := true }) hs hid).quiet
            (by simp [Quiet, Steady, readBlock, setLoader])
        · exact setLoader_laws hs hid

/-! ## A profile goes (R32 to R35) -/

theorem stopLoader_records_profile (id : Nat) (s : State) : profileOf (stopLoader s) id = profileOf s id := rfl

/-- A source read that fails keeps the laws (R31). -/
theorem loadReadFails_laws (hs : Laws [] fs s) : Laws [] fs (loadReadFails s) := by
  unfold loadReadFails
  refine onLoadRead_law (Laws [] fs) hs (fun _ => hs) fun j hj _ => ?_
  have hid : s.ps.loader.map (·.id) = some j.id := by rw [hj]; rfl
  obtain ⟨-, -, -, ⟨-, -, hloads⟩, -⟩ := hs.1
  obtain ⟨h1, h2, hseen⟩ := hloads j.id hid
  have hfault : Laws [] fs (offerFault (.loadReadError j.id j.cursor) s) := hs.quiet (by simp [Quiet, Steady])
  have hstop : Laws [] fs (stopLoader (setLoader (some { j with reading := false }) (offerFault (.loadReadError j.id j.cursor) s))) :=
    stopLoader_laws (setLoader_laws (j := { j with reading := false }) hfault (by simpa using hid))
  have hseen' : stateSeen (profileOf (stopLoader (setLoader (some { j with reading := false })
      (offerFault (.loadReadError j.id j.cursor) s))) j.id) = .loading := by
    rw [stopLoader_records_profile, profileOf_congr (s := s) (by simp)]
    exact hseen
  have hfreed := freeRecord_laws (failQueuedOf_laws j.id hstop) (failQueuedOf_unused hstop h1 h2 hseen' (fun h => by cases h))
  exact hfreed.quiet (by simp [Quiet, Steady])

/-- The load of a profile is aborted: no load of it is left (R33). -/
theorem abortLoad_laws (id : Nat) (hs : Laws ps fs s) : Laws ps fs (abortLoad id s) ∧ (abortLoad id s).ps.loader.map (·.id) ≠ some id ∧
    profileOf (abortLoad id s) id = profileOf s id := by
  unfold abortLoad
  split
  · rename_i j hj
    split
    · refine ⟨(stopLoader_laws hs).quiet (by simp [Quiet, Steady]), ?_, profileOf_congr (by simp)⟩
      simp [stopLoader]
    · rename_i hne
      exact ⟨hs, by simpa [hj] using hne, rfl⟩
  · rename_i hj
    exact ⟨hs, by simp [hj], rfl⟩

/-- A DROP card keeps the laws (R34). -/
theorem dropCard_laws (hs : Laws [] fs s) : Laws [] fs (dropCard c s) := by
  unfold dropCard
  dsimp only
  split
  · exact hs.quiet (by simp [Quiet, Steady])
  · rename_i hid
    obtain ⟨h1, h2⟩ := within_eq_true.mp (by simpa using hid)
    obtain ⟨hcount, -, -, ⟨-, -, hloads⟩, -⟩ := hs.1
    have hnoload : stateSeen (profileOf s (leRead c.image 16 1)) ≠ .loading → s.ps.loader.map (·.id) ≠ some (leRead c.image 16 1) :=
      fun hne hl => hne (hloads _ hl).2.2
    split
    · exact hs.quiet (by simp [Quiet, Steady])
    · rename_i hseen
      obtain ⟨habort, hnone, hprofile⟩ := abortLoad_laws (leRead c.image 16 1) hs
      have hfreed := freeRecord_laws (failQueuedOf_laws (leRead c.image 16 1) habort)
        (failQueuedOf_unused habort h1 h2 (by rw [hprofile]; exact hseen) hnone)
      exact hfreed.quiet (by simp [Quiet, Steady])
    · rename_i hseen
      have hload := hnoload (by rw [hseen]; decide)
      split
      · rename_i hrefs
        exact (freeRecord_laws hs (.of_refs h1 h2 hcount hrefs hload)).quiet (by simp [Quiet, Steady])
      · have hretiring := restated_laws (f := fun r => { r with state := .retiring }) hs h1 h2 (fun r => ⟨rfl, rfl, rfl, nofun⟩)
          (fun _ => .inr ?_) hload
        · exact hretiring.quiet (by simp [Quiet, Steady])
        · unfold stateSeen at hseen ⊢
          split at hseen
          · cases hseen
          · rename_i hfree
            rw [if_neg hfree]
    · exact hs.quiet (by simp [Quiet, Steady])

/-- The end of a freeing that waited keeps the laws (R32). -/
theorem freeing_laws {id : Nat} (hs : Laws ps fs s) (h1 : 1 ≤ id) (h2 : id ≤ 16) (hfree : (profileOf s id).freeing = true) :
    Laws ps fs (completeFree id s) := by
  obtain ⟨hcount, -, -, ⟨-, -, hloads⟩, -⟩ := hs.1
  have hlt : id - 1 < s.ps.records.length := by
    rw [hcount.1]
    omega
  have hmem : profileOf s id ∈ s.ps.records := by
    rw [profileOf_eq (List.getElem?_eq_getElem hlt)]
    exact List.getElem_mem hlt
  have hrefs := hcount.2.2 _ hmem (.inr hfree)
  refine completeFree_laws hs (.of_refs h1 h2 hcount hrefs fun hl => ?_) fun p hp hph hid => ?_
  · have hseen := (hloads id hl).2.2
    unfold stateSeen at hseen
    rw [if_pos hfree] at hseen
    cases hseen
  · obtain ⟨-, -, hstand, -⟩ := (patchLaw_iff.mp hs.2).1 p hp
    have hlive := (hstand hph).1
    rw [hid, hfree] at hlive
    cases hlive

end

end Sys2Proof.Machine
end

section
/-! PROOFS. The laws of the store through the PATCH card, its edits and the drains (R42 to R49). -/

namespace Sys2Proof.Machine

section
variable {ps fs : List Nat} {s t : State} {c : CurrentCard} {p : PatchJob}

/-! ## The card in hand (R42, R45) -/

theorem PatchStands.not_creating (h : PatchStands s p) (hph : p.phase ≠ .applying) : p.creating = false := by
  obtain ⟨-, -, -, hcreate⟩ := h
  by_contra hc
  exact hph (hcreate (by simpa using hc)).1

/-- A card that waits for no creation read stands by its record alone. -/
theorem patchStands_calm (hc : p.creating = false) : PatchStands s p ↔ 1 ≤ p.id ∧ p.id ≤ 16 ∧
    (p.phase ≠ .reading → (profileOf s p.id).freeing = false ∧ (profileOf s p.id).header ≠ none) :=
  ⟨fun ⟨h1, h2, h3, _⟩ => ⟨h1, h2, h3⟩, fun ⟨h1, h2, h3⟩ => ⟨h1, h2, h3, fun h => absurd (hc.symm.trans h) (by decide)⟩⟩

/-- What stands of a card once it waits for no creation read. -/
def Based (s : State) (p : PatchJob) : Prop := PatchStands s { p with creating := false }

theorem PatchStands.based (h : PatchStands s p) : Based s p := by
  obtain ⟨h1, h2, h3, -⟩ := h
  exact (patchStands_calm rfl).mpr ⟨h1, h2, h3⟩

theorem Based.congr (h : Based s p) (hrec : t.ps.records.map bare = s.ps.records.map bare) : Based t p := by
  obtain ⟨h1, h2, h3⟩ := (patchStands_calm rfl).mp h
  obtain ⟨-, hhead, -, hfree⟩ := bare_eq.mp (bare_profileOf hrec p.id)
  exact (patchStands_calm rfl).mpr ⟨h1, h2, fun hph => by
    show (profileOf t p.id).freeing = false ∧ (profileOf t p.id).header ≠ none
    rw [hfree, hhead]
    exact h3 hph⟩

/-- No creation read is wanted while no edit waits for one. -/
theorem PatchLaw.calm (hs : PatchLaw s) (hcalm : ∀ p, s.spb.patch = some p → p.creating = false) :
    requested s.ps.arb = none ∧ accessed s.ps.arb = none := by
  obtain ⟨-, hr, ha, -⟩ := patchLaw_iff.mp hs
  have hnone : ∀ want, Waited s want → want = none := fun want hw => by
    by_contra hne
    obtain ⟨⟨i, cell⟩, hwant⟩ := Option.ne_none_iff_exists'.mp hne
    obtain ⟨p, hp, hc, -⟩ := hw i cell hwant
    exact absurd ((hcalm p hp).symm.trans hc) (by decide)
  exact ⟨hnone _ hr, hnone _ ha⟩

/-- The card in hand becomes another, or none, while no creation read is wanted. -/
theorem setPatch_laws {new : Option PatchJob} (hs : Stock ps fs s) (hreq : requested s.ps.arb = none) (hacc : accessed s.ps.arb = none)
    (hp : ∀ p, new = some p → PatchStands s p) : Laws ps fs (setPatch new s) :=
  ⟨hs.steady (Steady.refl s), PatchLaw.of_idle hp hreq hacc⟩

theorem failPatch_laws (rc : ResultCode) (fields : List (Nat × List Byte)) (hs : Laws ps fs s)
    (hcalm : ∀ p, s.spb.patch = some p → p.creating = false) : Laws ps fs (failPatch rc fields s) := by
  obtain ⟨hreq, hacc⟩ := hs.2.calm hcalm
  exact (setPatch_laws (new := none) hs.1 hreq hacc fun _ h => by cases h).quiet (by simp [failPatch, Quiet, Steady])

/-- A PATCH card keeps the laws (R42). -/
theorem patchCard_laws (hs : Laws ps fs s) (hnone : s.spb.patch = none) : Laws ps fs (patchCard c s) := by
  obtain ⟨hreq, hacc⟩ := hs.2.calm fun p hp => by rw [hnone] at hp; cases hp
  unfold patchCard
  dsimp only
  (repeat' split)
  case isFalse hok _ =>
    obtain ⟨l, heq, hdecides⟩ := patchError_decides c.image
    rw [heq, hdecides.none] at hok
    obtain ⟨h1, h2⟩ := hok _ List.mem_cons_self
    refine (setPatch_laws (new := some ⟨c.ref, c.noWait, leRead c.image 16 1, leRead c.image 18 2, leRead c.image 24 8, .reading, [], 0, false⟩)
      hs.1 hreq hacc fun p hp => ?_).quiet ⟨Steady.refl _, rfl, rfl, rfl⟩
    obtain rfl := Option.some.inj hp
    exact (patchStands_calm rfl).mpr ⟨h1, h2, fun h => absurd rfl h⟩
  all_goals exact hs.quiet (by simp [Quiet, Steady])

/-- The list of a card in READING keeps the laws (R42). -/
theorem listRead_laws {f : PatchJob → State → State} (hs : Laws ps fs s)
    (hf : ∀ p, s.spb.patch = some p → p.phase = .reading → (∀ q, s.spb.patch = some q → q.creating = false) → Laws ps fs (f p s)) :
    Laws ps fs (onListRead s f) := by
  refine onListRead_law (Laws ps fs) hs (fun _ => hs) fun p hp hph => hf p hp hph fun q hq => ?_
  obtain rfl : p = q := Option.some.inj (hp.symm.trans hq)
  exact PatchStands.not_creating ((patchLaw_iff.mp hs.2).1 p hp) (by rw [hph]; decide)

/-- The edits of a list are in hand (R42). -/
theorem listTaken_laws (edits : List Edit) (hs : Laws ps fs s) (hp : s.spb.patch = some p)
    (hcalm : ∀ q, s.spb.patch = some q → q.creating = false) (hseen : stateSeen (profileOf s p.id) ≠ .empty)
    (hhead : (profileOf s p.id).header ≠ none) : Laws ps fs (setPatch (some { p with phase := .applying, edits := edits }) s) := by
  obtain ⟨hreq, hacc⟩ := hs.2.calm hcalm
  refine setPatch_laws hs.1 hreq hacc fun q hq => ?_
  obtain rfl := Option.some.inj hq
  obtain ⟨h1, h2, -⟩ := (patchLaw_iff.mp hs.2).1 p hp
  refine (patchStands_calm (p := { p with phase := .applying, edits := edits }) (hcalm p hp)).mpr ⟨h1, h2, fun _ => ⟨?_, hhead⟩⟩
  unfold stateSeen at hseen
  split at hseen
  · exact absurd rfl hseen
  · rename_i hfree
    simpa using hfree

/-- A PATCH card in WAITING that is offered again keeps the laws (R45). -/
theorem reofferPatch_laws (hs : Laws ps fs s) : Laws ps fs (reofferPatch s) := by
  unfold reofferPatch
  split
  · exact hs
  · rename_i p hp
    split
    · rename_i e h hph _ _
      have hstands := (patchLaw_iff.mp hs.2).1 p hp
      have hc := hstands.not_creating (by rw [hph]; decide)
      split
      · exact hs
      · obtain ⟨hreq, hacc⟩ := hs.2.calm fun q hq => by
          obtain rfl : p = q := Option.some.inj (hp.symm.trans hq)
          exact hc
        obtain ⟨h1, h2, hbase, -⟩ := hstands
        refine (setPatch_laws (new := some { p with phase := .applying }) hs.1 hreq hacc fun q hq => ?_).quiet ⟨Steady.refl _, rfl, rfl, rfl⟩
        obtain rfl := Option.some.inj hq
        exact (patchStands_calm (p := { p with phase := .applying }) hc).mpr ⟨h1, h2, fun _ => hbase (by rw [hph]; decide)⟩
    · exact hs

/-! ## Edits (R43 to R45) -/

/-- The next edit is in hand, or the card is done (R43). -/
theorem advanceEdit_laws (hs : Stock ps fs s) (hreq : requested s.ps.arb = none) (hacc : accessed s.ps.arb = none)
    (hp : ∀ p, s.spb.patch = some p → Based s p) : Laws ps fs (advanceEdit s) := by
  unfold advanceEdit
  split
  · rename_i hnone
    exact ⟨hs, PatchLaw.of_idle (fun p h => by rw [hnone] at h; cases h) hreq hacc⟩
  · rename_i p hpatch
    split
    · exact (setPatch_laws (new := none) hs hreq hacc fun _ h => by cases h).quiet (by simp [Quiet, Steady])
    · refine setPatch_laws hs hreq hacc fun q hq => ?_
      obtain rfl := Option.some.inj hq
      obtain ⟨h1, h2, h3⟩ := (patchStands_calm rfl).mp (hp p hpatch)
      exact (patchStands_calm rfl).mpr ⟨h1, h2, h3⟩

/-- A new entry of a buffer with room for it (R44, R47). -/
theorem Buffered.arrive {l : List ShadowEntry} {e : ShadowEntry} (h : Buffered l) (hid : 1 ≤ e.id ∧ e.id ≤ 16) (hroom : l.length < 2)
    (hnone : ∀ f ∈ l, f.cell ≠ e.cell) (hvisible : e.visible = true → ∀ f ∈ l, f.visible = true) : Buffered (l ++ [e]) := by
  obtain ⟨-, hnodup, hids, v, q, hsplit, hv, hq⟩ := h
  refine ⟨by simpa using hroom, ?_, fun f hf => ?_, ?_⟩
  · rw [List.map_append, List.nodup_append]
    refine ⟨hnodup, by simp, ?_⟩
    rintro x hx y hy rfl
    obtain ⟨f, hf, rfl⟩ := List.mem_map.mp hx
    exact hnone f hf (by simpa using hy)
  · rcases List.mem_append.mp hf with hf | hf
    · exact hids f hf
    · rwa [List.mem_singleton.mp hf]
  · cases he : e.visible with
    | true =>
      refine ⟨l ++ [e], [], (List.append_nil _).symm, fun f hf => ?_, fun f hf => by cases hf⟩
      rcases List.mem_append.mp hf with hf | hf
      · exact hvisible he f hf
      · rwa [List.mem_singleton.mp hf]
    | false =>
      refine ⟨v, q ++ [e], by rw [hsplit, List.append_assoc], hv, fun f hf => ?_⟩
      rcases List.mem_append.mp hf with hf | hf
      · exact hq f hf
      · rwa [List.mem_singleton.mp hf]

@[simp] theorem arriveEntry_bare (id node cell : Nat) (v : CellValue) :
    (arriveEntry id node cell v s).ps.records.map bare = s.ps.records.map bare := by
  unfold arriveEntry
  dsimp only
  split
  · exact bumpVersions_bare _
  · rfl

theorem arriveEntry_eq (id node cell : Nat) (v : CellValue) (s : State) : arriveEntry id node cell v s = { s with
    ps := { s.ps with records := (arriveEntry id node cell v s).ps.records }
    spb := { s.spb with entries := s.spb.entries ++ [⟨id, node, cell, v, !computing s⟩] } } := by
  unfold arriveEntry
  dsimp only
  split
  · rw [bumpVersions_eq]
  · rfl

/-- A new entry of a cell that no entry holds keeps the laws but that of the PATCH card (R44, R47, R48). -/
theorem arriveEntry_stock {id cell : Nat} (node : Nat) (v : CellValue) (hs : Stock ps fs s) (h1 : 1 ≤ id) (h2 : id ≤ 16)
    (hroom : s.spb.entries.length < 2) (hnone : ∀ e ∈ s.spb.entries, e.cell ≠ cell) : Stock ps fs (arriveEntry id node cell v s) := by
  have hbare := arriveEntry_bare (s := s) id node cell v
  have heq := arriveEntry_eq id node cell v s
  obtain ⟨u, hu⟩ : ∃ u, arriveEntry id node cell v s = u := ⟨_, rfl⟩
  rw [hu] at hbare heq ⊢
  have hentries : u.spb.entries = s.spb.entries ++ [⟨id, node, cell, v, !computing s⟩] := by rw [heq]
  have hcomp : computing u = computing s := by rw [heq]; rfl
  have hstock : Stock ps fs { u with spb := s.spb } := hs.steady ⟨by rw [heq], by rw [heq], by rw [heq], hbare, by rw [heq], by rw [heq], rfl,
    by rw [heq], by rw [heq], by rw [heq], by rw [heq]⟩
  obtain ⟨-, -, -, -, -, hbuffer, hvisible, -⟩ := hs
  refine hstock.rebuffer (hentries ▸ hbuffer.arrive ⟨h1, h2⟩ hroom hnone fun hv => hvisible (by simpa using hv)) fun hc e he => ?_
  rw [hcomp] at hc
  rw [hentries] at he
  rcases List.mem_append.mp he with he | he
  · exact hvisible hc e he
  · rw [List.mem_singleton.mp he]
    simp [hc]

/-- An edit that made its entry is past: the card goes on (R43, R44). -/
theorem arrived_laws {id cell : Nat} (node : Nat) (v : CellValue) (hs : Laws ps fs s) (h1 : 1 ≤ id) (h2 : id ≤ 16)
    (hroom : s.spb.entries.length < 2) (hnone : ∀ e ∈ s.spb.entries, e.cell ≠ cell) (hreq : requested s.ps.arb = none)
    (hacc : accessed s.ps.arb = none) (ht : Steady (arriveEntry id node cell v s) t) (hspb : t.spb = (arriveEntry id node cell v s).spb)
    (harb : t.ps.arb = s.ps.arb) : Laws ps fs (advanceEdit t) := by
  have hstock := (arriveEntry_stock node v hs.1 h1 h2 hroom hnone).steady ht
  obtain ⟨-, -, -, hrec, -⟩ := ht
  refine advanceEdit_laws hstock (harb ▸ hreq) (harb ▸ hacc) fun p hp => ?_
  have hpatch : s.spb.patch = some p := by
    rw [hspb, arriveEntry_eq] at hp
    exact hp
  exact ((patchLaw_iff.mp hs.2).1 p hpatch).based.congr (hrec.trans (arriveEntry_bare id node cell v))

theorem parityHalt_laws (marks : Byte) (hs : Laws ps fs s) : Laws ps fs (parityHalt marks s) :=
  parityHalt_law (Laws ps fs) (fun cause _ hu => haltLine_laws cause hu) marks hs

/-- The entry that a creation read brings keeps the laws (R44, R56). -/
theorem createEntry_laws {id node cell k : Nat} {x : StoreCell} (hs : Laws ps fs s) (hreq : requested s.ps.arb = none)
    (hacc : accessed s.ps.arb = none) (hp : s.spb.patch = some p) (hc : p.creating = true) (hid : p.id = id) (hcell : editCell s p = some cell) :
    Laws ps fs (createEntry id node cell k x s) := by
  obtain ⟨h1, h2, -, hcreate⟩ := (patchLaw_iff.mp hs.2).1 p hp
  obtain ⟨-, hroom, cell', hcell', hnone⟩ := hcreate hc
  obtain rfl : cell = cell' := Option.some.inj (hcell.symm.trans hcell')
  unfold createEntry
  rw [hp]
  dsimp only
  split
  · rename_i e _ _
    refine parityHalt_laws _ (arrived_laws node (keepChannels (mergeEdit x.bytes e) k) hs (hid ▸ h1) (hid ▸ h2) hroom hnone hreq hacc ?_ ?_ ?_)
    · simp [Steady]
    · simp
    · rw [(noteParity_rest _ _ _ _ _).2.2, arriveEntry_eq]
  · exact hs

/-- What the buffer offers an edit (R43). -/
theorem editRoute_create {l : List ShadowEntry} {cell : Nat} (h : editRoute l cell = .create) : l.length < 2 ∧ ∀ e ∈ l, e.cell ≠ cell := by
  unfold editRoute at h
  split at h
  · split at h <;> cases h
  · rename_i hfind
    split at h
    · cases h
    · rename_i hlen
      exact ⟨by omega, fun e he => by simpa using List.find?_eq_none.mp hfind e he⟩

theorem mergePending_laws {cell k : Nat} {e : Edit} (hs : Laws ps fs s) : Laws ps fs (mergePending cell e k s) := by
  refine hs.quiet ⟨⟨rfl, rfl, rfl, rfl, rfl, rfl, ?_, rfl, rfl, rfl, rfl⟩, rfl, rfl, rfl⟩
  unfold mergePending
  dsimp only
  rw [List.map_map]
  refine List.map_congr_left fun x _ => ?_
  dsimp only [Function.comp]
  split <;> rfl

/-- An edit keeps the laws (R43 to R45). -/
theorem applyEdit_laws {e : Edit} {h : ProfileHeader} (hs : Laws ps fs s) (hp : s.spb.patch = some p) (hph : p.phase = .applying)
    (hc : p.creating = false) (he : p.edits[p.cursor]? = some e) (hh : (profileOf s p.id).header = some h) : Laws ps fs (applyEdit p e h s) := by
  have hcalm : ∀ q, s.spb.patch = some q → q.creating = false := fun q hq => by
    obtain rfl : p = q := Option.some.inj (hp.symm.trans hq)
    exact hc
  obtain ⟨hreq, hacc⟩ := hs.2.calm hcalm
  have hstands := (patchLaw_iff.mp hs.2).1 p hp
  obtain ⟨h1, h2, hbase, -⟩ := hstands
  unfold applyEdit
  dsimp only
  split
  · have hmerged := mergePending_laws (cell := h.base + e.node) (k := h.channels) (e := e) hs
    exact advanceEdit_laws hmerged.1 hreq hacc fun q hq => ((patchLaw_iff.mp hmerged.2).1 q hq).based
  · rename_i hroute
    obtain ⟨hroom, hnone⟩ := editRoute_create hroute
    split
    · refine (arrived_laws e.node _ hs h1 h2 hroom hnone hreq hacc (Steady.refl _) rfl ?_).pump
      rw [arriveEntry_eq]
    · refine Laws.pump (setPatch_laws hs.1 hreq hacc fun q hq => ?_)
      obtain rfl := Option.some.inj hq
      refine ⟨h1, h2, hbase, fun _ => ⟨hph, hroom, h.base + e.node, ?_, hnone⟩⟩
      unfold editCell
      dsimp only
      rw [he, hh]
  · split
    · exact failPatch_laws .busy _ hs hcalm
    · refine (setPatch_laws (new := some { p with phase := .waiting }) hs.1 hreq hacc fun q hq => ?_).quiet (by simp [Quiet, Steady])
      obtain rfl := Option.some.inj hq
      exact (patchStands_calm (p := { p with phase := .waiting }) hc).mpr ⟨h1, h2, fun _ => hbase (by rw [hph]; decide)⟩

/-! ## Drains (R49) -/

/-- An entry that has drained leaves the buffer (R49). -/
theorem drained_laws (keep : ShadowEntry → Bool) (hs : Laws ps fs s) :
    Laws ps fs { s with spb := { s.spb with entries := s.spb.entries.filter keep } } := by
  obtain ⟨hstock, hpatch⟩ := hs
  have hparts := hstock
  obtain ⟨-, -, -, -, -, hbuffer, hvisible, -⟩ := hparts
  exact ⟨Stock.rebuffer (b := s.spb) hstock (hbuffer.filter keep) fun hc e he => hvisible hc e (List.mem_filter.mp he).1,
    hpatch.thin rfl (fun _ h => h) (List.length_filter_le _ _) (fun e he => ⟨e, (List.mem_filter.mp he).1, rfl⟩)
      (fun _ _ hw => ⟨hw, fun _ h _ _ => h⟩) fun _ _ hw => ⟨hw, fun _ h _ _ => h⟩⟩

end

end Sys2Proof.Machine
end

section
/-! PROOFS. The laws of the store through the resets and the cards that reach more than one block (R40, R59, R80, R125, R137, R138, R169). -/

namespace Sys2Proof.Machine

section
variable {ps fs : List Nat} {s t : State} {c : CurrentCard}

/-! ## Main power-on reset and software reset (R40) -/

/-- A part with an empty map, queue and buffer, and a store that is free, keeps the laws. -/
theorem laws_of_reset (hsegs : t.tmap.segs = []) (hqueue : t.pe.queue = []) (hjob : t.pe.job = none) (hst : t.pe.state = .idle)
    (hrecords : t.ps.records = List.replicate 16 emptyRecord) (hfree : t.ps.free = [⟨0, storeCells t.power.store64k⟩])
    (hload : t.ps.loader = none) (hreq : requested t.ps.arb = none) (hacc : accessed t.ps.arb = none) (hentries : t.spb.entries = [])
    (hpatch : t.spb.patch = none) (hfabrics : t.tc.fabrics = List.replicate 8 ⟨none, 0⟩) (hset : t.setup = none) : Laws [] [] t := by
  have hrecord : ∀ r ∈ t.ps.records, r = emptyRecord := fun r hr => List.eq_of_mem_replicate (hrecords ▸ hr)
  have hspread : Spread t.ps.free := by
    rw [hfree]
    refine ⟨fun e he => ?_, by simp⟩
    rw [List.mem_singleton.mp he]
    unfold storeCells
    cases t.power.store64k <;> decide
  refine ⟨⟨⟨by rw [hrecords]; rfl, fun id _ _ => ?_, fun r hr _ => by rw [hrecord r hr]; rfl⟩, ⟨by rw [hfabrics]; rfl, fun id _ _ => ?_⟩, ?_,
    ⟨by rw [hst, hjob]; simp, fun id h => (by rw [hjob] at h; cases h), fun id h => (by rw [hload] at h; cases h)⟩, ?_, ?_, fun _ e he => ?_,
    freeList_iff.mpr hspread, fun a => ?_, fun r hr _ => by rw [hrecord r hr]; rfl, fun r hr h hh => by cases hrecord r hr ▸ hh⟩,
    PatchLaw.of_idle (fun p h => by rw [hpatch] at h; cases h) hreq hacc⟩
  · unfold profileOf
    rw [hrecords, nth_replicate, profileUses_eq, hqueue, hjob]
    rfl
  · unfold fabricOf fabricUses
    rw [hfabrics, nth_replicate, hqueue, hsegs]
    rfl
  · rw [hqueue]
    exact ⟨by simp, fun q hq => by cases hq⟩
  · unfold StripsLaw
    rw [hsegs, hset]
    exact ⟨by simp, fun g hg => (by cases hg), fun c hc => by cases hc⟩
  · rw [hentries]
    exact ⟨by simp, by simp, fun e he => (by cases he), [], [], rfl, fun e he => (by cases he), fun e he => by cases he⟩
  · rw [hentries] at he
    cases he
  · have hnone : (t.ps.records.filter fun r => headerHolds r.header a) = [] :=
      List.filter_eq_nil_iff.mpr fun r hr => by rw [hrecord r hr]; exact Bool.false_ne_true
    rw [covers_split, hnone]
    have hcells : Cells t.ps.free a ↔ a < storeCells t.power.store64k := by
      rw [hfree]
      simp [Cells, Extent.holds]
    rcases freeAt_cells hspread a with h | h
    · rw [if_pos (hcells.mp h.2), h.1]
      rfl
    · rw [if_neg (mt hcells.mpr h.2), h.1]
      rfl

theorem powerOn_laws (zones8 store64k : Bool) (s : State) : Laws [] [] (powerOn zones8 store64k s) :=
  laws_of_reset rfl rfl rfl rfl rfl rfl rfl rfl rfl rfl rfl rfl rfl

theorem orphanAccess_accessed {a : Arbiter} {b : Option PortAccess} (h : a.busy = b.map orphanAccess) : accessed a = none := by
  unfold accessed
  rw [h]
  cases b with
  | none => rfl
  | some x =>
    cases x with
    | shadow r live => cases r <;> rfl
    | _ => rfl

theorem softReset_laws (s : State) : Laws [] [] (softReset s) :=
  laws_of_reset rfl rfl rfl rfl rfl rfl rfl rfl (orphanAccess_accessed rfl) rfl rfl rfl rfl

/-! ## Link reset (R59, R62, R80, R138) -/

/-- The card in hand is given up with its creation read (R59). -/
theorem stopPatch_laws (hs : Laws ps fs s) : Laws ps fs (stopPatch s) := by
  have hreq : requested (stopPatch s).ps.arb = none := by
    unfold stopPatch requested
    dsimp only [setArb_arb]
    cases s.ps.arb.shadowReq with
    | none => rfl
    | some r => cases r <;> rfl
  have hacc : accessed (stopPatch s).ps.arb = none := by
    unfold stopPatch accessed
    dsimp only [setArb_arb]
    cases s.ps.arb.busy with
    | none => rfl
    | some b =>
      cases b with
      | shadow r live => cases r <;> rfl
      | _ => rfl
  exact hs.patched (Steady.refl s) (PatchLaw.of_idle (fun p h => by cases h) hreq hacc)

theorem linkHead_laws (hs : Laws ps fs s) : Laws ps fs (linkHead s) :=
  stopLoader_laws (stopPatch_laws (hs.quiet ⟨Steady.refl s, rfl, rfl, rfl⟩))

/-- The map of ORPHANs keeps the laws (R17). -/
theorem linkMap_laws (hs : Laws ps fs s) : Laws ps fs (linkMap s) := by
  refine (setPrintEnd_laws (abandonLine_laws (linkHead_laws hs))).quiet ⟨⟨rfl, rfl, rfl, rfl, rfl, rfl, rfl, rfl, ?_, rfl, rfl⟩, rfl, rfl, rfl⟩
  show ((setPrintEnd (abandonLine (linkHead s))).tmap.segs.map orphanSeg).map span = _
  rw [List.map_map]
  rfl

theorem uses_count (id : Nat) (l : List QueuedPrint) (f : QueuedPrint → Nat) :
    (l.filter fun q => f q == id).length = (l.map f).count id := by
  rw [List.count_eq_length_filter, List.filter_map, List.length_map]
  rfl

/-- The queue is empty, and its references are still to be released (R62). -/
theorem unqueued_laws (hs : Laws [] fs s) : Laws (s.pe.queue.map (·.profileId)) (s.pe.queue.map (·.fabricId) ++ fs)
    { s with pe := { s.pe with queue := [], hold := none } } := by
  obtain ⟨⟨hcount, hfabric, -, hjob, hstrips, hbuffer, hvisible, hextent⟩, hpatch⟩ := hs
  refine ⟨⟨⟨hcount.1, fun n hn hn' => ?_, hcount.2.2⟩, ⟨hfabric.1, fun n hn hn' => ?_⟩, ⟨by simp, fun q hq => by cases hq⟩, hjob, hstrips, hbuffer,
    hvisible, hextent⟩, hpatch⟩
  · have hold := hcount.2.1 n hn hn'
    rw [profileUses_eq, uses, uses_count n _ (·.profileId), List.count_nil] at hold
    rw [profileUses_eq]
    show (profileOf s n).refs = 0 + _ + _
    dsimp only
    omega
  · have hold := hfabric.2 n hn hn'
    unfold fabricUses at hold ⊢
    rw [uses_count n s.pe.queue (·.fabricId)] at hold
    rw [List.count_append]
    show (fabricOf s n).refs = 0 + _ + _
    dsimp only
    omega

theorem releaseAll_laws {l : List QueuedPrint} (hl : ∀ q ∈ l, 1 ≤ q.profileId ∧ q.profileId ≤ 16) (hs : Laws (l.map (·.profileId)) fs s) :
    Laws [] fs (l.foldl (fun s q => releaseProfile q.profileId s) s) := by
  induction l generalizing s with
  | nil => exact hs
  | cons q l ih =>
    obtain ⟨hq, hl⟩ := List.forall_mem_cons.mp hl
    exact ih hl (releaseProfile_laws hq.1 hq.2 hs)

/-- The queue's end keeps the laws, but for the counts of the fabrics (R62). -/
theorem discardQueue_laws (hs : Laws [] fs s) : Laws [] (s.pe.queue.map (·.fabricId) ++ fs) (discardQueue s) := by
  obtain ⟨-, -, ⟨-, hcards⟩, -⟩ := hs.1
  exact releaseAll_laws (fun q hq => ⟨(hcards q hq).1, (hcards q hq).2.1⟩) (unqueued_laws hs)

theorem linkQueue_laws (hs : Laws [] fs s) : ∃ gs, Laws [] gs (linkQueue s) := by
  have hidle : computing (linkMap s) = false := by
    have hpe := congrArg PrintEngine.job (linkMap_pe s)
    unfold computing
    rw [hpe]
    dsimp only
    cases s.pe.job <;> rfl
  exact ⟨_, discardQueue_laws (endJob_laws (linkMap_laws hs) hidle)⟩

/-- Nothing prints, waits to print or loads. -/
def Stopped (s : State) : Prop := s.pe.queue = [] ∧ s.pe.job = none ∧ s.ps.loader = none

theorem releaseAll_kept (l : List QueuedPrint) (s : State) :
    (l.foldl (fun s q => releaseProfile q.profileId s) s).pe = s.pe ∧
      (l.foldl (fun s q => releaseProfile q.profileId s) s).ps.loader = s.ps.loader := by
  induction l generalizing s with
  | nil => exact ⟨rfl, rfl⟩
  | cons q l ih =>
    obtain ⟨hpe, hload⟩ := ih (releaseProfile q.profileId s)
    rw [List.foldl_cons, hpe, hload]
    exact ⟨by simp, by simp⟩

theorem discardQueue_pe (s : State) : (discardQueue s).pe = { s.pe with queue := [], hold := none } := by
  unfold discardQueue
  rw [(releaseAll_kept _ _).1]

theorem discardQueue_loader (s : State) : (discardQueue s).ps.loader = s.ps.loader := by
  unfold discardQueue
  rw [(releaseAll_kept _ _).2]

theorem linkQueue_stopped (s : State) : Stopped (linkQueue s) := by
  have hpe := discardQueue_pe (endJob (linkMap s))
  have hload : (linkQueue s).ps.loader = none := by
    rw [linkQueue, discardQueue_loader, endJob_loader]
    unfold linkMap
    rw [(setPrintEnd_frame _).2.2.2.2.2.2.2.2.2.2.1, abandonLine_loader]
    rfl
  refine ⟨congrArg PrintEngine.queue hpe, (congrArg PrintEngine.job hpe).trans ?_, hload⟩
  exact (endJob_job (linkMap s)).1

/-- A record of a part that prints and loads nothing is freed where it is LOADING or RETIRING (R40). -/
theorem freeIfUnready_laws {id : Nat} (h1 : 1 ≤ id) (h2 : id ≤ 16) (hs : Laws [] fs s) (hstop : Stopped s) :
    Laws [] fs (freeIfUnready id s) ∧ Stopped (freeIfUnready id s) := by
  obtain ⟨hqueue, hjob, hload⟩ := hstop
  unfold freeIfUnready
  dsimp only
  split
  · have hunused : Unused [] id s := ⟨h1, h2, by rw [profileUses_eq, hqueue, hjob]; rfl, rfl, by rw [hload]; nofun⟩
    refine ⟨freeRecord_laws hs hunused, ?_, ?_, ?_⟩ <;> simpa
  · exact ⟨hs, hqueue, hjob, hload⟩

theorem freeUnready_laws (hs : Laws [] fs s) (hstop : Stopped s) : Laws [] fs (freeUnready s) ∧ Stopped (freeUnready s) := by
  have hfold : ∀ l : List Nat, (∀ i ∈ l, i < 16) → ∀ u, Laws [] fs u → Stopped u →
      Laws [] fs (l.foldl (fun s i => freeIfUnready (i + 1) s) u) ∧ Stopped (l.foldl (fun s i => freeIfUnready (i + 1) s) u) := by
    intro l
    induction l with
    | nil => exact fun _ u hu hst => ⟨hu, hst⟩
    | cons i l ih =>
      intro hl u hu hst
      obtain ⟨hi, hl⟩ := List.forall_mem_cons.mp hl
      obtain ⟨hu', hst'⟩ := freeIfUnready_laws (id := i + 1) (by omega) (by omega) hu hst
      exact ih hl _ hu' hst'
  exact hfold _ (fun i hi => List.mem_range.mp hi) s hs hstop

/-- Each fabric's count is set to the strips that name it (R138). -/
theorem recountFabrics_laws {gs : List Nat} (hs : Laws ps gs s) (hqueue : s.pe.queue = []) : Laws ps [] (recountFabrics s) := by
  obtain ⟨⟨hcount, ⟨hlen, -⟩, hrest⟩, hpatch⟩ := hs
  refine ⟨⟨hcount, ⟨by rw [recountFabrics, List.length_mapIdx, hlen], fun n h1 h2 => ?_⟩, hrest⟩, hpatch⟩
  have hlt : n - 1 < s.tc.fabrics.length := by omega
  have hnew : (recountFabrics s).tc.fabrics[n - 1]? = some { s.tc.fabrics[n - 1] with
      refs := (s.tmap.segs.filter (fun g => g.fabricId == some (n - 1 + 1))).length } := by
    rw [recountFabrics, List.getElem?_mapIdx, List.getElem?_eq_getElem hlt]
    rfl
  rw [fabricOf_eq hnew]
  unfold fabricUses
  rw [show (recountFabrics s).pe.queue = [] from hqueue, Nat.sub_add_cancel h1]
  simp [recountFabrics]

/-- Link reset keeps the laws. -/
theorem linkDown_laws (hs : Laws [] fs s) : Laws [] [] (linkDown s) := by
  obtain ⟨gs, hqueue⟩ := linkQueue_laws hs
  obtain ⟨hfreed, hstop⟩ := freeUnready_laws hqueue (linkQueue_stopped s)
  rw [linkDown_eq]
  exact (recountFabrics_laws hfreed.pump (by simpa using hstop.1)).quiet (by simp [Quiet, Steady])

/-! ## Cards of more than one block (R125, R137, R169) -/

theorem clearCard_laws (hs : Laws ps fs s) : Laws ps fs (clearCard c s) := by
  have hclear : Laws ps fs (clearHalt s) := hs.quiet (by simp [clearHalt, Quiet, Steady])
  unfold clearCard
  dsimp only
  (repeat' split)
  · exact hs.quiet (by simp [Quiet, Steady])
  · exact hs.quiet (by simp [Quiet, Steady])
  · exact (flushQueue_laws hclear).quiet (by simp [Quiet, Steady])
  · exact hclear.quiet (by simp [Quiet, Steady])

@[simp] theorem setFabric_refs (id : Nat) (f : Option FabricFigures) :
    (setFabric id (fun r => { r with figures := f }) s).tc.fabrics.map (·.refs) = s.tc.fabrics.map (·.refs) :=
  modifyNth_map (fun r : FabricRecord => r.refs) fun _ => rfl

/-- A FABRIC card leaves every count (R137). -/
theorem fabricCard_laws (hs : Laws ps fs s) : Laws ps fs (fabricCard c s) := by
  unfold fabricCard
  dsimp only
  (repeat' split) <;> exact hs.quiet (by simp [Quiet, Steady])

@[simp] theorem ackActive_fabrics (a : Unwind) : (ackActive a s).tc.fabrics = s.tc.fabrics := by
  unfold ackActive
  dsimp only
  (repeat' split) <;> simp

@[simp] theorem completeSplice_fabrics (a : Unwind) : (completeSplice a s).tc.fabrics = s.tc.fabrics := by
  unfold completeSplice
  dsimp only
  split <;> simp

@[simp] theorem ackInactive_fabrics (a : Unwind) : (ackInactive a s).tc.fabrics = s.tc.fabrics := by
  unfold ackInactive
  split <;> simp

@[simp] theorem handoff_fabrics (g : Segment) : (handoff g s).tc.fabrics = s.tc.fabrics := by
  unfold handoff
  (repeat' split) <;> simp

theorem inputEdge_laws (i : LineInput) (active : Bool) (hs : Laws ps fs s) : Laws ps fs (inputEdge i active s) :=
  inputEdge_law (Laws ps fs) (fun cause _ hu => haltLine_laws cause hu) (fun _ _ hu => hu.quiet (by simp [Quiet, Steady]))
    (fun _ _ hu => hu.quiet (by simp [Quiet, Steady])) (fun _ _ hu => hu.quiet (by simp [Quiet, Steady])) i active hs

/-- New settings keep the laws where no strip stands (R169). -/
theorem takeSettings_laws {g : Settings} (hs : Laws ps fs s) (hpitch : 1 ≤ g.pitch) : Laws ps fs (takeSettings g s) := by
  have hset : Laws ps fs { s with setup := some g } := by
    obtain ⟨⟨hcount, hfabric, hqueue, hjob, ⟨horder, hext, -⟩, hrest⟩, hpatch⟩ := hs
    exact ⟨⟨hcount, hfabric, hqueue, hjob, ⟨horder, hext, fun c hc => Option.some.inj hc ▸ hpitch⟩, hrest⟩, hpatch⟩
  exact hset.quiet (by simp [takeSettings, Quiet, Steady])

theorem setupCard_laws (hs : Laws ps fs s) : Laws ps fs (setupCard c s) := by
  unfold setupCard
  dsimp only
  split
  · exact hs.quiet (by simp [Quiet, Steady])
  · split
    · exact hs.quiet (by simp [Quiet, Steady])
    · rename_i hok
      obtain ⟨l, heq, hdecides⟩ := setupError_decides s.power s.hc.zones (parseSettings c.image)
      rw [heq, hdecides.none] at hok
      have hpitch := hok (24, 20 ≤ (parseSettings c.image).pitch ∧ (parseSettings c.image).pitch ≤ 500) (by simp)
      have hedges := polarityEdges_law (Laws ps fs) (fun i active u hu => inputEdge_laws i active hu) s
        (takeSettings_laws hs (g := parseSettings c.image) (by omega))
      exact hedges.quiet (by simp [applySetup, Quiet, Steady])

/-! ## A strip leaves the line (R10) -/

/-- Trail exit keeps the laws (R9, R10). -/
theorem nextFor_mem {m : Milestone} {g : Segment} (h : nextFor s m = some g) : g ∈ s.tmap.segs := by
  unfold nextFor at h
  split at h
  · cases h
  · have hmem := List.mem_of_find?_eq_some h
    split at hmem
    · exact List.mem_of_mem_take hmem
    · exact hmem

theorem trailExit_laws {g : Segment} {w : Option (Nat × Int) × Option (Nat × Int)} (hs : Laws ps fs s) (hg : g ∈ s.tmap.segs) :
    Laws ps fs (removeSeg g (reportStrip (judgeSeg g) w s)) := by
  have hreport : Laws ps fs (reportStrip (judgeSeg g) w s) := hs.quiet (by simp [Quiet, Steady])
  exact removeSeg_laws hreport (by simpa using List.mem_map_of_mem hg)

end

end Sys2Proof.Machine
end

section
/-! PROOFS. The laws of the store through every command, and the step law that gathers the records in bounds (chapter 1; R25, R36, R47, R48,
R60, R138, R157, R174). -/

namespace Sys2Proof.Machine

section
variable {ps fs : List Nat} {s t : State} {c : CurrentCard}

/-! ## The lookup path (R50, R52) -/

theorem askFill_laws (r : FillRequest) (hs : Laws ps fs s) : Laws ps fs (askFill r s) :=
  hs.quiet ⟨⟨rfl, rfl, (askFill_print s r).2.2, rfl, rfl, rfl, rfl, rfl, rfl, rfl, rfl⟩, rfl, rfl, rfl⟩

theorem heldLookup_laws (hs : Laws ps fs s) : Laws ps fs (heldLookup s) := by
  unfold heldLookup
  (repeat' split)
  · exact askFill_laws _ hs
  · exact hs
  · exact hs

theorem serveCorner_laws (h : ProfileHeader) (v : CellValue) (hs : Laws ps fs s) : Laws ps fs (serveCorner h v s) :=
  hs.quiet ⟨⟨rfl, rfl, (serveCorner_print s h v).2.2, rfl, rfl, rfl, rfl, rfl, rfl, rfl, rfl⟩, rfl, rfl, rfl⟩

theorem fillCorner_laws (r : FillRequest) (x : StoreCell) (hs : Laws ps fs s) : Laws ps fs (fillCorner r x s) := by
  unfold fillCorner
  split
  · exact hs
  · exact serveCorner_laws _ _ hs

theorem lookupCell_laws (h : ProfileHeader) (r : FillRequest) (hs : Laws ps fs s) : Laws ps fs (lookupCell h r s) := by
  unfold lookupCell
  split
  · exact serveCorner_laws _ _ hs
  · exact serveCorner_laws _ _ hs
  · exact (askFill_laws r hs).pump

/-- A fill that completes keeps the laws, its parity error among it (R52, R55, R57). -/
theorem serveFill_laws (r : FillRequest) (live : Bool) (x : StoreCell) (hs : Laws ps fs s) : Laws ps fs (serveFill r live x s) := by
  have hcorner : Laws ps fs (if live then fillCorner r x s else s) := by
    split
    · exact fillCorner_laws r x hs
    · exact hs
  unfold serveFill
  dsimp only
  refine parityHalt_laws _ ?_
  split <;> exact hcorner.quiet (by simp [Quiet, Steady])

theorem readCell_laws (cell : Nat) (d : CellDamage) (hs : Laws ps fs s) : Laws ps fs (readCell cell d s).2 := hs

theorem writeCell_laws (cell : Nat) (v : CellValue) (hs : Laws ps fs s) : Laws ps fs (writeCell cell v s) := by
  unfold writeCell cacheInvalidate
  split <;> exact hs

/-! ## Commands at the port -/

/-- The completion of a creation read keeps the laws (R44, R46). -/
theorem execCreationReadComplete_laws {damage : CellDamage} (hs : Laws ps fs s) (h : execCreationReadComplete damage s = .next t) :
    Laws ps fs t := by
  refine whenOn_law (Laws ps fs) h hs fun _ => ?_
  split
  · rename_i id node cell k live hbusy
    have hread := readCell_laws cell damage hs.portDone
    refine Laws.pump ?_
    split
    · rename_i hlive
      obtain ⟨-, -, ha, hno⟩ := patchLaw_iff.mp hs.2
      have hacc : accessed s.ps.arb = some (id, cell) := accessed_eq.mpr ⟨node, k, by rw [hbusy, hlive]⟩
      obtain ⟨p, hp, hc, hid, hcell⟩ := ha id cell hacc
      exact createEntry_laws hread (hno.resolve_right (by rw [hacc]; nofun)) rfl hp hc hid hcell
    · exact hread
  · exact hs

theorem execLookupFillComplete_laws {damage : CellDamage} (hs : Laws ps fs s) (h : execLookupFillComplete damage s = .next t) :
    Laws ps fs t := by
  refine whenOn_law (Laws ps fs) h hs fun _ => ?_
  split
  · rename_i r live _
    have hserved := serveFill_laws r live (readCell r.cell damage (portDone s)).1 (readCell_laws r.cell damage hs.portDone)
    refine Laws.pump ?_
    split
    · exact heldLookup_laws hserved
    · exact hserved
  · exact hs

theorem execLoaderWriteComplete_laws (hs : Laws ps fs s) (h : execLoaderWriteComplete s = .next t) : Laws ps fs t := by
  refine whenOn_law (Laws ps fs) h hs fun _ => ?_
  split
  · rename_i r live _
    have hwritten := (writeCell_laws r.cell r.value hs).portDone
    refine Laws.pump ?_
    split
    · exact advanceLoad_laws hwritten
    · exact hwritten
  · exact hs

theorem execDrainWriteComplete_laws (hs : Laws ps fs s) (h : execDrainWriteComplete s = .next t) : Laws ps fs t := by
  refine whenOn_law (Laws ps fs) h hs fun _ => ?_
  split
  · rename_i cell v live _
    have hwritten := (writeCell_laws cell v hs).portDone
    refine Laws.pump ?_
    split
    · exact (drained_laws (fun e => e.cell != cell) hwritten).quiet (by simp [Quiet, Steady])
    · exact hwritten
  · exact hs

/-! ## Commands of the Print Engine -/

theorem execLineBoundary_laws (hs : Laws ps fs s) (h : execLineBoundary s = .next t) : Laws ps fs t := by
  refine whenOn_law (Laws ps fs) h hs fun _ => ?_
  split
  · exact hs
  · rename_i j hj
    split
    · exact hs
    · rename_i k _
      split
      · exact hs
      · have hboundary := boundary_laws k hs
        have hidle : computing (boundary k s) = false := by
          unfold computing
          rw [boundary_eq, hj]
          rfl
        change Laws ps fs (if (boundary k s).pe.state == .ending then touchStart (endJob (boundary k s)) else fetchRaster (boundary k s))
        split
        · exact (endJob_laws hboundary hidle).quiet (by simp [Quiet, Steady])
        · exact hboundary.quiet (by simp [Quiet, Steady])

theorem execLineComputationBegin_laws (hs : Laws ps fs s) (h : execLineComputationBegin s = .next t) : Laws ps fs t := by
  refine whenOn_law (Laws ps fs) h hs fun _ => ?_
  split
  · exact hs
  · rename_i j pixels hready
    have hjob : s.pe.job = some j := by
      unfold lineReady at hready
      (repeat' split at hready) <;> simp_all
    have hbegun : Laws ps fs (setJob (fun i => { i with comp := some ⟨i.cursor, (profileOf s j.card.profileId).version, pixels, 0, 0, false,
        List.replicate (((profileOf s j.card.profileId).header.map (·.channels)).getD 0) 0, []⟩ }) s) :=
      hs.computes (fun _ => rfl) (by
        unfold computing
        rw [(setJob_rest _ _).1, hjob]
        rfl)
    exact hbegun.quiet ⟨⟨rfl, rfl, rfl, rfl, rfl, rfl, rfl, rfl, updateSeg_spans _ (fun _ => rfl), rfl, rfl⟩, rfl, rfl, rfl⟩

end

section
variable {ps fs : List Nat} {s t : State} {c : CurrentCard}

@[simp] theorem computeAxes_fabrics (frame : Option (List TensionReading)) : (computeAxes frame s).tc.fabrics = s.tc.fabrics :=
  foldl_keeps (·.tc.fabrics) (fun u a => setAxis a (computeAxis (classifyAxis frame a)) u) (fun _ _ => rfl) _ _

theorem execHeatPeriod_laws (hs : Laws ps fs s) (h : execHeatPeriod s = .next t) : Laws ps fs t := by
  refine whenOn_law (Laws ps fs) h hs fun _ => ?_
  split
  · exact hs
  · rename_i c _
    have hend : ∀ u, Laws ps fs u → Laws ps fs (touchIfMoved s.hc.zones (tripHalts c (trippedZones s.hc.zones (zonesPeriod s c)) u)) :=
      fun u hu =>
        have htripped := tripHalts_law (Laws ps fs) (fun cause _ hv => haltLine_laws cause hv) c (trippedZones s.hc.zones (zonesPeriod s c)) hu
        htripped.quiet (by simp [Quiet, Steady])
    refine hend _ ?_
    dsimp only
    split <;> exact hs.quiet (by simp [Quiet, Steady, countDose_span])

theorem execTensionPeriod_laws (hs : Laws ps fs s) (h : execTensionPeriod s = .next t) : Laws ps fs t := by
  refine whenOn_law (Laws ps fs) h hs fun _ => ?_
  have hframe : Laws ps fs { s with tc := { s.tc with frame := none } } := hs
  have hread : Laws ps fs (allAxes.foldl (readAxis s.tc.frame) { s with tc := { s.tc with frame := none } }) :=
    foldl_law (Laws ps fs) _ (fun u a hu => readAxis_law (Laws ps fs) (fun cause _ hv => haltLine_laws cause hv)
      (fun _ _ _ hv => hv.quiet (by simp [Quiet, Steady])) (fun _ _ hv => hv.quiet (by simp [Quiet, Steady])) _ a hu) _ hframe
  exact hread.quiet (by simp [Quiet, Steady])

theorem execRampPeriod_laws (hs : Laws ps fs s) (h : execRampPeriod s = .next t) : Laws ps fs t := by
  refine whenOn_law (Laws ps fs) h hs fun _ => ?_
  dsimp only
  (repeat' split) <;> exact hs.quiet (by simp [Quiet, Steady])

/-! ## Cards and milestones that leave the print and the extents of the strips as they are -/

@[simp] theorem heatCard_print (c : CurrentCard) (s : State) :
    (heatCard c s).pe.state = s.pe.state ∧ (heatCard c s).pe.job = s.pe.job := by
  unfold heatCard
  (repeat' split) <;> simp

@[simp] theorem startCard_print (c : CurrentCard) (s : State) :
    (startCard c s).pe.state = s.pe.state ∧ (startCard c s).pe.job = s.pe.job := by
  unfold startCard
  (repeat' split) <;> simp

@[simp] theorem stopCard_print (c : CurrentCard) (s : State) :
    (stopCard c s).pe.state = s.pe.state ∧ (stopCard c s).pe.job = s.pe.job := by
  unfold stopCard
  (repeat' split) <;> simp

/-- A change of the job that keeps its profile, and whether a line of it is computing, keeps the laws. -/
theorem setJob_laws {f : PrintJob → PrintJob} (hf : ∀ j, jobTag (f j) = jobTag j) (hs : Laws ps fs s) : Laws ps fs (setJob f s) :=
  hs.quiet ⟨⟨rfl, rfl, setJob_tag s hf, rfl, rfl, rfl, rfl, rfl, rfl, rfl, rfl⟩, rfl, rfl, rfl⟩

/-- A change of a strip that keeps its extent keeps the laws, T_PLAN and the gains of the fabric axes with it (R8, R139). -/
theorem updateSeg_laws (start : Nat) {f : Segment → Segment} (hf : ∀ g, span (f g) = span g) (hs : Laws ps fs s) :
    Laws ps fs (updateSeg start f s) :=
  hs.quiet ⟨⟨rfl, rfl, rfl, rfl, rfl, rfl, rfl, rfl, updateSeg_spans s hf, rfl, rfl⟩, rfl, rfl, rfl⟩

/-! ## Every command -/

/-- Every command keeps the laws of the store. -/
theorem exec_laws {i : Instr} (hs : Laws [] [] s) (htakes : TakesLaw s) (h : exec i s = .next t) : Laws [] [] t := by
  have hfield : ∀ c, Dispatching .drive c s → Laws [] [] (failField 16 s) := fun c _ => hs.quiet (by simp [Quiet, Steady])
  unfold exec at h
  cases i with
  -- Resets, supplies and registers.
  | mainPowerOnReset z st =>
    cases h
    exact (powerOn_laws z st s).quiet (by
      refine ⟨⟨?_, ?_, ?_, ?_, ?_, ?_, ?_, ?_, ?_, ?_, ?_⟩, ?_, ?_, ?_⟩ <;> simp only [raiseLost_frame, resetFrames_frame])
  | softReset =>
    refine whenOn_law (Laws [] []) h hs fun _ => (softReset_laws s).quiet ?_
    refine ⟨⟨?_, ?_, ?_, ?_, ?_, ?_, ?_, ?_, ?_, ?_, ?_⟩, ?_, ?_, ?_⟩ <;> simp only [resetFrames_frame]
  | keepAlivePowerOnReset | mainSupplyLoss =>
    cases h
    exact hs
  | linkReset => exact whenOn_law (Laws [] []) h hs fun _ => (linkDown_laws hs).quiet (by simp [Quiet, Steady])
  | runSet | runClear | watchInterval =>
    refine whenOn_law (Laws [] []) h hs fun _ => ?_
    unfold controlWrite
    dsimp only
    (repeat' split) <;> exact hs.quiet (by simp [Quiet, Steady])
  | registerWrite => exact whenOn_law (Laws [] []) h hs fun _ => hs
  | irqEnable => exact whenOn_law (Laws [] []) h hs fun _ => hs.quiet (by simp [Quiet, Steady])
  | eventAck =>
    refine whenOn_law (Laws [] []) h hs fun _ => ?_
    unfold discardOldest
    dsimp only
    (repeat' split) <;> exact hs.quiet (by simp [Quiet, Steady])
  | bookBase =>
    refine whenOn_law (Laws [] []) h hs fun _ => ?_
    dsimp only
    (repeat' split) <;> exact hs.quiet (by simp [Quiet, Steady])
  | wake | watchTimerExpiry | statusPageWrite =>
    refine whenOn_law (Laws [] []) h hs fun _ => ?_
    (repeat' split) <;> exact hs.quiet (by simp [Quiet, Steady])
  -- The chain of cards.
  | chainReadComplete link card =>
    refine whenOn_law (Laws [] []) h hs fun _ => onChainRead_law (Laws [] []) _ hs ?_ ?_ fun t ht => ?_
    · exact fun g t ht => ht
    · exact fun l t ht => ht.quiet (by simp [Quiet, Steady])
    · dsimp only
      split <;> exact ht.quiet (by simp [Quiet, Steady])
  | cardReadError link | chainReadTimeout link =>
    refine whenOn_law (Laws [] []) h hs fun _ => onChainRead_law (Laws [] []) _ hs ?_ ?_ fun t ht => ?_
    · exact fun g t ht => ht
    · exact fun l t ht => ht.quiet (by simp [Quiet, Steady])
    · dsimp only
      (repeat' split) <;> exact ht.quiet (by simp [Quiet, Steady])
  | cardReoffer =>
    refine whenOn_law (Laws [] []) h hs fun _ => ?_
    split
    · rename_i c _ _ hc
      have hdue : Laws [] [] (setEngine (fun e => { e with offerDue := false }) s) := hs
      unfold reoffer
      split
      · exact printCard_laws hdue (htakes.2 c hc).2
      · exact dispatchLoad_laws hdue
      · exact reofferPatch_laws hdue
      · exact hdue.quiet (by simp [Quiet, Steady])
      · exact hdue
    · exact hs
  | print => exact onDispatch_law (Laws [] []) h hs fun c hd => printCard_laws hs (htakes.2 c hd.2.2.1).2
  | load => exact onDispatch_law (Laws [] []) h hs fun c _ => dispatchLoad_laws hs
  | fabric => exact onDispatch_law (Laws [] []) h hs fun c _ => fabricCard_laws hs
  | heat | splice | fence => exact onDispatch_law (Laws [] []) h hs fun c _ => hs.quiet (by simp [Quiet, Steady])
  | drop => exact onDispatch_law (Laws [] []) h hs fun c _ =>
      have hdropped := dropCard_laws (c := c) hs
      hdropped.quiet (by simp [Quiet, Steady])
  | patch =>
    refine onDispatch_law (Laws [] []) h hs fun c _ => ?_
    split
    · exact hs
    · rename_i hnone
      exact patchCard_laws hs (by simpa using hnone)
  | setup => exact onDispatch_law (Laws [] []) h hs fun c _ => setupCard_laws hs
  | start | speed | stop => exact onDrive_law (Laws [] []) h hs hfield fun c _ => hs.quiet (by simp [Quiet, Steady])
  | clear => exact onDrive_law (Laws [] []) h hs hfield fun c _ => clearCard_laws hs
  | halt => exact onDrive_law (Laws [] []) h hs hfield fun c _ => (haltLine_laws .host hs).quiet (by simp [Quiet, Steady])
  -- The web and the line.
  | positionUpdate => exact whenOn_law (Laws [] []) h hs fun _ => hs.quiet (by simp [Quiet, Steady])
  | backTravel | heaterWindow => exact whenOn_law (Laws [] []) h hs fun _ => hs
  | drumEncoderReport => exact whenOn_law (Laws [] []) h hs fun _ => hs.quiet (by simp [Quiet, Steady])
  | tensionFrame | zoneFrame | heaterOnTimeEnd | rawLevelChange =>
    refine whenOn_law (Laws [] []) h hs fun _ => ?_
    split <;> exact hs
  | leadAtNip =>
    refine whenOn_law (Laws [] []) h hs fun _ => ?_
    split
    · exact hs
    · rename_i g _
      have hmarked := updateSeg_laws g.start (f := fun g => { g with leadNip := true, runCount := 0 }) (fun _ => rfl) hs
      exact hmarked.quiet (by simp [Quiet, Steady])
  | trailAtNip | leadExit =>
    refine whenOn_law (Laws [] []) h hs fun _ => ?_
    split
    · exact hs
    · exact updateSeg_laws _ (fun _ => rfl) hs
  | trailExit =>
    refine whenOn_law (Laws [] []) h hs fun _ => ?_
    split
    · exact hs
    · rename_i g hg
      have hleft := trailExit_laws (w := judged g) hs (nextFor_mem hg)
      exact hleft.quiet (by simp [Quiet, Steady])
  | jointLeavesWrap | fabricJointDue | rollCountRequest | drumTravelIncrement =>
    refine whenOn_law (Laws [] []) h hs fun _ => ?_
    split <;> exact hs.quiet (by simp [Quiet, Steady])
  | handoverLimit =>
    refine whenOn_law (Laws [] []) h hs fun _ => ?_
    split
    · exact haltLine_laws .handover (hs.quiet (by simp [Quiet, Steady]))
    · exact hs
  | spliceTimeout =>
    refine whenOn_law (Laws [] []) h hs fun _ => ?_
    dsimp only
    (repeat' split) <;> exact hs.quiet (by simp [Quiet, Steady])
  | inputFilterExpiry input =>
    refine whenOn_law (Laws [] []) h hs fun _ => ?_
    dsimp only
    (repeat' split)
    · exact hs
    · exact hs
    · exact inputEdge_laws input _ (hs.quiet (by simp [Quiet, Steady]))
  | rampPeriod => exact execRampPeriod_laws hs h
  | heatPeriod => exact execHeatPeriod_laws hs h
  | tensionPeriod => exact execTensionPeriod_laws hs h
  -- The Print Engine.
  | barReport | barSilent =>
    refine whenOn_law (Laws [] []) h hs fun _ => ?_
    split <;> exact hs.quiet (by simp [Quiet, Steady])
  | printStart =>
    refine whenOn_law (Laws [] []) h hs fun _ => ?_
    split
    · rename_i q l hidle hq
      split
      · rename_i hj hc _
        exact startPrint_laws hs hidle hq hc (judgement_profile hj)
      · split
        · rename_i hold _ _
          have hfailed := failQueued_laws .notReady [(128, le 2 hold.marks)] hs (hq ▸ List.mem_cons_self)
          exact hfailed.quiet (by simp [Quiet, Steady])
        · exact hs.quiet (by simp [Quiet, Steady])
      · exact hs
    · exact hs
  | rasterReadComplete data =>
    refine whenOn_law (Laws [] []) h hs fun _ => ?_
    split
    · exact hs
    · split
      · rename_i r _ _
        have htaken : Laws [] [] (setJob (fun j => { j with window := j.window ++ [(r.line, data)] }) (clearRead s)) :=
          setJob_laws (fun _ => rfl) (hs.quiet (by simp [Quiet, Steady]))
        exact htaken.quiet (by simp [Quiet, Steady])
      · exact hs.quiet (by simp [Quiet, Steady])
  | rasterReadError | rasterReadTimeout => exact whenOn_law (Laws [] []) h hs fun _ => rasterFails_laws _ hs
  | lineComputationBegin => exact execLineComputationBegin_laws hs h
  | lineBoundary => exact execLineBoundary_laws hs h
  | lookup =>
    refine whenOn_law (Laws [] []) h hs fun _ => ?_
    split
    · exact lookupCell_laws _ _ hs
    · exact hs
  | lookupFillComplete => exact execLookupFillComplete_laws hs h
  | lineDue =>
    refine whenOn_law (Laws [] []) h hs fun _ => ?_
    split
    · rename_i j c _ hj _
      split
      · dsimp only
        have hdue : Laws [] [] (dueLine c j j.fallen s) := hs.quiet (by simp [Quiet, Steady])
        split
        · exact finishPrint_laws hdue
        · split
          · have hmoved : Laws [] [] (setJob (moveCursor (j.fallen + 1)) (dueLine c j j.fallen s)) :=
              setJob_laws (fun _ => rfl) hdue
            exact hmoved.quiet (by simp [Quiet, Steady])
          · exact hdue
      · exact hs
    · exact hs
  -- The Profile Store and the Shadow Patch Buffer.
  | loadReadComplete =>
    refine whenOn_law (Laws [] []) h hs fun _ => onLoadRead_law (Laws [] []) hs (fun _ => hs) fun j hj _ => ?_
    exact Laws.pump (setLoader_laws hs (by rw [hj]; rfl))
  | loadReadError | loadReadTimeout => exact whenOn_law (Laws [] []) h hs fun _ => loadReadFails_laws hs
  | loaderWriteComplete => exact execLoaderWriteComplete_laws hs h
  | freeing id =>
    refine whenOn_law (Laws [] []) h hs fun _ => ?_
    split
    · rename_i hfree
      simp only [Bool.and_eq_true] at hfree
      obtain ⟨⟨⟨hid, hfreeing⟩, -⟩, -⟩ := hfree
      obtain ⟨h1, h2⟩ := within_eq_true.mp hid
      exact (freeing_laws hs h1 h2 hfreeing).quiet (by simp [Quiet, Steady])
    · exact hs
  | editListReadComplete =>
    refine whenOn_law (Laws [] []) h hs fun _ => listRead_laws hs fun p hp _ hcalm => ?_
    dsimp only
    split
    · exact failPatch_laws _ _ hs hcalm
    · split
      · rename_i hseen hhead
        exact listTaken_laws _ hs hp hcalm (by rw [hseen]; nofun) (by rw [hhead]; nofun)
      · rename_i hseen hhead
        exact listTaken_laws _ hs hp hcalm (by rw [hseen]; nofun) (by rw [hhead]; nofun)
      · exact failPatch_laws _ _ hs hcalm
  | patchReadError | editListReadTimeout =>
    refine whenOn_law (Laws [] []) h hs fun _ => listRead_laws hs fun p hp _ hcalm => ?_
    exact failPatch_laws _ _ (hs.quiet (by simp [Quiet, Steady])) (by simpa using hcalm)
  | editApply =>
    refine whenOn_law (Laws [] []) h hs fun _ => ?_
    split
    · exact hs
    · rename_i p hp
      split
      · rename_i hph hc he hh
        exact applyEdit_laws hs hp hph hc he hh
      · exact hs
  | creationReadComplete => exact execCreationReadComplete_laws hs h
  | drainWriteComplete => exact execDrainWriteComplete_laws hs h

theorem exec_storeLaws {i : Instr} (hs : StoreLaws s) (h : exec i s = .next t) : StoreLaws t := by
  obtain ⟨hlaws, htakes⟩ := storeLaws_iff.mp hs
  exact storeLaws_iff.mpr ⟨exec_laws hlaws htakes h, exec_takesLaw htakes h⟩

end

/-- Settles O56: each law is kept by every command, and the queue of commands is no matter of any. -/
theorem stepsKeepTheRecordsInBounds : Obligations.StepsKeepTheRecordsInBounds := by
  refine ⟨fun s t hs h => ?_, fun s t hs h => ?_, fun s t hs h => ?_, fun s t hs h => ?_⟩
  · exact step_law StoreCanonical (fun _ _ h => h) (fun _ _ h => h) (fun _ _ _ => exec_canonical) hs h
  · exact step_law FaultsAgree (fun _ _ h => h) (fun _ _ h => h) (fun _ _ _ => exec_faultsAgree) hs h
  · exact step_law WithinLimits (fun _ _ h => h) (fun _ _ h => h) (fun _ _ _ => exec_withinLimits) hs h
  · exact step_law StoreLaws (fun _ _ h => h) (fun _ _ h => h) (fun _ _ _ => exec_storeLaws) hs h

end Sys2Proof.Machine
end
